-- ==== Sys2Proof/Word.lean ====
section
/-! DEFINITION. The words a host sees: bytes and 32-bit register words (R5, R6). -/
namespace Sys2Proof
/-- One byte. -/
abbrev Byte := BitVec 8
/-- One 32-bit register word (R6). -/
abbrev Word := BitVec 32
end Sys2Proof
end

