-- ==== Sys2Proof/Syntax.lean ====
section
/-! DEFINITION. The commands: one constructor per row of spec/opcode_table.json, with the row's operands. An operand that is
a number of something is a bounded type, so that few commands can be ill-formed. -/
namespace Sys2Proof

/-- The three sources of host accesses (the host reaches the module through PF0, PF1 and CSPI). -/
inductive Source | pf0 | pf1 | cspi
  deriving DecidableEq, Repr

/-- The two PCI Express functions (R36). -/
inductive Fn | pf0 | pf1
  deriving DecidableEq, Repr

/-- The causes of a source reset (R41). -/
inductive ResetCause | functionLevel | hotReset | linkDown
  deriving DecidableEq, Repr

/-- The two words of a staged item. -/
inductive ItemPart | addr | data
  deriving DecidableEq, Repr

/-- The two Ream slots. -/
inductive Slot | a | b
  deriving DecidableEq, Repr

/-- The three supplies of a half-bridge (R303). -/
inductive Rail | vlp | vln | bst
  deriving DecidableEq, Repr

/-- A Felt ring or a Gen1 link. -/
inductive Link | ring (r : Fin 6) | gen1 (n : Fin 16)
  deriving DecidableEq, Repr

/-- The port of a ring at which something arrives; a Gen1 link has its east port only. -/
inductive Side | e | w
  deriving DecidableEq, Repr

/-- Which markers a frame lacked (R181, R185). -/
inductive Missing | eastGoing | westGoing | all
  deriving DecidableEq, Repr

/-- A port whose errors are counted over 1 s windows: a ring port, a Gen1 link (R185), or a NET port (R493). -/
inductive ErrPort | ring (r : Fin 6) (side : Side) | gen1 (n : Fin 16) | net (p : Fin 2)
  deriving DecidableEq, Repr

/-- The two safety channels (R380). -/
inductive Channel | yarrow | sorrel
  deriving DecidableEq, Repr

/-- A beat from the partner (R404), with whether it passed its check, and the partner's HIF_ID.MAJOR and TB_INHIBIT, which the
internal format of the lane also carries (R404, R409, R419). -/
structure Beat where
  valid   : Bool
  frame   : Word
  mode    : BitVec 4
  epoch   : BitVec 16
  strap   : BitVec 2
  primary : Bool
  ready   : Bool
  inSync  : Bool
  inhibit : Bool
  permits : BitVec 2
  react   : BitVec 4
  digest  : BitVec 384
  major   : BitVec 8
  deriving DecidableEq, Repr

/-- A frame received at a NET port (R450 to R452): whether its FCS is good, its EtherType, whether it is addressed to this module
alone, its source address, and its redundancy tag: sequence number and LAN identifier. -/
structure NetFrame where
  good : Bool
  eth  : BitVec 16
  own  : Bool
  src  : BitVec 48
  tag  : Option (BitVec 16 × BitVec 4)
  bytes : BitVec 16
  deriving DecidableEq, Repr

/-- A Sync with its Follow_Up (R458): domain, minor version, grandmaster, t1 in ns of PTP time, the receive timestamp in q of TB,
and the correctionField in 2^-16 ns, two's complement. -/
structure SyncMsg where
  domain : BitVec 8
  minor  : BitVec 4
  gm     : BitVec 64
  t1     : Nat
  rxQ    : BitVec 66
  corr   : BitVec 64
  deriving DecidableEq, Repr

/-- An Announce (R456, R457, R459, R477). -/
structure AnnounceMsg where
  domain : BitVec 8
  minor  : BitVec 4
  gm     : BitVec 64
  prio1  : BitVec 8
  cls    : BitVec 8
  acc    : BitVec 8
  var    : BitVec 16
  prio2  : BitVec 8
  steps  : BitVec 16
  utc    : BitVec 16
  valid  : Bool
  leap59 : Bool
  leap61 : Bool
  trace  : Bool
  inacc  : BitVec 16
  deriving DecidableEq, Repr

/-- The three messages that answer a Pdelay_Req (R456). -/
inductive PdelayKind | oneStep | twoStep | followUp
  deriving DecidableEq, Repr

/-- A Pdelay_Resp or its Follow_Up: sequenceId, receive timestamp in q, the timestamp it carries in ns, and the correctionField. -/
structure PdelayMsg where
  kind  : PdelayKind
  seq   : BitVec 16
  rxQ   : BitVec 66
  stamp : Nat
  corr  : BitVec 64
  deriving DecidableEq, Repr

/-- A decoded IRIG-B frame (R473): whether it has a parity, marker or width error, the label, the IEEE 1344 leap-second and
time-quality bits, and the leading edge of the reference marker in q of TB. -/
structure IrigFrame where
  bad     : Bool
  day     : BitVec 9
  second  : BitVec 17
  year    : BitVec 7
  leap    : Bool
  leapNeg : Bool
  quality : BitVec 4
  edgeQ   : BitVec 66
  deriving DecidableEq, Repr

/-- A received sampled-value message (R485): its identity, its last smpCnt and the channel values of its last ASDU. -/
structure SvMsg where
  appid   : BitVec 16
  svid    : BitVec 512
  confRev : Word
  src     : BitVec 48
  noAsdu  : BitVec 8
  smpRate : Option (BitVec 16)
  smpCnt  : BitVec 16
  chans   : List Word
  deriving DecidableEq, Repr

/-- A received GOOSE message (R486): a member is present as a truth value where it is a BOOLEAN. -/
structure GooseMsg where
  appid   : BitVec 16
  gocbRef : BitVec 512
  datSet  : BitVec 512
  goID    : BitVec 256
  confRev : Word
  src     : BitVec 48
  entries : BitVec 16
  ndsCom  : Bool
  test    : Bool
  stNum   : Word
  sqNum   : Word
  tal     : Word
  members : List (Option Bool)
  deriving DecidableEq, Repr

/-- A tagged operation that completes (R504): frame abandoned, stage, loop slot, TB_NS32 at issue, and CE cycles waiting,
executing and writing back. -/
structure TagSample where
  issueNs : Word
  aband   : Bool
  stage   : BitVec 3
  slot    : BitVec 8
  wait    : BitVec 16
  exec    : BitVec 16
  wb      : BitVec 16
  deriving DecidableEq, Repr

/-- The instructions of the test access port (R532). -/
inductive TapIns | bypass | idcode | samplePreload | extest | clamp | other
  deriving DecidableEq, Repr

/-- The commands of the block: one constructor per row of the operation table. -/
inductive Instr
  /-- REGISTER_WRITE (R9): A host write to a register field that has no row of its own: the privilege, alignment, reserved-bit, range and write-class checks, then the field update. -/
  | registerWrite (src : Source) (off : BitVec 22) (be : BitVec 4) (val : Word)
  /-- READ_CLEAR (R9): A host read of an RC field returns the field's value and clears it in the same access. -/
  | readClear (src : Source) (off : BitVec 22)
  /-- HIF_SUMMARY_READ (R48): A source reads its own copy of HIF_SUMMARY and clears that copy only. -/
  | hifSummaryRead (src : Source)
  /-- LAST_ERR_CLEAR (R9): Writing 1 to HIF_LAST_ERR.VALID clears VALID, COUNT, CODE, DETAIL and HIF_LAST_ERR_ADDR. -/
  | lastErrClear (src : Source)
  /-- BAR2_READ (R40): A read of the visible snapshot bank through BAR2, with the size and alignment checks and a zero-data answer on rejection. -/
  | bar2Read (fn : Fn) (off : Nat) (len : Nat)
  /-- INTERCONNECT_TIMEOUT (R38): An internal access that gets no answer for 10 µs is ended; a Completer Abort is returned and E_INTERNAL is recorded. -/
  | interconnectTimeout (fn : Fn) (off : BitVec 22)
  /-- COMPLETION_TIMEOUT (R38): The PCI Express completion timer returns a Completer Abort 50 ms after an unanswered read and records E_TIMEOUT. -/
  | completionTimeout (fn : Fn) (off : BitVec 22)
  /-- SOURCE_RESET (R41): A Function Level Reset, hot reset or link-down resets one source's host-interface state: its lease, HIF_SUMMARY, HIF_LAST_ERR and any staged set it owns. -/
  | sourceReset (fn : Fn) (cause : ResetCause)
  /-- NPERST_ASSERT (R517): nPERST held low for at least 1 µs acts as a link-down of PF0 and PF1. -/
  | nperstAssert
  /-- PCIE_LINK_TRAINED (R354): The PCI Express link trains; a speed or width below Gen3 x2 raises host-interface instance 1. -/
  | pcieLinkTrained (gen : BitVec 4) (lanes : BitVec 4)
  /-- MALFORMED_REQUEST (R354): A malformed or poisoned PCI Express request is received and raises host-interface instance 5. -/
  | malformedRequest (fn : Fn)
  /-- PCIE_READY (R141): The PCI Express endpoint becomes ready for configuration requests, at most 20 ms after VIN rises above VIN_ON. -/
  | pcieReady
  /-- ACQ (R51): A write of SNAP_LEASE.ACQ takes a snapshot lease for the writing source, or does nothing if that source already holds one. -/
  | acq (src : Source)
  /-- REL (R52): A write of SNAP_LEASE.REL releases the writing source's lease. -/
  | rel (src : Source)
  /-- LEASE_EXPIRY (R52): A lease held for SNAP_LEASE_MAX ends; EXPIRED and LEASE_EXP are set and the expiry is counted. -/
  | leaseExpiry (src : Source)
  /-- STAGE_OPEN (R57): Opens a staged set when the TXN written equals NEXT_TXN. -/
  | stageOpen (src : Source) (txn : BitVec 16)
  /-- STAGE_ITEM_WRITE (R56): A write of ITEM_ADDR(i) or ITEM_DATA(i) into the open staged set, refused with E_BUSY when another source owns the set. -/
  | stageItemWrite (src : Source) (i : Fin 4096) (part : ItemPart) (val : Word)
  /-- STAGE_COMMIT (R58): Commits the open staged set after the TXN, COUNT, item, role and target-frame checks, scheduling it for a boundary. -/
  | stageCommit (src : Source) (txn : BitVec 16) (count : BitVec 13) (atEn lateOk : Bool)
  /-- STAGE_ABORT (R57): Discards the open or waiting staged set whose TXN the write carries. -/
  | stageAbort (src : Source) (txn : BitVec 16)
  /-- STAGE_OPEN_TIMEOUT (R62): A staged set still open 100 ms after its STAGE_OPEN is discarded with E_TIMEOUT detail 0x01. -/
  | stageOpenTimeout
  /-- CSPI_CS_FALL (R70): The falling edge of CSPI_CS starts a CSPI transaction and its lease. -/
  | cspiCsFall
  /-- CSPI_READ_4WIRE (R69): CSPI opcode 0x0B reads words of the SK0480 subset on one data line. -/
  | cspiRead4wire (addr : BitVec 16) (words : Fin 257)
  /-- CSPI_WRITE_4WIRE (R69): CSPI opcode 0x0A writes words of the SK0480 subset on one data line. -/
  | cspiWrite4wire (addr : BitVec 16) (words : List Word)
  /-- CSPI_READ_QUAD (R69): CSPI opcode 0x1B reads words of the SK0480 subset on four lines. -/
  | cspiReadQuad (addr : BitVec 16) (words : Fin 257)
  /-- CSPI_WRITE_QUAD (R69): CSPI opcode 0x1A writes words of the SK0480 subset on four lines. -/
  | cspiWriteQuad (addr : BitVec 16) (words : List Word)
  /-- CSPI_CS_RISE (R71): The rising edge of CSPI_CS ends the transaction and lease and queues its staged-parameter words as one implicit set. -/
  | cspiCsRise (insideWord : Bool)
  /-- FRAME_BOUNDARY (R29): The Deckle emits a boundary: FRAME_NO advances, sampling is triggered, markers are sent, and the ordered boundary steps run. -/
  | frameBoundary
  /-- GATHER_WINDOW (R498): When GATH_WIN has elapsed, the Gatherer copies and clears every counter at the boundary, before step 1. -/
  | gatherWindow
  /-- DECKLE_START (R85): The Deckle starts emitting boundaries at the first TB instant after PLL_T reports lock. -/
  | deckleStart
  /-- CE_FRAME_START (R339): The CE starts frame k at the AFE cut, L1max after the boundary, and takes the AFE results. -/
  | ceFrameStart
  /-- MEAS_BLOCK_RX (R16): A measurement block copy arrives from a ring or Gen1 link: its CRC, epoch echo and events are checked and it is stored for the CE. -/
  | measBlockRx (link : Link) (side : Side) (block : BitVec 376) (violations : BitVec 8) (atNs : BitVec 16)
  /-- UP_CUT (R163): The uplink cut-off of a ring passes; cells without a valid block are marked stale and later copies are discarded. -/
  | upCut (link : Link)
  /-- CALENDER_PASS_A (R245): Once a string's blocks are in or UP_CUT has passed, the Calender sorts the cells and forms the means, errors, current and inter-string term. -/
  | calenderPassA (s : Fin 6)
  /-- CE_DELIVERY (R294): The CE completes stage 6 and delivers its outputs, committing the frame's state updates, then runs the loss models. -/
  | ceDelivery
  /-- CE_OVERRUN (R19): The CE has not delivered by L1 plus 2 µs before the boundary; the frame is abandoned and the previous outputs are held. -/
  | ceOverrun
  /-- MODULATOR_BUILD (R217): The modulator, with Calender pass B, builds one timed command per cell and the LV edges for the next boundary. -/
  | modulatorBuild
  /-- MARKER_RX (R173): A boundary marker returns to a ring port; loop times, boundary estimates and the residual ρ are computed. -/
  | markerRx (link : Link) (side : Side) (marker : BitVec 120) (loopQ : BitVec 24) (violations : BitVec 8)
  /-- MARKER_TIMEOUT (R181): No valid marker returns in a direction, or at any port, for one frame; the ring goes to SINGLE or TRAIN. -/
  | markerTimeout (link : Link) (miss : Missing)
  /-- LANE_ALIGNED (R181): Every lane of a ring has 64 consecutive valid characters and a marker returns, moving the ring on from TRAIN. -/
  | laneAligned (link : Link)
  /-- COMMA_LOSS (R185): A lane loses comma alignment and its direction is taken as broken. -/
  | commaLoss (link : Link) (side : Side)
  /-- TRAIN_TIMEOUT (R181): No marker returns within 100 ms in TRAIN; instance 2 is raised and training is retried. -/
  | trainTimeout (link : Link)
  /-- DISCOVER_RETRY (R181): A ring whose hop count or identity disagrees with the map retries DISCOVER every 100 ms. -/
  | discoverRetry (link : Link)
  /-- CAL_SETTLE_DONE (R181): CAL_SETTLE consecutive stable frames complete; ρ_ref is recorded and the ring goes to READY or SINGLE. -/
  | calSettleDone (link : Link)
  /-- RETRAIN (R181): A write of FR_CTL.RETRAIN, accepted in IDLE and TEST only, sends the ring back to TRAIN. -/
  | retrain (src : Source) (r : Fin 6)
  /-- ASYM_CLR (R176): A write of FR_CTL.ASYM_CLR clears ASYM_ACTIVE and HOLD when ρ is back within ASYM_THR. -/
  | asymClr (src : Source) (r : Fin 6)
  /-- LINK_ERR_WINDOW (R185): At the end of each 1 s window, port errors above ERR_THR raise the error instance. -/
  | linkErrWindow (port : ErrPort)
  /-- CELL_LINK_LOSS (R186): A cell's block is missing for CELL_LINK_TIMEOUT consecutive frames; BYP is posted, the cell is removed and the cell-link fault is raised. -/
  | cellLinkLoss (c : Fin 144)
  /-- MGT_RESPONSE_RX (R214): A node's management response block (read response, write acknowledge or error) is received. -/
  | mgtResponseRx (link : Link) (hop : BitVec 6) (op : BitVec 8) (tag : BitVec 8) (addr : BitVec 32) (data : Word)
  /-- MGT_TIMEOUT (R216): An MGT request not answered within 2 frames raises cell instance 150. -/
  | mgtTimeout (c : Fin 144)
  /-- CLR_GO (R216): A write of CLR_GO sends FAULT_CLR with CLR_MASK to the cell in the next frame. -/
  | clrGo (src : Source) (c : Fin 144) (mask : BitVec 16)
  /-- VIN_ON (R140): VIN rises above VIN_ON and the boot sequence starts. -/
  | vinOn (vbatOk : Bool) (kaCycles : Nat)
  /-- BOOT_RAILS_UP (R140): The internal rails complete step 1 of BOOT; Yarrow starts and SIG_OK gives its BOOT pulse. -/
  | bootRailsUp
  /-- BOOT_PLL_LOCK (R140): PLL_T, PLL_N and PLL_S lock at step 2 of BOOT, and the Deckle starts. -/
  | bootPllLock
  /-- PLL_LOCK_RETRY (R140): During BOOT, PLL lock is retried every 100 ms. -/
  | pllLockRetry
  /-- PLL_LOCK_TIMEOUT (R140): No PLL lock 1 s after step 1 raises mode instance 8. -/
  | pllLockTimeout
  /-- JOURNAL_RECOVERED (R443): The flash journal recovery of step 4 ends: rolled-back records are counted and the dirty-sector list is restored. -/
  | journalRecovered
  /-- SORREL_SELF_TEST_DONE (R393): Sorrel's self-test and handshake with Yarrow at step 5 of BOOT end, passed or failed. -/
  | sorrelSelfTestDone (passed : Bool) (diag : BitVec 16)
  /-- REAM_LOAD_DONE (R116): The BOOT Ream load of step 6 ends with the slot to activate, or with no active Ream. -/
  | reamLoadDone
  /-- REAM_CHECK_TIMEOUT (R114): Check steps 1 to 12 not complete within 5 s fail with E_AUTH 0x08. -/
  | reamCheckTimeout
  /-- POWER_FAIL (R144): VIN below VIN_OFF for 2 µs runs the power-fail sequence and enters BACKUP. -/
  | powerFail
  /-- NRESET_ASSERT (R146): nRESET held low for at least 1 µs, and not masked, puts the module in reset. -/
  | nresetAssert
  /-- NRESET_RELEASE (R147): nRESET released before 30 s restarts boot at step 2. -/
  | nresetRelease
  /-- NRESET_STUCK (R147): nRESET low for 30 s: the module boots, the pin is masked to edge sensing and RST_STUCK is set. -/
  | nresetStuck
  /-- NRESET_UNMASK (R147): nRESET high for 10 ms in STUCK restores level sensing. -/
  | nresetUnmask
  /-- WATCHDOG_HALF (R355): The supervisor watchdog reaches half its period without refresh. -/
  | watchdogHalf
  /-- WATCHDOG_RESET (R154): The supervisor watchdog expires and resets the module as nRESET does, with LAST_CAUSE 0x05. -/
  | watchdogReset
  /-- PRECHARGE_LIMIT (R154): 30 s in PRECHARGE raises instance 0 and leads to STOPPING. -/
  | prechargeLimit
  /-- SYNC_LIMIT (R154): 10 s in SYNC raises instance 1 and leads to STOPPING. -/
  | syncLimit
  /-- RT_MAX_EXPIRY (R154): RT_MAX in RIDE_THROUGH raises instance 3 and leads to STOPPING. -/
  | rtMaxExpiry
  /-- STOP_MAX_EXPIRY (R154): STOP_MAX in STOPPING raises instance 2 and leads to SAFE. -/
  | stopMaxExpiry
  /-- SYNC_HOLD_REACHED (R150): SYNC_HOLD consecutive frames meet every synchronisation criterion; SYNC is left at the next boundary. -/
  | syncHoldReached
  /-- RT_RECOVER_REACHED (R135): The grid stays inside the band for RT_RECOVER frames; RIDE_THROUGH returns to its return mode. -/
  | rtRecoverReached
  /-- RAMP_DONE (R276): Every STOP_RAMP slot has held a zero set-point for 10 frames, completing the ramp of STOPPING. -/
  | rampDone
  /-- GRID_FAULT (R282): The grid is out of band for GM_DET consecutive frames and a grid fault is reported. -/
  | gridFault
  /-- MV_LOCK_CHANGE (R280): MV_LOCK changes after PLL_LOCK_N consecutive frames inside or outside PLL_LOCK_THR. -/
  | mvLockChange
  /-- PLAUS_FAIL (R291): A plausibility count reaches PL_N and raises instance 128 + n. -/
  | plausFail (slot : Fin 64)
  /-- PLL_T_UNLOCK (R94): PLL_T loses lock: boundaries and posting stop, LV is blocked and the mode changes at once. -/
  | pllTUnlock
  /-- PLL_T_RELOCK (R94): PLL_T locks again and the Deckle restarts with FRAME_NO continued. -/
  | pllTRelock
  /-- PLL_N_UNLOCK (R92): PLL_N loses lock; the NET ports and the PCI Express link are held down. -/
  | pllNUnlock
  /-- PLL_S_UNLOCK (R92): PLL_S loses lock; flash operations are suspended and the GD logic holds every driver off. -/
  | pllSUnlock
  /-- PLL_S_RELOCK (R92): PLL_S regains lock, including the relock after a CLK_SSC change. -/
  | pllSRelock
  /-- ROOT_LOST (R92): No REFCLK edge for 4 SAFE cycles: the PLLs enter holdover and TIME_SUSPECT is set. -/
  | rootLost
  /-- ROOT_FREQ_CHECK (R92): A count of ROOT cycles over 64 KA cycles finds the reference outside ±0.2 %. -/
  | rootFreqCheck (cycles : Nat)
  /-- ROOT_RETURN (R93): ROOT returns within tolerance and the PLLs are steered back to lock by frequency alone. -/
  | rootReturn
  /-- HOLDOVER_TIMEOUT (R92): Holdover lasting longer than CLK_HOLD_MAX raises clock instance 2. -/
  | holdoverTimeout
  /-- KA_CHECK (R92): KA cycles counted over 1 s of TB; outside ±500 ppm the keep-alive counter is marked untrusted. -/
  | kaCheck (cycles : Nat)
  /-- FIFO_OVERFLOW (R75): A clock-domain-crossing FIFO overflows or underflows and raises clock instance 8. -/
  | fifoOverflow (fifo : BitVec 16)
  /-- TOD_REFRESH (R82): TOD_SEC and TOD_REF_NS32 are refreshed together once per second. -/
  | todRefresh
  /-- ERASE (R109): REAM_CMD ERASE marks the slot WRITING and erases every sector of it. -/
  | erase (src : Source) (slot : Slot)
  /-- PROGRAM (R111): REAM_CMD PROGRAM writes data from REAM_XFER into a slot in WRITING. -/
  | program (src : Source) (slot : Slot)
  /-- VERIFY (R118): REAM_CMD VERIFY starts a background check of a slot at low priority. -/
  | verify (src : Source) (slot : Slot)
  /-- SET_PREF (R113): REAM_CMD SET_PREF records a VERIFIED or ACTIVE slot as preferred. -/
  | setPref (src : Source) (slot : Slot)
  /-- REAM_CMD_DONE (R112): A REAM_CMD flash operation completes or fails, and NVM or REAM is set in HIF_SUMMARY. -/
  | reamCmdDone (failed : Bool)
  /-- FLASH_OP_TIMEOUT (R112): A flash operation exceeding 2 s ends its command as failed. -/
  | flashOpTimeout
  /-- VERIFY_DONE (R114): A VERIFY check ends; the slot becomes VERIFIED or INVALID and its class is recomputed. -/
  | verifyDone
  /-- GO (R122): REAM_SWAP_CTL.GO requests an activation of a slot, scheduled under R123. -/
  | goCmd (src : Source) (slot : Slot) (atEn lateOk : Bool)
  /-- CANCEL (R124): REAM_SWAP_CTL.CANCEL removes a pending swap if written in time. -/
  | cancel (src : Source)
  /-- SWAP_ORDER_RX (R129): The standby receives a swap order over the partner lane and confirms it if it can follow. -/
  | swapOrderRx (digest : Nat) (target : BitVec 32) (cls : BitVec 2)
  /-- SWAP_CONFIRM_RX (R129): The primary receives the standby's confirmation of a swap order. -/
  | swapConfirmRx
  /-- SWAP_CONFIRM_TIMEOUT (R129): No confirmation by the boundary before the target; the primary cancels the swap with E_STRUCT 0xFE. -/
  | swapConfirmTimeout
  /-- SCRUB (R119): The daily scrub, or the scrub after an activation, recomputes every sheet CRC of the ACTIVE slot. -/
  | scrub
  /-- PREF_RECORD_TIMEOUT (R131): The preferred-slot record not written within 1 s of an activation raises Ream instance 6. -/
  | prefRecordTimeout
  /-- OUT_REQ (R236): SLOT_CTL.OUT_REQ makes a slot HELD at the next eligible boundary. -/
  | outReq (src : Source) (c : Fin 144)
  /-- RET_REQ (R236): SLOT_CTL.RET_REQ makes a HELD slot OUT so that it can return. -/
  | retReq (src : Source) (c : Fin 144)
  /-- RET_TIMEOUT (R233): A PARK slot not ACTIVE after RET_TIMEOUT becomes OUT and raises modulation instance 16. -/
  | retTimeout (c : Fin 144)
  /-- RET_SETTLE_REACHED (R233): A parked cell within RET_BAND for RET_SETTLE frames becomes ACTIVE at the next boundary. -/
  | retSettleReached (c : Fin 144)
  /-- SPREAD_ALARM (R260): A string's spread exceeds SPREAD_MAX for SPREAD_FRAMES consecutive frames. -/
  | spreadAlarm (s : Fin 6)
  /-- TEST_GO (R240): TEST_GO starts a modulator test pattern at the next eligible boundary. -/
  | testGo (src : Source)
  /-- TEST_STOP (R240): TEST_STOP ends the modulator test pattern at the next boundary. -/
  | testStop (src : Source)
  /-- LV_EDGE (R309): A scheduled LV edge time arrives; the outgoing channel turns off and the incoming turn-on is scheduled through the interlock. -/
  | lvEdge (hb : Fin 8)
  /-- LV_CARRIER_EVENT (R310): The LV carrier reaches a valley or a peak and a stamped carrier event is emitted. -/
  | lvCarrierEvent (peak : Bool)
  /-- SC_DETECT (R314): A filtered short-circuit comparator detects; SC1 or SC2 is latched and soft turn-off starts. -/
  | scDetect (ch : Fin 16) (sc2 : Bool) (scTime : BitVec 24)
  /-- SOFT_TURNOFF_END (R316): The gate monitors report off; the short group's safe state is decided and applied. -/
  | softTurnoffEnd (gm : BitVec 16)
  /-- SOFT_TURNOFF_TIMEOUT (R314): A soft turn-off not done in 2 µs switches to TOFF_SNK and latches HS_TO. -/
  | softTurnoffTimeout (ch : Fin 16)
  /-- HS_TO (R312): A turn-on held by the interlock for 2 µs is abandoned and a handshake timeout is latched. -/
  | hsTo (ch : Fin 16)
  /-- GON_TIMEOUT (R312): A gate monitor not on 2 µs after turn-on began turns the channel off and latches GON. -/
  | gonTimeout (ch : Fin 16)
  /-- ST_CONFLICT (R312): Both channels of a half-bridge requested on in the same tbc; neither turns on. -/
  | stConflict (hb : Fin 8)
  /-- SUPPLY_FAULT (R303): VLk_P, VLk_N or HBk_BST crosses its falling threshold; the channels are held off. -/
  | supplyFault (hb : Fin 8) (rail : Rail)
  /-- SUPPLY_GOOD (R303): A gate-drive supply returns above its rising threshold or into its band, releasing the fault. -/
  | supplyGood (hb : Fin 8) (rail : Rail)
  /-- BST_START_TIMEOUT (R305): HBk_BST not good 500 ms after VLk_P became good raises the BST fault. -/
  | bstStartTimeout (hb : Fin 8)
  /-- RETRY_WAIT_EXPIRY (R321): RETRY_WAIT after the last detection ends; the latches are cleared at the next boundary or retries are exhausted. -/
  | retryWaitExpiry (hb : Fin 8)
  /-- HB_CLR (R322): A write of HB_CLR clears every latch of the half-bridge at the next eligible boundary. -/
  | hbClr (src : Source) (hb : Fin 8)
  /-- DRV_EN_FALL (R323): DRV_EN goes low: a level-1 hold and the DRV_EN instance. -/
  | drvEnFall
  /-- DRV_EN_RISE (R323): DRV_EN returns high; with LEGACY_CLR set and a low phase of at least 10 µs, every latch is cleared. -/
  | drvEnRise (lowTenUs : Bool)
  /-- LVT_GO (R324): LVT_GO starts an LV port test pattern. -/
  | lvtGo (src : Source)
  /-- LVT_STOP (R324): LVT_STOP ends the LV port test pattern at the next boundary. -/
  | lvtStop (src : Source)
  /-- SEQ_TRIGGER (R335): A sequencer trigger arrives; the sequencer starts, queues the trigger or drops it. -/
  | seqTrigger (n : Fin 8)
  /-- SEQ_SWTRIG (R334): A write of SEQ_SWTRIG triggers the named software-triggered sequencers. -/
  | seqSwtrig (src : Source) (mask : BitVec 8)
  /-- GT_EVENT (R334): A general timer reaches its next event instant. -/
  | gtEvent (g : Fin 2)
  /-- SEQ_STEP_START (R333): A ready sequencer step starts at the first ADC edge at which its converters are free. -/
  | seqStepStart (n : Fin 8)
  /-- SEQ_PUBLISH (R336): The last conversion of a run ends and all its results are published together, with DAC readbacks checked. -/
  | seqPublish (n : Fin 8) (codes : BitVec 256)
  /-- CONVERSION_TIMEOUT (R350): A conversion not ending within 400 ns marks the converter failed. -/
  | conversionTimeout (a : Fin 4)
  /-- HK_SEQUENCE (R425): The internal housekeeping sequence runs every 10 ms while no Ream is active. -/
  | hkSequence (codes : BitVec 144)
  /-- WC_FILTERED_CHANGE (R342): A window comparator's condition holds its new value for FILT tbc; the filtered condition changes and the latch may set. -/
  | wcFilteredChange (w : Fin 24) (high low : Bool)
  /-- WC_SWCLR (R343): A write of WC_SWCLR requests a latch clear at the first eligible boundary. -/
  | wcSwclr (src : Source) (mask : BitVec 24)
  /-- QUIET_PERIOD_EXPIRY (R364): QUIET_T elapses since an active instance was last present, making it due for recovery. -/
  | quietPeriodExpiry (cls : Fin 16) (inst : BitVec 8)
  /-- RECOV_WINDOW_EXPIRY (R365): A unit's 24-hour recovery window runs out. -/
  | recovWindowExpiry (unit : Fin 173)
  /-- HIST_ACK (R369): A write of HIST_ACK acknowledges history entries up to the given SEQ. -/
  | histAck (src : Source) (seq : BitVec 16)
  /-- UNIT_CLR (R366): A write of UNIT_CLR clears a unit's count and lock and recovers its quiet instances at the next eligible boundary. -/
  | unitClr (src : Source) (unit : BitVec 8)
  /-- FF_VALID_CLEAR (R371): Writing 1 to FF_VALID frees the first-fault register for the next raising. -/
  | ffValidClear (src : Source)
  /-- STICKY_CLEAR (R372): Writing 1 to a STICKY bit clears it. -/
  | stickyClear (src : Source) (cls : Fin 16) (word : Fin 8) (mask : Word)
  /-- ECC_ERROR (R355): A corrected or uncorrectable ECC error in internal memory raises the module-internal instance. -/
  | eccError (corrected : Bool) (region : BitVec 16)
  /-- SIGOK_PULSE_END (R374): The 5 ms SIG_OK pulse ends and SIG_OK enters HOLD. -/
  | sigokPulseEnd
  /-- ALIVE (R375): A write of ALIVE = 1 starts SIG_OK toggling, or ALIVE = 0 returns to HOLD. -/
  | alive (src : Source) (val : Word)
  /-- SIGOK_TOGGLE (R376): A SIG_OK half-period of 0.5 ms ends and the pin toggles in ALIVE. -/
  | sigokToggle
  /-- SIGOK_READBACK_FAULT (R355): SIG_OK read back differs from the driven level for 3 samples at 10 µs. -/
  | sigokReadbackFault
  /-- SAFETY_INPUT_FILTERED (R387): A safety input holds its new level for FILT; the pair goes into or out of demand. -/
  | safetyInputFiltered (ch : Channel) (pair : Fin 4) (a b : Bool) (dis : BitVec 32)
  /-- DISCREPANCY_FAULT (R388): A disagreement of a pair reaches N SAFE cycles and sets the discrepancy latch. -/
  | discrepancyFault (ch : Channel) (pair : Fin 4)
  /-- FEEDBACK_TIMEOUT (R390): A feedback contact does not confirm a command change within FB_TIMEOUT and latches a feedback fault. -/
  | feedbackTimeout (ch : Channel) (fb : Fin 4)
  /-- FEEDBACK_CHANGE (R390): A feedback contact changes while its command is unchanged and latches a feedback fault. -/
  | feedbackChange (ch : Channel) (fb : Fin 4) (closed : Bool)
  /-- SF_FB_CLR (R390): A write of SF_FB_CLR clears a feedback latch when the contact agrees with the command. -/
  | sfFbClr (src : Source) (mask : BitVec 4)
  /-- SF_HOST_DEM (R397): A write of SF_HOST_DEM demands or releases the safety functions. -/
  | sfHostDem (src : Source) (val : BitVec 2)
  /-- OUTPUT_READBACK_FAULT (R391): A safety output's pad level differs from its command for more than 1 ms and latches a demand. -/
  | outputReadbackFault (ch : Channel) (out : Fin 4)
  /-- SAFETY_EXCHANGE (R392): Sorrel and Yarrow exchange their inputs, demands, permits and readbacks every 1 ms. -/
  | safetyExchange
  /-- EXCHANGE_TIMEOUT (R392): No exchange for 5 ms latches a cross-check fault. -/
  | exchangeTimeout (ch : Channel)
  /-- CROSSCHECK_DISAGREE (R392): The channels disagree for more than 10 ms on a permit or a common demand and latch a cross-check fault. -/
  | crosscheckDisagree (ch : Channel)
  /-- YARROW_SUPPLY_FAULT (R392): Yarrow's supply monitor reports its supply outside limits; Yarrow blocks and de-energises its outputs. -/
  | yarrowSupplyFault
  /-- YARROW_CONFIG (R396): Sorrel writes Yarrow's parameters, which take force only when YCFG_CRC equals SF_CRC. -/
  | yarrowConfig (params : BitVec 320)
  /-- HB_IN_EDGE (R405): An edge on HB_IN feeds the wire-path supervision. -/
  | hbInEdge
  /-- HB_OUT_TOGGLE (R404): HB_OUT toggles as a 10 kHz square wave. -/
  | hbOutToggle
  /-- BEAT_RX (R405): A beat from the partner is received on the partner lane. -/
  | beatRx (beat : Beat)
  /-- WIRE_PATH_LOST (R405): HB_IN shows no edge for HB_TIMEOUT × Tf. -/
  | wirePathLost
  /-- PL_PATH_LOST (R405): No valid beat for HB_TIMEOUT × Tf, or loss of comma alignment on the partner lane. -/
  | plPathLost
  /-- PARTNER_MARKER_RX (R411): A standby receives the primary's boundary marker and aligns its Deckle to it. -/
  | partnerMarkerRx (frame : Word) (tb : Word) (offset : BitVec 32) (rtt : BitVec 24)
  /-- MIRROR_FRAME_RX (R413): A standby receives a mirror frame and applies it at the start of its next frame, or discards it. -/
  | mirrorFrameRx (frame : Word) (crcOk : Bool) (items : List Nat) (legs : BitVec 16)
  /-- MIRROR_TRANSFER_RX (R410): At MIRROR entry the standby receives and applies the primary's whole set of staged parameters. -/
  | mirrorTransferRx (items : List (Nat × Nat)) (record : List Nat)
  /-- FORWARDED_SET_RX (R66): A standby receives a staged set forwarded by the primary and applies it at the next boundary. -/
  | forwardedSetRx (txn : BitVec 16) (items : List (Nat × Nat))
  /-- TAKEBACK_REQUEST (R419): A preferred standby requests takeback once IN_SYNC has held for TAKEBACK_HOLD, and again at most once per second. -/
  | takebackRequest
  /-- TAKEBACK_CONFIRM (R420): A takeback or YIELD confirmation fixes the handover boundary H four frames on. -/
  | takebackConfirm (frame : Word) (yielded : Bool)
  /-- YIELD (R419): A write of PART_CTL.YIELD requests a handover to the standby. -/
  | yield (src : Source)
  /-- LEAVE (R130): A write of PART_CTL.LEAVE takes a standby from MIRROR to IDLE at the next boundary. -/
  | leave (src : Source)
  /-- HK_ROUND (R424): Every 10 ms the housekeeping round reads and checks die sensors, supplies, board sensors and cell temperatures. -/
  | hkRound (safeCycles : Nat)
  /-- DIE_MODEL_STEP (R428): Every 1 ms the die Foster models step and TDIE_MAX is compared with the thermal thresholds. -/
  | dieModelStep (p0 p1 p2 p3 : Word)
  /-- TEASEL_HOUR (R435): Every full hour Teasel writes a record of every cell's histogram and OP_TIME. -/
  | teaselHour
  /-- TEASEL_RST (R437): A write of TEASEL_RST clears the selected slot's histogram and OP_TIME at the next boundary. -/
  | teaselRst (src : Source)
  /-- EVJ_SEL (R444): A write of EVJ_SEL starts loading a journal entry into EVJ_ENTRY. -/
  | evjSel (src : Source) (jseq : Word)
  /-- EVJ_LOADED (R444): The selected journal entry is loaded and EVJ_READY or EVJ_GONE is set. -/
  | evjLoaded
  /-- RETENTION_WRITE (R143): Once per second TB_RATE and RATE_LOCKED are written to keep-alive retention. -/
  | retentionWrite
  /-- FREQ_OFFSET_WRITE (R440): Each hour with RATE_LOCKED set the frequency offset record is written to the system journal. -/
  | freqOffsetWrite
  /-- FLASH_OP_DONE (R440): A flash operation ends and the next one is started in priority order. -/
  | flashOpDone (failed : Bool)
  /-- NET_FRAME_RX (R450): A frame arrives at a NET port and is filtered, de-duplicated and forwarded under PRP or HSR. -/
  | netFrameRx (p : Fin 2) (f : NetFrame)
  /-- NET_LINK_CHANGE (R493): A NET port link goes down or up, changing the included LAN set. -/
  | netLinkChange (p : Fin 2) (up : Bool)
  /-- SYNC_RX (R458): A PTP Sync or Follow_Up is received and gives one offset o_p for the servo interval. -/
  | syncRx (p : Fin 2) (m : SyncMsg)
  /-- ANNOUNCE_RX (R457): A PTP Announce is received and the best master clock algorithm runs. -/
  | announceRx (p : Fin 2) (m : AnnounceMsg)
  /-- ANNOUNCE_TIMEOUT (R457): No announce from the selected grandmaster within the receipt timeout; a new selection is made. -/
  | announceTimeout
  /-- PDELAY_REQ_SEND (R456): Every 1 s a Pdelay_Req is sent on each port. -/
  | pdelayReqSend
  /-- PDELAY_REQ_RX (R456): A received Pdelay_Req is answered two-step. -/
  | pdelayReqRx (p : Fin 2) (seq : BitVec 16)
  /-- PDELAY_RESP_RX (R456): A Pdelay_Resp or its Follow_Up is received and the peer link delay is updated. -/
  | pdelayRespRx (p : Fin 2) (m : PdelayMsg)
  /-- TSQ_OVERFLOW (R455): An event message sent while 16 timestamps are unread drops its entry and abandons the exchange. -/
  | tsqOverflow (p : Fin 2) (own : Bool) (seq : BitVec 16)
  /-- LAN_RESET (R471): A write of LAN_RESET re-references and readmits a LAN at the next interval. -/
  | lanReset (src : Source) (mask : BitVec 2)
  /-- SUPERVISION_SEND (R451): PRP supervision frames are sent every 2 s. -/
  | supervisionSend
  /-- IRIG_FRAME_RX (R473): An IRIG-B frame is decoded and gives an offset, or raises instance 12. -/
  | irigFrameRx (m : IrigFrame)
  /-- PPS_IN_EDGE (R474): A rising edge of PPS_IN is timestamped and labelled. -/
  | ppsInEdge (edgeQ : BitVec 66)
  /-- PPS_IN_MISSING (R474): No PPS_IN edge for 1.5 s raises instance 13. -/
  | ppsInMissing
  /-- XCHK_SECOND (R475): Each second the check source is compared with the mapping. -/
  | xchkSecond
  /-- PPS_OUT_PULSE (R476): PPS_OUT rises at the start of each second of the mapping. -/
  | ppsOutPulse
  /-- PPS_OUT_WIDTH_END (R476): PPS_OUT falls after the width in PPS_OUT_CTL. -/
  | ppsOutWidthEnd
  /-- TOD_SET_GO (R477): A write of TOD_SET_GO applies TOD_SET as a step of the mapping at the next second. -/
  | todSetGo (src : Source)
  /-- SV_SAMPLE_DUE (R479): A published stream's sample instant arrives and its channels are interpolated. -/
  | svSampleDue (n : Fin 8)
  /-- SV_SEND (R481): A sampled-value message is encoded and sent once its last sample's sources are available. -/
  | svSend (n : Fin 8)
  /-- SV_RX (R485): A sampled-value message is received and matched to a subscription. -/
  | svRx (m : SvMsg)
  /-- SV_SUB_LOSS (R485): No message for 2 × NOASDU / RATE marks a subscription lost. -/
  | svSubLoss (q : Fin 16)
  /-- GOOSE_RX (R487): A GOOSE message is received, checked against a subscription, and may raise the trigger instance. -/
  | gooseRx (m : GooseMsg)
  /-- GOOSE_TAL_EXPIRY (R488): No accepted message within timeAllowedToLive raises instance 32 + s. -/
  | gooseTalExpiry (s : Fin 32)
  /-- GOOSE_RETRANSMIT (R489): A GOOSE retransmission interval ends and the message is sent again with sqNum incremented. -/
  | gooseRetransmit (g : Fin 8)
  /-- TAG_SAMPLE (R504): A tagged CE operation completes and writes an entry to the sample buffer. -/
  | tagSample (sample : TagSample)
  /-- READ_REJECTED (R39): A BAR0 or CSPI read that is rejected (misaligned, outside PF1's rights, outside the CSPI subset) returns zero data and records the code in the source's HIF_LAST_ERR. -/
  | readRejected (src : Source) (off : BitVec 22) (be : BitVec 4)
  /-- BAR2_WRITE (R40): A write request to BAR2 is rejected with E_RANGE detail 0xFF and recorded in HIF_LAST_ERR with the BAR2 offset. -/
  | bar2Write (fn : Fn) (off : BitVec 18)
  /-- INCOMING_TURN_ON (R311): The incoming channel of a half-bridge turns on once DT_LV has elapsed and the other channel's gate monitor reports off. -/
  | incomingTurnOn (hb : Fin 8) (gm : BitVec 16)
  /-- PLL_N_RELOCK (R92): PLL_N regains lock, and the NET ports and the PCI Express link that were held down may come up again. -/
  | pllNRelock
  /-- LOCK_REGAINED (R93): After ROOT returns, the PLLs, steered by frequency over at most 10 ms, regain lock; holdover ends and clock instances 0 and 1 clear. -/
  | lockRegained
  /-- YARROW_SUPPLY_RETURN (R392): Yarrow's own supply monitor reports its supply back within limits, ending instance 18 and Yarrow's supply-caused block. -/
  | yarrowSupplyReturn
  /-- FEEDBACK_CONFIRMED (R390): A feedback contact changes to confirm a commanded change of its output within FB_TIMEOUT, stopping the supervision timer and recording CONF_T. -/
  | feedbackConfirmed (ch : Channel) (fb : Fin 4)
  /-- TAP_INSTRUCTION (R532): An IEEE 1149.1 instruction is shifted into the DBG test access port and is accepted, or refused (EXTEST and CLAMP outside nRESET). -/
  | tapInstruction (ins : TapIns)
  deriving DecidableEq, Repr
end Sys2Proof
end

