-- ==== Sys2Proof/Decode.lean ====
section
/-! DEFINITION. The operation table gives its rows no bits: the module has no instruction words. A command reaches it as an access of
the host, a transfer on a wire, an event on a pin or the passing of a time, so no word spells one. -/
namespace Sys2Proof

/-- The command that a word spells by the bits of the operation table: none, for no row gives bits. -/
def decodeTableWord (_nbits _w : Nat) : Option Instr := none

end Sys2Proof
end

