-- ==== Sys2Proof/Machine/State.lean ====
section
/-! DEFINITION. The state of the SK1448 as plain data: the register store and its field descriptions, the records the
register map does not show, the clock, the fuses, the queue of waiting commands, and the state right after reset. -/
namespace Sys2Proof.Machine

/-- Access types of the register tables (R9). -/
inductive Acc | ro | rw | w1c | wo | rc
  deriving DecidableEq, Repr

/-- What the Reset column says (R13). -/
inductive Kind
  | num      -- a number
  | ream     -- loaded from the active Ream
  | ka       -- kept in keep-alive retention
  | fuses    -- read from the one-time-programmable fuses
  | factory  -- a factory calibration constant
  | strap    -- a source, a pin strap, or a counter no reset clears
  deriving DecidableEq, Repr

/-- The range a field's table gives it (R11); the flag says that zero is rejected with E_ZERO. -/
inductive Rng
  | any
  | nat (lo hi : Nat) (zero : Bool)
  | int (lo hi : Int)
  | nat0 (lo hi : Nat)               -- zero, or from lo to hi
  | oneOf (l : List Nat)
  | f32 (lo hi : Nat) (zero : Bool)  -- finite binary32 between two binary32 patterns
  | f32z (lo hi : Nat)               -- zero, or as f32
  deriving DecidableEq, Repr

/-- One field of a register table, or one piece of internal numeric state (`win` = 31). -/
structure Fld where
  id     : Nat
  win    : Nat
  off    : Nat
  n1     : Nat
  s1     : Nat
  n2     : Nat
  s2     : Nat
  hi     : Nat
  lo     : Nat
  acc    : Acc
  reset  : Nat
  kind   : Kind
  direct : Bool
  pf1    : Bool
  rng    : Rng
  deriving DecidableEq, Repr

/-- The register store: a binary trie over the bits of a key. A key it does not list holds its field's reset value. -/
inductive Store
  | nil
  | leaf (v : Nat)
  | node (l r : Store)
  deriving DecidableEq, Repr

/-- A code and a detail of R47. -/
structure Err where
  code   : Nat
  detail : Nat
  deriving DecidableEq, Repr

/-- The host's view of the last access that returned data: a completion, or a Completer Abort (R38, R39). -/
structure Answer where
  src   : Source
  abort : Bool
  data  : List Nat
  deriving DecidableEq, Repr

/-- One snapshot bank (R49, R53): the header words and every register as latched. -/
structure Bank where
  seq     : Nat
  frameNo : Nat
  tbNs32  : Nat
  todSec  : Nat
  todRef  : Nat
  word1C  : Nat
  tfLast  : Nat
  lastTxn : Nat
  dir     : List (Nat × Nat)
  regs    : Store
  deriving DecidableEq, Repr

/-- A CSPI implicit set waiting for its boundary (R71): address and value of each item, and the end of its transaction. -/
structure ImplicitSet where
  items : List (Nat × Nat)
  endNs : Nat
  deriving DecidableEq, Repr

/-- A CSPI transaction in progress (R69 to R71): its staged words so far and the code of its first rejected word. -/
structure CspiTxn where
  staged : List (Nat × Nat)
  status : Nat
  deriving DecidableEq, Repr

/-- One part of a sheet (R103): length in bytes and the bytes as one little-endian number. -/
structure SheetPart where
  len  : Nat
  data : Nat
  deriving DecidableEq, Repr

/-- One sheet with a part directory (R100, R103). -/
structure Sheet where
  typ  : Nat
  ver  : Nat
  strc : SheetPart
  map  : SheetPart
  par  : SheetPart
  deriving DecidableEq, Repr

/-- A checked configuration (R536): the header fields, the eleven sheets and the three digests. -/
structure Image where
  len          : Nat
  imageId      : Nat
  compatClass  : Nat
  secVer       : Nat
  hdrFlags     : Nat
  keyIndex     : Nat
  structDigest : Nat
  mapDigest    : Nat
  baseStruct   : Nat
  baseMap      : Nat
  imageDigest  : Nat
  sheets       : List Sheet
  deriving DecidableEq, Repr

/-- A slot's descriptor in the flash journal (R109). -/
structure SlotDesc where
  state     : Nat
  length    : Nat
  imageId   : Nat
  declClass : Nat
  secVer    : Nat
  structDig : Nat
  mapDig    : Nat
  deriving DecidableEq, Repr

/-- Keep-alive retention (R143) with the keep-alive count. -/
structure Retention where
  tbRate    : Nat
  stateWord : Nat
  backupKa  : Nat
  todAtLoss : Nat
  user      : List Nat
  crc       : Nat
  kaCnt     : Nat
  deriving DecidableEq, Repr

/-- An active fault instance (R363, R364). -/
structure Active where
  cls     : Nat
  inst    : Nat
  detail  : Nat
  react   : Nat
  derate  : Nat
  units   : List Nat
  seq     : Nat            -- history entry of its raising
  present : Bool           -- raised since the last boundary
  held    : Bool           -- its condition still holds
  quiet   : Option Nat     -- TB ns at which its quiet period started
  elapsed : Bool           -- that quiet period has elapsed (QUIET_PERIOD_EXPIRY)
  refused : Bool           -- a recovery was refused (R365)
  hostClr : Bool           -- a UNIT_CLR ordered its recovery (R366)
  deriving DecidableEq, Repr

/-- A 16-byte fault record (R368). -/
structure Entry where
  ns32   : Nat
  frame  : Nat
  cls    : Nat
  inst   : Nat
  detail : Nat
  react  : Nat
  flags  : Nat
  seq    : Nat
  deriving DecidableEq, Repr

/-- One LV edge of a frame (R308): the leg group's lowest half-bridge, the offset in q and the state P (1), N (2) or OFF (0). -/
structure LvEdge where
  grp : Nat
  off : Nat
  st  : Nat
  deriving DecidableEq, Repr

/-- A journal record (R439), with the byte of its region at which it stands and the bytes it takes there. -/
structure JRec where
  mark : Nat
  typ  : Nat
  jseq : Nat
  crc  : Nat
  pos  : Nat
  len  : Nat
  data : List Nat
  deriving DecidableEq, Repr

/-- A journal region, written as a log (R439): its records, the byte after the last one, and the last JSEQ. -/
structure Journal where
  recs : List JRec
  ptr  : Nat
  seq  : Nat
  deriving DecidableEq, Repr

/-- A flash operation (R440), one page or one sector, or one journal record: what it is and its arguments. -/
inductive FlashOp
  | commit (typ : Nat) (data : List Nat)        -- priority 2, a record of the system journal
  | events (l : List Entry)                     -- priority 2, a block of history entries
  | teasel (page : Nat) (data : List Nat)       -- priority 3, a page of a Teasel record
  | erase (slot : Nat) (sector : Nat)           -- priority 4, a sector of REAM_CMD ERASE
  | program (slot : Nat) (page : Nat)           -- priority 4, a page of REAM_CMD PROGRAM
  | wipe (sector : Nat)                         -- priority 4, a dirty sector erased again
  deriving DecidableEq, Repr

/-- The non-volatile memory (R438, R439): the flash bytes of the slots, which pages of each slot were programmed since its last
ERASE (one bit a page), the valid copies of the system journal's data (both descriptors, the preferred slot, the frequency
offset, the dirty sectors), the journals, the retired sectors, the erase counts, the power-fail record, and, in memory, the last
Teasel record, the queued history entries, the operation in progress and the operations that wait. -/
structure Nvm where
  mem     : List Host.Cell
  pagesA  : Nat
  pagesB  : Nat
  descA   : SlotDesc
  descB   : SlotDesc
  pref    : Nat
  freq    : Option Nat
  dirtyJ  : List Nat
  sys     : Journal
  evj     : Journal
  life    : Journal
  retired : List Nat
  erases  : List (Nat × Nat)
  pfail   : Option Entry
  dirty   : List Nat
  record  : List Nat
  evq     : List Entry
  cur     : Option FlashOp
  queue   : List FlashOp
  deriving DecidableEq, Repr

/-- The rainflow of a cell (R434): the reversals kept, newest first, the extreme reached since the last of them, and whether the
temperature rises (1) or falls (2) since; 0 while it has not moved by TEASEL_HYST. -/
structure Rain where
  slot  : Nat
  stack : List Nat
  ext   : Nat
  dir   : Nat
  deriving DecidableEq, Repr

/-- The image state (R536): the checked configuration of each slot and the active image. -/
structure ReamSt where
  checkedA : Option Image
  checkedB : Option Image
  active   : Option Image
  deriving DecidableEq, Repr

/-- A management request (R167, R214) waiting to be sent, or sent in a frame and not answered yet: link (rings 0 to 5, Gen1
links 6 to 21), hop, OP, address, data, TAG, the slot concerned and why it was made. -/
structure MgtReq where
  link : Nat
  hop  : Nat
  op   : Nat
  addr : Nat
  data : Nat
  tag  : Nat
  slot : Nat
  why  : Nat            -- 0 DISCOVER read, 1 parameter write, 2 FAULT_CLR, 3 TRIP_ID read, 4 TRIP_CLR
  sent : Option Nat
  deriving DecidableEq, Repr

/-- An announce kept of a grandmaster on a port (R457): what the best master clock algorithm compares, what is reported, and the
TB ns of the last two receptions. -/
structure Master where
  port  : Nat
  gm    : Nat
  prio1 : Nat
  cls   : Nat
  acc   : Nat
  var   : Nat
  prio2 : Nat
  steps : Nat
  utc   : Nat
  valid : Bool
  l59   : Bool
  l61   : Bool
  trace : Bool
  inacc : Nat
  at_   : Nat
  prev  : Option Nat
  deriving DecidableEq, Repr

/-- An unread transmit timestamp (R455): sequenceId, messageType (2 Pdelay_Req, 3 Pdelay_Resp) and the timestamp in q. -/
structure TxStamp where
  seq : Nat
  typ : Nat
  q   : Int
  deriving DecidableEq, Repr

/-- A LAN of the time engine: the last accepted path delays (R467), the intervals of its readmission (R470), its offsets since
the included set or the mapping changed (R464), its transmit-timestamp queue (R455), and the peer delay exchange in progress:
sequenceId and t1, then t4 and t2 with the corrections so far. -/
structure Lan where
  accepted : List Int
  settle   : List (Int × Bool)
  trail    : List Int
  tsq      : List TxStamp
  req      : Option (Nat × Int)
  resp     : Option (Nat × Int × Int)
  deriving DecidableEq, Repr

/-- An entry of the duplicate discard table (R451): source address, sequence number, TB ns. -/
structure Heard where
  src : Nat
  seq : Nat
  at_ : Nat
  deriving DecidableEq, Repr

/-- The last source sample of a signal that a stream publishes (R480): its instant in TB ns, its value, and what R483 asks of
it: 0 fresh, 1 stale, 2 from a run with FAIL, and whether its code clipped. -/
structure SrcSample where
  sig  : Nat
  at_  : Nat
  val  : Nat
  bad  : Nat
  clip : Bool
  deriving DecidableEq, Repr

/-- A sample that has fallen due and is not sent yet (R479): the TB ns at which its second began, its smpCnt, and the channels,
INT32 and quality, as far as both their source samples are known. -/
structure SvSample where
  base : Int
  cnt  : Nat
  vals : List (Option (Nat × Nat))
  deriving DecidableEq, Repr

/-- An ASDU as sent (R484). -/
structure Asdu where
  cnt   : Nat
  synch : Nat
  vals  : List (Nat × Nat)
  deriving DecidableEq, Repr

/-- What the network keeps beside its registers (17_grid_network_time.md): per LAN, the announces, the discard table, the servo
inputs since the last step or change of the included set (newest first), the rates of the last intervals of LOCKED in binary64,
the samples waiting per stream, the source samples, the members last sampled per GOOSE dataset, and the TAI second and edge of
the last IRIG-B frame. -/
structure Net where
  lans    : List Lan
  masters : List Master
  heard   : List Heard
  evals   : List Int
  rates   : List Nat
  sv      : List (List SvSample)
  src     : List SrcSample
  goose   : List (List Bool)
  irig    : Option (Nat × Int)
  deriving DecidableEq, Repr

/-- A received mirror frame that waits for the start of the next frame (R413): its FRAME_NO, its items and the leg states that
the primary sent with it. -/
structure MirrorIn where
  frame : Nat
  items : List Nat
  legs  : Nat
  deriving DecidableEq, Repr

/-- A staged set received from the primary (R66): TXN and items; `whole` says that it is the transfer of R410. -/
structure Forwarded where
  txn   : Nat
  items : List (Nat × Nat)
  whole : Bool
  deriving DecidableEq, Repr

/-- The t field of a GOOSE message (R489): UTC in ns, and its TimeQuality. -/
structure GooseTime where
  utc      : Int
  notSync  : Bool
  failure  : Bool
  accuracy : Nat
  deriving DecidableEq, Repr

/-- A message the module has put on a wire since the last boundary. -/
inductive Out
  | marker (link frame epoch trust peerEast peerWest : Nat)
  | markerRelay (ring : Nat) (westward : Bool) (frame16 epoch acc peer hopcnt nhops trust : Nat)
  | blockRelay (ring : Nat) (westward : Bool) (block : Nat)
  | trip (id src ns32 : Nat)
  | tripBlock (id src ns32 epoch : Nat)
  | mgt (link hop op addr data tag epoch : Nat)
  | command (slot rev east west : Nat)
  | withdraw (slot rev : Nat)
  | forwardSet (txn : Nat) (items : List (Nat × Nat))
  | transfer (items : List (Nat × Nat)) (record : List Nat)
  | swapOrder (digest target cls : Nat)
  | swapConfirm (digest : Nat)
  | netForward (port eth src seq : Nat)
  | pdelayReq (port seq : Nat)
  | pdelayResp (port seq : Nat)
  | pdelayFollowUp (port seq : Nat) (q : Int)
  | supervision
  | sv (n : Nat) (asdus : List Asdu)
  | goose (g stNum sqNum tal : Nat) (test : Bool) (members : List Bool) (time : GooseTime) (quality : Option Nat)
  | beat (words : List Nat)
  | mirrorFrame (frame : Nat) (items : List Nat) (legs : Nat)
  | takebackRequest
  | takebackConfirm (frame : Nat) (yield : Bool)
  deriving DecidableEq, Repr

/-- The one-time-programmable fuses (R106, R107). -/
structure Otp where
  keyProg   : Nat
  revoked   : Nat
  secVerMin : Nat
  keyHash   : List Nat
  deriving DecidableEq, Repr

/-- The timebase accumulator (R77, R78): whole ns to 64 bits, fraction in 2^-32 ns, the tbc counted since the last boundary,
and CYC64 (R496). -/
structure Clock where
  ns   : Nat
  frac : Nat
  sub  : Nat
  cyc  : Nat
  deriving DecidableEq, Repr

/-- Everything of the module except the timebase, the fuses and the command queue. -/
structure Dev where
  regs     : Store
  answer   : Answer
  visible  : Bank
  hidden   : Bank
  implicit : List ImplicitSet
  cspi     : Option CspiTxn
  ream     : ReamSt
  nvm      : Nvm
  rain     : List Rain
  net      : Net
  mirrorIn : Option MirrorIn
  forwards : List Forwarded
  ret      : Retention
  active   : List Active
  lvEdges  : List LvEdge
  lvNext   : List LvEdge
  lvRetry  : List (Nat × Nat)
  mgt      : List MgtReq
  outbox   : List Out
  draws    : Nat
  deriving DecidableEq, Repr

/-- The state of the block, with the queue of waiting commands, first in, first out. -/
structure State where
  clk     : Clock
  otp     : Otp
  dev     : Dev
  pending : List Instr
  deriving DecidableEq, Repr

/-- Why a step stops. -/
inductive Fault
  /-- Raised by a command whose operands no host and no wire can give (a CSPI transaction of more than 256 words, a block of
  the wrong length): `WellFormed` refuses it. Safe: the hardware never sees such a command. -/
  | illFormed
  deriving DecidableEq, Repr

/-- Why a command has no meaning. -/
inductive Refusal
  /-- Raised by `exec` for a command that is not modelled yet, with its mnemonic. Safe: nothing is claimed of it. -/
  | notModelled (mnemonic : String)
  deriving DecidableEq, Repr

/-- An empty descriptor: the state of a slot that no descriptor records (R109). -/
def SlotDesc.empty : SlotDesc := ⟨0, 0, 0, 0, 0, 0, 0⟩

/-- A bank that no boundary has latched yet. -/
def Bank.empty : Bank := ⟨0, 0, 0, 0, 0, 0, 0, 0, [], .nil⟩

/-- The flash as delivered: every byte erased, nothing recorded. -/
def Nvm.blank : Nvm :=
  ⟨[], 0, 0, SlotDesc.empty, SlotDesc.empty, 0, none, [], ⟨[], 0, 0⟩, ⟨[], 0, 0⟩, ⟨[], 0, 0⟩, [], [], none, [], [], [], none, []⟩

/-- The network records with nothing received yet. -/
def Net.empty : Net :=
  ⟨[⟨[], [], [], [], none, none⟩, ⟨[], [], [], [], none, none⟩], [], [], [], [], [[], [], [], [], [], [], [], []], [],
    [[], [], [], [], [], [], [], []], none⟩

/-- The module after power-up: every register at its reset value (the store lists nothing), every buffer and queue empty. -/
def Dev.reset : Dev where
  regs     := .nil
  answer   := ⟨.pf0, false, []⟩
  visible  := Bank.empty
  hidden   := Bank.empty
  implicit := []
  cspi     := none
  ream     := ⟨none, none, none⟩
  nvm      := Nvm.blank
  rain     := []
  net      := Net.empty
  mirrorIn := none
  forwards := []
  ret      := ⟨0, 0, 0, 0, [0, 0, 0, 0, 0, 0, 0, 0], 0, 0⟩
  active   := []
  lvEdges  := []
  lvNext   := []
  lvRetry  := []
  mgt      := []
  outbox   := []
  draws    := 0

/-- The machine right after reset: in step 1 of BOOT (MODE_STATE.STATE resets to 1), TB at 0, key slot 0 programmed (R106). -/
def State.reset : State where
  clk     := ⟨0, 0, 0, 0⟩
  otp     := ⟨1, 0, 0, [0, 0, 0, 0]⟩
  dev     := Dev.reset
  pending := []

end Sys2Proof.Machine
end

