-- ==== Sys2Proof/Machine/RegMap.lean ====
section
/-! DEFINITION. The register map: every field of every register table of spec/ (namespace R, one namespace per
BAR0 window, the spec's own field names) and every piece of internal numeric state (namespace I). A field names where its
value lives in the store; a register is never held twice. -/
namespace Sys2Proof.Machine
namespace R.HIF
/-- 02_host_access.md HIF +0x0000 [31:16] RO. Device identity -/
def DEV_ID : Fld := ⟨1, 0, 0x0, 1, 0, 1, 0, 31, 16, .ro, 5192, .num, false, false, .any⟩
/-- 02_host_access.md HIF +0x0000 [15:8] RO. Register-map major revision -/
def MAJOR : Fld := ⟨2, 0, 0x0, 1, 0, 1, 0, 15, 8, .ro, 1, .num, false, false, .any⟩
/-- 02_host_access.md HIF +0x0000 [7:0] RO. Register-map minor revision -/
def MINOR : Fld := ⟨3, 0, 0x0, 1, 0, 1, 0, 7, 0, .ro, 0, .num, false, false, .any⟩
/-- 02_host_access.md HIF +0x0004 [2:2] RO. 1 while MODE_STATE is MIRROR -/
def STANDBY : Fld := ⟨4, 0, 0x4, 3, 0, 1, 0, 2, 2, .ro, 0, .num, false, false, .any⟩
/-- 02_host_access.md HIF +0x0004 [1:0] RO. The reading source: 0 PF0, 1 PF1, 2 CSPI -/
def SRC : Fld := ⟨5, 0, 0x4, 3, 0, 1, 0, 1, 0, .ro, 0, .strap, false, false, .any⟩
/-- 02_host_access.md HIF +0x0008 [17:17] RC. nRESET was judged stuck closed -/
def SUM_RST_STUCK : Fld := ⟨6, 0, 0x8, 3, 0, 1, 0, 17, 17, .rc, 1, .num, false, false, .any⟩
/-- 02_host_access.md HIF +0x0008 [16:16] RC. Network, PTP, SV or GOOSE subscription state changed -/
def SUM_NET : Fld := ⟨7, 0, 0x8, 3, 0, 1, 0, 16, 16, .rc, 1, .num, false, false, .any⟩
/-- 02_host_access.md HIF +0x0008 [15:15] RC. A cell was bypassed, returned or changed state -/
def SUM_CELL : Fld := ⟨8, 0, 0x8, 3, 0, 1, 0, 15, 15, .rc, 1, .num, false, false, .any⟩
/-- 02_host_access.md HIF +0x0008 [14:14] RC. A thermal threshold was crossed -/
def SUM_THERM : Fld := ⟨9, 0, 0x8, 3, 0, 1, 0, 14, 14, .rc, 1, .num, false, false, .any⟩
/-- 02_host_access.md HIF +0x0008 [13:13] RC. A Gatherer window completed -/
def SUM_PERF : Fld := ⟨10, 0, 0x8, 3, 0, 1, 0, 13, 13, .rc, 1, .num, false, false, .any⟩
/-- 02_host_access.md HIF +0x0008 [12:12] RC. A staged set that this source owned was discarded -/
def SUM_STAGE_DISCARD : Fld := ⟨11, 0, 0x8, 3, 0, 1, 0, 12, 12, .rc, 1, .num, false, false, .any⟩
/-- 02_host_access.md HIF +0x0008 [11:11] RC. A flash operation completed or failed -/
def SUM_NVM : Fld := ⟨12, 0, 0x8, 3, 0, 1, 0, 11, 11, .rc, 1, .num, false, false, .any⟩
/-- 02_host_access.md HIF +0x0008 [10:10] RC. The state of Sorrel or Yarrow changed -/
def SUM_SAFETY : Fld := ⟨13, 0, 0x8, 3, 0, 1, 0, 10, 10, .rc, 1, .num, false, false, .any⟩
/-- 02_host_access.md HIF +0x0008 [9:9] RC. A Ream was activated, refused or swapped; the snapshot directory may have changed -/
def SUM_REAM : Fld := ⟨14, 0, 0x8, 3, 0, 1, 0, 9, 9, .rc, 1, .num, false, false, .any⟩
/-- 02_host_access.md HIF +0x0008 [8:8] RC. This source's lease expired -/
def SUM_LEASE_EXP : Fld := ⟨15, 0, 0x8, 3, 0, 1, 0, 8, 8, .rc, 1, .num, false, false, .any⟩
/-- 02_host_access.md HIF +0x0008 [7:7] RC. Time state or TIME_SUSPECT changed -/
def SUM_TIME : Fld := ⟨16, 0, 0x8, 3, 0, 1, 0, 7, 7, .rc, 1, .num, false, false, .any⟩
/-- 02_host_access.md HIF +0x0008 [6:6] RC. Primary or standby role changed -/
def SUM_ROLE : Fld := ⟨17, 0, 0x8, 3, 0, 1, 0, 6, 6, .rc, 1, .num, false, false, .any⟩
/-- 02_host_access.md HIF +0x0008 [5:5] RC. MODE_STATE changed -/
def SUM_MODE : Fld := ⟨18, 0, 0x8, 3, 0, 1, 0, 5, 5, .rc, 1, .num, false, false, .any⟩
/-- 02_host_access.md HIF +0x0008 [4:4] RC. The first-fault register was set -/
def SUM_FIRST_FAULT : Fld := ⟨19, 0, 0x8, 3, 0, 1, 0, 4, 4, .rc, 1, .num, false, false, .any⟩
/-- 02_host_access.md HIF +0x0008 [3:3] RC. A fault history entry was added -/
def SUM_FAULT : Fld := ⟨20, 0, 0x8, 3, 0, 1, 0, 3, 3, .rc, 1, .num, false, false, .any⟩
/-- 02_host_access.md HIF +0x0008 [2:2] RC. This source's HIF_LAST_ERR was updated -/
def SUM_LAST_ERR : Fld := ⟨21, 0, 0x8, 3, 0, 1, 0, 2, 2, .rc, 1, .num, false, false, .any⟩
/-- 02_host_access.md HIF +0x0008 [1:1] RC. The result of a staged set that this source owned is available -/
def SUM_STAGE_DONE : Fld := ⟨22, 0, 0x8, 3, 0, 1, 0, 1, 1, .rc, 1, .num, false, false, .any⟩
/-- 02_host_access.md HIF +0x0008 [0:0] RC. A new snapshot bank became visible -/
def SUM_SNAP_NEW : Fld := ⟨23, 0, 0x8, 3, 0, 1, 0, 0, 0, .rc, 1, .num, false, false, .any⟩
/-- 02_host_access.md HIF +0x000C [24:24] W1C. 1 when a rejection has been recorded. Writing 1 clears VALID, COUNT, CODE, DETAIL and HIF_LAST_ERR_ADDR. -/
def ERR_VALID : Fld := ⟨24, 0, 0xC, 3, 0, 1, 0, 24, 24, .w1c, 0, .num, true, false, .any⟩
/-- 02_host_access.md HIF +0x000C [23:16] RO. Rejections since VALID was last cleared, saturated at 255 -/
def ERR_COUNT : Fld := ⟨25, 0, 0xC, 3, 0, 1, 0, 23, 16, .ro, 0, .num, false, false, .any⟩
/-- 02_host_access.md HIF +0x000C [15:8] RO. Detail of the most recent rejection -/
def ERR_DETAIL : Fld := ⟨26, 0, 0xC, 3, 0, 1, 0, 15, 8, .ro, 0, .num, false, false, .any⟩
/-- 02_host_access.md HIF +0x000C [7:0] RO. Code of the most recent rejection -/
def ERR_CODE : Fld := ⟨27, 0, 0xC, 3, 0, 1, 0, 7, 0, .ro, 0, .num, false, false, .any⟩
/-- 02_host_access.md HIF +0x0010 [31:31] RO. 1 when the rejection came from a CSPI implicit set applied at a boundary -/
def ERR_IMPLICIT : Fld := ⟨28, 0, 0x10, 3, 0, 1, 0, 31, 31, .ro, 0, .num, false, false, .any⟩
/-- 02_host_access.md HIF +0x0010 [21:0] RO. BAR0 byte offset of the rejected access, or BAR2 offset for R40 -/
def ERR_OFFSET : Fld := ⟨29, 0, 0x10, 3, 0, 1, 0, 21, 0, .ro, 0, .num, false, false, .any⟩
/-- The fields of the HIF window. -/
def all : List Fld :=
  [DEV_ID, MAJOR, MINOR, STANDBY, SRC, SUM_RST_STUCK, SUM_NET, SUM_CELL, SUM_THERM, SUM_PERF, SUM_STAGE_DISCARD, SUM_NVM, SUM_SAFETY, SUM_REAM, SUM_LEASE_EXP, SUM_TIME, SUM_ROLE, SUM_MODE, SUM_FIRST_FAULT, SUM_FAULT, SUM_LAST_ERR, SUM_STAGE_DONE, SUM_SNAP_NEW, ERR_VALID, ERR_COUNT, ERR_DETAIL, ERR_CODE, ERR_IMPLICIT, ERR_OFFSET]
end R.HIF
namespace R.SNAP
/-- 02_host_access.md SNAP +0x0000 [3:3] W1C. This source's last lease ended by expiry -/
def EXPIRED : Fld := ⟨30, 1, 0x0, 3, 0, 1, 0, 3, 3, .w1c, 0, .num, true, false, .any⟩
/-- 02_host_access.md SNAP +0x0000 [2:2] RO. This source holds a lease -/
def HELD : Fld := ⟨31, 1, 0x0, 3, 0, 1, 0, 2, 2, .ro, 0, .num, false, false, .any⟩
/-- 02_host_access.md SNAP +0x0000 [1:1] WO. 1 releases this source's lease; no effect if none is held -/
def REL : Fld := ⟨32, 1, 0x0, 3, 0, 1, 0, 1, 1, .wo, 0, .num, true, false, .any⟩
/-- 02_host_access.md SNAP +0x0000 [0:0] WO. 1 acquires a lease. It has no effect while this source holds one, under R51. ACQ and REL both 1 is rejected wi -/
def ACQ : Fld := ⟨33, 1, 0x0, 3, 0, 1, 0, 0, 0, .wo, 0, .num, true, false, .any⟩
/-- 02_host_access.md SNAP +0x0004 [31:0] RO. Sequence of the visible bank, bits [31:0] -/
def SNAP_SEQ_LO : Fld := ⟨34, 1, 0x4, 1, 0, 1, 0, 31, 0, .ro, 0, .num, false, false, .any⟩
/-- 02_host_access.md SNAP +0x0008 [31:0] RO. Sequence of the visible bank, bits [63:32] -/
def SNAP_SEQ_HI : Fld := ⟨35, 1, 0x8, 1, 0, 1, 0, 31, 0, .ro, 0, .num, false, false, .any⟩
/-- 02_host_access.md SNAP +0x000C [9:0] RW. Lease limit in ms, 1 to 1,000. Zero is rejected with E_ZERO. Direct; shared by all sources. Written by PF0 onl -/
def SNAP_LEASE_MAX : Fld := ⟨36, 1, 0xC, 1, 0, 1, 0, 9, 0, .rw, 10, .num, true, false, (.nat 1 1000 true)⟩
/-- 02_host_access.md SNAP +0x0010 [16:16] RO. 1 when a newer latch waits in the hidden bank -/
def FLIP_HELD : Fld := ⟨37, 1, 0x10, 1, 0, 1, 0, 16, 16, .ro, 0, .num, false, false, .any⟩
/-- 02_host_access.md SNAP +0x0010 [15:0] RO. Lease expiries of all sources, saturated at 65,535 -/
def LEASE_EXP_CNT : Fld := ⟨38, 1, 0x10, 1, 0, 1, 0, 15, 0, .ro, 0, .num, false, false, .any⟩
/-- The fields of the SNAP window. -/
def all : List Fld :=
  [EXPIRED, HELD, REL, ACQ, SNAP_SEQ_LO, SNAP_SEQ_HI, SNAP_LEASE_MAX, FLIP_HELD, LEASE_EXP_CNT]
end R.SNAP
namespace R.STAGE
/-- 02_host_access.md STAGE +0x0000 [15:0] WO. Opens a set, as R57 provides -/
def STAGE_OPEN_TXN : Fld := ⟨39, 2, 0x0, 1, 0, 1, 0, 15, 0, .wo, 0, .num, true, false, .any⟩
/-- 02_host_access.md STAGE +0x0004 [30:30] WO. Apply a late scheduled set at the next eligible boundary -/
def STAGE_COMMIT_LATE_OK : Fld := ⟨40, 2, 0x4, 1, 0, 1, 0, 30, 30, .wo, 0, .num, true, false, .any⟩
/-- 02_host_access.md STAGE +0x0004 [29:29] WO. Apply at frame STAGE_AT -/
def STAGE_COMMIT_AT_EN : Fld := ⟨41, 2, 0x4, 1, 0, 1, 0, 29, 29, .wo, 0, .num, true, false, .any⟩
/-- 02_host_access.md STAGE +0x0004 [28:16] WO. Items 1 to 4,096. Under R58, 0 fails the set with E_ZERO, and a value above 4,096 fails it with E_RANGE detail -/
def STAGE_COMMIT_COUNT : Fld := ⟨42, 2, 0x4, 1, 0, 1, 0, 28, 16, .wo, 0, .num, true, false, .any⟩
/-- 02_host_access.md STAGE +0x0004 [15:0] WO. Shall equal the open TXN -/
def STAGE_COMMIT_TXN : Fld := ⟨43, 2, 0x4, 1, 0, 1, 0, 15, 0, .wo, 0, .num, true, false, .any⟩
/-- 02_host_access.md STAGE +0x0008 [31:0] RW. Target FRAME_NO for AT_EN -/
def STAGE_AT : Fld := ⟨44, 2, 0x8, 1, 0, 1, 0, 31, 0, .rw, 0, .num, true, false, .any⟩
/-- 02_host_access.md STAGE +0x000C [15:0] WO. Discards the open or waiting set whose TXN it carries, without a result error; OK is reported. Checked under R -/
def STAGE_ABORT_TXN : Fld := ⟨45, 2, 0xC, 1, 0, 1, 0, 15, 0, .wo, 0, .num, true, false, .any⟩
/-- 02_host_access.md STAGE +0x0010 [19:18] RO. 0 PF0, 1 PF1, 2 CSPI; valid when STATE is not 0 -/
def STAGE_STAT_OWNER : Fld := ⟨46, 2, 0x10, 1, 0, 1, 0, 19, 18, .ro, 0, .num, false, true, .any⟩
/-- 02_host_access.md STAGE +0x0010 [17:16] RO. 0 free, 1 open, 2 committed and waiting -/
def STAGE_STAT_STATE : Fld := ⟨47, 2, 0x10, 1, 0, 1, 0, 17, 16, .ro, 0, .num, false, false, .any⟩
/-- 02_host_access.md STAGE +0x0010 [15:0] RO. TXN the next open shall carry -/
def STAGE_STAT_NEXT_TXN : Fld := ⟨48, 2, 0x10, 1, 0, 1, 0, 15, 0, .ro, 0, .num, false, false, .any⟩
/-- 02_host_access.md STAGE +0x0014 [31:24] RO. Detail, per R47 -/
def STAGE_RESULT_DETAIL : Fld := ⟨49, 2, 0x14, 1, 0, 1, 0, 31, 24, .ro, 0, .num, false, false, .any⟩
/-- 02_host_access.md STAGE +0x0014 [23:16] RO. Code, per R47 -/
def STAGE_RESULT_CODE : Fld := ⟨50, 2, 0x14, 1, 0, 1, 0, 23, 16, .ro, 0, .num, false, false, .any⟩
/-- 02_host_access.md STAGE +0x0014 [15:0] RO. The set this result belongs to -/
def STAGE_RESULT_TXN : Fld := ⟨51, 2, 0x14, 1, 0, 1, 0, 15, 0, .ro, 0, .num, false, false, .any⟩
/-- 02_host_access.md STAGE +0x0018 [13:13] RO. 1 when the error concerns no single item -/
def STAGE_RESULT_IDX_WHOLE : Fld := ⟨52, 2, 0x18, 1, 0, 1, 0, 13, 13, .ro, 0, .num, false, false, .any⟩
/-- 02_host_access.md STAGE +0x0018 [12:0] RO. Lowest offending index -/
def STAGE_RESULT_IDX_INDEX : Fld := ⟨53, 2, 0x18, 1, 0, 1, 0, 12, 0, .ro, 0, .num, false, false, .any⟩
/-- 02_host_access.md STAGE +0x001C [31:0] RO. FRAME_NO of the frame that began at the boundary where the set was applied or rejected. For a set that failed  -/
def STAGE_RESULT_FRAME : Fld := ⟨54, 2, 0x1C, 1, 0, 1, 0, 31, 0, .ro, 0, .num, false, false, .any⟩
/-- 02_host_access.md STAGE +0x1000 [21:0] RW. BAR0 byte offset of item i, i from 0 to 4,095 -/
def ITEM_ADDR : Fld := ⟨55, 2, 0x1000, 4096, 8, 1, 0, 21, 0, .rw, 0, .num, true, false, .any⟩
/-- 02_host_access.md STAGE +0x1004 [31:0] RW. Value of item i -/
def ITEM_DATA : Fld := ⟨56, 2, 0x1004, 4096, 8, 1, 0, 31, 0, .rw, 0, .num, true, false, .any⟩
/-- The fields of the STAGE window. -/
def all : List Fld :=
  [STAGE_OPEN_TXN, STAGE_COMMIT_LATE_OK, STAGE_COMMIT_AT_EN, STAGE_COMMIT_COUNT, STAGE_COMMIT_TXN, STAGE_AT, STAGE_ABORT_TXN, STAGE_STAT_OWNER, STAGE_STAT_STATE, STAGE_STAT_NEXT_TXN, STAGE_RESULT_DETAIL, STAGE_RESULT_CODE, STAGE_RESULT_TXN, STAGE_RESULT_IDX_WHOLE, STAGE_RESULT_IDX_INDEX, STAGE_RESULT_FRAME, ITEM_ADDR, ITEM_DATA]
end R.STAGE
namespace R.TB
/-- 03_clocks_timebase.md TB +0x0000 [31:0] RO. TB_NS32 at the instant of the read. 0 at power-up. nRESET does not reset it, because TB keeps counting under R -/
def TB_NS32 : Fld := ⟨57, 3, 0x0, 1, 0, 1, 0, 31, 0, .ro, 0, .strap, false, false, .any⟩
/-- 03_clocks_timebase.md TB +0x0004 [7:7] RO. TB_RATE is held at a limit -/
def RATE_LIM : Fld := ⟨58, 3, 0x4, 1, 0, 1, 0, 7, 7, .ro, 0, .num, false, false, .any⟩
/-- 03_clocks_timebase.md TB +0x0004 [6:6] RO. Copy of the snapshot header bit -/
def TIME_SUSPECT : Fld := ⟨59, 3, 0x4, 1, 0, 1, 0, 6, 6, .ro, 1, .num, false, false, .any⟩
/-- 03_clocks_timebase.md TB +0x0004 [5:5] RO. One or more PLLs are in holdover -/
def HOLDOVER : Fld := ⟨60, 3, 0x4, 1, 0, 1, 0, 5, 5, .ro, 0, .num, false, false, .any⟩
/-- 03_clocks_timebase.md TB +0x0004 [4:4] RO. REFCLK is present and within tolerance -/
def ROOT_OK : Fld := ⟨61, 3, 0x4, 1, 0, 1, 0, 4, 4, .ro, 0, .num, false, false, .any⟩
/-- 03_clocks_timebase.md TB +0x0004 [3:3] RO. PLL_S locked -/
def PLL_S_LOCK : Fld := ⟨62, 3, 0x4, 1, 0, 1, 0, 3, 3, .ro, 0, .num, false, false, .any⟩
/-- 03_clocks_timebase.md TB +0x0004 [2:2] RO. PLL_N locked -/
def PLL_N_LOCK : Fld := ⟨63, 3, 0x4, 1, 0, 1, 0, 2, 2, .ro, 0, .num, false, false, .any⟩
/-- 03_clocks_timebase.md TB +0x0004 [1:1] RO. PLL_T locked -/
def PLL_T_LOCK : Fld := ⟨64, 3, 0x4, 1, 0, 1, 0, 1, 1, .ro, 0, .num, false, false, .any⟩
/-- 03_clocks_timebase.md TB +0x0004 [0:0] RO. The Deckle is emitting boundaries -/
def DECKLE_RUN : Fld := ⟨65, 3, 0x4, 1, 0, 1, 0, 0, 0, .ro, 0, .num, false, false, .any⟩
/-- 03_clocks_timebase.md TB +0x0008 [31:0] RW. Signed rate correction in 2^−8 ppb, −128,000,000 to +128,000,000. Direct. Taken at the next boundary under R79 -/
def TB_RATE : Fld := ⟨66, 3, 0x8, 1, 0, 1, 0, 31, 0, .rw, 0, .ka, true, false, (.int (-128000000) (128000000))⟩
/-- 03_clocks_timebase.md TB +0x000C [31:0] RO. Live PTP seconds, bits [31:0] -/
def TOD_SEC_LO : Fld := ⟨67, 3, 0xC, 1, 0, 1, 0, 31, 0, .ro, 0, .num, false, false, .any⟩
/-- 03_clocks_timebase.md TB +0x0010 [31:0] RO. Live PTP seconds, bits [63:32] -/
def TOD_SEC_HI : Fld := ⟨68, 3, 0x10, 1, 0, 1, 0, 31, 0, .ro, 0, .num, false, false, .any⟩
/-- 03_clocks_timebase.md TB +0x0014 [31:0] RO. Live TB_NS32 at the start of TOD_SEC -/
def TOD_REF_NS32 : Fld := ⟨69, 3, 0x14, 1, 0, 1, 0, 31, 0, .ro, 0, .num, false, false, .any⟩
/-- 03_clocks_timebase.md TB +0x0020 [17:0] RW. Frame length in tbc, 10,000 to 200,000, under R86 and R87. 25,000 until a Ream is activated. A staged write is -/
def TF : Fld := ⟨70, 3, 0x20, 1, 0, 1, 0, 17, 0, .rw, 25000, .ream, false, false, (.nat 10000 200000 false)⟩
/-- 03_clocks_timebase.md TB +0x0024 [4:4] RO. 1 while DECKLE_TF differs from the TF of the active Ream, under R87 -/
def TF_OVR : Fld := ⟨71, 3, 0x24, 1, 0, 1, 0, 4, 4, .ro, 0, .num, false, false, .any⟩
/-- 03_clocks_timebase.md TB +0x0024 [3:1] RW. tbc added or removed per frame under R88, 0 to 4; 0 means no correction in frame-synchronous modes -/
def ALIGN_SLEW : Fld := ⟨72, 3, 0x24, 1, 0, 1, 0, 3, 1, .rw, 0, .ream, false, false, (.nat 0 4 false)⟩
/-- 03_clocks_timebase.md TB +0x0024 [0:0] RW. 1 keeps the grid on the PTP second -/
def ALIGN_EN : Fld := ⟨73, 3, 0x24, 1, 0, 1, 0, 0, 0, .rw, 0, .ream, false, false, .any⟩
/-- 03_clocks_timebase.md TB +0x0028 [31:0] RO. Signed grid error at the last boundary, in q -/
def GRID_ERR : Fld := ⟨74, 3, 0x28, 1, 0, 1, 0, 31, 0, .ro, 0, .num, false, false, .any⟩
/-- 03_clocks_timebase.md TB +0x002C [31:0] RO. FRAME_NO at the instant of the read -/
def FRAME_NO_LIVE : Fld := ⟨75, 3, 0x2C, 1, 0, 1, 0, 31, 0, .ro, 0, .num, false, false, .any⟩
/-- 03_clocks_timebase.md TB +0x0030 [15:0] RC. Frames ended early under R89, saturated at 65,535 -/
def DECKLE_IRREG : Fld := ⟨76, 3, 0x30, 1, 0, 1, 0, 15, 0, .rc, 0, .num, false, false, .any⟩
/-- 03_clocks_timebase.md TB +0x0034 [13:0] RO. One bit per domain, in the row order of R73 from ROOT at bit 0 to SAFE at bit 13. A bit is 1 while its domain  -/
def DOMAIN_OK : Fld := ⟨77, 3, 0x34, 1, 0, 1, 0, 13, 0, .ro, 0, .num, false, false, .any⟩
/-- 03_clocks_timebase.md TB +0x0038 [2:2] RW. Spread on GD; changed only in IDLE and TEST -/
def SSC_GD : Fld := ⟨78, 3, 0x38, 1, 0, 1, 0, 2, 2, .rw, 1, .num, false, false, .any⟩
/-- 03_clocks_timebase.md TB +0x0038 [1:1] RW. Spread on NVM; changed only in IDLE and TEST -/
def SSC_NVM : Fld := ⟨79, 3, 0x38, 1, 0, 1, 0, 1, 1, .rw, 1, .num, false, false, .any⟩
/-- 03_clocks_timebase.md TB +0x0038 [0:0] RW. Spread on SYS; changed only in IDLE and TEST -/
def SSC_SYS : Fld := ⟨80, 3, 0x38, 1, 0, 1, 0, 0, 0, .rw, 1, .num, false, false, .any⟩
/-- 03_clocks_timebase.md TB +0x003C [9:0] RW. Holdover time in ms before instance 2, 1 to 1,000. Zero is rejected with E_ZERO. -/
def HOLD_MS : Fld := ⟨81, 3, 0x3C, 1, 0, 1, 0, 9, 0, .rw, 100, .num, false, false, (.nat 1 1000 true)⟩
/-- 03_clocks_timebase.md TB +0x0040 [31:0] RO. Signed deviation of ROOT from nominal, in ppb, as the servo's rate implies; 0 while no time source is locked -/
def ROOT_DEV : Fld := ⟨82, 3, 0x40, 1, 0, 1, 0, 31, 0, .ro, 0, .num, false, false, .any⟩
/-- 03_clocks_timebase.md TB +0x0044 [17:0] RO. Length in tbc of the frame that ended at the last boundary. At the first boundary after the Deckle starts, the -/
def TF_LAST : Fld := ⟨83, 3, 0x44, 1, 0, 1, 0, 17, 0, .ro, 0, .num, false, false, .any⟩
/-- The fields of the TB window. -/
def all : List Fld :=
  [TB_NS32, RATE_LIM, TIME_SUSPECT, HOLDOVER, ROOT_OK, PLL_S_LOCK, PLL_N_LOCK, PLL_T_LOCK, DECKLE_RUN, TB_RATE, TOD_SEC_LO, TOD_SEC_HI, TOD_REF_NS32, TF, TF_OVR, ALIGN_SLEW, ALIGN_EN, GRID_ERR, FRAME_NO_LIVE, DECKLE_IRREG, DOMAIN_OK, SSC_GD, SSC_NVM, SSC_SYS, HOLD_MS, ROOT_DEV, TF_LAST]
end R.TB
namespace R.REAM
/-- 04_ream_image.md REAM +0x0000 [7:7] RO. A REAM_CMD is running -/
def CMD_BUSY : Fld := ⟨84, 4, 0x0, 1, 0, 1, 0, 7, 7, .ro, 0, .num, false, false, .any⟩
/-- 04_ream_image.md REAM +0x0000 [6:6] W1C. Active slot failed a scrub or VERIFY under R118 or R119 -/
def SCRUB_ERR : Fld := ⟨85, 4, 0x0, 1, 0, 1, 0, 6, 6, .w1c, 0, .num, true, false, .any⟩
/-- 04_ream_image.md REAM +0x0000 [5:5] RO. BOOT activated the non-preferred slot -/
def FALLBACK : Fld := ⟨86, 4, 0x0, 1, 0, 1, 0, 5, 5, .ro, 0, .num, false, false, .any⟩
/-- 04_ream_image.md REAM +0x0000 [4:4] RO. An activation is scheduled -/
def SWAP_PEND : Fld := ⟨87, 4, 0x0, 1, 0, 1, 0, 4, 4, .ro, 0, .num, false, false, .any⟩
/-- 04_ream_image.md REAM +0x0000 [3:2] RO. Preferred slot: 0 none, 1 A, 2 B -/
def PREF : Fld := ⟨88, 4, 0x0, 1, 0, 1, 0, 3, 2, .ro, 0, .num, false, false, .any⟩
/-- 04_ream_image.md REAM +0x0000 [1:0] RO. Active slot: 0 none, 1 A, 2 B -/
def ACTIVE : Fld := ⟨89, 4, 0x0, 1, 0, 1, 0, 1, 0, .ro, 0, .num, false, false, .any⟩
/-- 04_ream_image.md REAM +0x0004 [13:8] RO. Lowest accepted SEC_VER -/
def SEC_VER_MIN : Fld := ⟨90, 4, 0x4, 1, 0, 1, 0, 13, 8, .ro, 0, .fuses, false, false, .any⟩
/-- 04_ream_image.md REAM +0x0004 [7:4] RO. One bit per key slot -/
def KEY_REVOKED : Fld := ⟨91, 4, 0x4, 1, 0, 1, 0, 7, 4, .ro, 0, .fuses, false, false, .any⟩
/-- 04_ream_image.md REAM +0x0004 [3:0] RO. One bit per programmed key slot -/
def KEY_PROG : Fld := ⟨92, 4, 0x4, 1, 0, 1, 0, 3, 0, .ro, 0, .fuses, false, false, .any⟩
/-- 04_ream_image.md REAM +0x0010 [31:24] RO. Detail of the last check of this slot -/
def SLOT_LAST_DETAIL : Fld := ⟨93, 4, 0x10, 2, 16, 1, 0, 31, 24, .ro, 0, .num, false, false, .any⟩
/-- 04_ream_image.md REAM +0x0010 [23:16] RO. Code of the last check of this slot -/
def SLOT_LAST_CODE : Fld := ⟨94, 4, 0x10, 2, 16, 1, 0, 23, 16, .ro, 0, .num, false, false, .any⟩
/-- 04_ream_image.md REAM +0x0010 [7:7] RO. This slot is scheduled for activation -/
def SLOT_SWAP_PEND : Fld := ⟨95, 4, 0x10, 2, 16, 1, 0, 7, 7, .ro, 0, .num, false, false, .any⟩
/-- 04_ream_image.md REAM +0x0010 [6:6] RO. This slot is preferred -/
def SLOT_PREF : Fld := ⟨96, 4, 0x10, 2, 16, 1, 0, 6, 6, .ro, 0, .num, false, false, .any⟩
/-- 04_ream_image.md REAM +0x0010 [5:4] RO. Class against the active image under R120; 3 when not computed -/
def SLOT_CLASS : Fld := ⟨97, 4, 0x10, 2, 16, 1, 0, 5, 4, .ro, 3, .num, false, false, .any⟩
/-- 04_ream_image.md REAM +0x0010 [2:0] RO. 0 EMPTY, 1 WRITING, 3 VERIFIED, 4 ACTIVE, 5 INVALID -/
def SLOT_STATE : Fld := ⟨98, 4, 0x10, 2, 16, 1, 0, 2, 0, .ro, 0, .num, false, false, .any⟩
/-- 04_ream_image.md REAM +0x0014 [23:0] RO. Image length in bytes; 0 when not recorded -/
def SLOT_LENGTH : Fld := ⟨99, 4, 0x14, 2, 16, 1, 0, 23, 0, .ro, 0, .num, false, false, .any⟩
/-- 04_ream_image.md REAM +0x0018 [31:0] RO. IMAGE_ID of the recorded image -/
def SLOT_IMAGE_ID : Fld := ⟨100, 4, 0x18, 2, 16, 1, 0, 31, 0, .ro, 0, .num, false, false, .any⟩
/-- 04_ream_image.md REAM +0x001C [15:8] RO. COMPAT_CLASS of the recorded image -/
def SLOT_DECL_CLASS : Fld := ⟨101, 4, 0x1C, 2, 16, 1, 0, 15, 8, .ro, 0, .num, false, false, .any⟩
/-- 04_ream_image.md REAM +0x001C [7:0] RO. SEC_VER of the recorded image -/
def SLOT_SEC_VER : Fld := ⟨102, 4, 0x1C, 2, 16, 1, 0, 7, 0, .ro, 0, .num, false, false, .any⟩
/-- 04_ream_image.md REAM +0x0040 [4:4] WO. 0 A, 1 B -/
def CMD_SLOT : Fld := ⟨103, 4, 0x40, 1, 0, 1, 0, 4, 4, .wo, 0, .num, true, false, .any⟩
/-- 04_ream_image.md REAM +0x0040 [3:0] WO. 1 ERASE, 2 PROGRAM, 3 VERIFY, 4 SET_PREF; 0 and other values are rejected with E_RANGE, under R110 to R113 -/
def CMD_OPCODE : Fld := ⟨104, 4, 0x40, 1, 0, 1, 0, 3, 0, .wo, 0, .num, true, false, .any⟩
/-- 04_ream_image.md REAM +0x0044 [22:0] RW. Slot byte offset for PROGRAM, a multiple of 256 -/
def CMD_OFF : Fld := ⟨105, 4, 0x44, 1, 0, 1, 0, 22, 0, .rw, 0, .num, true, false, .any⟩
/-- 04_ream_image.md REAM +0x0048 [15:0] RW. Bytes for PROGRAM, 4 to 32,768 as 0x0004 to 0x8000; 0 is rejected with E_ZERO -/
def CMD_LEN : Fld := ⟨106, 4, 0x48, 1, 0, 1, 0, 15, 0, .rw, 0, .num, true, false, (.nat 4 32768 true)⟩
/-- 04_ream_image.md REAM +0x004C [11:8] RO. OP of the last command -/
def CMD_OP : Fld := ⟨107, 4, 0x4C, 1, 0, 1, 0, 11, 8, .ro, 0, .num, false, false, .any⟩
/-- 04_ream_image.md REAM +0x004C [7:4] RO. 0 none; 1 flash operation exceeded 2 s; 2 flash program or erase error; 3 abandoned for orderly stop; 4 image  -/
def CMD_FAIL : Fld := ⟨108, 4, 0x4C, 1, 0, 1, 0, 7, 4, .ro, 0, .num, false, false, .any⟩
/-- 04_ream_image.md REAM +0x004C [1:0] RO. 0 idle, 1 busy, 2 done, 3 failed -/
def CMD_STATE : Fld := ⟨109, 4, 0x4C, 1, 0, 1, 0, 1, 0, .ro, 0, .num, false, false, .any⟩
/-- 04_ream_image.md REAM +0x0050 [4:4] WO. Cancels the pending swap under R124. GO and CANCEL both 1 is rejected with E_RANGE. -/
def CANCEL : Fld := ⟨110, 4, 0x50, 1, 0, 1, 0, 4, 4, .wo, 0, .num, true, false, .any⟩
/-- 04_ream_image.md REAM +0x0050 [3:3] WO. Late target taken at the third boundary -/
def LATE_OK : Fld := ⟨111, 4, 0x50, 1, 0, 1, 0, 3, 3, .wo, 0, .num, true, false, .any⟩
/-- 04_ream_image.md REAM +0x0050 [2:2] WO. Activate at frame REAM_SWAP_AT -/
def AT_EN : Fld := ⟨112, 4, 0x50, 1, 0, 1, 0, 2, 2, .wo, 0, .num, true, false, .any⟩
/-- 04_ream_image.md REAM +0x0050 [1:1] WO. 0 A, 1 B -/
def SWAP_SLOT : Fld := ⟨113, 4, 0x50, 1, 0, 1, 0, 1, 1, .wo, 0, .num, true, false, .any⟩
/-- 04_ream_image.md REAM +0x0050 [0:0] WO. Requests activation under R122 and R123 -/
def GO : Fld := ⟨114, 4, 0x50, 1, 0, 1, 0, 0, 0, .wo, 0, .num, true, false, .any⟩
/-- 04_ream_image.md REAM +0x0054 [31:0] RW. Target FRAME_NO -/
def SWAP_AT : Fld := ⟨115, 4, 0x54, 1, 0, 1, 0, 31, 0, .rw, 0, .num, true, false, .any⟩
/-- 04_ream_image.md REAM +0x0058 [31:24] RO. Detail, under R47 and R115 -/
def RES_DETAIL : Fld := ⟨116, 4, 0x58, 1, 0, 1, 0, 31, 24, .ro, 0, .num, false, false, .any⟩
/-- 04_ream_image.md REAM +0x0058 [23:16] RO. Code, under R47 -/
def RES_CODE : Fld := ⟨117, 4, 0x58, 1, 0, 1, 0, 23, 16, .ro, 0, .num, false, false, .any⟩
/-- 04_ream_image.md REAM +0x0058 [12:12] RO. Slot concerned -/
def RES_SLOT : Fld := ⟨118, 4, 0x58, 1, 0, 1, 0, 12, 12, .ro, 0, .num, false, false, .any⟩
/-- 04_ream_image.md REAM +0x0058 [11:8] RO. 1 BOOT load, 2 VERIFY, 3 activation, 4 cancelled -/
def RES_OP : Fld := ⟨119, 4, 0x58, 1, 0, 1, 0, 11, 8, .ro, 0, .num, false, false, .any⟩
/-- 04_ream_image.md REAM +0x005C [31:31] RO. OFFSET applies to this result -/
def RES_OFF_VALID : Fld := ⟨120, 4, 0x5C, 1, 0, 1, 0, 31, 31, .ro, 0, .num, false, false, .any⟩
/-- 04_ream_image.md REAM +0x005C [23:0] RO. Byte offset in the image of the first offending field -/
def RES_OFFSET : Fld := ⟨121, 4, 0x5C, 1, 0, 1, 0, 23, 0, .ro, 0, .num, false, false, .any⟩
/-- 04_ream_image.md REAM +0x0060 [31:0] RO. FRAME_NO of the frame that began at the boundary of the result; for VERIFY, the frame in which it ended -/
def RESULT_FRAME : Fld := ⟨122, 4, 0x60, 1, 0, 1, 0, 31, 0, .ro, 0, .num, false, false, .any⟩
/-- 04_ream_image.md REAM +0x0070 [31:0] RO. Structure digest -/
def ACTIVE_STRUCT_DIGEST : Fld := ⟨123, 4, 0x70, 12, 4, 1, 0, 31, 0, .ro, 0, .num, false, false, .any⟩
/-- 04_ream_image.md REAM +0x00A0 [31:0] RO. Map digest -/
def ACTIVE_MAP_DIGEST : Fld := ⟨124, 4, 0xA0, 12, 4, 1, 0, 31, 0, .ro, 0, .num, false, false, .any⟩
/-- 04_ream_image.md REAM +0x00D0 [31:0] RO. Image digest -/
def ACTIVE_IMAGE_DIGEST : Fld := ⟨125, 4, 0xD0, 12, 4, 1, 0, 31, 0, .ro, 0, .num, false, false, .any⟩
/-- 04_ream_image.md REAM +0x8000 [31:0] RW. 32 KiB transfer buffer for PROGRAM -/
def REAM_XFER : Fld := ⟨126, 4, 0x8000, 8192, 4, 1, 0, 31, 0, .rw, 0, .num, true, false, .any⟩
/-- The fields of the REAM window. -/
def all : List Fld :=
  [CMD_BUSY, SCRUB_ERR, FALLBACK, SWAP_PEND, PREF, ACTIVE, SEC_VER_MIN, KEY_REVOKED, KEY_PROG, SLOT_LAST_DETAIL, SLOT_LAST_CODE, SLOT_SWAP_PEND, SLOT_PREF, SLOT_CLASS, SLOT_STATE, SLOT_LENGTH, SLOT_IMAGE_ID, SLOT_DECL_CLASS, SLOT_SEC_VER, CMD_SLOT, CMD_OPCODE, CMD_OFF, CMD_LEN, CMD_OP, CMD_FAIL, CMD_STATE, CANCEL, LATE_OK, AT_EN, SWAP_SLOT, GO, SWAP_AT, RES_DETAIL, RES_CODE, RES_SLOT, RES_OP, RES_OFF_VALID, RES_OFFSET, RESULT_FRAME, ACTIVE_STRUCT_DIGEST] ++
  [ACTIVE_MAP_DIGEST, ACTIVE_IMAGE_DIGEST, REAM_XFER]
end R.REAM
namespace R.MODE
/-- 05_modes_startup.md MODE +0x0000 [23:16] RO. 0 power-up, 1 host request, 2 sequence complete, 3 reaction, 4 time limit, 5 thermal, 6 partner, 7 grid monito -/
def ENTRY_CAUSE : Fld := ⟨127, 5, 0x0, 1, 0, 1, 0, 23, 16, .ro, 0, .num, false, false, .any⟩
/-- 05_modes_startup.md MODE +0x0000 [11:8] RO. Return mode of RIDE_THROUGH; 0 otherwise -/
def RET_MODE : Fld := ⟨128, 5, 0x0, 1, 0, 1, 0, 11, 8, .ro, 0, .num, false, false, .any⟩
/-- 05_modes_startup.md MODE +0x0000 [7:4] RO. Previous mode -/
def PREV : Fld := ⟨129, 5, 0x0, 1, 0, 1, 0, 7, 4, .ro, 0, .num, false, false, .any⟩
/-- 05_modes_startup.md MODE +0x0000 [3:0] RO. Mode in force, under R133 -/
def STATE : Fld := ⟨130, 5, 0x0, 1, 0, 1, 0, 3, 0, .ro, 1, .num, false, false, .any⟩
/-- 05_modes_startup.md MODE +0x0004 [3:0] RW. Requested mode under R138 and R139. PF1: STOPPING and SAFE only. Reads the last request. -/
def TARGET : Fld := ⟨131, 5, 0x4, 1, 0, 1, 0, 3, 0, .rw, 0, .num, false, true, .any⟩
/-- 05_modes_startup.md MODE +0x0008 [31:24] RO. Detail of the last request's outcome -/
def REQ_DETAIL : Fld := ⟨132, 5, 0x8, 1, 0, 1, 0, 31, 24, .ro, 0, .num, false, false, .any⟩
/-- 05_modes_startup.md MODE +0x0008 [23:16] RO. Code of the last request's outcome, under R47 -/
def REQ_CODE : Fld := ⟨133, 5, 0x8, 1, 0, 1, 0, 23, 16, .ro, 0, .num, false, false, .any⟩
/-- 05_modes_startup.md MODE +0x0008 [5:4] RO. Servo seed of R153: 0 retention, 1 flash, 2 none -/
def RATE_SEED : Fld := ⟨134, 5, 0x8, 1, 0, 1, 0, 5, 4, .ro, 0, .num, false, false, .any⟩
/-- 05_modes_startup.md MODE +0x0008 [3:2] RO. 0 not in PRECHARGE, 1 cell phase, 2 LV phase -/
def PRE_PHASE : Fld := ⟨135, 5, 0x8, 1, 0, 1, 0, 3, 2, .ro, 0, .num, false, false, .any⟩
/-- 05_modes_startup.md MODE +0x0008 [1:1] RO. Every synchronisation criterion held in the last frame -/
def SYNC_OK : Fld := ⟨136, 5, 0x8, 1, 0, 1, 0, 1, 1, .ro, 0, .num, false, false, .any⟩
/-- 05_modes_startup.md MODE +0x0008 [0:0] RO. Plausibility warm-up in force -/
def PLAUS_WARM : Fld := ⟨137, 5, 0x8, 1, 0, 1, 0, 0, 0, .ro, 0, .num, false, false, .any⟩
/-- 05_modes_startup.md MODE +0x000C [31:0] RO. Frames of the present mode, with the frame that began at entry counted as 1, saturated at 2^32 − 1 -/
def MODE_FRAMES : Fld := ⟨138, 5, 0xC, 1, 0, 1, 0, 31, 0, .ro, 0, .num, false, false, .any⟩
/-- 05_modes_startup.md MODE +0x0010 [15:0] RC. Transitions taken, saturated at 65,535 -/
def TRANS_CNT : Fld := ⟨139, 5, 0x10, 1, 0, 1, 0, 15, 0, .rc, 0, .num, false, false, .any⟩
/-- 05_modes_startup.md MODE +0x0020 [9:0] RW. Cell phase level, 500 to 1,000 in 0.1 % of nominal cell voltage -/
def PRE_CELL_MIN : Fld := ⟨140, 5, 0x20, 1, 0, 1, 0, 9, 0, .rw, 0, .ream, false, false, (.nat 500 1000 true)⟩
/-- 05_modes_startup.md MODE +0x0024 [9:0] RW. LV phase level, 500 to 1,000 in 0.1 % of nominal LV bus -/
def PRE_LV_MIN : Fld := ⟨141, 5, 0x24, 1, 0, 1, 0, 9, 0, .rw, 0, .ream, false, false, (.nat 500 1000 true)⟩
/-- 05_modes_startup.md MODE +0x0028 [9:0] RW. Spread limit, 1 to 200 in 0.1 % of nominal cell voltage -/
def PRE_SPREAD : Fld := ⟨142, 5, 0x28, 1, 0, 1, 0, 9, 0, .rw, 0, .ream, false, false, (.nat 1 200 true)⟩
/-- 05_modes_startup.md MODE +0x002C [15:0] RW. 1 to 65,535 frames -/
def SYNC_HOLD : Fld := ⟨143, 5, 0x2C, 1, 0, 1, 0, 15, 0, .rw, 0, .ream, false, false, (.nat 1 65535 true)⟩
/-- 05_modes_startup.md MODE +0x0030 [13:0] RW. 10 to 10,000 ms -/
def RT_MAX : Fld := ⟨144, 5, 0x30, 1, 0, 1, 0, 13, 0, .rw, 0, .ream, false, false, (.nat 10 10000 true)⟩
/-- 05_modes_startup.md MODE +0x0034 [15:0] RW. 1 to 65,535 frames -/
def RT_RECOVER : Fld := ⟨145, 5, 0x34, 1, 0, 1, 0, 15, 0, .rw, 0, .ream, false, false, (.nat 1 65535 true)⟩
/-- 05_modes_startup.md MODE +0x0038 [13:0] RW. 10 to 10,000 ms -/
def STOP_MAX : Fld := ⟨146, 5, 0x38, 1, 0, 1, 0, 13, 0, .rw, 0, .ream, false, false, (.nat 10 10000 true)⟩
/-- 05_modes_startup.md MODE +0x003C [10:0] RW. 10 to 200 V -/
def TEST_VMAX : Fld := ⟨147, 5, 0x3C, 1, 0, 1, 0, 10, 0, .rw, 0, .ream, false, false, (.nat 10 200 true)⟩
/-- 05_modes_startup.md MODE +0x0040 [10:10] RO. nRESET is edge-sensed under R147 -/
def NRST_MASKED : Fld := ⟨148, 5, 0x40, 1, 0, 1, 0, 10, 10, .ro, 0, .num, false, false, .any⟩
/-- 05_modes_startup.md MODE +0x0040 [9:9] W1C. nRESET was judged stuck; direct -/
def RST_STUCK : Fld := ⟨149, 5, 0x40, 1, 0, 1, 0, 9, 9, .w1c, 0, .num, true, false, .any⟩
/-- 05_modes_startup.md MODE +0x0040 [8:8] RO. Retention passed R143 at the last BOOT -/
def RET_VALID : Fld := ⟨150, 5, 0x40, 1, 0, 1, 0, 8, 8, .ro, 0, .num, false, false, .any⟩
/-- 05_modes_startup.md MODE +0x0040 [7:0] RO. 0x01 power-up without valid retention, 0x02 wake from BACKUP, 0x03 nRESET, 0x04 nRESET stuck, 0x05 supervisor  -/
def LAST_CAUSE : Fld := ⟨151, 5, 0x40, 1, 0, 1, 0, 7, 0, .ro, 0, .ka, false, false, .any⟩
/-- 05_modes_startup.md MODE +0x0044 [31:0] RO. KA cycles, bits [31:0] -/
def KA_CNT_LO : Fld := ⟨152, 5, 0x44, 1, 0, 1, 0, 31, 0, .ro, 0, .ka, false, false, .any⟩
/-- 05_modes_startup.md MODE +0x0048 [15:0] RO. KA cycles, bits [47:32] -/
def KA_CNT_HI : Fld := ⟨153, 5, 0x48, 1, 0, 1, 0, 15, 0, .ro, 0, .ka, false, false, .any⟩
/-- 05_modes_startup.md MODE +0x004C [31:0] RO. Retention BACKUP_KA, bits [31:0] -/
def BACKUP_KA_LO : Fld := ⟨154, 5, 0x4C, 1, 0, 1, 0, 31, 0, .ro, 0, .ka, false, false, .any⟩
/-- 05_modes_startup.md MODE +0x0050 [15:0] RO. Retention BACKUP_KA, bits [47:32] -/
def BACKUP_KA_HI : Fld := ⟨155, 5, 0x50, 1, 0, 1, 0, 15, 0, .ro, 0, .ka, false, false, .any⟩
/-- 05_modes_startup.md MODE +0x0054 [15:0] RO. Boots since retention was last cleared, saturated at 65,535 -/
def BOOT_CNT : Fld := ⟨156, 5, 0x54, 1, 0, 1, 0, 15, 0, .ro, 0, .ka, false, false, .any⟩
/-- 05_modes_startup.md MODE +0x0060 [31:0] RW. Host retention words; direct; written to retention at once -/
def RET_USER : Fld := ⟨157, 5, 0x60, 8, 4, 1, 0, 31, 0, .rw, 0, .ka, true, false, .any⟩
/-- 19_electrical_package.md MODE +0x0200 [9:8] RW. DBG_TDO, under R520 -/
def SLEW_TDO : Fld := ⟨158, 5, 0x200, 1, 0, 1, 0, 9, 8, .rw, 1, .num, false, false, .any⟩
/-- 19_electrical_package.md MODE +0x0200 [7:6] RW. CSPI_IO0 to CSPI_IO3 when driven -/
def SLEW_CSPI : Fld := ⟨159, 5, 0x200, 1, 0, 1, 0, 7, 6, .rw, 2, .num, false, false, .any⟩
/-- 19_electrical_package.md MODE +0x0200 [5:4] RW. PPS_OUT; 0 and 1 are rejected with E_RANGE -/
def SLEW_PPS : Fld := ⟨160, 5, 0x200, 1, 0, 1, 0, 5, 4, .rw, 3, .num, false, false, (.nat 2 3 false)⟩
/-- 19_electrical_package.md MODE +0x0200 [3:2] RW. HB_OUT -/
def SLEW_HB : Fld := ⟨161, 5, 0x200, 1, 0, 1, 0, 3, 2, .rw, 1, .num, false, false, .any⟩
/-- 19_electrical_package.md MODE +0x0200 [1:0] RW. SIG_OK -/
def SLEW_SIGOK : Fld := ⟨162, 5, 0x200, 1, 0, 1, 0, 1, 0, .rw, 0, .num, false, false, .any⟩
/-- 19_electrical_package.md MODE +0x0204 [28:24] RW. IRIG_IN, 0 to 13 (at most 500 µs) -/
def FILT_IRIG : Fld := ⟨163, 5, 0x204, 1, 0, 1, 0, 28, 24, .rw, 8, .num, false, false, (.nat 0 13 false)⟩
/-- 19_electrical_package.md MODE +0x0204 [20:16] RW. PPS_IN, 0 to 17 -/
def FILT_PPS : Fld := ⟨164, 5, 0x204, 1, 0, 1, 0, 20, 16, .rw, 2, .num, false, false, (.nat 0 17 false)⟩
/-- 19_electrical_package.md MODE +0x0204 [12:8] RW. DRV_EN, 0 to 17 -/
def FILT_DRVEN : Fld := ⟨165, 5, 0x204, 1, 0, 1, 0, 12, 8, .rw, 5, .num, false, false, (.nat 0 17 false)⟩
/-- 19_electrical_package.md MODE +0x0204 [4:0] RW. HB_IN, 0 to 9 (at most 20 µs) -/
def FILT_HBIN : Fld := ⟨166, 5, 0x204, 1, 0, 1, 0, 4, 0, .rw, 5, .num, false, false, (.nat 0 9 false)⟩
/-- The fields of the MODE window. -/
def all : List Fld :=
  [ENTRY_CAUSE, RET_MODE, PREV, STATE, TARGET, REQ_DETAIL, REQ_CODE, RATE_SEED, PRE_PHASE, SYNC_OK, PLAUS_WARM, MODE_FRAMES, TRANS_CNT, PRE_CELL_MIN, PRE_LV_MIN, PRE_SPREAD, SYNC_HOLD, RT_MAX, RT_RECOVER, STOP_MAX, TEST_VMAX, NRST_MASKED, RST_STUCK, RET_VALID, LAST_CAUSE, KA_CNT_LO, KA_CNT_HI, BACKUP_KA_LO, BACKUP_KA_HI, BOOT_CNT, RET_USER, SLEW_TDO, SLEW_CSPI, SLEW_PPS, SLEW_HB, SLEW_SIGOK, FILT_IRIG, FILT_PPS, FILT_DRVEN, FILT_HBIN]
end R.MODE
namespace R.FELT
/-- 06_felt_links.md FELT +0x0000 [30:30] RO. The felt sheet sets PAIR -/
def PAIR : Fld := ⟨167, 6, 0x0, 1, 0, 1, 0, 30, 30, .ro, 0, .ream, false, false, .any⟩
/-- 06_felt_links.md FELT +0x0000 [29:29] RO. R21 failed in the last frame -/
def FEAS_FAIL : Fld := ⟨168, 6, 0x0, 1, 0, 1, 0, 29, 29, .ro, 0, .num, false, false, .any⟩
/-- 06_felt_links.md FELT +0x0000 [28:28] RO. Own epoch superseded since the last activation -/
def SUPERSEDED : Fld := ⟨169, 6, 0x0, 1, 0, 1, 0, 28, 28, .ro, 0, .num, false, false, .any⟩
/-- 06_felt_links.md FELT +0x0000 [27:12] RO. Bit n set while LFn is UP -/
def LF_UP : Fld := ⟨170, 6, 0x0, 1, 0, 1, 0, 27, 12, .ro, 0, .num, false, false, .any⟩
/-- 06_felt_links.md FELT +0x0000 [11:6] RO. Bit r set while FRr is in SINGLE -/
def RING_SINGLE : Fld := ⟨171, 6, 0x0, 1, 0, 1, 0, 11, 6, .ro, 0, .num, false, false, .any⟩
/-- 06_felt_links.md FELT +0x0000 [5:0] RO. Bit r set while FRr is in READY or SINGLE -/
def RING_OK : Fld := ⟨172, 6, 0x0, 1, 0, 1, 0, 5, 0, .ro, 0, .num, false, false, .any⟩
/-- 06_felt_links.md FELT +0x0004 [31:16] RO. Highest epoch echoed by any cell in the last frame -/
def MAX_ECHO : Fld := ⟨173, 6, 0x4, 1, 0, 1, 0, 31, 16, .ro, 0, .num, false, false, .any⟩
/-- 06_felt_links.md FELT +0x0004 [15:0] RO. Epoch this module posts with -/
def OWN_EPOCH : Fld := ⟨174, 6, 0x4, 1, 0, 1, 0, 15, 0, .ro, 0, .num, false, false, .any⟩
/-- 06_felt_links.md FELT +0x0010 [3:0] RW. 2 to 15 frames; sent to every node by MGT at the boundary of application -/
def CELL_LINK_TIMEOUT : Fld := ⟨175, 6, 0x10, 1, 0, 1, 0, 3, 0, .rw, 0, .ream, false, false, (.nat 2 15 false)⟩
/-- 06_felt_links.md FELT +0x0010 [15:8] RW. 4 to 255 frames -/
def CAL_SETTLE : Fld := ⟨176, 6, 0x10, 1, 0, 1, 0, 15, 8, .rw, 0, .ream, false, false, (.nat 4 255 false)⟩
/-- 06_felt_links.md FELT +0x0014 [7:0] RW. 2 to 64 q -/
def ASYM_THR : Fld := ⟨177, 6, 0x14, 1, 0, 1, 0, 7, 0, .rw, 0, .ream, false, false, (.nat 2 64 false)⟩
/-- 06_felt_links.md FELT +0x0014 [15:8] RW. 4 to 255 q -/
def SEG_STEP_THR : Fld := ⟨178, 6, 0x14, 1, 0, 1, 0, 15, 8, .rw, 0, .ream, false, false, (.nat 4 255 false)⟩
/-- 06_felt_links.md FELT +0x0014 [31:16] RW. 4 to 4,000 q -/
def LAT_TOL : Fld := ⟨179, 6, 0x14, 1, 0, 1, 0, 31, 16, .rw, 0, .ream, false, false, (.nat 4 4000 false)⟩
/-- 06_felt_links.md FELT +0x0018 [15:0] RW. 1 to 65,535 per second -/
def ERR_THR : Fld := ⟨180, 6, 0x18, 1, 0, 1, 0, 15, 0, .rw, 0, .ream, false, false, (.nat 1 65535 false)⟩
/-- 06_felt_links.md FELT +0x0100 [20:20] RO. Asymmetry supervision suspended under R175 -/
def RING_UNSUPERVISED : Fld := ⟨181, 6, 0x100, 6, 64, 1, 0, 20, 20, .ro, 0, .num, false, false, .any⟩
/-- 06_felt_links.md FELT +0x0100 [19:14] RO. Segment in TRUST -/
def RING_ASYM_SEG : Fld := ⟨182, 6, 0x100, 6, 64, 1, 0, 19, 14, .ro, 0, .num, false, false, .any⟩
/-- 06_felt_links.md FELT +0x0100 [13:13] RO. HOLD in force -/
def RING_HOLD : Fld := ⟨183, 6, 0x100, 6, 64, 1, 0, 13, 13, .ro, 0, .num, false, false, .any⟩
/-- 06_felt_links.md FELT +0x0100 [12:12] RO. ASYM_ACTIVE in force -/
def RING_ASYM_ACTIVE : Fld := ⟨184, 6, 0x100, 6, 64, 1, 0, 12, 12, .ro, 0, .num, false, false, .any⟩
/-- 06_felt_links.md FELT +0x0100 [11:11] RO. West-going marker valid in the last frame -/
def RING_WEST_OK : Fld := ⟨185, 6, 0x100, 6, 64, 1, 0, 11, 11, .ro, 0, .num, false, false, .any⟩
/-- 06_felt_links.md FELT +0x0100 [10:10] RO. East-going marker valid in the last frame -/
def RING_EAST_OK : Fld := ⟨186, 6, 0x100, 6, 64, 1, 0, 10, 10, .ro, 0, .num, false, false, .any⟩
/-- 06_felt_links.md FELT +0x0100 [9:4] RO. Measured hop count -/
def RING_HOPS : Fld := ⟨187, 6, 0x100, 6, 64, 1, 0, 9, 4, .ro, 0, .num, false, false, .any⟩
/-- 06_felt_links.md FELT +0x0100 [3:3] RO. Open chain -/
def RING_OPEN : Fld := ⟨188, 6, 0x100, 6, 64, 1, 0, 3, 3, .ro, 0, .ream, false, false, .any⟩
/-- 06_felt_links.md FELT +0x0100 [2:0] RO. 0 DOWN, 1 TRAIN, 2 DISCOVER, 3 CALIBRATE, 4 READY, 5 SINGLE, 6 RELAY -/
def RING_STATE : Fld := ⟨189, 6, 0x100, 6, 64, 1, 0, 2, 0, .ro, 0, .num, false, false, .any⟩
/-- 06_felt_links.md FELT +0x0104 [23:0] RO. East loop time, q -/
def RING_LOOP_E : Fld := ⟨190, 6, 0x104, 6, 64, 1, 0, 23, 0, .ro, 0, .num, false, false, .any⟩
/-- 06_felt_links.md FELT +0x0108 [23:0] RO. West loop time, q -/
def RING_LOOP_W : Fld := ⟨191, 6, 0x108, 6, 64, 1, 0, 23, 0, .ro, 0, .num, false, false, .any⟩
/-- 06_felt_links.md FELT +0x010C [31:0] RO. Signed ρ − ρ_ref, 1/16 q -/
def RING_RHO : Fld := ⟨192, 6, 0x10C, 6, 64, 1, 0, 31, 0, .ro, 0, .num, false, false, .any⟩
/-- 06_felt_links.md FELT +0x0110 [23:0] RO. Declared L1 under R190, q -/
def RING_L1_DECL : Fld := ⟨193, 6, 0x110, 6, 64, 1, 0, 23, 0, .ro, 0, .ream, false, false, .any⟩
/-- 06_felt_links.md FELT +0x0114 [31:16] RO. UP_CUT, ns -/
def RING_UP_CUT : Fld := ⟨194, 6, 0x114, 6, 64, 1, 0, 31, 16, .ro, 0, .ream, false, false, .any⟩
/-- 06_felt_links.md FELT +0x0114 [15:0] RO. Arrival of the last valid measurement block, ns after the boundary -/
def RING_UP_LAST : Fld := ⟨195, 6, 0x114, 6, 64, 1, 0, 15, 0, .ro, 0, .num, false, false, .any⟩
/-- 06_felt_links.md FELT +0x0118 [31:16] RC. Discarded blocks and markers on FRr_W, saturated -/
def RING_CRC_W : Fld := ⟨196, 6, 0x118, 6, 64, 1, 0, 31, 16, .rc, 0, .num, false, false, .any⟩
/-- 06_felt_links.md FELT +0x0118 [15:0] RC. As above, FRr_E -/
def RING_CRC_E : Fld := ⟨197, 6, 0x118, 6, 64, 1, 0, 15, 0, .rc, 0, .num, false, false, .any⟩
/-- 06_felt_links.md FELT +0x011C [31:16] RC. Code violations on FRr_W, saturated -/
def RING_CODE_W : Fld := ⟨198, 6, 0x11C, 6, 64, 1, 0, 31, 16, .rc, 0, .num, false, false, .any⟩
/-- 06_felt_links.md FELT +0x011C [15:0] RC. As above, FRr_E -/
def RING_CODE_E : Fld := ⟨199, 6, 0x11C, 6, 64, 1, 0, 15, 0, .rc, 0, .num, false, false, .any⟩
/-- 06_felt_links.md FELT +0x0120 [31:16] RC. Frames without a valid west-going marker -/
def RING_BROKEN_W : Fld := ⟨200, 6, 0x120, 6, 64, 1, 0, 31, 16, .rc, 0, .num, false, false, .any⟩
/-- 06_felt_links.md FELT +0x0120 [15:0] RC. Frames without a valid east-going marker -/
def RING_BROKEN_E : Fld := ⟨201, 6, 0x120, 6, 64, 1, 0, 15, 0, .rc, 0, .num, false, false, .any⟩
/-- 06_felt_links.md FELT +0x0124 [31:0] RO. Signed located change, 1/16 q -/
def RING_ASYM_DELTA : Fld := ⟨202, 6, 0x124, 6, 64, 1, 0, 31, 0, .ro, 0, .num, false, false, .any⟩
/-- 06_felt_links.md FELT +0x0128 [1:1] WO. Direct; under R176 -/
def RING_ASYM_CLR : Fld := ⟨203, 6, 0x128, 6, 64, 1, 0, 1, 1, .wo, 0, .num, true, false, .any⟩
/-- 06_felt_links.md FELT +0x0128 [0:0] WO. Direct; accepted in IDLE and TEST only, otherwise E_MODE -/
def RING_RETRAIN : Fld := ⟨204, 6, 0x128, 6, 64, 1, 0, 0, 0, .wo, 0, .num, true, false, .any⟩
/-- 06_felt_links.md FELT +0x012C [15:0] W1C. Bit e set when instance 16 × r + e was raised -/
def RING_EVENTS : Fld := ⟨205, 6, 0x12C, 6, 64, 1, 0, 15, 0, .w1c, 0, .num, true, false, .any⟩
/-- 06_felt_links.md FELT +0x0400 [2:2] RO. A slot is mapped to LFn -/
def LF_USED : Fld := ⟨206, 6, 0x400, 16, 16, 1, 0, 2, 2, .ro, 0, .ream, false, false, .any⟩
/-- 06_felt_links.md FELT +0x0400 [1:0] RO. 0 DOWN, 1 TRAIN, 2 CALIBRATE, 3 UP -/
def LF_STATE : Fld := ⟨207, 6, 0x400, 16, 16, 1, 0, 1, 0, .ro, 0, .num, false, false, .any⟩
/-- 06_felt_links.md FELT +0x0404 [23:0] RO. Round trip, q -/
def LF_RTT : Fld := ⟨208, 6, 0x404, 16, 16, 1, 0, 23, 0, .ro, 0, .num, false, false, .any⟩
/-- 06_felt_links.md FELT +0x0408 [31:16] RC. Code violations -/
def LF_CODE : Fld := ⟨209, 6, 0x408, 16, 16, 1, 0, 31, 16, .rc, 0, .num, false, false, .any⟩
/-- 06_felt_links.md FELT +0x0408 [15:0] RC. Discarded blocks and markers -/
def LF_CRC : Fld := ⟨210, 6, 0x408, 16, 16, 1, 0, 15, 0, .rc, 0, .num, false, false, .any⟩
/-- 06_felt_links.md FELT +0x040C [3:0] W1C. Bit g set when instance 96 + 4 × n + g was raised -/
def LF_EVENTS : Fld := ⟨211, 6, 0x40C, 16, 16, 1, 0, 3, 0, .w1c, 0, .num, true, false, .any⟩
/-- 06_felt_links.md FELT +0x1000 [23:0] RO. RTT(s), q -/
def SEG_RTT : Fld := ⟨212, 6, 0x1000, 6, 256, 50, 4, 23, 0, .ro, 0, .num, false, false, .any⟩
/-- The fields of the FELT window. -/
def all : List Fld :=
  [PAIR, FEAS_FAIL, SUPERSEDED, LF_UP, RING_SINGLE, RING_OK, MAX_ECHO, OWN_EPOCH, CELL_LINK_TIMEOUT, CAL_SETTLE, ASYM_THR, SEG_STEP_THR, LAT_TOL, ERR_THR, RING_UNSUPERVISED, RING_ASYM_SEG, RING_HOLD, RING_ASYM_ACTIVE, RING_WEST_OK, RING_EAST_OK, RING_HOPS, RING_OPEN, RING_STATE, RING_LOOP_E, RING_LOOP_W, RING_RHO, RING_L1_DECL, RING_UP_CUT, RING_UP_LAST, RING_CRC_W, RING_CRC_E, RING_CODE_W, RING_CODE_E, RING_BROKEN_W, RING_BROKEN_E, RING_ASYM_DELTA, RING_ASYM_CLR, RING_RETRAIN, RING_EVENTS, LF_USED] ++
  [LF_STATE, LF_RTT, LF_CODE, LF_CRC, LF_EVENTS, SEG_RTT]
end R.FELT
namespace R.CELL
/-- 06_felt_links.md CELL +0x0000 [31:16] RO. Last echoed epoch -/
def ECHO_EPOCH : Fld := ⟨213, 7, 0x0, 144, 64, 1, 0, 31, 16, .ro, 0, .num, false, false, .any⟩
/-- 06_felt_links.md CELL +0x0000 [15:8] RO. Consecutive frames without a valid block by UP_CUT, saturated -/
def MISS_RUN : Fld := ⟨214, 7, 0x0, 144, 64, 1, 0, 15, 8, .ro, 0, .num, false, false, .any⟩
/-- 06_felt_links.md CELL +0x0000 [3:3] RO. Timing direction last reported -/
def TIME_DIR : Fld := ⟨215, 7, 0x0, 144, 64, 1, 0, 3, 3, .ro, 0, .num, false, false, .any⟩
/-- 06_felt_links.md CELL +0x0000 [2:2] RO. Stale in the last frame under R16 -/
def STALE : Fld := ⟨216, 7, 0x0, 144, 64, 1, 0, 2, 2, .ro, 0, .num, false, false, .any⟩
/-- 06_felt_links.md CELL +0x0000 [1:0] RO. Valid copies in the last frame: 0 none, 1 east, 2 west, 3 both -/
def PATH : Fld := ⟨217, 7, 0x0, 144, 64, 1, 0, 1, 0, .ro, 0, .num, false, false, .any⟩
/-- 06_felt_links.md CELL +0x0004 [31:0] RO. Last BT_DIFF, sign-extended, 1/16 q -/
def BT_DIFF : Fld := ⟨218, 7, 0x4, 144, 64, 1, 0, 31, 0, .ro, 0, .num, false, false, .any⟩
/-- 06_felt_links.md CELL +0x0008 [31:16] RO. q -/
def RES_W : Fld := ⟨219, 7, 0x8, 144, 64, 1, 0, 31, 16, .ro, 0, .num, false, false, .any⟩
/-- 06_felt_links.md CELL +0x0008 [15:0] RO. q -/
def RES_E : Fld := ⟨220, 7, 0x8, 144, 64, 1, 0, 15, 0, .ro, 0, .num, false, false, .any⟩
/-- 06_felt_links.md CELL +0x000C [31:16] RC. Commands executed after withdraw, under R187 -/
def WDR_EXEC : Fld := ⟨221, 7, 0xC, 144, 64, 1, 0, 31, 16, .rc, 0, .num, false, false, .any⟩
/-- 06_felt_links.md CELL +0x000C [15:0] RC. Late commands reported, under R187 -/
def LATE : Fld := ⟨222, 7, 0xC, 144, 64, 1, 0, 15, 0, .rc, 0, .num, false, false, .any⟩
/-- 06_felt_links.md CELL +0x0010 [31:16] RC. West-going copies discarded -/
def CRC_W : Fld := ⟨223, 7, 0x10, 144, 64, 1, 0, 31, 16, .rc, 0, .num, false, false, .any⟩
/-- 06_felt_links.md CELL +0x0010 [15:0] RC. East-going copies discarded -/
def CRC_E : Fld := ⟨224, 7, 0x10, 144, 64, 1, 0, 15, 0, .rc, 0, .num, false, false, .any⟩
/-- 06_felt_links.md CELL +0x0014 [31:16] RC. Copies discarded after UP_CUT -/
def LATE_UP : Fld := ⟨225, 7, 0x14, 144, 64, 1, 0, 31, 16, .rc, 0, .num, false, false, .any⟩
/-- 06_felt_links.md CELL +0x0014 [15:0] RC. Frames without any valid copy -/
def MISS : Fld := ⟨226, 7, 0x14, 144, 64, 1, 0, 15, 0, .rc, 0, .num, false, false, .any⟩
/-- 06_felt_links.md CELL +0x0018 [15:0] RC. Frames counted for instance e = 15 -/
def EXEC_MISMATCH : Fld := ⟨227, 7, 0x18, 144, 64, 1, 0, 15, 0, .rc, 0, .num, false, false, .any⟩
/-- 06_felt_links.md CELL +0x001C [15:10] RO. Mapped hop -/
def HOP : Fld := ⟨228, 7, 0x1C, 144, 64, 1, 0, 15, 10, .ro, 0, .ream, false, false, .any⟩
/-- 06_felt_links.md CELL +0x001C [9:6] RO. Ring or Gen1 link -/
def LINK : Fld := ⟨229, 7, 0x1C, 144, 64, 1, 0, 9, 6, .ro, 0, .ream, false, false, .any⟩
/-- 06_felt_links.md CELL +0x001C [5:4] RO. 0 unused, 1 ring, 2 Gen1 -/
def LINK_KIND : Fld := ⟨230, 7, 0x1C, 144, 64, 1, 0, 5, 4, .ro, 0, .ream, false, false, .any⟩
/-- 07_cell_node_contract.md CELL +0x0020 [31:16] RO. As reported, under R211 -/
def LOCAL_FAULT : Fld := ⟨231, 7, 0x20, 144, 64, 1, 0, 31, 16, .ro, 0, .num, false, false, .any⟩
/-- 07_cell_node_contract.md CELL +0x0020 [15:8] RO. As reported, under R202 -/
def EVENT : Fld := ⟨232, 7, 0x20, 144, 64, 1, 0, 15, 8, .ro, 0, .num, false, false, .any⟩
/-- 07_cell_node_contract.md CELL +0x0020 [7:0] RO. As reported, under R194 -/
def CELL_STATE : Fld := ⟨233, 7, 0x20, 144, 64, 1, 0, 7, 0, .ro, 0, .num, false, false, .any⟩
/-- 07_cell_node_contract.md CELL +0x0024 [31:16] RO. Raw, 0.01 A -/
def IAC : Fld := ⟨234, 7, 0x24, 144, 64, 1, 0, 31, 16, .ro, 0, .num, false, false, .any⟩
/-- 07_cell_node_contract.md CELL +0x0024 [15:0] RO. Raw, 0.05 V -/
def VCAP : Fld := ⟨235, 7, 0x24, 144, 64, 1, 0, 15, 0, .ro, 0, .num, false, false, .any⟩
/-- 07_cell_node_contract.md CELL +0x0028 [31:16] RO. Raw, 0.05 V -/
def VDAB : Fld := ⟨236, 7, 0x28, 144, 64, 1, 0, 31, 16, .ro, 0, .num, false, false, .any⟩
/-- 07_cell_node_contract.md CELL +0x0028 [15:0] RO. Raw, 0.02 A -/
def IDAB : Fld := ⟨237, 7, 0x28, 144, 64, 1, 0, 15, 0, .ro, 0, .num, false, false, .any⟩
/-- 07_cell_node_contract.md CELL +0x002C [31:16] RO. Raw, 1/16 °C -/
def T_AUX : Fld := ⟨238, 7, 0x2C, 144, 64, 1, 0, 31, 16, .ro, 0, .num, false, false, .any⟩
/-- 07_cell_node_contract.md CELL +0x002C [15:0] RO. Raw, 1/16 °C -/
def T_HS : Fld := ⟨239, 7, 0x2C, 144, 64, 1, 0, 15, 0, .ro, 0, .num, false, false, .any⟩
/-- 07_cell_node_contract.md CELL +0x0030 [31:0] RO. As reported -/
def EXEC_CRC : Fld := ⟨240, 7, 0x30, 144, 64, 1, 0, 31, 0, .ro, 0, .num, false, false, .any⟩
/-- 07_cell_node_contract.md CELL +0x0034 [31:0] RO. Node word +0x0000 as read in DISCOVER -/
def NODE_ID : Fld := ⟨241, 7, 0x34, 144, 64, 1, 0, 31, 0, .ro, 0, .num, false, false, .any⟩
/-- 07_cell_node_contract.md CELL +0x0038 [31:16] RC. Entries to BYPASS seen in reports, saturated at 65,535 -/
def BYP_ENTRIES : Fld := ⟨242, 7, 0x38, 144, 64, 1, 0, 31, 16, .rc, 0, .num, false, false, .any⟩
/-- 07_cell_node_contract.md CELL +0x0038 [15:0] RC. Reports of NO_CMD, saturated at 65,535 -/
def NO_CMD : Fld := ⟨243, 7, 0x38, 144, 64, 1, 0, 15, 0, .rc, 0, .num, false, false, .any⟩
/-- 07_cell_node_contract.md CELL +0x003C [31:16] WO. LOCAL_FAULT bits for the node's FAULT_CLR -/
def CLR_MASK : Fld := ⟨244, 7, 0x3C, 144, 64, 1, 0, 31, 16, .wo, 0, .num, true, false, .any⟩
/-- 07_cell_node_contract.md CELL +0x003C [15:8] RO. 0 none, 1 pending, 2 acknowledged, 3 refused, 4 no answer -/
def CLR_RESULT : Fld := ⟨245, 7, 0x3C, 144, 64, 1, 0, 15, 8, .ro, 0, .num, false, false, .any⟩
/-- 07_cell_node_contract.md CELL +0x003C [0:0] WO. 1 sends FAULT_CLR with CLR_MASK to the cell in the next frame -/
def CLR_GO : Fld := ⟨246, 7, 0x3C, 144, 64, 1, 0, 0, 0, .wo, 0, .num, true, false, .any⟩
/-- The fields of the CELL window. -/
def all : List Fld :=
  [ECHO_EPOCH, MISS_RUN, TIME_DIR, STALE, PATH, BT_DIFF, RES_W, RES_E, WDR_EXEC, LATE, CRC_W, CRC_E, LATE_UP, MISS, EXEC_MISMATCH, HOP, LINK, LINK_KIND, LOCAL_FAULT, EVENT, CELL_STATE, IAC, VCAP, VDAB, IDAB, T_AUX, T_HS, EXEC_CRC, NODE_ID, BYP_ENTRIES, NO_CMD, CLR_MASK, CLR_RESULT, CLR_GO]
end R.CELL
namespace R.MOD
/-- 08_cascade_modulation.md MOD +0x0000 [23:18] RO. Bit s: string s clamped in the last frame -/
def SAT : Fld := ⟨247, 8, 0x0, 1, 0, 1, 0, 23, 18, .ro, 0, .num, false, false, .any⟩
/-- 08_cascade_modulation.md MOD +0x0000 [17:12] RO. Bit s: cold string s has no SPARE -/
def NO_SPARE : Fld := ⟨248, 8, 0x0, 1, 0, 1, 0, 17, 12, .ro, 0, .num, false, false, .any⟩
/-- 08_cascade_modulation.md MOD +0x0000 [11:6] RO. Bit s: string s has a slot in PARK -/
def PARKING : Fld := ⟨249, 8, 0x0, 1, 0, 1, 0, 11, 6, .ro, 0, .num, false, false, .any⟩
/-- 08_cascade_modulation.md MOD +0x0000 [5:0] RO. Bit s: string s was posted its law in the last frame -/
def LAW_ON : Fld := ⟨250, 8, 0x0, 1, 0, 1, 0, 5, 0, .ro, 0, .num, false, false, .any⟩
/-- 08_cascade_modulation.md MOD +0x0010 [31:0] RW. Under R241 and R242; sent to the nodes by MGT at the boundary of application -/
def DAB_PER : Fld := ⟨251, 8, 0x10, 1, 0, 1, 0, 31, 0, .rw, 0, .ream, false, false, .any⟩
/-- 08_cascade_modulation.md MOD +0x0014 [31:16] RW. q, under R242 -/
def MIN_PULSE : Fld := ⟨252, 8, 0x14, 1, 0, 1, 0, 31, 16, .rw, 0, .ream, false, false, (.nat 400 65535 false)⟩
/-- 08_cascade_modulation.md MOD +0x0014 [15:0] RW. q, 40 to 16,000; sent to the nodes -/
def DT_CELL : Fld := ⟨253, 8, 0x14, 1, 0, 1, 0, 15, 0, .rw, 0, .ream, false, false, (.nat 40 16000 false)⟩
/-- 08_cascade_modulation.md MOD +0x0018 [31:16] RW. ms, 0 to 60,000; sent to the nodes -/
def BYP_MECH_DELAY : Fld := ⟨254, 8, 0x18, 1, 0, 1, 0, 31, 16, .rw, 0, .ream, false, false, (.nat 0 60000 false)⟩
/-- 08_cascade_modulation.md MOD +0x0018 [13:0] RW. ms, 0 to 10,000; sent to the nodes -/
def BYP_ALT : Fld := ⟨255, 8, 0x18, 1, 0, 1, 0, 13, 0, .rw, 0, .ream, false, false, (.nat 0 10000 false)⟩
/-- 08_cascade_modulation.md MOD +0x001C [25:16] RW. ms, 10 to 1,000; sent to the nodes -/
def MECH_OPEN_MAX : Fld := ⟨256, 8, 0x1C, 1, 0, 1, 0, 25, 16, .rw, 0, .ream, false, false, (.nat 10 1000 false)⟩
/-- 08_cascade_modulation.md MOD +0x001C [0:0] RW. Sent to the nodes with MECH_FITTED -/
def MECH_EN : Fld := ⟨257, 8, 0x1C, 1, 0, 1, 0, 0, 0, .rw, 0, .ream, false, false, .any⟩
/-- 08_cascade_modulation.md MOD +0x0020 [17:8] RW. 1 to 200 -/
def RET_BAND : Fld := ⟨258, 8, 0x20, 1, 0, 1, 0, 17, 8, .rw, 0, .ream, false, false, (.nat 1 200 false)⟩
/-- 08_cascade_modulation.md MOD +0x0020 [7:0] RW. 1 to 255 frames -/
def RET_SETTLE : Fld := ⟨259, 8, 0x20, 1, 0, 1, 0, 7, 0, .rw, 0, .ream, false, false, (.nat 1 255 false)⟩
/-- 08_cascade_modulation.md MOD +0x0024 [31:16] RW. 16,384 to 32,768 -/
def M_MAX : Fld := ⟨260, 8, 0x24, 1, 0, 1, 0, 31, 16, .rw, 0, .ream, false, false, (.nat 16384 32768 false)⟩
/-- 08_cascade_modulation.md MOD +0x0024 [15:0] RW. 10 to 60,000 ms -/
def RET_TIMEOUT : Fld := ⟨261, 8, 0x24, 1, 0, 1, 0, 15, 0, .rw, 0, .ream, false, false, (.nat 10 60000 false)⟩
/-- 08_cascade_modulation.md MOD +0x0028 [19:0] RW. q, under R242 -/
def D1_MAX : Fld := ⟨262, 8, 0x28, 1, 0, 1, 0, 19, 0, .rw, 0, .ream, false, false, (.nat 1 262143 false)⟩
/-- 08_cascade_modulation.md MOD +0x002C [31:16] RW. Under R241; sent to the nodes -/
def T_MAX : Fld := ⟨263, 8, 0x2C, 1, 0, 1, 0, 31, 16, .rw, 0, .ream, false, false, .any⟩
/-- 08_cascade_modulation.md MOD +0x002C [15:0] RW. Under R241; sent to the nodes -/
def VCAP_OVP : Fld := ⟨264, 8, 0x2C, 1, 0, 1, 0, 15, 0, .rw, 0, .ream, false, false, .any⟩
/-- 08_cascade_modulation.md MOD +0x0030 [14:12] RW. 0 none, 1 to 3 under R240; 4 to 7 rejected with E_RANGE -/
def TEST_PAT : Fld := ⟨265, 8, 0x30, 1, 0, 1, 0, 14, 12, .rw, 0, .num, true, false, (.nat 0 3 false)⟩
/-- 08_cascade_modulation.md MOD +0x0030 [11:10] RW. 0 OFF, 1 P, 2 N -/
def TEST_B : Fld := ⟨266, 8, 0x30, 1, 0, 1, 0, 11, 10, .rw, 0, .num, true, false, (.nat 0 2 false)⟩
/-- 08_cascade_modulation.md MOD +0x0030 [9:8] RW. 0 OFF, 1 P, 2 N -/
def TEST_A : Fld := ⟨267, 8, 0x30, 1, 0, 1, 0, 9, 8, .rw, 0, .num, true, false, (.nat 0 2 false)⟩
/-- 08_cascade_modulation.md MOD +0x0030 [7:0] RW. 0 to 143, or 255 for every mapped slot -/
def TEST_SLOT : Fld := ⟨268, 8, 0x30, 1, 0, 1, 0, 7, 0, .rw, 0, .num, true, false, .any⟩
/-- 08_cascade_modulation.md MOD +0x0034 [15:0] RW. Signed, 1/32,768 -/
def TEST_M : Fld := ⟨269, 8, 0x34, 1, 0, 1, 0, 15, 0, .rw, 0, .num, true, false, .any⟩
/-- 08_cascade_modulation.md MOD +0x0038 [19:0] RW. Signed, q -/
def TEST_D1 : Fld := ⟨270, 8, 0x38, 1, 0, 1, 0, 19, 0, .rw, 0, .num, true, false, .any⟩
/-- 08_cascade_modulation.md MOD +0x003C [1:1] WO. Ends the pattern at the next boundary -/
def TEST_STOP : Fld := ⟨271, 8, 0x3C, 1, 0, 1, 0, 1, 1, .wo, 0, .num, true, false, .any⟩
/-- 08_cascade_modulation.md MOD +0x003C [0:0] WO. Starts the pattern under R240; both bits 1 is rejected with E_RANGE -/
def TEST_GO : Fld := ⟨272, 8, 0x3C, 1, 0, 1, 0, 0, 0, .wo, 0, .num, true, false, .any⟩
/-- 08_cascade_modulation.md MOD +0x0100 [29:24] RO. Usable cells under R219 -/
def STR_USABLE : Fld := ⟨273, 8, 0x100, 6, 64, 1, 0, 29, 24, .ro, 0, .num, false, false, .any⟩
/-- 08_cascade_modulation.md MOD +0x0100 [21:16] RO. From the topology sheet -/
def STR_NEEDED : Fld := ⟨274, 8, 0x100, 6, 64, 1, 0, 21, 16, .ro, 0, .ream, false, false, .any⟩
/-- 08_cascade_modulation.md MOD +0x0100 [13:8] RO. ACTIVE cells -/
def STR_NA : Fld := ⟨275, 8, 0x100, 6, 64, 1, 0, 13, 8, .ro, 0, .num, false, false, .any⟩
/-- 08_cascade_modulation.md MOD +0x0100 [2:2] RO. From HOT_MASK -/
def STR_HOT : Fld := ⟨276, 8, 0x100, 6, 64, 1, 0, 2, 2, .ro, 0, .ream, false, false, .any⟩
/-- 08_cascade_modulation.md MOD +0x0100 [1:0] RO. 0 PSC, 1 NLM -/
def STR_METHOD : Fld := ⟨277, 8, 0x100, 6, 64, 1, 0, 1, 0, .ro, 0, .ream, false, false, .any⟩
/-- 08_cascade_modulation.md MOD +0x0104 [31:0] RW. Under R228 and R242 -/
def STR_CAR_PER : Fld := ⟨278, 8, 0x104, 6, 64, 1, 0, 31, 0, .rw, 0, .ream, false, false, .any⟩
/-- 08_cascade_modulation.md MOD +0x0108 [15:0] RW. 0.05 V -/
def STR_VCELL_NOM : Fld := ⟨279, 8, 0x108, 6, 64, 1, 0, 15, 0, .rw, 0, .ream, false, false, (.nat 0 65534 false)⟩
/-- 08_cascade_modulation.md MOD +0x010C [31:0] RO. POS_s at the last boundary, 1/256 q -/
def STR_CAR_POS : Fld := ⟨280, 8, 0x10C, 6, 64, 1, 0, 31, 0, .ro, 0, .num, false, false, .any⟩
/-- 08_cascade_modulation.md MOD +0x0110 [31:0] RO. V_s* of the last frame, binary32 -/
def STR_VREF : Fld := ⟨281, 8, 0x110, 6, 64, 1, 0, 31, 0, .ro, 0, .num, false, false, .any⟩
/-- 08_cascade_modulation.md MOD +0x0114 [31:0] RO. VSUM_s of the last frame, binary32 -/
def STR_VSUM : Fld := ⟨282, 8, 0x114, 6, 64, 1, 0, 31, 0, .ro, 0, .num, false, false, .any⟩
/-- 08_cascade_modulation.md MOD +0x0118 [7:0] RO. Signed L_s of the last frame, NLM only -/
def STR_LEVEL : Fld := ⟨283, 8, 0x118, 6, 64, 1, 0, 7, 0, .ro, 0, .num, false, false, .any⟩
/-- 08_cascade_modulation.md MOD +0x011C [31:16] RC. Edges removed under R227 -/
def STR_TRIM_CNT : Fld := ⟨284, 8, 0x11C, 6, 64, 1, 0, 31, 16, .rc, 0, .num, false, false, .any⟩
/-- 08_cascade_modulation.md MOD +0x011C [15:0] RC. Frames clamped under R225 or R229 -/
def STR_SAT_CNT : Fld := ⟨285, 8, 0x11C, 6, 64, 1, 0, 15, 0, .rc, 0, .num, false, false, .any⟩
/-- 08_cascade_modulation.md MOD +0x0120 [31:16] RC. Frames with a DAB clamp under R239 -/
def STR_DSAT_CNT : Fld := ⟨286, 8, 0x120, 6, 64, 1, 0, 31, 16, .rc, 0, .num, false, false, .any⟩
/-- 08_cascade_modulation.md MOD +0x0120 [15:0] RC. Boundaries at which R224 changed a shift -/
def STR_REASSIGN_CNT : Fld := ⟨287, 8, 0x120, 6, 64, 1, 0, 15, 0, .rc, 0, .num, false, false, .any⟩
/-- 08_cascade_modulation.md MOD +0x1000 [23:16] RO. Consecutive frames within the band under R233, saturated at 255 -/
def SLOT_IN_BAND : Fld := ⟨288, 8, 0x1000, 144, 16, 1, 0, 23, 16, .ro, 0, .num, false, false, .any⟩
/-- 08_cascade_modulation.md MOD +0x1000 [13:8] RO. j under R224; 0 when not ACTIVE -/
def SLOT_PHASE_IDX : Fld := ⟨289, 8, 0x1000, 144, 16, 1, 0, 13, 8, .ro, 0, .num, false, false, .any⟩
/-- 08_cascade_modulation.md MOD +0x1000 [2:0] RO. Under R218 -/
def SLOT_ROLE : Fld := ⟨290, 8, 0x1000, 144, 16, 1, 0, 2, 0, .ro, 0, .num, false, false, .any⟩
/-- 08_cascade_modulation.md MOD +0x1004 [31:0] RO. m_c of the last frame, binary32 -/
def SLOT_M : Fld := ⟨291, 8, 0x1004, 144, 16, 1, 0, 31, 0, .ro, 0, .num, false, false, .any⟩
/-- 08_cascade_modulation.md MOD +0x1008 [1:1] WO. Direct; under R236 -/
def SLOT_RET_REQ : Fld := ⟨292, 8, 0x1008, 144, 16, 1, 0, 1, 1, .wo, 0, .num, true, false, .any⟩
/-- 08_cascade_modulation.md MOD +0x1008 [0:0] WO. Direct; under R236 -/
def SLOT_OUT_REQ : Fld := ⟨293, 8, 0x1008, 144, 16, 1, 0, 0, 0, .wo, 0, .num, true, false, .any⟩
/-- 08_cascade_modulation.md MOD +0x100C [31:0] RO. SHIFT_c, 1/256 q -/
def SLOT_SHIFT : Fld := ⟨294, 8, 0x100C, 144, 16, 1, 0, 31, 0, .ro, 0, .num, false, false, .any⟩
/-- The fields of the MOD window. -/
def all : List Fld :=
  [SAT, NO_SPARE, PARKING, LAW_ON, DAB_PER, MIN_PULSE, DT_CELL, BYP_MECH_DELAY, BYP_ALT, MECH_OPEN_MAX, MECH_EN, RET_BAND, RET_SETTLE, M_MAX, RET_TIMEOUT, D1_MAX, T_MAX, VCAP_OVP, TEST_PAT, TEST_B, TEST_A, TEST_SLOT, TEST_M, TEST_D1, TEST_STOP, TEST_GO, STR_USABLE, STR_NEEDED, STR_NA, STR_HOT, STR_METHOD, STR_CAR_PER, STR_VCELL_NOM, STR_CAR_POS, STR_VREF, STR_VSUM, STR_LEVEL, STR_TRIM_CNT, STR_SAT_CNT, STR_DSAT_CNT] ++
  [STR_REASSIGN_CNT, SLOT_IN_BAND, SLOT_PHASE_IDX, SLOT_ROLE, SLOT_M, SLOT_RET_REQ, SLOT_OUT_REQ, SLOT_SHIFT]
end R.MOD
namespace R.CAL
/-- 09_calender_balancing.md CAL +0x0000 [30:30] RO. V0 or I_CIRC clamped in the last frame -/
def INTER_SAT : Fld := ⟨295, 9, 0x0, 1, 0, 1, 0, 30, 30, .ro, 0, .num, false, false, .any⟩
/-- 09_calender_balancing.md CAL +0x0000 [29:24] RO. Bit s: spread count of string s at or above SPREAD_FRAMES -/
def SPREAD_ALM : Fld := ⟨296, 9, 0x0, 1, 0, 1, 0, 29, 24, .ro, 0, .num, false, false, .any⟩
/-- 09_calender_balancing.md CAL +0x0000 [23:18] RO. Bit s: an offset of string s clamped in the last frame -/
def OFS_SAT : Fld := ⟨297, 9, 0x0, 1, 0, 1, 0, 23, 18, .ro, 0, .num, false, false, .any⟩
/-- 09_calender_balancing.md CAL +0x0000 [17:12] RO. Bit s: DIR_s was 0 in the last frame -/
def DEADBAND : Fld := ⟨298, 9, 0x0, 1, 0, 1, 0, 17, 12, .ro, 0, .num, false, false, .any⟩
/-- 09_calender_balancing.md CAL +0x0000 [11:6] RO. Bit s: no IAC for string s in the last frame -/
def NO_CUR : Fld := ⟨299, 9, 0x0, 1, 0, 1, 0, 11, 6, .ro, 0, .num, false, false, .any⟩
/-- 09_calender_balancing.md CAL +0x0000 [5:0] RO. Bit s: pass B produced a list or offsets for string s -/
def BAL_ON : Fld := ⟨300, 9, 0x0, 1, 0, 1, 0, 5, 0, .ro, 0, .num, false, false, .any⟩
/-- 09_calender_balancing.md CAL +0x0004 [1:0] RO. From the calender sheet -/
def INTER : Fld := ⟨301, 9, 0x4, 1, 0, 1, 0, 1, 0, .ro, 0, .ream, false, false, .any⟩
/-- 09_calender_balancing.md CAL +0x0010 [23:16] RW. 1 to 200 -/
def TEN_BAND : Fld := ⟨302, 9, 0x10, 1, 0, 1, 0, 23, 16, .rw, 0, .ream, false, false, (.nat 1 200 false)⟩
/-- 09_calender_balancing.md CAL +0x0010 [9:0] RW. 1 to 1,000 frames, under R259 -/
def TENURE : Fld := ⟨303, 9, 0x10, 1, 0, 1, 0, 9, 0, .rw, 0, .ream, false, false, (.nat 1 1000 false)⟩
/-- 09_calender_balancing.md CAL +0x0014 [31:0] RW. binary32, under R261 -/
def K_BAL : Fld := ⟨304, 9, 0x14, 1, 0, 1, 0, 31, 0, .rw, 0, .ream, false, false, (.f32 0x0 0x41200000 false)⟩
/-- 09_calender_balancing.md CAL +0x0018 [31:0] RW. binary32 -/
def DELTA_MAX : Fld := ⟨305, 9, 0x18, 1, 0, 1, 0, 31, 0, .rw, 0, .ream, false, false, (.f32 0x0 0x3e800000 false)⟩
/-- 09_calender_balancing.md CAL +0x001C [31:0] RW. binary32, A -/
def I_DB : Fld := ⟨306, 9, 0x1C, 1, 0, 1, 0, 31, 0, .rw, 0, .ream, false, false, (.f32 0x0 0x447a0000 false)⟩
/-- 09_calender_balancing.md CAL +0x0020 [31:0] RW. binary32, A -/
def ZS_GAIN : Fld := ⟨307, 9, 0x20, 1, 0, 1, 0, 31, 0, .rw, 0, .ream, false, false, (.f32 0x0 0x47c35000 false)⟩
/-- 09_calender_balancing.md CAL +0x0024 [31:0] RW. binary32, A -/
def ZS_IFLOOR : Fld := ⟨308, 9, 0x24, 1, 0, 1, 0, 31, 0, .rw, 0, .ream, false, false, (.f32 0x3dcccccd 0x461c4000 false)⟩
/-- 09_calender_balancing.md CAL +0x0028 [31:0] RW. binary32, V -/
def ZS_MAX : Fld := ⟨309, 9, 0x28, 1, 0, 1, 0, 31, 0, .rw, 0, .ream, false, false, (.f32 0x0 0x47435000 false)⟩
/-- 09_calender_balancing.md CAL +0x002C [31:0] RW. binary32, A -/
def CC_GAIN : Fld := ⟨310, 9, 0x2C, 1, 0, 1, 0, 31, 0, .rw, 0, .ream, false, false, (.f32 0x0 0x47c35000 false)⟩
/-- 09_calender_balancing.md CAL +0x0030 [31:0] RW. binary32, V -/
def CC_VFLOOR : Fld := ⟨311, 9, 0x30, 1, 0, 1, 0, 31, 0, .rw, 0, .ream, false, false, (.f32 0x3f800000 0x47c35000 false)⟩
/-- 09_calender_balancing.md CAL +0x0034 [31:0] RW. binary32, A -/
def CC_MAX : Fld := ⟨312, 9, 0x34, 1, 0, 1, 0, 31, 0, .rw, 0, .ream, false, false, (.f32 0x0 0x459c4000 false)⟩
/-- 09_calender_balancing.md CAL +0x0038 [31:0] RW. binary32 -/
def VM_FILT : Fld := ⟨313, 9, 0x38, 1, 0, 1, 0, 31, 0, .rw, 0, .ream, false, false, (.f32 0x37800000 0x3f800000 false)⟩
/-- 09_calender_balancing.md CAL +0x003C [31:16] RW. 1 to 65,535 -/
def SPREAD_FRAMES : Fld := ⟨314, 9, 0x3C, 1, 0, 1, 0, 31, 16, .rw, 0, .ream, false, false, (.nat 1 65535 false)⟩
/-- 09_calender_balancing.md CAL +0x003C [8:0] RW. 1 to 500 -/
def SPREAD_MAX : Fld := ⟨315, 9, 0x3C, 1, 0, 1, 0, 8, 0, .rw, 0, .ream, false, false, (.nat 1 500 false)⟩
/-- 09_calender_balancing.md CAL +0x0040 [31:0] RO. V0 in V or I_CIRC in A, binary32, of the last frame -/
def INTER_OUT : Fld := ⟨316, 9, 0x40, 1, 0, 1, 0, 31, 0, .ro, 0, .num, false, false, .any⟩
/-- 09_calender_balancing.md CAL +0x0044 [15:0] RC. Frames clamped under R255 or R256 -/
def INTER_SAT_CNT : Fld := ⟨317, 9, 0x44, 1, 0, 1, 0, 15, 0, .rc, 0, .num, false, false, .any⟩
/-- 09_calender_balancing.md CAL +0x0048 [31:0] RO. binary32, V -/
def VM_ALL : Fld := ⟨318, 9, 0x48, 1, 0, 1, 0, 31, 0, .ro, 0, .num, false, false, .any⟩
/-- 09_calender_balancing.md CAL +0x0100 [31:0] RO. binary32, V -/
def STR_VMEAN : Fld := ⟨319, 9, 0x100, 6, 64, 1, 0, 31, 0, .ro, 0, .num, false, false, .any⟩
/-- 09_calender_balancing.md CAL +0x0104 [31:0] RO. binary32, V; 0 while unset -/
def STR_VMEANF : Fld := ⟨320, 9, 0x104, 6, 64, 1, 0, 31, 0, .ro, 0, .num, false, false, .any⟩
/-- 09_calender_balancing.md CAL +0x0108 [31:0] RO. binary32, V -/
def STR_ES : Fld := ⟨321, 9, 0x108, 6, 64, 1, 0, 31, 0, .ro, 0, .num, false, false, .any⟩
/-- 09_calender_balancing.md CAL +0x010C [31:0] RO. I_s, binary32, A -/
def STR_I_STR : Fld := ⟨322, 9, 0x10C, 6, 64, 1, 0, 31, 0, .ro, 0, .num, false, false, .any⟩
/-- 09_calender_balancing.md CAL +0x0110 [31:24] RO. Position of the highest VCAP in the balance set -/
def STR_MAX_POS : Fld := ⟨323, 9, 0x110, 6, 64, 1, 0, 31, 24, .ro, 0, .num, false, false, .any⟩
/-- 09_calender_balancing.md CAL +0x0110 [23:16] RO. Position of the lowest VCAP -/
def STR_MIN_POS : Fld := ⟨324, 9, 0x110, 6, 64, 1, 0, 23, 16, .ro, 0, .num, false, false, .any⟩
/-- 09_calender_balancing.md CAL +0x0110 [15:0] RO. Spread, 0.05 V -/
def STR_SPREAD : Fld := ⟨325, 9, 0x110, 6, 64, 1, 0, 15, 0, .ro, 0, .num, false, false, .any⟩
/-- 09_calender_balancing.md CAL +0x0114 [31:16] RC. Assignment changes before tenure ran out, under R251 -/
def STR_BREAK_CNT : Fld := ⟨326, 9, 0x114, 6, 64, 1, 0, 31, 16, .rc, 0, .num, false, false, .any⟩
/-- 09_calender_balancing.md CAL +0x0114 [15:0] RC. Assignment changes, NLM -/
def STR_SWITCH_CNT : Fld := ⟨327, 9, 0x114, 6, 64, 1, 0, 15, 0, .rc, 0, .num, false, false, .any⟩
/-- 09_calender_balancing.md CAL +0x0118 [31:16] RO. Consecutive frames above SPREAD_MAX, saturated -/
def STR_SPREAD_RUN : Fld := ⟨328, 9, 0x118, 6, 64, 1, 0, 31, 16, .ro, 0, .num, false, false, .any⟩
/-- 09_calender_balancing.md CAL +0x0118 [15:0] RC. Frames with a clamped offset -/
def STR_OFS_SAT_CNT : Fld := ⟨329, 9, 0x118, 6, 64, 1, 0, 15, 0, .rc, 0, .num, false, false, .any⟩
/-- 09_calender_balancing.md CAL +0x011C [9:8] RO. 0 deadband, 1 positive, 2 negative -/
def STR_CUR_DIR : Fld := ⟨330, 9, 0x11C, 6, 64, 1, 0, 9, 8, .ro, 0, .num, false, false, .any⟩
/-- 09_calender_balancing.md CAL +0x011C [6:6] RO. Cells inserted negative in the last frame -/
def STR_NEG : Fld := ⟨331, 9, 0x11C, 6, 64, 1, 0, 6, 6, .ro, 0, .num, false, false, .any⟩
/-- 09_calender_balancing.md CAL +0x011C [5:0] RO. Cells inserted in the last frame, NLM -/
def STR_N_IN : Fld := ⟨332, 9, 0x11C, 6, 64, 1, 0, 5, 0, .ro, 0, .num, false, false, .any⟩
/-- 09_calender_balancing.md CAL +0x1000 [31:0] RO. e_c, binary32, V; 0 outside the balance set and PARK -/
def SLOT_E : Fld := ⟨333, 9, 0x1000, 144, 16, 1, 0, 31, 0, .ro, 0, .num, false, false, .any⟩
/-- 09_calender_balancing.md CAL +0x1004 [31:0] RO. δ_c, binary32; 0 for an NLM string -/
def SLOT_DELTA : Fld := ⟨334, 9, 0x1004, 144, 16, 1, 0, 31, 0, .ro, 0, .num, false, false, .any⟩
/-- 09_calender_balancing.md CAL +0x1008 [31:24] RO. Place in the sort under R248 -/
def SLOT_RANK : Fld := ⟨335, 9, 0x1008, 144, 16, 1, 0, 31, 24, .ro, 0, .num, false, false, .any⟩
/-- 09_calender_balancing.md CAL +0x1008 [15:15] RO. Locked in the last pass B -/
def SLOT_LOCKED : Fld := ⟨336, 9, 0x1008, 144, 16, 1, 0, 15, 15, .ro, 0, .num, false, false, .any⟩
/-- 09_calender_balancing.md CAL +0x1008 [14:14] RO. Stale in the last frame -/
def SLOT_STALE : Fld := ⟨337, 9, 0x1008, 144, 16, 1, 0, 14, 14, .ro, 0, .num, false, false, .any⟩
/-- 09_calender_balancing.md CAL +0x1008 [13:12] RO. 0 zero, 1 positive, 2 negative -/
def SLOT_ASSIGN : Fld := ⟨338, 9, 0x1008, 144, 16, 1, 0, 13, 12, .ro, 0, .num, false, false, .any⟩
/-- 09_calender_balancing.md CAL +0x1008 [9:0] RO. Tenure count under R251 -/
def SLOT_TEN_LEFT : Fld := ⟨339, 9, 0x1008, 144, 16, 1, 0, 9, 0, .ro, 0, .num, false, false, .any⟩
/-- The fields of the CAL window. -/
def all : List Fld :=
  [INTER_SAT, SPREAD_ALM, OFS_SAT, DEADBAND, NO_CUR, BAL_ON, INTER, TEN_BAND, TENURE, K_BAL, DELTA_MAX, I_DB, ZS_GAIN, ZS_IFLOOR, ZS_MAX, CC_GAIN, CC_VFLOOR, CC_MAX, VM_FILT, SPREAD_FRAMES, SPREAD_MAX, INTER_OUT, INTER_SAT_CNT, VM_ALL, STR_VMEAN, STR_VMEANF, STR_ES, STR_I_STR, STR_MAX_POS, STR_MIN_POS, STR_SPREAD, STR_BREAK_CNT, STR_SWITCH_CNT, STR_SPREAD_RUN, STR_OFS_SAT_CNT, STR_CUR_DIR, STR_NEG, STR_N_IN, SLOT_E, SLOT_DELTA] ++
  [SLOT_RANK, SLOT_LOCKED, SLOT_STALE, SLOT_ASSIGN, SLOT_TEN_LEFT]
end R.CAL
namespace R.CE
/-- 10_control_engine.md CE +0x0000 [26:26] RO. Under R276 -/
def RAMP_DONE : Fld := ⟨340, 10, 0x0, 1, 0, 1, 0, 26, 26, .ro, 0, .num, false, false, .any⟩
/-- 10_control_engine.md CE +0x0000 [25:25] RO. Grid monitor reports a fault, under R282 -/
def GRID_FAULT : Fld := ⟨341, 10, 0x0, 1, 0, 1, 0, 25, 25, .ro, 0, .num, false, false, .any⟩
/-- 10_control_engine.md CE +0x0000 [24:24] RO. Under R281 -/
def LV_LOCK : Fld := ⟨342, 10, 0x0, 1, 0, 1, 0, 24, 24, .ro, 0, .num, false, false, .any⟩
/-- 10_control_engine.md CE +0x0000 [23:23] RO. Under R280 -/
def MV_LOCK : Fld := ⟨343, 10, 0x0, 1, 0, 1, 0, 23, 23, .ro, 0, .num, false, false, .any⟩
/-- 10_control_engine.md CE +0x0000 [22:22] RO. A destination is blending, under R287 -/
def BLEND : Fld := ⟨344, 10, 0x0, 1, 0, 1, 0, 22, 22, .ro, 0, .num, false, false, .any⟩
/-- 10_control_engine.md CE +0x0000 [21:21] RO. The last frame was abandoned, under R294 -/
def OVR_LAST : Fld := ⟨345, 10, 0x0, 1, 0, 1, 0, 21, 21, .ro, 0, .num, false, false, .any⟩
/-- 10_control_engine.md CE +0x0000 [12:8] RO. Criteria of R283 held in the last frame, one bit each -/
def SYNC_MET : Fld := ⟨346, 10, 0x0, 1, 0, 1, 0, 12, 8, .ro, 0, .num, false, false, .any⟩
/-- 10_control_engine.md CE +0x0000 [7:4] RO. Law of the previous frame -/
def LAW_PREV : Fld := ⟨347, 10, 0x0, 1, 0, 1, 0, 7, 4, .ro, 0, .num, false, false, .any⟩
/-- 10_control_engine.md CE +0x0000 [3:0] RO. Law under R284 -/
def LAW : Fld := ⟨348, 10, 0x0, 1, 0, 1, 0, 3, 0, .ro, 0, .num, false, false, .any⟩
/-- 10_control_engine.md CE +0x0004 [18:0] RO. Compute time of the last frame, ns -/
def CE_TIME_LAST : Fld := ⟨349, 10, 0x4, 1, 0, 1, 0, 18, 0, .ro, 0, .num, false, false, .any⟩
/-- 10_control_engine.md CE +0x0008 [18:0] RC. Highest compute time since the last read, ns -/
def CE_TIME_MAX : Fld := ⟨350, 10, 0x8, 1, 0, 1, 0, 18, 0, .rc, 0, .num, false, false, .any⟩
/-- 10_control_engine.md CE +0x000C [18:0] RO. From the sheet -/
def CE_TIME_DECL : Fld := ⟨351, 10, 0xC, 1, 0, 1, 0, 18, 0, .ro, 0, .ream, false, false, .any⟩
/-- 10_control_engine.md CE +0x0010 [31:16] RO. Consecutive abandoned frames -/
def OVR_RUN : Fld := ⟨352, 10, 0x10, 1, 0, 1, 0, 31, 16, .ro, 0, .num, false, false, .any⟩
/-- 10_control_engine.md CE +0x0010 [15:0] RC. Abandoned frames, saturated at 65,535 -/
def OVR_CNT : Fld := ⟨353, 10, 0x10, 1, 0, 1, 0, 15, 0, .rc, 0, .num, false, false, .any⟩
/-- 10_control_engine.md CE +0x0014 [1:0] RW. 1 SWAP, 2 FALL, under R289. 0 is rejected with E_ZERO; 3 with E_RANGE. Reads the last request. -/
def BANK_REQ : Fld := ⟨354, 10, 0x14, 1, 0, 1, 0, 1, 0, .rw, 0, .num, false, false, (.nat 1 2 true)⟩
/-- 10_control_engine.md CE +0x0018 [31:16] RO. Swaps since the last activation, saturated -/
def SWAP_CNT : Fld := ⟨355, 10, 0x18, 1, 0, 1, 0, 31, 16, .ro, 0, .num, false, false, .any⟩
/-- 10_control_engine.md CE +0x0018 [15:8] RO. Slots limited at the last swap -/
def STEP_SLOTS : Fld := ⟨356, 10, 0x18, 1, 0, 1, 0, 15, 8, .ro, 0, .num, false, false, .any⟩
/-- 10_control_engine.md CE +0x0018 [3:2] RO. Shadow contents: 0 BANK_A, 1 BANK_S, 2 fallback copy, 3 host-written or a former active -/
def SHD_SRC : Fld := ⟨357, 10, 0x18, 1, 0, 1, 0, 3, 2, .ro, 1, .num, false, false, .any⟩
/-- 10_control_engine.md CE +0x0018 [1:0] RO. Active contents, coded as SHD_SRC -/
def ACT_SRC : Fld := ⟨358, 10, 0x18, 1, 0, 1, 0, 1, 0, .ro, 0, .num, false, false, .any⟩
/-- 10_control_engine.md CE +0x001C [0:0] RW. Under R281 -/
def LV_LAW : Fld := ⟨359, 10, 0x1C, 1, 0, 1, 0, 0, 0, .rw, 0, .ream, false, false, .any⟩
/-- 10_control_engine.md CE +0x0020 [31:16] RW. Frames, 0 to 65,535 -/
def PLAUS_WARMUP : Fld := ⟨360, 10, 0x20, 1, 0, 1, 0, 31, 16, .rw, 0, .ream, false, false, .any⟩
/-- 10_control_engine.md CE +0x0020 [13:0] RW. ms, 1 to 10,000 -/
def HANDOVER_T : Fld := ⟨361, 10, 0x20, 1, 0, 1, 0, 13, 0, .rw, 0, .ream, false, false, (.nat 1 10000 false)⟩
/-- 10_control_engine.md CE +0x0030 [31:0] RO. binary32, of the last frame -/
def THETA_MV : Fld := ⟨362, 10, 0x30, 1, 0, 1, 0, 31, 0, .ro, 0, .num, false, false, .any⟩
/-- 10_control_engine.md CE +0x0034 [31:0] RO. binary32, of the last frame -/
def OMEGA_MV : Fld := ⟨363, 10, 0x34, 1, 0, 1, 0, 31, 0, .ro, 0, .num, false, false, .any⟩
/-- 10_control_engine.md CE +0x0038 [31:0] RO. binary32, of the last frame -/
def VP_PU : Fld := ⟨364, 10, 0x38, 1, 0, 1, 0, 31, 0, .ro, 0, .num, false, false, .any⟩
/-- 10_control_engine.md CE +0x003C [31:0] RO. binary32, of the last frame -/
def THETA_LV : Fld := ⟨365, 10, 0x3C, 1, 0, 1, 0, 31, 0, .ro, 0, .num, false, false, .any⟩
/-- 10_control_engine.md CE +0x0040 [31:0] RO. binary32, of the last frame -/
def OMEGA_LV : Fld := ⟨366, 10, 0x40, 1, 0, 1, 0, 31, 0, .ro, 0, .num, false, false, .any⟩
/-- 10_control_engine.md CE +0x0044 [31:0] RO. binary32, of the last frame -/
def LV_VBUS : Fld := ⟨367, 10, 0x44, 1, 0, 1, 0, 31, 0, .ro, 0, .num, false, false, .any⟩
/-- 10_control_engine.md CE +0x0048 [31:16] RO. Consecutive frames inside the band, saturated -/
def IN_BAND_RUN : Fld := ⟨368, 10, 0x48, 1, 0, 1, 0, 31, 16, .ro, 0, .num, false, false, .any⟩
/-- 10_control_engine.md CE +0x0048 [15:0] RO. Consecutive frames out of band, saturated -/
def OUT_BAND_RUN : Fld := ⟨369, 10, 0x48, 1, 0, 1, 0, 15, 0, .ro, 0, .num, false, false, .any⟩
/-- 10_control_engine.md CE +0x0060 [31:0] RW. binary32, ranges of R298 -/
def PLL_KP : Fld := ⟨370, 10, 0x60, 1, 0, 1, 0, 31, 0, .rw, 0, .ream, false, false, (.f32 0x0 0x461c4000 false)⟩
/-- 10_control_engine.md CE +0x0064 [31:0] RW. binary32, ranges of R298 -/
def PLL_KI : Fld := ⟨371, 10, 0x64, 1, 0, 1, 0, 31, 0, .rw, 0, .ream, false, false, (.f32 0x0 0x49742400 false)⟩
/-- 10_control_engine.md CE +0x0068 [31:0] RW. binary32, ranges of R298 -/
def PLL_DFMAX : Fld := ⟨372, 10, 0x68, 1, 0, 1, 0, 31, 0, .rw, 0, .ream, false, false, (.f32 0x3dcccccd 0x41200000 false)⟩
/-- 10_control_engine.md CE +0x006C [31:0] RW. binary32, ranges of R298 -/
def PLL_LOCK_THR : Fld := ⟨373, 10, 0x6C, 1, 0, 1, 0, 31, 0, .rw, 0, .ream, false, false, (.f32 0x3a83126f 0x3f800000 false)⟩
/-- 10_control_engine.md CE +0x0070 [31:0] RW. binary32, ranges of R298 -/
def RT_VLO : Fld := ⟨374, 10, 0x70, 1, 0, 1, 0, 31, 0, .rw, 0, .ream, false, false, (.f32 0x0 0x3f800000 false)⟩
/-- 10_control_engine.md CE +0x0074 [31:0] RW. binary32, ranges of R298 -/
def RT_VHI : Fld := ⟨375, 10, 0x74, 1, 0, 1, 0, 31, 0, .rw, 0, .ream, false, false, (.f32 0x0 0x40000000 false)⟩
/-- 10_control_engine.md CE +0x0078 [31:0] RW. binary32, ranges of R298 -/
def RT_DF : Fld := ⟨376, 10, 0x78, 1, 0, 1, 0, 31, 0, .rw, 0, .ream, false, false, (.f32 0x3c23d70a 0x41200000 false)⟩
/-- 10_control_engine.md CE +0x007C [31:0] RW. binary32, ranges of R298 -/
def SYNC_VBUS : Fld := ⟨377, 10, 0x7C, 1, 0, 1, 0, 31, 0, .rw, 0, .ream, false, false, (.f32 0x1 0x7f7fffff false)⟩
/-- 10_control_engine.md CE +0x0080 [31:0] RW. binary32, ranges of R298 -/
def SYNC_VLV : Fld := ⟨378, 10, 0x80, 1, 0, 1, 0, 31, 0, .rw, 0, .ream, false, false, (.f32 0x1 0x7f7fffff false)⟩
/-- 10_control_engine.md CE +0x0084 [31:0] RW. binary32, ranges of R298 -/
def SYNC_ES : Fld := ⟨379, 10, 0x84, 1, 0, 1, 0, 31, 0, .rw, 0, .ream, false, false, (.f32 0x1 0x7f7fffff false)⟩
/-- 10_control_engine.md CE +0x0088 [28:24] RW. Under R283 -/
def SYNC_MASK : Fld := ⟨380, 10, 0x88, 1, 0, 1, 0, 28, 24, .rw, 0, .ream, false, false, .any⟩
/-- 10_control_engine.md CE +0x0088 [23:16] RW. 1 to 255 frames -/
def GM_DET : Fld := ⟨381, 10, 0x88, 1, 0, 1, 0, 23, 16, .rw, 0, .ream, false, false, (.nat 1 255 false)⟩
/-- 10_control_engine.md CE +0x0088 [15:0] RW. 1 to 65,535 frames -/
def PLL_LOCK_N : Fld := ⟨382, 10, 0x88, 1, 0, 1, 0, 15, 0, .rw, 0, .ream, false, false, (.nat 1 65535 false)⟩
/-- 10_control_engine.md CE +0x0090 [31:0] RO. binary32 -/
def FNOM : Fld := ⟨383, 10, 0x90, 1, 0, 1, 0, 31, 0, .ro, 0, .ream, false, false, .any⟩
/-- 10_control_engine.md CE +0x0094 [31:0] RO. binary32 -/
def VMV_NOM : Fld := ⟨384, 10, 0x94, 1, 0, 1, 0, 31, 0, .ro, 0, .ream, false, false, .any⟩
/-- 10_control_engine.md CE +0x0098 [31:0] RO. binary32 -/
def LV_FNOM : Fld := ⟨385, 10, 0x98, 1, 0, 1, 0, 31, 0, .ro, 0, .ream, false, false, .any⟩
/-- 10_control_engine.md CE +0x009C [31:0] RO. binary32 -/
def LV_VNOM : Fld := ⟨386, 10, 0x9C, 1, 0, 1, 0, 31, 0, .ro, 0, .ream, false, false, .any⟩
/-- 10_control_engine.md CE +0x00A0 [31:0] RO. binary32 -/
def LV_VBUS_NOM : Fld := ⟨387, 10, 0xA0, 1, 0, 1, 0, 31, 0, .ro, 0, .ream, false, false, .any⟩
/-- 10_control_engine.md CE +0x00A4 [15:0] RO. Signal index -/
def LV_FSIG : Fld := ⟨388, 10, 0xA4, 1, 0, 1, 0, 15, 0, .ro, 0, .ream, false, false, .any⟩
/-- 10_control_engine.md CE +0x0100 [31:0] RW. binary32 set-point, finite. PF1. -/
def SETPT : Fld := ⟨389, 10, 0x100, 64, 4, 1, 0, 31, 0, .rw, 0, .num, false, true, (.f32 0xff7fffff 0x7f7fffff false)⟩
/-- 10_control_engine.md CE +0x0800 [31:0] RO. Applied output, binary32 -/
def SLOT_OUT : Fld := ⟨390, 10, 0x800, 64, 32, 1, 0, 31, 0, .ro, 0, .num, false, false, .any⟩
/-- 10_control_engine.md CE +0x0804 [31:0] RO. Slewed set-point, binary32 -/
def SLOT_SP : Fld := ⟨391, 10, 0x804, 64, 32, 1, 0, 31, 0, .ro, 0, .num, false, false, .any⟩
/-- 10_control_engine.md CE +0x0808 [31:0] RO. Residual of R291, binary32 -/
def SLOT_PL_RES : Fld := ⟨392, 10, 0x808, 64, 32, 1, 0, 31, 0, .ro, 0, .num, false, false, .any⟩
/-- 10_control_engine.md CE +0x080C [22:22] RO. Count neither counted nor restarted under R292 -/
def SLOT_PL_SKIP : Fld := ⟨393, 10, 0x80C, 64, 32, 1, 0, 22, 22, .ro, 0, .num, false, false, .any⟩
/-- 10_control_engine.md CE +0x080C [21:21] RO. The instance started in the last frame -/
def SLOT_STARTED : Fld := ⟨394, 10, 0x80C, 64, 32, 1, 0, 21, 21, .ro, 0, .num, false, false, .any⟩
/-- 10_control_engine.md CE +0x080C [20:20] RO. Under R293 -/
def SLOT_NUMERR : Fld := ⟨395, 10, 0x80C, 64, 32, 1, 0, 20, 20, .ro, 0, .num, false, false, .any⟩
/-- 10_control_engine.md CE +0x080C [19:19] RO. Blending -/
def SLOT_BLEND : Fld := ⟨396, 10, 0x80C, 64, 32, 1, 0, 19, 19, .ro, 0, .num, false, false, .any⟩
/-- 10_control_engine.md CE +0x080C [18:18] RO. Clamped at YMIN -/
def SLOT_SAT_LO : Fld := ⟨397, 10, 0x80C, 64, 32, 1, 0, 18, 18, .ro, 0, .num, false, false, .any⟩
/-- 10_control_engine.md CE +0x080C [17:17] RO. Clamped at YMAX -/
def SLOT_SAT_HI : Fld := ⟨398, 10, 0x80C, 64, 32, 1, 0, 17, 17, .ro, 0, .num, false, false, .any⟩
/-- 10_control_engine.md CE +0x080C [16:16] RO. Ran in the last frame -/
def SLOT_RUN : Fld := ⟨399, 10, 0x80C, 64, 32, 1, 0, 16, 16, .ro, 0, .num, false, false, .any⟩
/-- 10_control_engine.md CE +0x080C [15:0] RO. Plausibility count -/
def SLOT_PL_RUN : Fld := ⟨400, 10, 0x80C, 64, 32, 1, 0, 15, 0, .ro, 0, .num, false, false, .any⟩
/-- 10_control_engine.md CE +0x0810 [31:16] RC. Raisings of instance 128 + n -/
def SLOT_PL_FAIL_CNT : Fld := ⟨401, 10, 0x810, 64, 32, 1, 0, 31, 16, .rc, 0, .num, false, false, .any⟩
/-- 10_control_engine.md CE +0x0810 [15:0] RC. Saturated frames -/
def SLOT_SAT_CNT : Fld := ⟨402, 10, 0x810, 64, 32, 1, 0, 15, 0, .rc, 0, .num, false, false, .any⟩
/-- 10_control_engine.md CE +0x0814 [15:0] RC. Frames held under R293 -/
def SLOT_NUMERR_CNT : Fld := ⟨403, 10, 0x814, 64, 32, 1, 0, 15, 0, .rc, 0, .num, false, false, .any⟩
/-- 10_control_engine.md CE +0x0818 [31:0] RO. State of the last PI or PR section, binary64 bits [31:0] -/
def SLOT_X_LO : Fld := ⟨404, 10, 0x818, 64, 32, 1, 0, 31, 0, .ro, 0, .num, false, false, .any⟩
/-- 10_control_engine.md CE +0x081C [31:0] RO. Bits [63:32] -/
def SLOT_X_HI : Fld := ⟨405, 10, 0x81C, 64, 32, 1, 0, 31, 0, .ro, 0, .num, false, false, .any⟩
/-- 10_control_engine.md CE +0x1000 [31:0] RW. binary32, under R298 -/
def PAR_SLEW_UP : Fld := ⟨406, 10, 0x1000, 64, 64, 1, 0, 31, 0, .rw, 0, .ream, false, false, (.f32 0x358637bd 0x5368d4a5 false)⟩
/-- 10_control_engine.md CE +0x1004 [31:0] RW. binary32, under R298 -/
def PAR_SLEW_DN : Fld := ⟨407, 10, 0x1004, 64, 64, 1, 0, 31, 0, .rw, 0, .ream, false, false, (.f32 0x358637bd 0x5368d4a5 false)⟩
/-- 10_control_engine.md CE +0x1008 [31:0] RW. binary32, under R298 -/
def PAR_FF_GAIN : Fld := ⟨408, 10, 0x1008, 64, 64, 1, 0, 31, 0, .rw, 0, .ream, false, false, (.f32 0xff7fffff 0x7f7fffff false)⟩
/-- 10_control_engine.md CE +0x100C [31:0] RW. binary32, under R298 -/
def PAR_PRESET_K : Fld := ⟨409, 10, 0x100C, 64, 64, 1, 0, 31, 0, .rw, 0, .ream, false, false, (.f32 0xff7fffff 0x7f7fffff false)⟩
/-- 10_control_engine.md CE +0x1010 [31:0] RW. binary32, under R298 -/
def PAR_PL_A : Fld := ⟨410, 10, 0x1010, 64, 64, 1, 0, 31, 0, .rw, 0, .ream, false, false, (.f32 0xff7fffff 0x7f7fffff false)⟩
/-- 10_control_engine.md CE +0x1014 [31:0] RW. binary32, under R298 -/
def PAR_PL_B : Fld := ⟨411, 10, 0x1014, 64, 64, 1, 0, 31, 0, .rw, 0, .ream, false, false, (.f32 0xff7fffff 0x7f7fffff false)⟩
/-- 10_control_engine.md CE +0x1018 [31:0] RW. binary32, under R298 -/
def PAR_PL_C : Fld := ⟨412, 10, 0x1018, 64, 64, 1, 0, 31, 0, .rw, 0, .ream, false, false, (.f32 0xff7fffff 0x7f7fffff false)⟩
/-- 10_control_engine.md CE +0x101C [31:0] RW. binary32, under R298 -/
def PAR_PL_THR : Fld := ⟨413, 10, 0x101C, 64, 64, 1, 0, 31, 0, .rw, 0, .ream, false, false, (.f32 0x1 0x7f7fffff false)⟩
/-- 10_control_engine.md CE +0x1020 [16:16] RW. Under R274 -/
def PAR_AW : Fld := ⟨414, 10, 0x1020, 64, 64, 1, 0, 16, 16, .rw, 0, .ream, false, false, .any⟩
/-- 10_control_engine.md CE +0x1020 [15:0] RW. 1 to 65,535 -/
def PAR_PL_N : Fld := ⟨415, 10, 0x1020, 64, 64, 1, 0, 15, 0, .rw, 0, .ream, false, false, (.nat 1 65535 false)⟩
/-- 10_control_engine.md CE +0x2000 [31:0] RW. Bank layout of R298; checked under R299 -/
def SHADOW_BANK : Fld := ⟨416, 10, 0x2000, 2304, 4, 1, 0, 31, 0, .rw, 0, .ream, false, false, (.f32 0xff7fffff 0x7f7fffff false)⟩
/-- 10_control_engine.md CE +0x4800 [31:0] RO. Bank in use -/
def ACTIVE_BANK : Fld := ⟨417, 10, 0x4800, 2304, 4, 1, 0, 31, 0, .ro, 0, .ream, false, false, .any⟩
/-- 10_control_engine.md CE +0x7000 [31:0] RO. Fallback bank -/
def FALLBACK_BANK : Fld := ⟨418, 10, 0x7000, 2304, 4, 1, 0, 31, 0, .ro, 0, .ream, false, false, .any⟩
/-- 10_control_engine.md CE +0xB000 [31:0] RO. Descriptors as in the sheet -/
def SLOT_DESC : Fld := ⟨419, 10, 0xB000, 256, 4, 1, 0, 31, 0, .ro, 0, .ream, false, false, .any⟩
/-- 10_control_engine.md CE +0xA000 [31:0] RO. W, binary32, under R297 -/
def CELL_PLOSS_BR : Fld := ⟨420, 10, 0xA000, 144, 16, 1, 0, 31, 0, .ro, 0, .num, false, false, .any⟩
/-- 10_control_engine.md CE +0xA004 [31:0] RO. W, binary32 -/
def CELL_PLOSS_DAB : Fld := ⟨421, 10, 0xA004, 144, 16, 1, 0, 31, 0, .ro, 0, .num, false, false, .any⟩
/-- 10_control_engine.md CE +0xA008 [31:0] RO. Delivered D1, q, binary32 -/
def CELL_D1 : Fld := ⟨422, 10, 0xA008, 144, 16, 1, 0, 31, 0, .ro, 0, .num, false, false, .any⟩
/-- 10_control_engine.md CE +0xA00C [31:0] RO. Delivered D2, q, binary32 -/
def CELL_D2 : Fld := ⟨423, 10, 0xA00C, 144, 16, 1, 0, 31, 0, .ro, 0, .num, false, false, .any⟩
/-- The fields of the CE window. -/
def all : List Fld :=
  [RAMP_DONE, GRID_FAULT, LV_LOCK, MV_LOCK, BLEND, OVR_LAST, SYNC_MET, LAW_PREV, LAW, CE_TIME_LAST, CE_TIME_MAX, CE_TIME_DECL, OVR_RUN, OVR_CNT, BANK_REQ, SWAP_CNT, STEP_SLOTS, SHD_SRC, ACT_SRC, LV_LAW, PLAUS_WARMUP, HANDOVER_T, THETA_MV, OMEGA_MV, VP_PU, THETA_LV, OMEGA_LV, LV_VBUS, IN_BAND_RUN, OUT_BAND_RUN, PLL_KP, PLL_KI, PLL_DFMAX, PLL_LOCK_THR, RT_VLO, RT_VHI, RT_DF, SYNC_VBUS, SYNC_VLV, SYNC_ES] ++
  [SYNC_MASK, GM_DET, PLL_LOCK_N, FNOM, VMV_NOM, LV_FNOM, LV_VNOM, LV_VBUS_NOM, LV_FSIG, SETPT, SLOT_OUT, SLOT_SP, SLOT_PL_RES, SLOT_PL_SKIP, SLOT_STARTED, SLOT_NUMERR, SLOT_BLEND, SLOT_SAT_LO, SLOT_SAT_HI, SLOT_RUN, SLOT_PL_RUN, SLOT_PL_FAIL_CNT, SLOT_SAT_CNT, SLOT_NUMERR_CNT, SLOT_X_LO, SLOT_X_HI, PAR_SLEW_UP, PAR_SLEW_DN, PAR_FF_GAIN, PAR_PRESET_K, PAR_PL_A, PAR_PL_B, PAR_PL_C, PAR_PL_THR, PAR_AW, PAR_PL_N, SHADOW_BANK, ACTIVE_BANK, FALLBACK_BANK, SLOT_DESC] ++
  [CELL_PLOSS_BR, CELL_PLOSS_DAB, CELL_D1, CELL_D2]
end R.CE
namespace R.LVD
/-- 11_lv_drive_port.md LVD +0x0000 [31:31] RO. Level of DRV_EN after its filter -/
def DRV_EN_PIN : Fld := ⟨424, 11, 0x0, 1, 0, 1, 0, 31, 31, .ro, 0, .num, false, false, .any⟩
/-- 11_lv_drive_port.md LVD +0x0000 [30:30] RO. A demand of level 1 is in force -/
def PORT_OFF : Fld := ⟨425, 11, 0x0, 1, 0, 1, 0, 30, 30, .ro, 1, .num, false, false, .any⟩
/-- 11_lv_drive_port.md LVD +0x0000 [23:16] RO. Bit k: HBk holds a latch -/
def HB_FLT : Fld := ⟨426, 11, 0x0, 1, 0, 1, 0, 23, 16, .ro, 0, .num, false, false, .any⟩
/-- 11_lv_drive_port.md LVD +0x0000 [15:8] RO. Bit k: HBk held by a level 1 to 5 in the last frame -/
def HB_OFF : Fld := ⟨427, 11, 0x0, 1, 0, 1, 0, 15, 8, .ro, 0, .num, false, false, .any⟩
/-- 11_lv_drive_port.md LVD +0x0000 [7:0] RO. Bits [2g+1:2g]: 0 running, 1 soft turn-off, 2 active short, 3 pulse block -/
def SG_STATE : Fld := ⟨428, 11, 0x0, 1, 0, 1, 0, 7, 0, .ro, 0, .num, false, false, .any⟩
/-- 11_lv_drive_port.md LVD +0x0004 [23:0] RO. Bit w: WCw holds half-bridges off -/
def TRIP_ACT : Fld := ⟨429, 11, 0x4, 1, 0, 1, 0, 23, 0, .ro, 0, .num, false, false, .any⟩
/-- 11_lv_drive_port.md LVD +0x0008 [0:0] RW. Under R323 -/
def LEGACY_CLR : Fld := ⟨430, 11, 0x8, 1, 0, 1, 0, 0, 0, .rw, 0, .ream, false, false, .any⟩
/-- 11_lv_drive_port.md LVD +0x000C [1:1] W1C. A clear under R323 was performed -/
def LEGACY_DONE : Fld := ⟨431, 11, 0xC, 1, 0, 1, 0, 1, 1, .w1c, 0, .num, true, false, .any⟩
/-- 11_lv_drive_port.md LVD +0x000C [0:0] W1C. DRV_EN went low -/
def DRV_EN_LOW : Fld := ⟨432, 11, 0xC, 1, 0, 1, 0, 0, 0, .w1c, 0, .num, true, false, .any⟩
/-- 11_lv_drive_port.md LVD +0x0010 [11:0] RW. q, 80 to 4,000 -/
def DT_MIN : Fld := ⟨433, 11, 0x10, 1, 0, 1, 0, 11, 0, .rw, 0, .ream, false, false, (.nat 80 4000 false)⟩
/-- 11_lv_drive_port.md LVD +0x0014 [15:0] RW. q, under R326 -/
def LV_MIN_PULSE : Fld := ⟨434, 11, 0x14, 1, 0, 1, 0, 15, 0, .rw, 0, .ream, false, false, (.nat 80 65535 false)⟩
/-- 11_lv_drive_port.md LVD +0x0018 [31:0] RW. 1/256 q, under R326 -/
def LV_CAR_PER : Fld := ⟨435, 11, 0x18, 1, 0, 1, 0, 31, 0, .rw, 0, .ream, false, false, (.nat 10240000 1024000000 false)⟩
/-- 11_lv_drive_port.md LVD +0x001C [18:16] RW. 0 to 7 -/
def RETRY_MAX : Fld := ⟨436, 11, 0x1C, 1, 0, 1, 0, 18, 16, .rw, 0, .ream, false, false, (.nat 0 7 false)⟩
/-- 11_lv_drive_port.md LVD +0x001C [13:0] RW. ms, 1 to 10,000 -/
def RETRY_WAIT : Fld := ⟨437, 11, 0x1C, 1, 0, 1, 0, 13, 0, .rw, 0, .ream, false, false, (.nat 1 10000 false)⟩
/-- 11_lv_drive_port.md LVD +0x0020 [15:0] RW. 1/65,536, 32,768 to 65,535 -/
def DUTY_MAX : Fld := ⟨438, 11, 0x20, 1, 0, 1, 0, 15, 0, .rw, 0, .ream, false, false, (.nat 32768 65535 false)⟩
/-- 11_lv_drive_port.md LVD +0x0024 [31:0] RO. Carrier position at the last boundary, 1/256 q -/
def LV_POS : Fld := ⟨439, 11, 0x24, 1, 0, 1, 0, 31, 0, .ro, 0, .num, false, false, .any⟩
/-- 11_lv_drive_port.md LVD +0x0028 [15:0] RC. Frames with a duty clamp -/
def LV_SAT_CNT : Fld := ⟨440, 11, 0x28, 1, 0, 1, 0, 15, 0, .rc, 0, .num, false, false, .any⟩
/-- 11_lv_drive_port.md LVD +0x0040 [31:24] RW. Low-side requests of pattern 1 -/
def LVT_L : Fld := ⟨441, 11, 0x40, 1, 0, 1, 0, 31, 24, .rw, 0, .num, true, false, .any⟩
/-- 11_lv_drive_port.md LVD +0x0040 [23:16] RW. High-side requests of pattern 1 -/
def LVT_H : Fld := ⟨442, 11, 0x40, 1, 0, 1, 0, 23, 16, .rw, 0, .num, true, false, .any⟩
/-- 11_lv_drive_port.md LVD +0x0040 [15:8] RW. Half-bridges in the pattern -/
def LVT_MASK : Fld := ⟨443, 11, 0x40, 1, 0, 1, 0, 15, 8, .rw, 0, .num, true, false, .any⟩
/-- 11_lv_drive_port.md LVD +0x0040 [5:5] RW. 0 SC1, 1 SC2 -/
def LVT_LVL : Fld := ⟨444, 11, 0x40, 1, 0, 1, 0, 5, 5, .rw, 0, .num, true, false, .any⟩
/-- 11_lv_drive_port.md LVD +0x0040 [4:4] RW. 0 low, 1 high -/
def LVT_SIDE : Fld := ⟨445, 11, 0x40, 1, 0, 1, 0, 4, 4, .rw, 0, .num, true, false, .any⟩
/-- 11_lv_drive_port.md LVD +0x0040 [1:0] RW. 0 none, 1 to 3 under R324 -/
def LVT_PAT : Fld := ⟨446, 11, 0x40, 1, 0, 1, 0, 1, 0, .rw, 0, .num, true, false, (.nat 0 3 false)⟩
/-- 11_lv_drive_port.md LVD +0x0044 [15:0] RW. 1/65,536 -/
def LVT_DUTY : Fld := ⟨447, 11, 0x44, 1, 0, 1, 0, 15, 0, .rw, 0, .num, true, false, .any⟩
/-- 11_lv_drive_port.md LVD +0x0048 [1:1] WO. Ends the pattern at the next boundary -/
def LVT_STOP : Fld := ⟨448, 11, 0x48, 1, 0, 1, 0, 1, 1, .wo, 0, .num, true, false, .any⟩
/-- 11_lv_drive_port.md LVD +0x0048 [0:0] WO. Starts the pattern; both bits 1 is rejected with E_RANGE -/
def LVT_GO : Fld := ⟨449, 11, 0x48, 1, 0, 1, 0, 0, 0, .wo, 0, .num, true, false, .any⟩
/-- 11_lv_drive_port.md LVD +0x004C [31:30] RO. 0 none, 1 PASS, 2 not detected, 3 too slow -/
def LVT_RESULT : Fld := ⟨450, 11, 0x4C, 1, 0, 1, 0, 31, 30, .ro, 0, .num, false, false, .any⟩
/-- 11_lv_drive_port.md LVD +0x004C [23:0] RO. Detection to start of soft turn-off, q -/
def LVT_TIME : Fld := ⟨451, 11, 0x4C, 1, 0, 1, 0, 23, 0, .ro, 0, .num, false, false, .any⟩
/-- 11_lv_drive_port.md LVD +0x0100 [23:23] RO. Under R321 -/
def HB_RETRY_EXH : Fld := ⟨452, 11, 0x100, 8, 32, 1, 0, 23, 23, .ro, 0, .num, false, false, .any⟩
/-- 11_lv_drive_port.md LVD +0x0100 [22:20] RO. Retries in the last 60 s -/
def HB_RETRY_CNT : Fld := ⟨453, 11, 0x100, 8, 32, 1, 0, 22, 20, .ro, 0, .num, false, false, .any⟩
/-- 11_lv_drive_port.md LVD +0x0100 [19:19] RO. Under R303 -/
def HB_BST_OK : Fld := ⟨454, 11, 0x100, 8, 32, 1, 0, 19, 19, .ro, 0, .num, false, false, .any⟩
/-- 11_lv_drive_port.md LVD +0x0100 [18:18] RO. Under R303 -/
def HB_VLN_OK : Fld := ⟨455, 11, 0x100, 8, 32, 1, 0, 18, 18, .ro, 0, .num, false, false, .any⟩
/-- 11_lv_drive_port.md LVD +0x0100 [17:17] RO. Under R303 -/
def HB_VLP_OK : Fld := ⟨456, 11, 0x100, 8, 32, 1, 0, 17, 17, .ro, 0, .num, false, false, .any⟩
/-- 11_lv_drive_port.md LVD +0x0100 [16:16] RO. Fit for the active short -/
def HB_FIT : Fld := ⟨457, 11, 0x100, 8, 32, 1, 0, 16, 16, .ro, 0, .num, false, false, .any⟩
/-- 11_lv_drive_port.md LVD +0x0100 [15:15] RO. High-side gate monitor reports on -/
def HB_GM_H : Fld := ⟨458, 11, 0x100, 8, 32, 1, 0, 15, 15, .ro, 0, .num, false, false, .any⟩
/-- 11_lv_drive_port.md LVD +0x0100 [14:14] RO. Low-side gate monitor reports on -/
def HB_GM_L : Fld := ⟨459, 11, 0x100, 8, 32, 1, 0, 14, 14, .ro, 0, .num, false, false, .any⟩
/-- 11_lv_drive_port.md LVD +0x0100 [13:12] RO. 0 both off, 1 high on, 2 low on -/
def HB_OUT : Fld := ⟨460, 11, 0x100, 8, 32, 1, 0, 13, 12, .ro, 0, .num, false, false, .any⟩
/-- 11_lv_drive_port.md LVD +0x0100 [6:0] RO. 0 SC1_L, 1 SC1_H, 2 SC2_L, 3 SC2_H, 4 HS_TO, 5 GON_L, 6 GON_H -/
def HB_LATCH : Fld := ⟨461, 11, 0x100, 8, 32, 1, 0, 6, 0, .ro, 0, .num, false, false, .any⟩
/-- 11_lv_drive_port.md LVD +0x0104 [7:0] RO. Layout of R325 -/
def HB_CFG : Fld := ⟨462, 11, 0x104, 8, 32, 1, 0, 7, 0, .ro, 0, .ream, false, false, .any⟩
/-- 11_lv_drive_port.md LVD +0x0108 [15:0] RW. q, under R326 -/
def HB_DT_LV : Fld := ⟨463, 11, 0x108, 8, 32, 1, 0, 15, 0, .rw, 0, .ream, false, false, (.nat 80 40000 false)⟩
/-- 11_lv_drive_port.md LVD +0x010C [31:16] RC. ST_CONFLICT events -/
def HB_CONFLICT_CNT : Fld := ⟨464, 11, 0x10C, 8, 32, 1, 0, 31, 16, .rc, 0, .num, false, false, .any⟩
/-- 11_lv_drive_port.md LVD +0x010C [15:0] RC. Latchings -/
def HB_FLT_CNT : Fld := ⟨465, 11, 0x10C, 8, 32, 1, 0, 15, 0, .rc, 0, .num, false, false, .any⟩
/-- 11_lv_drive_port.md LVD +0x0110 [0:0] WO. Direct; under R322 -/
def HB_CLR : Fld := ⟨466, 11, 0x110, 8, 32, 1, 0, 0, 0, .wo, 0, .num, true, false, .any⟩
/-- 11_lv_drive_port.md LVD +0x0114 [31:0] RO. d of the last frame, binary32 -/
def HB_DUTY : Fld := ⟨467, 11, 0x114, 8, 32, 1, 0, 31, 0, .ro, 0, .num, false, false, .any⟩
/-- 11_lv_drive_port.md LVD +0x0118 [31:16] RC. High-side turn-ons refused under R303 -/
def HB_BST_HOLD_CNT : Fld := ⟨468, 11, 0x118, 8, 32, 1, 0, 31, 16, .rc, 0, .num, false, false, .any⟩
/-- 11_lv_drive_port.md LVD +0x0118 [15:0] RC. Edges removed under R308 -/
def HB_TRIM_CNT : Fld := ⟨469, 11, 0x118, 8, 32, 1, 0, 15, 0, .rc, 0, .num, false, false, .any⟩
/-- 11_lv_drive_port.md LVD +0x0200 [20:16] RW. Code of R306 -/
def CH_SOFT_SNK : Fld := ⟨470, 11, 0x200, 16, 16, 1, 0, 20, 16, .rw, 0, .ream, false, false, (.nat 0 31 false)⟩
/-- 11_lv_drive_port.md LVD +0x0200 [12:8] RW. Code of R306 -/
def CH_TOFF_SNK : Fld := ⟨471, 11, 0x200, 16, 16, 1, 0, 12, 8, .rw, 0, .ream, false, false, (.nat 0 31 false)⟩
/-- 11_lv_drive_port.md LVD +0x0200 [4:0] RW. Code of R306 -/
def CH_TON_SRC : Fld := ⟨472, 11, 0x200, 16, 16, 1, 0, 4, 0, .rw, 0, .ream, false, false, (.nat 0 31 false)⟩
/-- 11_lv_drive_port.md LVD +0x0204 [26:16] RW. ns, 100 to 2,000 -/
def CH_BLANK : Fld := ⟨473, 11, 0x204, 16, 16, 1, 0, 26, 16, .rw, 0, .ream, false, false, (.nat 100 2000 false)⟩
/-- 11_lv_drive_port.md LVD +0x0204 [15:8] RW. 10 mV, 2 to 255 -/
def CH_SC2_LVL : Fld := ⟨474, 11, 0x204, 16, 16, 1, 0, 15, 8, .rw, 0, .ream, false, false, (.nat 2 255 false)⟩
/-- 11_lv_drive_port.md LVD +0x0204 [7:0] RW. 10 mV, 2 to 255 -/
def CH_SC1_LVL : Fld := ⟨475, 11, 0x204, 16, 16, 1, 0, 7, 0, .rw, 0, .ream, false, false, (.nat 2 255 false)⟩
/-- 11_lv_drive_port.md LVD +0x0208 [23:0] RO. Under R315, q -/
def CH_SC_TIME : Fld := ⟨476, 11, 0x208, 16, 16, 1, 0, 23, 0, .ro, 0, .num, false, false, .any⟩
/-- 11_lv_drive_port.md LVD +0x0400 [7:0] RO. TRIP_MAP(w) -/
def TRIP_MAP : Fld := ⟨477, 11, 0x400, 24, 4, 1, 0, 7, 0, .ro, 0, .ream, false, false, .any⟩
/-- The fields of the LVD window. -/
def all : List Fld :=
  [DRV_EN_PIN, PORT_OFF, HB_FLT, HB_OFF, SG_STATE, TRIP_ACT, LEGACY_CLR, LEGACY_DONE, DRV_EN_LOW, DT_MIN, LV_MIN_PULSE, LV_CAR_PER, RETRY_MAX, RETRY_WAIT, DUTY_MAX, LV_POS, LV_SAT_CNT, LVT_L, LVT_H, LVT_MASK, LVT_LVL, LVT_SIDE, LVT_PAT, LVT_DUTY, LVT_STOP, LVT_GO, LVT_RESULT, LVT_TIME, HB_RETRY_EXH, HB_RETRY_CNT, HB_BST_OK, HB_VLN_OK, HB_VLP_OK, HB_FIT, HB_GM_H, HB_GM_L, HB_OUT, HB_LATCH, HB_CFG, HB_DT_LV] ++
  [HB_CONFLICT_CNT, HB_FLT_CNT, HB_CLR, HB_DUTY, HB_BST_HOLD_CNT, HB_TRIM_CNT, CH_SOFT_SNK, CH_TOFF_SNK, CH_TON_SRC, CH_BLANK, CH_SC2_LVL, CH_SC1_LVL, CH_SC_TIME, TRIP_MAP]
end R.LVD
namespace R.AFE
/-- 12_analog_front_end.md AFE +0x0000 [27:24] RO. Bit a: ADa is not failed under R350 -/
def CONV_OK : Fld := ⟨478, 12, 0x0, 1, 0, 1, 0, 27, 24, .ro, 0, .num, false, false, .any⟩
/-- 12_analog_front_end.md AFE +0x0000 [23:16] RO. Bit n: SEQn busy at the last boundary -/
def STAT_BUSY : Fld := ⟨479, 12, 0x0, 1, 0, 1, 0, 23, 16, .ro, 0, .num, false, false, .any⟩
/-- 12_analog_front_end.md AFE +0x0000 [15:8] RO. Bit n: SEQn stale in the last frame -/
def STAT_STALE : Fld := ⟨480, 12, 0x0, 1, 0, 1, 0, 15, 8, .ro, 0, .num, false, false, .any⟩
/-- 12_analog_front_end.md AFE +0x0000 [7:0] RO. Bit n: NENT of SEQn is not 0 -/
def SEQ_USED : Fld := ⟨481, 12, 0x0, 1, 0, 1, 0, 7, 0, .ro, 0, .ream, false, false, .any⟩
/-- 12_analog_front_end.md AFE +0x0004 [23:0] RO. Bit w: latch of WCw -/
def WC_LATCH : Fld := ⟨482, 12, 0x4, 1, 0, 1, 0, 23, 0, .ro, 0, .num, false, false, .any⟩
/-- 12_analog_front_end.md AFE +0x0008 [23:0] RO. Bit w: filtered condition at the last boundary -/
def WC_COND : Fld := ⟨483, 12, 0x8, 1, 0, 1, 0, 23, 0, .ro, 0, .num, false, false, .any⟩
/-- 12_analog_front_end.md AFE +0x000C [23:0] RO. Bit w: latch set under R344 and not yet cleared -/
def WC_INIT : Fld := ⟨484, 12, 0xC, 1, 0, 1, 0, 23, 0, .ro, 0, .num, false, false, .any⟩
/-- 12_analog_front_end.md AFE +0x0010 [23:0] WO. Direct. Bit w requests a clear under R343; accepted whatever CLR is. -/
def WC_SWCLR : Fld := ⟨485, 12, 0x10, 1, 0, 1, 0, 23, 0, .wo, 0, .num, true, false, .any⟩
/-- 12_analog_front_end.md AFE +0x0014 [23:0] RO. Bit w: readback failure in force under R347 -/
def WC_DACERR : Fld := ⟨486, 12, 0x14, 1, 0, 1, 0, 23, 0, .ro, 0, .num, false, false, .any⟩
/-- 12_analog_front_end.md AFE +0x0018 [7:0] WO. Direct. Bit n triggers SEQn under R334. 0 is rejected with E_ZERO. -/
def SEQ_SWTRIG : Fld := ⟨487, 12, 0x18, 1, 0, 1, 0, 7, 0, .wo, 0, .num, true, false, .any⟩
/-- 12_analog_front_end.md AFE +0x001C [12:0] RW. 16 to 4,096 codes -/
def DAC_TOL : Fld := ⟨488, 12, 0x1C, 1, 0, 1, 0, 12, 0, .rw, 0, .ream, false, false, (.nat 16 4096 false)⟩
/-- 12_analog_front_end.md AFE +0x0020 [23:0] RW. tbc, 0 or 100 to 16,777,215 -/
def GT_PERIOD : Fld := ⟨489, 12, 0x20, 2, 8, 1, 0, 23, 0, .rw, 0, .ream, false, false, (.nat0 100 16777215)⟩
/-- 12_analog_front_end.md AFE +0x0024 [23:0] RW. tbc, below GT_PERIOD -/
def GT_PHASE : Fld := ⟨490, 12, 0x24, 2, 8, 1, 0, 23, 0, .rw, 0, .ream, false, false, .any⟩
/-- 12_analog_front_end.md AFE +0x0100 [19:16] RO. Steps of the sequence -/
def SEQ_NSTEP : Fld := ⟨491, 12, 0x100, 8, 32, 1, 0, 19, 16, .ro, 0, .ream, false, false, .any⟩
/-- 12_analog_front_end.md AFE +0x0100 [15:15] RO. Under R339 -/
def SEQ_STALE : Fld := ⟨492, 12, 0x100, 8, 32, 1, 0, 15, 15, .ro, 0, .num, false, false, .any⟩
/-- 12_analog_front_end.md AFE +0x0100 [14:14] RO. The last run was published with FAIL -/
def SEQ_FAIL : Fld := ⟨493, 12, 0x100, 8, 32, 1, 0, 14, 14, .ro, 0, .num, false, false, .any⟩
/-- 12_analog_front_end.md AFE +0x0100 [13:13] RO. A trigger is queued -/
def SEQ_QUEUED : Fld := ⟨494, 12, 0x100, 8, 32, 1, 0, 13, 13, .ro, 0, .num, false, false, .any⟩
/-- 12_analog_front_end.md AFE +0x0100 [12:12] RO. Under R335 -/
def SEQ_BUSY : Fld := ⟨495, 12, 0x100, 8, 32, 1, 0, 12, 12, .ro, 0, .num, false, false, .any⟩
/-- 12_analog_front_end.md AFE +0x0100 [11:11] RO. From SEQ_CFG -/
def SEQ_FSYNC_PORT : Fld := ⟨496, 12, 0x100, 8, 32, 1, 0, 11, 11, .ro, 0, .ream, false, false, .any⟩
/-- 12_analog_front_end.md AFE +0x0100 [10:8] RO. From SEQ_CFG -/
def SEQ_FSYNC_RING : Fld := ⟨497, 12, 0x100, 8, 32, 1, 0, 10, 8, .ro, 0, .ream, false, false, .any⟩
/-- 12_analog_front_end.md AFE +0x0100 [7:7] RO. From SEQ_CFG -/
def SEQ_QUEUE1 : Fld := ⟨498, 12, 0x100, 8, 32, 1, 0, 7, 7, .ro, 0, .ream, false, false, .any⟩
/-- 12_analog_front_end.md AFE +0x0100 [6:4] RO. From SEQ_CFG -/
def SEQ_TRIG_SRC : Fld := ⟨499, 12, 0x100, 8, 32, 1, 0, 6, 4, .ro, 0, .ream, false, false, .any⟩
/-- 12_analog_front_end.md AFE +0x0100 [3:0] RO. From SEQ_CFG -/
def SEQ_NENT : Fld := ⟨500, 12, 0x100, 8, 32, 1, 0, 3, 0, .ro, 0, .ream, false, false, .any⟩
/-- 12_analog_front_end.md AFE +0x0104 [15:0] RW. tbc, 0 to 65,535 -/
def SEQ_DLY : Fld := ⟨501, 12, 0x104, 8, 32, 1, 0, 15, 0, .rw, 0, .ream, false, false, .any⟩
/-- 12_analog_front_end.md AFE +0x0108 [31:0] RO. TB_NS32 of the first sampling instant of the last published run -/
def SEQ_TS : Fld := ⟨502, 12, 0x108, 8, 32, 1, 0, 31, 0, .ro, 0, .num, false, false, .any⟩
/-- 12_analog_front_end.md AFE +0x010C [31:0] RO. Published runs, modulo 2^32 -/
def SEQ_RUNS : Fld := ⟨503, 12, 0x10C, 8, 32, 1, 0, 31, 0, .ro, 0, .num, false, false, .any⟩
/-- 12_analog_front_end.md AFE +0x0110 [31:16] RC. Dropped triggers -/
def SEQ_TRIG_OVR : Fld := ⟨504, 12, 0x110, 8, 32, 1, 0, 31, 16, .rc, 0, .num, false, false, .any⟩
/-- 12_analog_front_end.md AFE +0x0110 [15:0] RC. Runs that started later than their delay -/
def SEQ_LATE_CNT : Fld := ⟨505, 12, 0x110, 8, 32, 1, 0, 15, 0, .rc, 0, .num, false, false, .any⟩
/-- 12_analog_front_end.md AFE +0x0114 [31:16] RO. Bit i: entry i clipped in the last run -/
def SEQ_CLIP : Fld := ⟨506, 12, 0x114, 8, 32, 1, 0, 31, 16, .ro, 0, .num, false, false, .any⟩
/-- 12_analog_front_end.md AFE +0x0114 [15:0] RO. ns the last run waited for converters -/
def SEQ_WAIT_LAST : Fld := ⟨507, 12, 0x114, 8, 32, 1, 0, 15, 0, .ro, 0, .num, false, false, .any⟩
/-- 12_analog_front_end.md AFE +0x0118 [31:16] RC. Runs published with FAIL -/
def SEQ_FAIL_CNT : Fld := ⟨508, 12, 0x118, 8, 32, 1, 0, 31, 16, .rc, 0, .num, false, false, .any⟩
/-- 12_analog_front_end.md AFE +0x0118 [15:0] RC. Stale frames -/
def SEQ_STALE_CNT : Fld := ⟨509, 12, 0x118, 8, 32, 1, 0, 15, 0, .rc, 0, .num, false, false, .any⟩
/-- 12_analog_front_end.md AFE +0x011C [15:0] RO. ns from t_trig to publication of the last run -/
def SEQ_DUR_LAST : Fld := ⟨510, 12, 0x11C, 8, 32, 1, 0, 15, 0, .ro, 0, .num, false, false, .any⟩
/-- 12_analog_front_end.md AFE +0x0800 [25:16] RW. Under R346 -/
def WC_TH_HI : Fld := ⟨511, 12, 0x800, 24, 16, 1, 0, 25, 16, .rw, 0, .ream, false, false, .any⟩
/-- 12_analog_front_end.md AFE +0x0800 [9:0] RW. Under R346 -/
def WC_TH_LO : Fld := ⟨512, 12, 0x800, 24, 16, 1, 0, 9, 0, .rw, 0, .ream, false, false, .any⟩
/-- 12_analog_front_end.md AFE +0x0804 [27:27] RO. 0 monitor, 1 trip -/
def WC_ROLE : Fld := ⟨513, 12, 0x804, 24, 16, 1, 0, 27, 27, .ro, 0, .ream, false, false, .any⟩
/-- 12_analog_front_end.md AFE +0x0804 [25:24] RO. Under R341 -/
def WC_WMODE : Fld := ⟨514, 12, 0x804, 24, 16, 1, 0, 25, 24, .ro, 0, .ream, false, false, .any⟩
/-- 12_analog_front_end.md AFE +0x0804 [19:16] RW. DAC steps, 0 to 15 -/
def WC_HYST : Fld := ⟨515, 12, 0x804, 24, 16, 1, 0, 19, 16, .rw, 0, .ream, false, false, .any⟩
/-- 12_analog_front_end.md AFE +0x0804 [11:8] RW. tbc, 0 to 15 -/
def WC_FILT : Fld := ⟨516, 12, 0x804, 24, 16, 1, 0, 11, 8, .rw, 0, .ream, false, false, .any⟩
/-- 12_analog_front_end.md AFE +0x0804 [0:0] RW. 0 software, 1 every boundary -/
def WC_CLR : Fld := ⟨517, 12, 0x804, 24, 16, 1, 0, 0, 0, .rw, 0, .ream, false, false, .any⟩
/-- 12_analog_front_end.md AFE +0x0808 [31:16] RC. Latchings counted for instance w -/
def WC_LATCH_CNT : Fld := ⟨518, 12, 0x808, 24, 16, 1, 0, 31, 16, .rc, 0, .num, false, false, .any⟩
/-- 12_analog_front_end.md AFE +0x0808 [15:0] RC. Readbacks outside DAC_TOL -/
def WC_DACERR_CNT : Fld := ⟨519, 12, 0x808, 24, 16, 1, 0, 15, 0, .rc, 0, .num, false, false, .any⟩
/-- 12_analog_front_end.md AFE +0x080C [31:16] RO. Last compared readback code of the high DAC -/
def WC_RB_HI : Fld := ⟨520, 12, 0x80C, 24, 16, 1, 0, 31, 16, .ro, 0, .num, false, false, .any⟩
/-- 12_analog_front_end.md AFE +0x080C [15:0] RO. Last compared readback code of the low DAC -/
def WC_RB_LO : Fld := ⟨521, 12, 0x80C, 24, 16, 1, 0, 15, 0, .ro, 0, .num, false, false, .any⟩
/-- 12_analog_front_end.md AFE +0x0200 [31:0] RO. RESULT(r) under R338 -/
def RESULT : Fld := ⟨522, 12, 0x200, 128, 4, 1, 0, 31, 0, .ro, 0, .num, false, false, .any⟩
/-- 12_analog_front_end.md AFE +0x0400 [31:0] RO. ENTRY(n,i) -/
def ENTRY : Fld := ⟨523, 12, 0x400, 128, 4, 1, 0, 31, 0, .ro, 0, .ream, false, false, .any⟩
/-- The fields of the AFE window. -/
def all : List Fld :=
  [CONV_OK, STAT_BUSY, STAT_STALE, SEQ_USED, WC_LATCH, WC_COND, WC_INIT, WC_SWCLR, WC_DACERR, SEQ_SWTRIG, DAC_TOL, GT_PERIOD, GT_PHASE, SEQ_NSTEP, SEQ_STALE, SEQ_FAIL, SEQ_QUEUED, SEQ_BUSY, SEQ_FSYNC_PORT, SEQ_FSYNC_RING, SEQ_QUEUE1, SEQ_TRIG_SRC, SEQ_NENT, SEQ_DLY, SEQ_TS, SEQ_RUNS, SEQ_TRIG_OVR, SEQ_LATE_CNT, SEQ_CLIP, SEQ_WAIT_LAST, SEQ_FAIL_CNT, SEQ_STALE_CNT, SEQ_DUR_LAST, WC_TH_HI, WC_TH_LO, WC_ROLE, WC_WMODE, WC_HYST, WC_FILT, WC_CLR] ++
  [WC_LATCH_CNT, WC_DACERR_CNT, WC_RB_HI, WC_RB_LO, RESULT, ENTRY]
end R.AFE
namespace R.FLT
/-- 13_faults_reactions.md FLT +0x0000 [27:24] RO. Highest reaction in force -/
def REACT_MAX : Fld := ⟨524, 13, 0x0, 1, 0, 1, 0, 27, 24, .ro, 0, .num, false, false, .any⟩
/-- 13_faults_reactions.md FLT +0x0000 [23:23] RO. SIG_OK level at the pad -/
def SIGOK_PIN : Fld := ⟨525, 13, 0x0, 1, 0, 1, 0, 23, 23, .ro, 0, .num, false, false, .any⟩
/-- 13_faults_reactions.md FLT +0x0000 [22:20] RO. 0 OFF, 1 PULSE, 2 HOLD, 3 ALIVE, 4 STOPPED, under R374 -/
def SIGOK_STATE : Fld := ⟨526, 13, 0x0, 1, 0, 1, 0, 22, 20, .ro, 0, .num, false, false, .any⟩
/-- 13_faults_reactions.md FLT +0x0000 [19:19] W1C. First-fault register holds a record, under R371. Direct. -/
def FF_VALID : Fld := ⟨527, 13, 0x0, 1, 0, 1, 0, 19, 19, .w1c, 0, .num, true, false, .any⟩
/-- 13_faults_reactions.md FLT +0x0000 [18:18] RO. An instance at WARN or above is active -/
def WARN_ACTIVE : Fld := ⟨528, 13, 0x0, 1, 0, 1, 0, 18, 18, .ro, 0, .num, false, false, .any⟩
/-- 13_faults_reactions.md FLT +0x0000 [17:17] RO. A unit is LOCKED -/
def LOCKED_ANY : Fld := ⟨529, 13, 0x0, 1, 0, 1, 0, 17, 17, .ro, 0, .num, false, false, .any⟩
/-- 13_faults_reactions.md FLT +0x0000 [15:0] RO. Bit c: an instance of class c is active -/
def CLASS_ACTIVE : Fld := ⟨530, 13, 0x0, 1, 0, 1, 0, 15, 0, .ro, 0, .num, false, false, .any⟩
/-- 13_faults_reactions.md FLT +0x0004 [31:16] RO. Units LOCKED -/
def LOCKED_CNT : Fld := ⟨531, 13, 0x4, 1, 0, 1, 0, 31, 16, .ro, 0, .num, false, false, .any⟩
/-- 13_faults_reactions.md FLT +0x0004 [15:0] RC. Entries overwritten unacknowledged, saturated at 65,535 -/
def HIST_LOST : Fld := ⟨532, 13, 0x4, 1, 0, 1, 0, 15, 0, .rc, 0, .num, false, false, .any⟩
/-- 13_faults_reactions.md FLT +0x0008 [31:16] RO. Last acknowledged entry -/
def ACK_SEQ : Fld := ⟨533, 13, 0x8, 1, 0, 1, 0, 31, 16, .ro, 0, .num, false, false, .any⟩
/-- 13_faults_reactions.md FLT +0x0008 [15:0] RO. Newest entry; 0 before the first -/
def HEAD_SEQ : Fld := ⟨534, 13, 0x8, 1, 0, 1, 0, 15, 0, .ro, 0, .num, false, false, .any⟩
/-- 13_faults_reactions.md FLT +0x000C [15:0] WO. Direct; under R369 -/
def HIST_ACK : Fld := ⟨535, 13, 0xC, 1, 0, 1, 0, 15, 0, .wo, 0, .num, true, false, .any⟩
/-- 13_faults_reactions.md FLT +0x0010 [1:1] RW. Direct; under R374 and R375 -/
def ALIVE : Fld := ⟨536, 13, 0x10, 1, 0, 1, 0, 1, 1, .rw, 0, .num, true, false, .any⟩
/-- 13_faults_reactions.md FLT +0x0010 [0:0] RW. Direct; SIG_OK level in HOLD -/
def LEVEL : Fld := ⟨537, 13, 0x10, 1, 0, 1, 0, 0, 0, .rw, 0, .num, true, false, .any⟩
/-- 13_faults_reactions.md FLT +0x0014 [7:0] RW. 0 to 255, under R365 -/
def MAX_RECOV : Fld := ⟨538, 13, 0x14, 1, 0, 1, 0, 7, 0, .rw, 0, .ream, false, false, .any⟩
/-- 13_faults_reactions.md FLT +0x0018 [3:0] RW. 1 to 8; 1 until the first activation, under R371 -/
def FIRST_MIN : Fld := ⟨539, 13, 0x18, 1, 0, 1, 0, 3, 0, .rw, 1, .ream, false, false, (.nat 1 8 false)⟩
/-- 13_faults_reactions.md FLT +0x0020 [31:0] RO. Record of R371, layout of R368 -/
def FIRST_FAULT : Fld := ⟨540, 13, 0x20, 4, 4, 1, 0, 31, 0, .ro, 0, .num, false, false, .any⟩
/-- 13_faults_reactions.md FLT +0x0030 [7:0] RO. DERATE_K in force; 0 when none -/
def DERATE_NOW : Fld := ⟨541, 13, 0x30, 1, 0, 1, 0, 7, 0, .ro, 0, .num, false, false, .any⟩
/-- 13_faults_reactions.md FLT +0x0034 [7:0] WO. Direct; unit under R366, 255 for all -/
def UNIT_CLR : Fld := ⟨542, 13, 0x34, 1, 0, 1, 0, 7, 0, .wo, 0, .num, true, false, .any⟩
/-- 13_faults_reactions.md FLT +0x0040 [19:0] RW. ms, 0 or 1 to 600,000 -/
def QUIET_T : Fld := ⟨543, 13, 0x40, 16, 4, 1, 0, 19, 0, .rw, 0, .ream, false, false, (.nat 0 600000 false)⟩
/-- 13_faults_reactions.md FLT +0x0080 [31:16] RC. Raisings while active, under R363 -/
def REPEAT_CNT : Fld := ⟨544, 13, 0x80, 16, 4, 1, 0, 31, 16, .rc, 0, .num, false, false, .any⟩
/-- 13_faults_reactions.md FLT +0x0080 [15:0] RC. Raisings that wrote an entry -/
def RAISE_CNT : Fld := ⟨545, 13, 0x80, 16, 4, 1, 0, 15, 0, .rc, 0, .num, false, false, .any⟩
/-- 13_faults_reactions.md FLT +0x0100 [31:0] RO. 32 entries of R368 at +0x0100 + 16 × (SEQ mod 32); CSPI words 0x0740 to 0x07BF -/
def HISTORY : Fld := ⟨546, 13, 0x100, 128, 4, 1, 0, 31, 0, .ro, 0, .num, false, false, .any⟩
/-- 13_faults_reactions.md FLT +0x0400 [31:0] W1C. Bit (i mod 32) of word i / 32: instance i of class c raised. Direct. -/
def STICKY : Fld := ⟨547, 13, 0x400, 16, 32, 8, 4, 31, 0, .w1c, 0, .num, true, false, .any⟩
/-- 13_faults_reactions.md FLT +0x0600 [31:0] RO. As STICKY, for active instances -/
def ACTIVE : Fld := ⟨548, 13, 0x600, 16, 32, 8, 4, 31, 0, .ro, 0, .num, false, false, .any⟩
/-- 13_faults_reactions.md FLT +0x0800 [31:31] RO. Under R365 -/
def UNIT_LOCKED : Fld := ⟨549, 13, 0x800, 173, 4, 1, 0, 31, 31, .ro, 0, .num, false, false, .any⟩
/-- 13_faults_reactions.md FLT +0x0800 [30:30] RO. A reaction at FENCE or above is in force on the unit -/
def UNIT_HELD : Fld := ⟨550, 13, 0x800, 173, 4, 1, 0, 30, 30, .ro, 0, .num, false, false, .any⟩
/-- 13_faults_reactions.md FLT +0x0800 [27:24] RO. Highest reaction in force on the unit -/
def UNIT_REACT : Fld := ⟨551, 13, 0x800, 173, 4, 1, 0, 27, 24, .ro, 0, .num, false, false, .any⟩
/-- 13_faults_reactions.md FLT +0x0800 [20:16] RO. Whole hours left in the window, 0 to 24; 0 when closed -/
def UNIT_WIN_LEFT : Fld := ⟨552, 13, 0x800, 173, 4, 1, 0, 20, 16, .ro, 0, .num, false, false, .any⟩
/-- 13_faults_reactions.md FLT +0x0800 [7:0] RO. Recoveries in the window -/
def UNIT_RECOV_CNT : Fld := ⟨553, 13, 0x800, 173, 4, 1, 0, 7, 0, .ro, 0, .num, false, false, .any⟩
/-- 13_faults_reactions.md FLT +0x4000 [15:8] RW. Under R377 -/
def RT_DERATE_K : Fld := ⟨554, 13, 0x4000, 4096, 4, 1, 0, 15, 8, .rw, 0, .ream, false, false, .any⟩
/-- 13_faults_reactions.md FLT +0x4000 [3:0] RW. Under R356 and R377; checked under R378 -/
def RT_CODE : Fld := ⟨555, 13, 0x4000, 4096, 4, 1, 0, 3, 0, .rw, 0, .ream, false, false, (.nat 0 8 false)⟩
/-- The fields of the FLT window. -/
def all : List Fld :=
  [REACT_MAX, SIGOK_PIN, SIGOK_STATE, FF_VALID, WARN_ACTIVE, LOCKED_ANY, CLASS_ACTIVE, LOCKED_CNT, HIST_LOST, ACK_SEQ, HEAD_SEQ, HIST_ACK, ALIVE, LEVEL, MAX_RECOV, FIRST_MIN, FIRST_FAULT, DERATE_NOW, UNIT_CLR, QUIET_T, REPEAT_CNT, RAISE_CNT, HISTORY, STICKY, ACTIVE, UNIT_LOCKED, UNIT_HELD, UNIT_REACT, UNIT_WIN_LEFT, UNIT_RECOV_CNT, RT_DERATE_K, RT_CODE]
end R.FLT
namespace R.SAFE
/-- 14_safety_channels.md SAFE +0x0000 [20:20] RO. Yarrow configured under R396 -/
def CFG_OK : Fld := ⟨556, 14, 0x0, 1, 0, 1, 0, 20, 20, .ro, 0, .num, false, false, .any⟩
/-- 14_safety_channels.md SAFE +0x0000 [19:19] RO. Cross-check latch of R392 -/
def XCHK_FAIL : Fld := ⟨557, 14, 0x0, 1, 0, 1, 0, 19, 19, .ro, 0, .num, false, false, .any⟩
/-- 14_safety_channels.md SAFE +0x0000 [18:18] RO. Yarrow's supply within limits -/
def YSUP_OK : Fld := ⟨558, 14, 0x0, 1, 0, 1, 0, 18, 18, .ro, 0, .num, false, false, .any⟩
/-- 14_safety_channels.md SAFE +0x0000 [17:17] RO. SOM permit of R385 -/
def PERMIT_SOM : Fld := ⟨559, 14, 0x0, 1, 0, 1, 0, 17, 17, .ro, 0, .num, false, false, .any⟩
/-- 14_safety_channels.md SAFE +0x0000 [16:16] RO. SOP permit -/
def PERMIT_SOP : Fld := ⟨560, 14, 0x0, 1, 0, 1, 0, 16, 16, .ro, 0, .num, false, false, .any⟩
/-- 14_safety_channels.md SAFE +0x0000 [15:12] RO. Pad levels, 1 energised: [12] SOPA, [13] SOPB, [14] SOMA, [15] SOMB -/
def OUT_RB : Fld := ⟨561, 14, 0x0, 1, 0, 1, 0, 15, 12, .ro, 0, .num, false, false, .any⟩
/-- 14_safety_channels.md SAFE +0x0000 [11:8] RO. Commanded levels, same order -/
def OUT_CMD : Fld := ⟨562, 14, 0x0, 1, 0, 1, 0, 11, 8, .ro, 0, .num, false, false, .any⟩
/-- 14_safety_channels.md SAFE +0x0000 [7:7] RO. Sorrel demands SMT -/
def SMT_S : Fld := ⟨563, 14, 0x0, 1, 0, 1, 0, 7, 7, .ro, 1, .num, false, false, .any⟩
/-- 14_safety_channels.md SAFE +0x0000 [6:6] RO. Yarrow demands SMT -/
def SMT_Y : Fld := ⟨564, 14, 0x0, 1, 0, 1, 0, 6, 6, .ro, 1, .num, false, false, .any⟩
/-- 14_safety_channels.md SAFE +0x0000 [5:5] RO. Sorrel demands SPB -/
def SPB_S : Fld := ⟨565, 14, 0x0, 1, 0, 1, 0, 5, 5, .ro, 1, .num, false, false, .any⟩
/-- 14_safety_channels.md SAFE +0x0000 [4:4] RO. Yarrow demands SPB -/
def SPB_Y : Fld := ⟨566, 14, 0x0, 1, 0, 1, 0, 4, 4, .ro, 1, .num, false, false, .any⟩
/-- 14_safety_channels.md SAFE +0x0000 [1:1] RO. Either channel demands SMT -/
def SMT_DEM : Fld := ⟨567, 14, 0x0, 1, 0, 1, 0, 1, 1, .ro, 1, .num, false, false, .any⟩
/-- 14_safety_channels.md SAFE +0x0000 [0:0] RO. Either channel demands SPB -/
def SPB_DEM : Fld := ⟨568, 14, 0x0, 1, 0, 1, 0, 0, 0, .ro, 1, .num, false, false, .any⟩
/-- 14_safety_channels.md SAFE +0x0004 [15:0] RO. For pair i, bits [4i+3:4i]: [4i] A demands, [4i+1] B demands, [4i+2] in demand, [4i+3] discrepancy latch -/
def SF_IN : Fld := ⟨569, 14, 0x4, 1, 0, 1, 0, 15, 0, .ro, 0, .num, false, false, .any⟩
/-- 14_safety_channels.md SAFE +0x0008 [11:8] RO. Bit f: feedback fault latched -/
def FB_LATCH : Fld := ⟨570, 14, 0x8, 1, 0, 1, 0, 11, 8, .ro, 0, .num, false, false, .any⟩
/-- 14_safety_channels.md SAFE +0x0008 [3:0] RO. Bit f: contact closed -/
def FB_LEVEL : Fld := ⟨571, 14, 0x8, 1, 0, 1, 0, 3, 0, .ro, 0, .num, false, false, .any⟩
/-- 14_safety_channels.md SAFE +0x000C [1:0] RW. [0] SPB, [1] SMT; demand while set. PF1. -/
def SF_HOST_DEM : Fld := ⟨572, 14, 0xC, 1, 0, 1, 0, 1, 0, .rw, 0, .num, true, true, .any⟩
/-- 14_safety_channels.md SAFE +0x0010 [3:0] WO. Bit f clears FBf under R390 -/
def SF_FB_CLR : Fld := ⟨573, 14, 0x10, 1, 0, 1, 0, 3, 0, .wo, 0, .num, true, false, .any⟩
/-- 14_safety_channels.md SAFE +0x0014 [31:0] RO. From the sheet -/
def SF_ID : Fld := ⟨574, 14, 0x14, 1, 0, 1, 0, 31, 0, .ro, 0, .ream, false, false, .any⟩
/-- 14_safety_channels.md SAFE +0x0018 [31:0] RO. From the sheet -/
def SF_CRC : Fld := ⟨575, 14, 0x18, 1, 0, 1, 0, 31, 0, .ro, 0, .ream, false, false, .any⟩
/-- 14_safety_channels.md SAFE +0x001C [31:0] RO. Yarrow's CRC under R396 -/
def YCFG_CRC : Fld := ⟨576, 14, 0x1C, 1, 0, 1, 0, 31, 0, .ro, 0, .num, false, false, .any⟩
/-- 14_safety_channels.md SAFE +0x0020 [15:0] RO. ns, demand to Yarrow's line and trip issue -/
def LAST_Y_T : Fld := ⟨577, 14, 0x20, 1, 0, 1, 0, 15, 0, .ro, 0, .num, false, false, .any⟩
/-- 14_safety_channels.md SAFE +0x0024 [15:0] RO. µs, demand to Sorrel's outputs -/
def LAST_S_T : Fld := ⟨578, 14, 0x24, 1, 0, 1, 0, 15, 0, .ro, 0, .num, false, false, .any⟩
/-- 14_safety_channels.md SAFE +0x0028 [15:0] RC. Demands, saturated at 65,535 -/
def DEM_CNT : Fld := ⟨579, 14, 0x28, 1, 0, 1, 0, 15, 0, .rc, 0, .num, false, false, .any⟩
/-- 14_safety_channels.md SAFE +0x002C [9:0] RO. ms -/
def FB_TIMEOUT : Fld := ⟨580, 14, 0x2C, 1, 0, 1, 0, 9, 0, .ro, 0, .ream, false, false, .any⟩
/-- 14_safety_channels.md SAFE +0x0100 [31:0] RO. Layout of R394 -/
def PAIR_SI_CFG : Fld := ⟨581, 14, 0x100, 4, 16, 1, 0, 31, 0, .ro, 0, .ream, false, false, .any⟩
/-- 14_safety_channels.md SAFE +0x0104 [10:0] RO. ms -/
def PAIR_DISC_T : Fld := ⟨582, 14, 0x104, 4, 16, 1, 0, 10, 0, .ro, 0, .ream, false, false, .any⟩
/-- 14_safety_channels.md SAFE +0x0108 [31:16] RC. Discrepancy faults -/
def PAIR_DISC_CNT : Fld := ⟨583, 14, 0x108, 4, 16, 1, 0, 31, 16, .rc, 0, .num, false, false, .any⟩
/-- 14_safety_channels.md SAFE +0x0108 [15:0] RC. Near misses -/
def PAIR_NEAR_CNT : Fld := ⟨584, 14, 0x108, 4, 16, 1, 0, 15, 0, .rc, 0, .num, false, false, .any⟩
/-- 14_safety_channels.md SAFE +0x010C [31:0] RO. SAFE cycles of the last disagreement -/
def PAIR_LAST_DISAG : Fld := ⟨585, 14, 0x10C, 4, 16, 1, 0, 31, 0, .ro, 0, .num, false, false, .any⟩
/-- 14_safety_channels.md SAFE +0x0200 [7:0] RO. Layout of R394 -/
def FB_CFG : Fld := ⟨586, 14, 0x200, 4, 16, 1, 0, 7, 0, .ro, 0, .ream, false, false, .any⟩
/-- 14_safety_channels.md SAFE +0x0204 [15:0] RO. ms from the last command change to confirmation -/
def FB_CONF_T : Fld := ⟨587, 14, 0x204, 4, 16, 1, 0, 15, 0, .ro, 0, .num, false, false, .any⟩
/-- 14_safety_channels.md SAFE +0x0208 [15:0] RC. Feedback faults -/
def FB_FLT_CNT : Fld := ⟨588, 14, 0x208, 4, 16, 1, 0, 15, 0, .rc, 0, .num, false, false, .any⟩
/-- The fields of the SAFE window. -/
def all : List Fld :=
  [CFG_OK, XCHK_FAIL, YSUP_OK, PERMIT_SOM, PERMIT_SOP, OUT_RB, OUT_CMD, SMT_S, SMT_Y, SPB_S, SPB_Y, SMT_DEM, SPB_DEM, SF_IN, FB_LATCH, FB_LEVEL, SF_HOST_DEM, SF_FB_CLR, SF_ID, SF_CRC, YCFG_CRC, LAST_Y_T, LAST_S_T, DEM_CNT, FB_TIMEOUT, PAIR_SI_CFG, PAIR_DISC_T, PAIR_DISC_CNT, PAIR_NEAR_CNT, PAIR_LAST_DISAG, FB_CFG, FB_CONF_T, FB_FLT_CNT]
end R.SAFE
namespace R.PART
/-- 15_partner_redundancy.md PART +0x0000 [31:28] RO. MODE_STATE of the partner's last valid beat -/
def PARTNER_MODE : Fld := ⟨589, 15, 0x0, 1, 0, 1, 0, 31, 28, .ro, 0, .num, false, false, .any⟩
/-- 15_partner_redundancy.md PART +0x0000 [23:23] RO. Under R415 -/
def READY : Fld := ⟨590, 15, 0x0, 1, 0, 1, 0, 23, 23, .ro, 0, .num, false, false, .any⟩
/-- 15_partner_redundancy.md PART +0x0000 [22:22] RO. Under R415 -/
def IN_SYNC : Fld := ⟨591, 15, 0x0, 1, 0, 1, 0, 22, 22, .ro, 0, .num, false, false, .any⟩
/-- 15_partner_redundancy.md PART +0x0000 [21:21] RO. Wire path valid under R405 -/
def WIRE_OK : Fld := ⟨592, 15, 0x0, 1, 0, 1, 0, 21, 21, .ro, 0, .num, false, false, .any⟩
/-- 15_partner_redundancy.md PART +0x0000 [20:20] RO. PL path valid -/
def PL_OK : Fld := ⟨593, 15, 0x0, 1, 0, 1, 0, 20, 20, .ro, 0, .num, false, false, .any⟩
/-- 15_partner_redundancy.md PART +0x0000 [19:19] RO. A confirmed handover awaits H -/
def HANDOVER_PEND : Fld := ⟨594, 15, 0x0, 1, 0, 1, 0, 19, 19, .ro, 0, .num, false, false, .any⟩
/-- 15_partner_redundancy.md PART +0x0000 [18:18] RO. LV port held under R417 -/
def LV_WAIT : Fld := ⟨595, 15, 0x0, 1, 0, 1, 0, 18, 18, .ro, 0, .num, false, false, .any⟩
/-- 15_partner_redundancy.md PART +0x0000 [17:17] RO. The partner's last valid beat shows it primary -/
def PARTNER_PRIMARY : Fld := ⟨596, 15, 0x0, 1, 0, 1, 0, 17, 17, .ro, 0, .num, false, false, .any⟩
/-- 15_partner_redundancy.md PART +0x0000 [16:16] RO. This module is primary -/
def PRIMARY : Fld := ⟨597, 15, 0x0, 1, 0, 1, 0, 16, 16, .ro, 0, .num, false, false, .any⟩
/-- 15_partner_redundancy.md PART +0x0000 [1:0] RO. 0 single, 1 preferred, 2 secondary, 3 invalid level -/
def STRAP : Fld := ⟨598, 15, 0x0, 1, 0, 1, 0, 1, 0, .ro, 0, .strap, false, false, .any⟩
/-- 15_partner_redundancy.md PART +0x0004 [31:16] RO. Epoch of the partner's last valid beat -/
def PARTNER_EPOCH : Fld := ⟨599, 15, 0x4, 1, 0, 1, 0, 31, 16, .ro, 0, .num, false, false, .any⟩
/-- 15_partner_redundancy.md PART +0x0004 [5:0] RO. [0] not IN_SYNC, [1] reaction at STOP or above, [2] image differs, [3] alignment, [4] PL down, [5] wire down -/
def NOT_READY : Fld := ⟨600, 15, 0x4, 1, 0, 1, 0, 5, 0, .ro, 0, .num, false, false, .any⟩
/-- 15_partner_redundancy.md PART +0x0008 [31:0] RO. ms since IN_SYNC was last set, saturated -/
def SYNC_TIME : Fld := ⟨601, 15, 0x8, 1, 0, 1, 0, 31, 0, .ro, 0, .num, false, false, .any⟩
/-- 15_partner_redundancy.md PART +0x000C [2:2] WO. In MIRROR, IDLE at the next boundary; otherwise rejected with E_MODE -/
def LEAVE : Fld := ⟨602, 15, 0xC, 1, 0, 1, 0, 2, 2, .wo, 0, .num, true, false, .any⟩
/-- 15_partner_redundancy.md PART +0x000C [1:1] WO. Under R419 -/
def YIELD : Fld := ⟨603, 15, 0xC, 1, 0, 1, 0, 1, 1, .wo, 0, .num, true, false, .any⟩
/-- 15_partner_redundancy.md PART +0x000C [0:0] RW. 1 inhibits takeback under R419 -/
def TB_INHIBIT : Fld := ⟨604, 15, 0xC, 1, 0, 1, 0, 0, 0, .rw, 0, .num, true, false, .any⟩
/-- 15_partner_redundancy.md PART +0x0010 [3:0] RW. 2 to 13 frames, under R418 -/
def HB_TIMEOUT : Fld := ⟨605, 15, 0x10, 1, 0, 1, 0, 3, 0, .rw, 0, .ream, false, false, (.nat 2 13 false)⟩
/-- 15_partner_redundancy.md PART +0x0014 [11:0] RW. s, 0 to 3,600 -/
def TAKEBACK_HOLD : Fld := ⟨606, 15, 0x14, 1, 0, 1, 0, 11, 0, .rw, 0, .ream, false, false, (.nat 0 3600 false)⟩
/-- 15_partner_redundancy.md PART +0x0018 [31:0] RO. Signed, q, under R411 -/
def ALIGN_ERR : Fld := ⟨607, 15, 0x18, 1, 0, 1, 0, 31, 0, .ro, 0, .num, false, false, .any⟩
/-- 15_partner_redundancy.md PART +0x001C [23:0] RO. q -/
def PL_RTT : Fld := ⟨608, 15, 0x1C, 1, 0, 1, 0, 23, 0, .ro, 0, .num, false, false, .any⟩
/-- 15_partner_redundancy.md PART +0x0020 [31:16] RC. Mirror frames discarded under R413 -/
def MIRROR_LOST : Fld := ⟨609, 15, 0x20, 1, 0, 1, 0, 31, 16, .rc, 0, .num, false, false, .any⟩
/-- 15_partner_redundancy.md PART +0x0020 [15:0] RC. PL code violations and CRC failures -/
def PL_ERR : Fld := ⟨610, 15, 0x20, 1, 0, 1, 0, 15, 0, .rc, 0, .num, false, false, .any⟩
/-- 15_partner_redundancy.md PART +0x0024 [31:16] RO. Takeovers since power-up, saturated -/
def TAKEOVER_CNT : Fld := ⟨611, 15, 0x24, 1, 0, 1, 0, 31, 16, .ro, 0, .num, false, false, .any⟩
/-- 15_partner_redundancy.md PART +0x0024 [15:0] RO. Handovers since power-up, saturated -/
def HANDOVER_CNT : Fld := ⟨612, 15, 0x24, 1, 0, 1, 0, 15, 0, .ro, 0, .num, false, false, .any⟩
/-- 15_partner_redundancy.md PART +0x0028 [31:0] RO. FRAME_NO of the frame that began at the last role change -/
def LAST_ROLE_FRAME : Fld := ⟨613, 15, 0x28, 1, 0, 1, 0, 31, 0, .ro, 0, .num, false, false, .any⟩
/-- 15_partner_redundancy.md PART +0x002C [31:16] RO. Bytes per frame under R421 -/
def MIRROR_BYTES : Fld := ⟨614, 15, 0x2C, 1, 0, 1, 0, 31, 16, .ro, 0, .ream, false, false, .any⟩
/-- 15_partner_redundancy.md PART +0x002C [10:0] RO. From the sheet -/
def ITEM_COUNT : Fld := ⟨615, 15, 0x2C, 1, 0, 1, 0, 10, 0, .ro, 0, .ream, false, false, .any⟩
/-- The fields of the PART window. -/
def all : List Fld :=
  [PARTNER_MODE, READY, IN_SYNC, WIRE_OK, PL_OK, HANDOVER_PEND, LV_WAIT, PARTNER_PRIMARY, PRIMARY, STRAP, PARTNER_EPOCH, NOT_READY, SYNC_TIME, LEAVE, YIELD, TB_INHIBIT, HB_TIMEOUT, TAKEBACK_HOLD, ALIGN_ERR, PL_RTT, MIRROR_LOST, PL_ERR, TAKEOVER_CNT, HANDOVER_CNT, LAST_ROLE_FRAME, MIRROR_BYTES, ITEM_COUNT]
end R.PART
namespace R.THERM
/-- 16_thermal_lifetime.md THERM +0x0000 [31:31] RO. Under R441 -/
def FLASH_HOLD : Fld := ⟨616, 16, 0x0, 1, 0, 1, 0, 31, 31, .ro, 0, .num, false, false, .any⟩
/-- 16_thermal_lifetime.md THERM +0x0000 [30:30] RO. A reading was stale in the last round -/
def HK_STALE : Fld := ⟨617, 16, 0x0, 1, 0, 1, 0, 30, 30, .ro, 0, .num, false, false, .any⟩
/-- 16_thermal_lifetime.md THERM +0x0000 [25:24] RO. Die giving TDIE_MAX -/
def HOT_DIE : Fld := ⟨618, 16, 0x0, 1, 0, 1, 0, 25, 24, .ro, 0, .num, false, false, .any⟩
/-- 16_thermal_lifetime.md THERM +0x0000 [2:0] RO. [0] TW, [1] TS_ORDER, [2] TS_HARD present -/
def THR_ACT : Fld := ⟨619, 16, 0x0, 1, 0, 1, 0, 2, 0, .ro, 0, .num, false, false, .any⟩
/-- 16_thermal_lifetime.md THERM +0x0004 [31:0] RO. binary32, °C -/
def TDIE_MAX : Fld := ⟨620, 16, 0x4, 1, 0, 1, 0, 31, 0, .ro, 0, .num, false, false, .any⟩
/-- 16_thermal_lifetime.md THERM +0x0008 [31:0] RO. binary32, °C, under R429 -/
def TDIE : Fld := ⟨621, 16, 0x8, 4, 4, 1, 0, 31, 0, .ro, 0, .num, false, false, .any⟩
/-- 16_thermal_lifetime.md THERM +0x0018 [31:0] RO. Last TSd reading, binary32, °C -/
def TSENS : Fld := ⟨622, 16, 0x18, 4, 4, 1, 0, 31, 0, .ro, 0, .num, false, false, .any⟩
/-- 16_thermal_lifetime.md THERM +0x0028 [31:0] RO. Rounds, modulo 2^32 -/
def HK_ROUNDS : Fld := ⟨623, 16, 0x28, 1, 0, 1, 0, 31, 0, .ro, 0, .num, false, false, .any⟩
/-- 16_thermal_lifetime.md THERM +0x0030 [31:0] RO. binary32, V -/
def VIN : Fld := ⟨624, 16, 0x30, 1, 0, 1, 0, 31, 0, .ro, 0, .num, false, false, .any⟩
/-- 16_thermal_lifetime.md THERM +0x0034 [31:0] RO. binary32, V -/
def VBAT : Fld := ⟨625, 16, 0x34, 1, 0, 1, 0, 31, 0, .ro, 0, .num, false, false, .any⟩
/-- 16_thermal_lifetime.md THERM +0x0038 [31:0] RO. binary32, V -/
def V3P3 : Fld := ⟨626, 16, 0x38, 1, 0, 1, 0, 31, 0, .ro, 0, .num, false, false, .any⟩
/-- 16_thermal_lifetime.md THERM +0x003C [31:0] RO. binary32, V -/
def V1P8 : Fld := ⟨627, 16, 0x3C, 1, 0, 1, 0, 31, 0, .ro, 0, .num, false, false, .any⟩
/-- 16_thermal_lifetime.md THERM +0x0040 [31:0] RO. binary32, V -/
def V0P8 : Fld := ⟨628, 16, 0x40, 1, 0, 1, 0, 31, 0, .ro, 0, .num, false, false, .any⟩
/-- 16_thermal_lifetime.md THERM +0x0044 [31:0] RO. binary32, °C, for b from 0 to 3; the words +0x0054 to +0x005C are reserved -/
def BRD_T : Fld := ⟨629, 16, 0x44, 4, 4, 1, 0, 31, 0, .ro, 0, .num, false, false, .any⟩
/-- 16_thermal_lifetime.md THERM +0x0060 [7:0] RW. Result index 0 to 127, for b from 0 to 3; 255 unused -/
def BRD_SRC : Fld := ⟨630, 16, 0x60, 4, 4, 1, 0, 7, 0, .rw, 255, .num, false, false, (.oneOf (255 :: List.range 128))⟩
/-- 16_thermal_lifetime.md THERM +0x0070 [15:0] RO. Dirty sectors -/
def DIRTY_CNT : Fld := ⟨631, 16, 0x70, 1, 0, 1, 0, 15, 0, .ro, 0, .num, false, false, .any⟩
/-- 16_thermal_lifetime.md THERM +0x0074 [8:0] RO. Entries queued under R440 -/
def EVJ_BACKLOG : Fld := ⟨632, 16, 0x74, 1, 0, 1, 0, 8, 0, .ro, 0, .num, false, false, .any⟩
/-- 16_thermal_lifetime.md THERM +0x0078 [15:0] RC. Under R440 -/
def EVJ_DROP : Fld := ⟨633, 16, 0x78, 1, 0, 1, 0, 15, 0, .rc, 0, .num, false, false, .any⟩
/-- 16_thermal_lifetime.md THERM +0x007C [15:0] RO. Under R443 -/
def JRN_ROLLBACK : Fld := ⟨634, 16, 0x7C, 1, 0, 1, 0, 15, 0, .ro, 0, .num, false, false, .any⟩
/-- 16_thermal_lifetime.md THERM +0x0080 [31:0] RW. binary32; RTH in K/W, 0 to 100; TAU in s, 10⁻⁵ to 10⁴ -/
def RTH_BR1 : Fld := ⟨635, 16, 0x80, 1, 0, 1, 0, 31, 0, .rw, 0, .num, false, false, (.f32 0x0 0x42c80000 false)⟩
/-- 16_thermal_lifetime.md THERM +0x0084 [31:0] RW. binary32; RTH in K/W, 0 to 100; TAU in s, 10⁻⁵ to 10⁴ -/
def TAU_BR1 : Fld := ⟨636, 16, 0x84, 1, 0, 1, 0, 31, 0, .rw, 0, .num, false, false, (.f32 0x3727c5ac 0x461c4000 false)⟩
/-- 16_thermal_lifetime.md THERM +0x0088 [31:0] RW. binary32; RTH in K/W, 0 to 100; TAU in s, 10⁻⁵ to 10⁴ -/
def RTH_BR2 : Fld := ⟨637, 16, 0x88, 1, 0, 1, 0, 31, 0, .rw, 0, .num, false, false, (.f32 0x0 0x42c80000 false)⟩
/-- 16_thermal_lifetime.md THERM +0x008C [31:0] RW. binary32; RTH in K/W, 0 to 100; TAU in s, 10⁻⁵ to 10⁴ -/
def TAU_BR2 : Fld := ⟨638, 16, 0x8C, 1, 0, 1, 0, 31, 0, .rw, 0, .num, false, false, (.f32 0x3727c5ac 0x461c4000 false)⟩
/-- 16_thermal_lifetime.md THERM +0x0090 [31:0] RW. binary32; RTH in K/W, 0 to 100; TAU in s, 10⁻⁵ to 10⁴ -/
def RTH_DAB1 : Fld := ⟨639, 16, 0x90, 1, 0, 1, 0, 31, 0, .rw, 0, .num, false, false, (.f32 0x0 0x42c80000 false)⟩
/-- 16_thermal_lifetime.md THERM +0x0094 [31:0] RW. binary32; RTH in K/W, 0 to 100; TAU in s, 10⁻⁵ to 10⁴ -/
def TAU_DAB1 : Fld := ⟨640, 16, 0x94, 1, 0, 1, 0, 31, 0, .rw, 0, .num, false, false, (.f32 0x3727c5ac 0x461c4000 false)⟩
/-- 16_thermal_lifetime.md THERM +0x0098 [31:0] RW. binary32; RTH in K/W, 0 to 100; TAU in s, 10⁻⁵ to 10⁴ -/
def RTH_DAB2 : Fld := ⟨641, 16, 0x98, 1, 0, 1, 0, 31, 0, .rw, 0, .num, false, false, (.f32 0x0 0x42c80000 false)⟩
/-- 16_thermal_lifetime.md THERM +0x009C [31:0] RW. binary32; RTH in K/W, 0 to 100; TAU in s, 10⁻⁵ to 10⁴ -/
def TAU_DAB2 : Fld := ⟨642, 16, 0x9C, 1, 0, 1, 0, 31, 0, .rw, 0, .num, false, false, (.f32 0x3727c5ac 0x461c4000 false)⟩
/-- 16_thermal_lifetime.md THERM +0x00A0 [31:0] RW. binary32, °C, 50 to 250; reset 150 °C -/
def TJ_MAX : Fld := ⟨643, 16, 0xA0, 1, 0, 1, 0, 31, 0, .rw, 1125515264, .num, false, false, (.f32 0x42480000 0x437a0000 false)⟩
/-- 16_thermal_lifetime.md THERM +0x00A4 [31:0] RW. binary32, °C, 0.25 to 10; reset 1 °C -/
def TEASEL_HYST : Fld := ⟨644, 16, 0xA4, 1, 0, 1, 0, 31, 0, .rw, 1065353216, .num, false, false, (.f32 0x3e800000 0x41200000 false)⟩
/-- 16_thermal_lifetime.md THERM +0x00A8 [31:0] RW. binary32, 0.01 to 1; reset 0.8 -/
def LIFE_WARN : Fld := ⟨645, 16, 0xA8, 1, 0, 1, 0, 31, 0, .rw, 1061997773, .num, false, false, (.f32 0x3c23d70a 0x3f800000 false)⟩
/-- 16_thermal_lifetime.md THERM +0x0100 [31:0] RW. binary32 cycles to failure, 0 or 1 to 10¹⁵ -/
def LIFE_N : Fld := ⟨646, 16, 0x100, 64, 4, 1, 0, 31, 0, .rw, 0, .num, false, false, (.f32z 0x3f800000 0x58635fa9)⟩
/-- 16_thermal_lifetime.md THERM +0x0200 [31:0] RO. R_0 to R_3 in K/W, then τ_0 to τ_3 in s, of die d under R428, binary32, for d from 0 to 3 -/
def DIE_MODEL : Fld := ⟨647, 16, 0x200, 4, 32, 8, 4, 31, 0, .ro, 0, .factory, false, false, .any⟩
/-- 16_thermal_lifetime.md THERM +0x1000 [31:0] RO. binary32, °C -/
def CELL_TJ_BR : Fld := ⟨648, 16, 0x1000, 144, 16, 1, 0, 31, 0, .ro, 0, .num, false, false, .any⟩
/-- 16_thermal_lifetime.md THERM +0x1004 [31:0] RO. binary32, °C -/
def CELL_TJ_DAB : Fld := ⟨649, 16, 0x1004, 144, 16, 1, 0, 31, 0, .ro, 0, .num, false, false, .any⟩
/-- 16_thermal_lifetime.md THERM +0x1008 [31:0] RO. binary32, under R436 -/
def CELL_LIFE_USED : Fld := ⟨650, 16, 0x1008, 144, 16, 1, 0, 31, 0, .ro, 0, .num, false, false, .any⟩
/-- 16_thermal_lifetime.md THERM +0x100C [31:0] RO. Hours, under R436 -/
def CELL_REMAIN_H : Fld := ⟨651, 16, 0x100C, 144, 16, 1, 0, 31, 0, .ro, 4294967295, .num, false, false, .any⟩
/-- 16_thermal_lifetime.md THERM +0x2000 [7:0] RW. Direct; slot 0 to 143 -/
def TEASEL_SEL : Fld := ⟨652, 16, 0x2000, 1, 0, 1, 0, 7, 0, .rw, 0, .num, true, false, (.nat 0 143 false)⟩
/-- 16_thermal_lifetime.md THERM +0x2004 [31:0] RO. JSEQ of the record shown -/
def TEASEL_JSEQ : Fld := ⟨653, 16, 0x2004, 1, 0, 1, 0, 31, 0, .ro, 0, .num, false, false, .any⟩
/-- 16_thermal_lifetime.md THERM +0x2008 [31:0] RO. Whole seconds of the selected slot: the record's millisecond count of R434 divided by 1,000, truncated -/
def OP_TIME : Fld := ⟨654, 16, 0x2008, 1, 0, 1, 0, 31, 0, .ro, 0, .num, false, false, .any⟩
/-- 16_thermal_lifetime.md THERM +0x200C [0:0] WO. Direct; under R437 -/
def TEASEL_RST : Fld := ⟨655, 16, 0x200C, 1, 0, 1, 0, 0, 0, .wo, 0, .num, true, false, .any⟩
/-- 16_thermal_lifetime.md THERM +0x2100 [31:0] RO. Half-cycles of bin (i, j) in the last record -/
def BIN : Fld := ⟨656, 16, 0x2100, 128, 4, 1, 0, 31, 0, .ro, 0, .num, false, false, .any⟩
/-- 16_thermal_lifetime.md THERM +0x3000 [31:0] RW. Direct; JSEQ to load under R444 -/
def EVJ_SEL : Fld := ⟨657, 16, 0x3000, 1, 0, 1, 0, 31, 0, .rw, 0, .num, true, false, .any⟩
/-- 16_thermal_lifetime.md THERM +0x3004 [1:0] RO. [0] EVJ_READY, [1] EVJ_GONE -/
def EVJ_STAT : Fld := ⟨658, 16, 0x3004, 1, 0, 1, 0, 1, 0, .ro, 0, .num, false, false, .any⟩
/-- 16_thermal_lifetime.md THERM +0x3010 [31:0] RO. Entry in the layout of R368 -/
def EVJ_ENTRY : Fld := ⟨659, 16, 0x3010, 4, 4, 1, 0, 31, 0, .ro, 0, .num, false, false, .any⟩
/-- The fields of the THERM window. -/
def all : List Fld :=
  [FLASH_HOLD, HK_STALE, HOT_DIE, THR_ACT, TDIE_MAX, TDIE, TSENS, HK_ROUNDS, VIN, VBAT, V3P3, V1P8, V0P8, BRD_T, BRD_SRC, DIRTY_CNT, EVJ_BACKLOG, EVJ_DROP, JRN_ROLLBACK, RTH_BR1, TAU_BR1, RTH_BR2, TAU_BR2, RTH_DAB1, TAU_DAB1, RTH_DAB2, TAU_DAB2, TJ_MAX, TEASEL_HYST, LIFE_WARN, LIFE_N, DIE_MODEL, CELL_TJ_BR, CELL_TJ_DAB, CELL_LIFE_USED, CELL_REMAIN_H, TEASEL_SEL, TEASEL_JSEQ, OP_TIME, TEASEL_RST] ++
  [BIN, EVJ_SEL, EVJ_STAT, EVJ_ENTRY]
end R.THERM
namespace R.NET
/-- 17_grid_network_time.md NET +0x0000 [31:31] RO. Under R465 -/
def TIME_SUSPECT : Fld := ⟨660, 17, 0x0, 1, 0, 1, 0, 31, 31, .ro, 1, .num, false, false, .any⟩
/-- 17_grid_network_time.md NET +0x0000 [30:28] RO. 0 FREE, 1 STEPRATE, 2 LOCKED, 3 RATEHOLD, 4 HOLDOVER -/
def SERVO_STATE : Fld := ⟨661, 17, 0x0, 1, 0, 1, 0, 30, 28, .ro, 0, .num, false, false, .any⟩
/-- 17_grid_network_time.md NET +0x0000 [27:27] RO. Under R459 -/
def GM_TRACE : Fld := ⟨662, 17, 0x0, 1, 0, 1, 0, 27, 27, .ro, 0, .num, false, false, .any⟩
/-- 17_grid_network_time.md NET +0x0000 [26:26] RO. Under R475 -/
def XCHK_BAD : Fld := ⟨663, 17, 0x0, 1, 0, 1, 0, 26, 26, .ro, 0, .num, false, false, .any⟩
/-- 17_grid_network_time.md NET +0x0000 [25:24] RO. Bit p: LAN p included -/
def LAN_INCL : Fld := ⟨664, 17, 0x0, 1, 0, 1, 0, 25, 24, .ro, 0, .num, false, false, .any⟩
/-- 17_grid_network_time.md NET +0x0000 [23:22] RO. Bit p: LAN p excluded under R467 -/
def LAN_EXCL : Fld := ⟨665, 17, 0x0, 1, 0, 1, 0, 23, 22, .ro, 0, .num, false, false, .any⟩
/-- 17_grid_network_time.md NET +0x0000 [21:20] RO. Bit p: NETp link up -/
def LINK : Fld := ⟨666, 17, 0x0, 1, 0, 1, 0, 21, 20, .ro, 0, .num, false, false, .any⟩
/-- 17_grid_network_time.md NET +0x0000 [19:18] RO. Bit p: NETp fenced -/
def FENCED : Fld := ⟨667, 17, 0x0, 1, 0, 1, 0, 19, 18, .ro, 0, .num, false, false, .any⟩
/-- 17_grid_network_time.md NET +0x0000 [17:17] RO. Under R478 -/
def PUBLISHING : Fld := ⟨668, 17, 0x0, 1, 0, 1, 0, 17, 17, .ro, 0, .num, false, false, .any⟩
/-- 17_grid_network_time.md NET +0x0000 [1:0] RW. Under R466 -/
def SERVO_MODE : Fld := ⟨669, 17, 0x0, 1, 0, 1, 0, 1, 0, .rw, 0, .ream, false, false, (.nat 0 2 false)⟩
/-- 17_grid_network_time.md NET +0x0004 [31:0] RO. Signed servo input, ns -/
def E : Fld := ⟨670, 17, 0x4, 1, 0, 1, 0, 31, 0, .ro, 0, .num, false, false, .any⟩
/-- 17_grid_network_time.md NET +0x0008 [31:0] RO. Signed o_p, ns -/
def OFS : Fld := ⟨671, 17, 0x8, 2, 4, 1, 0, 31, 0, .ro, 0, .num, false, false, .any⟩
/-- 17_grid_network_time.md NET +0x0010 [31:0] RO. MPD_p, ns -/
def MPD : Fld := ⟨672, 17, 0x10, 2, 4, 1, 0, 31, 0, .ro, 0, .num, false, false, .any⟩
/-- 17_grid_network_time.md NET +0x0018 [31:0] RO. Signed COR_p, ns -/
def COR : Fld := ⟨673, 17, 0x18, 2, 4, 1, 0, 31, 0, .ro, 0, .num, false, false, .any⟩
/-- 17_grid_network_time.md NET +0x0020 [31:0] RO. clockIdentity of the grandmaster -/
def GM_ID_LO : Fld := ⟨674, 17, 0x20, 1, 0, 1, 0, 31, 0, .ro, 0, .num, false, false, .any⟩
/-- 17_grid_network_time.md NET +0x0024 [31:0] RO. clockIdentity of the grandmaster -/
def GM_ID_HI : Fld := ⟨675, 17, 0x24, 1, 0, 1, 0, 31, 0, .ro, 0, .num, false, false, .any⟩
/-- 17_grid_network_time.md NET +0x0028 [31:24] RO. clockClass -/
def GM_CLASS : Fld := ⟨676, 17, 0x28, 1, 0, 1, 0, 31, 24, .ro, 0, .num, false, false, .any⟩
/-- 17_grid_network_time.md NET +0x0028 [23:16] RO. clockAccuracy -/
def GM_ACC : Fld := ⟨677, 17, 0x28, 1, 0, 1, 0, 23, 16, .ro, 0, .num, false, false, .any⟩
/-- 17_grid_network_time.md NET +0x0028 [15:0] RO. Signed s, under R477 -/
def UTC_OFF : Fld := ⟨678, 17, 0x28, 1, 0, 1, 0, 15, 0, .ro, 0, .ream, false, false, .any⟩
/-- 17_grid_network_time.md NET +0x002C [18:18] RO. currentUtcOffsetValid -/
def UTC_VALID : Fld := ⟨679, 17, 0x2C, 1, 0, 1, 0, 18, 18, .ro, 0, .num, false, false, .any⟩
/-- 17_grid_network_time.md NET +0x002C [17:17] RO. Leap flag -/
def LEAP59 : Fld := ⟨680, 17, 0x2C, 1, 0, 1, 0, 17, 17, .ro, 0, .num, false, false, .any⟩
/-- 17_grid_network_time.md NET +0x002C [16:16] RO. Leap flag -/
def LEAP61 : Fld := ⟨681, 17, 0x2C, 1, 0, 1, 0, 16, 16, .ro, 0, .num, false, false, .any⟩
/-- 17_grid_network_time.md NET +0x002C [15:0] RO. ns, under R456 -/
def GM_INACC : Fld := ⟨682, 17, 0x2C, 1, 0, 1, 0, 15, 0, .ro, 65535, .num, false, false, .any⟩
/-- 17_grid_network_time.md NET +0x0030 [20:16] RO. Unread entries, 0 to 16 -/
def TSQ_FILL : Fld := ⟨683, 17, 0x30, 2, 4, 1, 0, 20, 16, .ro, 0, .num, false, false, .any⟩
/-- 17_grid_network_time.md NET +0x0030 [15:0] RC. Under R455 -/
def TSQ_DROP : Fld := ⟨684, 17, 0x30, 2, 4, 1, 0, 15, 0, .rc, 0, .num, false, false, .any⟩
/-- 17_grid_network_time.md NET +0x0038 [1:0] WO. Direct; under R471 -/
def LAN_RESET : Fld := ⟨685, 17, 0x38, 1, 0, 1, 0, 1, 0, .wo, 0, .num, true, false, .any⟩
/-- 17_grid_network_time.md NET +0x003C [31:0] RW. Direct; PTP seconds -/
def TOD_SET_LO : Fld := ⟨686, 17, 0x3C, 1, 0, 1, 0, 31, 0, .rw, 0, .num, true, false, .any⟩
/-- 17_grid_network_time.md NET +0x0040 [31:0] RW. Direct; PTP seconds -/
def TOD_SET_HI : Fld := ⟨687, 17, 0x40, 1, 0, 1, 0, 31, 0, .rw, 0, .num, true, false, .any⟩
/-- 17_grid_network_time.md NET +0x0044 [0:0] WO. Direct; under R477 -/
def TOD_SET_GO : Fld := ⟨688, 17, 0x44, 1, 0, 1, 0, 0, 0, .wo, 0, .num, true, false, .any⟩
/-- 17_grid_network_time.md NET +0x0048 [31:0] RW. Direct; host bits of R489 -/
def HGB_LO : Fld := ⟨689, 17, 0x48, 1, 0, 1, 0, 31, 0, .rw, 0, .num, true, false, .any⟩
/-- 17_grid_network_time.md NET +0x004C [31:0] RW. Direct; host bits of R489 -/
def HGB_HI : Fld := ⟨690, 17, 0x4C, 1, 0, 1, 0, 31, 0, .rw, 0, .num, true, false, .any⟩
/-- 17_grid_network_time.md NET +0x0050 [31:16] RC. HOLDOVER entries -/
def HOLD_CNT : Fld := ⟨691, 17, 0x50, 1, 0, 1, 0, 31, 16, .rc, 0, .num, false, false, .any⟩
/-- 17_grid_network_time.md NET +0x0050 [15:0] RC. Steps -/
def STEP_CNT : Fld := ⟨692, 17, 0x50, 1, 0, 1, 0, 15, 0, .rc, 0, .num, false, false, .any⟩
/-- 17_grid_network_time.md NET +0x0060 [31:0] RW. Ranges of R491 -/
def PD_STEP_THR : Fld := ⟨693, 17, 0x60, 1, 0, 1, 0, 31, 0, .rw, 0, .ream, false, false, (.nat 10 1000000 false)⟩
/-- 17_grid_network_time.md NET +0x0064 [31:0] RW. Ranges of R491 -/
def STEP_THR : Fld := ⟨694, 17, 0x64, 1, 0, 1, 0, 31, 0, .rw, 0, .ream, false, false, (.nat 100 100000000 false)⟩
/-- 17_grid_network_time.md NET +0x0068 [31:0] RW. Ranges of R491 -/
def KP : Fld := ⟨695, 17, 0x68, 1, 0, 1, 0, 31, 0, .rw, 0, .ream, false, false, (.f32 0x0 0x447a0000 false)⟩
/-- 17_grid_network_time.md NET +0x006C [31:0] RW. Ranges of R491 -/
def KI : Fld := ⟨696, 17, 0x6C, 1, 0, 1, 0, 31, 0, .rw, 0, .ream, false, false, (.f32 0x0 0x447a0000 false)⟩
/-- 17_grid_network_time.md NET +0x0070 [31:0] RW. Ranges of R491 -/
def LOCK_THR : Fld := ⟨697, 17, 0x70, 1, 0, 1, 0, 31, 0, .rw, 0, .ream, false, false, (.nat 1 1000000 false)⟩
/-- 17_grid_network_time.md NET +0x0074 [31:0] RW. Ranges of R491 -/
def XCHK_THR : Fld := ⟨698, 17, 0x74, 1, 0, 1, 0, 31, 0, .rw, 0, .ream, false, false, (.nat 10 10000000 false)⟩
/-- 17_grid_network_time.md NET +0x0078 [31:0] RW. Ranges of R491 -/
def SUB_DIFF_THR : Fld := ⟨699, 17, 0x78, 1, 0, 1, 0, 31, 0, .rw, 0, .ream, false, false, (.f32 0x1 0x7f7fffff false)⟩
/-- 17_grid_network_time.md NET +0x007C [31:0] RW. Ranges of R491 -/
def TAI_UTC : Fld := ⟨700, 17, 0x7C, 1, 0, 1, 0, 31, 0, .rw, 0, .ream, false, false, (.nat 0 100 false)⟩
/-- 17_grid_network_time.md NET +0x0080 [31:16] RW. Ranges of R491 -/
def PD_SETTLE : Fld := ⟨701, 17, 0x80, 1, 0, 1, 0, 31, 16, .rw, 0, .ream, false, false, (.nat 2 1000 false)⟩
/-- 17_grid_network_time.md NET +0x0080 [15:0] RW.  -/
def LOCK_N : Fld := ⟨702, 17, 0x80, 1, 0, 1, 0, 15, 0, .rw, 0, .ream, false, false, (.nat 1 1000 false)⟩
/-- 17_grid_network_time.md NET +0x0084 [31:24] RW.  -/
def ANN_RX_TO : Fld := ⟨703, 17, 0x84, 1, 0, 1, 0, 31, 24, .rw, 0, .ream, false, false, (.nat 2 10 false)⟩
/-- 17_grid_network_time.md NET +0x0084 [23:16] RW.  -/
def CLASS_MAX : Fld := ⟨704, 17, 0x84, 1, 0, 1, 0, 23, 16, .rw, 0, .ream, false, false, (.nat 6 255 false)⟩
/-- 17_grid_network_time.md NET +0x0084 [8:0] RW.  -/
def RATE_WIN : Fld := ⟨705, 17, 0x84, 1, 0, 1, 0, 8, 0, .rw, 0, .ream, false, false, (.nat 4 256 false)⟩
/-- 17_grid_network_time.md NET +0x0088 [31:16] RW. ms -/
def T0 : Fld := ⟨706, 17, 0x88, 1, 0, 1, 0, 31, 16, .rw, 0, .ream, false, false, (.nat 100 60000 false)⟩
/-- 17_grid_network_time.md NET +0x0088 [15:0] RW. ms -/
def T_MIN : Fld := ⟨707, 17, 0x88, 1, 0, 1, 0, 15, 0, .rw, 0, .ream, false, false, (.nat 1 1000 false)⟩
/-- 17_grid_network_time.md NET +0x008C [31:16] RW.  -/
def SUB_DIFF_N : Fld := ⟨708, 17, 0x8C, 1, 0, 1, 0, 31, 16, .rw, 0, .ream, false, false, (.nat 1 65535 false)⟩
/-- 17_grid_network_time.md NET +0x008C [15:0] RW.  -/
def ERR_THR : Fld := ⟨709, 17, 0x8C, 1, 0, 1, 0, 15, 0, .rw, 0, .ream, false, false, (.nat 1 65535 false)⟩
/-- 17_grid_network_time.md NET +0x0090 [7:0] RW. Under R476 -/
def PPS_OUT_CTL : Fld := ⟨710, 17, 0x90, 1, 0, 1, 0, 7, 0, .rw, 0, .ream, false, false, (.nat 2 181 false)⟩
/-- 17_grid_network_time.md NET +0x0100 [31:0] RO. Frames received, modulo 2^32 -/
def PORT_RX_CNT : Fld := ⟨711, 17, 0x100, 2, 32, 1, 0, 31, 0, .ro, 0, .num, false, false, .any⟩
/-- 17_grid_network_time.md NET +0x0104 [31:16] RC. Frames with errors -/
def PORT_CRC_CNT : Fld := ⟨712, 17, 0x104, 2, 32, 1, 0, 31, 16, .rc, 0, .num, false, false, .any⟩
/-- 17_grid_network_time.md NET +0x0104 [15:0] RC. Under R450 -/
def PORT_OTHER_CNT : Fld := ⟨713, 17, 0x104, 2, 32, 1, 0, 15, 0, .rc, 0, .num, false, false, .any⟩
/-- 17_grid_network_time.md NET +0x0108 [31:16] RC. Duplicates discarded -/
def PORT_DUP_CNT : Fld := ⟨714, 17, 0x108, 2, 32, 1, 0, 31, 16, .rc, 0, .num, false, false, .any⟩
/-- 17_grid_network_time.md NET +0x0108 [15:0] RC. PRP frames with the other LAN's identifier -/
def PORT_WRONG_LAN : Fld := ⟨715, 17, 0x108, 2, 32, 1, 0, 15, 0, .rc, 0, .num, false, false, .any⟩
/-- 17_grid_network_time.md NET +0x010C [31:0] RO. Frames forwarded under HSR, modulo 2^32 -/
def PORT_FWD_CNT : Fld := ⟨716, 17, 0x10C, 2, 32, 1, 0, 31, 0, .ro, 0, .num, false, false, .any⟩
/-- 17_grid_network_time.md NET +0x0110 [31:0] RO. Peer link delay, ns -/
def PORT_LINK_DLY : Fld := ⟨717, 17, 0x110, 2, 32, 1, 0, 31, 0, .ro, 0, .num, false, false, .any⟩
/-- 17_grid_network_time.md NET +0x0200 [31:31] RO. SV stream n publishing -/
def SVP_ACTIVE : Fld := ⟨718, 17, 0x200, 8, 16, 1, 0, 31, 31, .ro, 0, .num, false, false, .any⟩
/-- 17_grid_network_time.md NET +0x0200 [13:0] RO. Last smpCnt sent -/
def SVP_SMPCNT : Fld := ⟨719, 17, 0x200, 8, 16, 1, 0, 13, 0, .ro, 0, .num, false, false, .any⟩
/-- 17_grid_network_time.md NET +0x0204 [31:0] RO. Messages, modulo 2^32 -/
def SVP_SENT : Fld := ⟨720, 17, 0x204, 8, 16, 1, 0, 31, 0, .ro, 0, .num, false, false, .any⟩
/-- 17_grid_network_time.md NET +0x0208 [15:0] RC. Under R481 -/
def SVP_LATE_CNT : Fld := ⟨721, 17, 0x208, 8, 16, 1, 0, 15, 0, .rc, 0, .num, false, false, .any⟩
/-- 17_grid_network_time.md NET +0x0300 [17:16] RO. SV subscription q: 0 unused, 1 ok, 2 lost, 3 mismatch -/
def SVS_STATE : Fld := ⟨722, 17, 0x300, 16, 16, 1, 0, 17, 16, .ro, 0, .num, false, false, .any⟩
/-- 17_grid_network_time.md NET +0x0300 [13:0] RO. Last smpCnt received -/
def SVS_SMPCNT : Fld := ⟨723, 17, 0x300, 16, 16, 1, 0, 13, 0, .ro, 0, .num, false, false, .any⟩
/-- 17_grid_network_time.md NET +0x0304 [31:0] RO. Channel CH × SCALE, binary32 -/
def SVS_VALUE : Fld := ⟨724, 17, 0x304, 16, 16, 1, 0, 31, 0, .ro, 0, .num, false, false, .any⟩
/-- 17_grid_network_time.md NET +0x0308 [31:16] RC. Losses -/
def SVS_LOST_CNT : Fld := ⟨725, 17, 0x308, 16, 16, 1, 0, 31, 16, .rc, 0, .num, false, false, .any⟩
/-- 17_grid_network_time.md NET +0x0308 [15:0] RC. Raisings of 32 + q -/
def SVS_DIFF_CNT : Fld := ⟨726, 17, 0x308, 16, 16, 1, 0, 15, 0, .rc, 0, .num, false, false, .any⟩
/-- 17_grid_network_time.md NET +0x0400 [31:0] RO. GOOSE subscription s, last accepted -/
def GS_STNUM : Fld := ⟨727, 17, 0x400, 32, 16, 1, 0, 31, 0, .ro, 0, .num, false, false, .any⟩
/-- 17_grid_network_time.md NET +0x0404 [20:20] RO. Trigger present -/
def GS_TRIG : Fld := ⟨728, 17, 0x404, 32, 16, 1, 0, 20, 20, .ro, 0, .num, false, false, .any⟩
/-- 17_grid_network_time.md NET +0x0404 [19:16] RO. 0 unused, 1 ok, 2 lost, 3 mismatch, 4 test ignored -/
def GS_STATE : Fld := ⟨729, 17, 0x404, 32, 16, 1, 0, 19, 16, .ro, 0, .num, false, false, .any⟩
/-- 17_grid_network_time.md NET +0x0404 [15:0] RO. ns, under R487, saturated -/
def GS_LAT_LAST : Fld := ⟨730, 17, 0x404, 32, 16, 1, 0, 15, 0, .ro, 0, .num, false, false, .any⟩
/-- 17_grid_network_time.md NET +0x0408 [31:16] RC. Losses -/
def GS_LOST_CNT : Fld := ⟨731, 17, 0x408, 32, 16, 1, 0, 31, 16, .rc, 0, .num, false, false, .any⟩
/-- 17_grid_network_time.md NET +0x0408 [15:0] RC. Raisings of s -/
def GS_TRIG_CNT : Fld := ⟨732, 17, 0x408, 32, 16, 1, 0, 15, 0, .rc, 0, .num, false, false, .any⟩
/-- 17_grid_network_time.md NET +0x0600 [31:0] RO. GOOSE dataset g -/
def GP_STNUM : Fld := ⟨733, 17, 0x600, 8, 16, 1, 0, 31, 0, .ro, 0, .num, false, false, .any⟩
/-- 17_grid_network_time.md NET +0x0604 [31:16] RO. Saturated -/
def GP_SQNUM : Fld := ⟨734, 17, 0x604, 8, 16, 1, 0, 31, 16, .ro, 0, .num, false, false, .any⟩
/-- 17_grid_network_time.md NET +0x0604 [15:0] RO. ms to the next retransmission -/
def GP_INTERVAL : Fld := ⟨735, 17, 0x604, 8, 16, 1, 0, 15, 0, .ro, 0, .num, false, false, .any⟩
/-- 17_grid_network_time.md NET +0x0608 [15:0] RC. Raisings of 72 + g -/
def GP_LATE_CNT : Fld := ⟨736, 17, 0x608, 8, 16, 1, 0, 15, 0, .rc, 0, .num, false, false, .any⟩
/-- The fields of the NET window. -/
def all : List Fld :=
  [TIME_SUSPECT, SERVO_STATE, GM_TRACE, XCHK_BAD, LAN_INCL, LAN_EXCL, LINK, FENCED, PUBLISHING, SERVO_MODE, E, OFS, MPD, COR, GM_ID_LO, GM_ID_HI, GM_CLASS, GM_ACC, UTC_OFF, UTC_VALID, LEAP59, LEAP61, GM_INACC, TSQ_FILL, TSQ_DROP, LAN_RESET, TOD_SET_LO, TOD_SET_HI, TOD_SET_GO, HGB_LO, HGB_HI, HOLD_CNT, STEP_CNT, PD_STEP_THR, STEP_THR, KP, KI, LOCK_THR, XCHK_THR, SUB_DIFF_THR] ++
  [TAI_UTC, PD_SETTLE, LOCK_N, ANN_RX_TO, CLASS_MAX, RATE_WIN, T0, T_MIN, SUB_DIFF_N, ERR_THR, PPS_OUT_CTL, PORT_RX_CNT, PORT_CRC_CNT, PORT_OTHER_CNT, PORT_DUP_CNT, PORT_WRONG_LAN, PORT_FWD_CNT, PORT_LINK_DLY, SVP_ACTIVE, SVP_SMPCNT, SVP_SENT, SVP_LATE_CNT, SVS_STATE, SVS_SMPCNT, SVS_VALUE, SVS_LOST_CNT, SVS_DIFF_CNT, GS_STNUM, GS_TRIG, GS_STATE, GS_LAT_LAST, GS_LOST_CNT, GS_TRIG_CNT, GP_STNUM, GP_SQNUM, GP_INTERVAL, GP_LATE_CNT]
end R.NET
namespace R.PERF
/-- 18_performance_counters.md PERF +0x0000 [31:31] RO. 0 bandwidth, 1 lane occupancy, under R500 -/
def VIEW : Fld := ⟨737, 18, 0x0, 1, 0, 1, 0, 31, 31, .ro, 0, .ream, false, false, .any⟩
/-- 18_performance_counters.md PERF +0x0000 [15:0] RO. Windows closed, modulo 65,536 -/
def WIN_SEQ : Fld := ⟨738, 18, 0x0, 1, 0, 1, 0, 15, 0, .ro, 0, .num, false, false, .any⟩
/-- 18_performance_counters.md PERF +0x0004 [0:0] RW. Under R505; PF0 only -/
def PERF_USER_EN : Fld := ⟨739, 18, 0x4, 1, 0, 1, 0, 0, 0, .rw, 0, .num, true, false, .any⟩
/-- 18_performance_counters.md PERF +0x0008 [13:0] RW. ms, 1 to 10,000; 0 is rejected with E_ZERO -/
def GATH_WIN : Fld := ⟨740, 18, 0x8, 1, 0, 1, 0, 13, 0, .rw, 1000, .num, true, false, (.nat 1 10000 true)⟩
/-- 18_performance_counters.md PERF +0x000C [31:0] RO. Under R496 -/
def CYC64_LO : Fld := ⟨741, 18, 0xC, 1, 0, 1, 0, 31, 0, .ro, 0, .num, false, false, .any⟩
/-- 18_performance_counters.md PERF +0x0010 [31:0] RO. Under R496 -/
def CYC64_HI : Fld := ⟨742, 18, 0x10, 1, 0, 1, 0, 31, 0, .ro, 0, .num, false, false, .any⟩
/-- 18_performance_counters.md PERF +0x0014 [31:0] RO. CYC64 at the last window boundary -/
def WIN_END_LO : Fld := ⟨743, 18, 0x14, 1, 0, 1, 0, 31, 0, .ro, 0, .num, false, false, .any⟩
/-- 18_performance_counters.md PERF +0x0018 [31:0] RO. CYC64 at the last window boundary -/
def WIN_END_HI : Fld := ⟨744, 18, 0x18, 1, 0, 1, 0, 31, 0, .ro, 0, .num, false, false, .any⟩
/-- 18_performance_counters.md PERF +0x0020 [4:0] RW. Under R503 -/
def TAG_N : Fld := ⟨745, 18, 0x20, 1, 0, 1, 0, 4, 0, .rw, 0, .num, true, false, (.nat0 4 20)⟩
/-- 18_performance_counters.md PERF +0x0024 [31:0] RW. Under R503 -/
def TAG_SEED : Fld := ⟨746, 18, 0x24, 1, 0, 1, 0, 31, 0, .rw, 1, .num, true, false, (.nat 1 4294967295 true)⟩
/-- 18_performance_counters.md PERF +0x0028 [31:16] RC. Entries overwritten, saturated at 65,535 -/
def SAMP_LOST : Fld := ⟨747, 18, 0x28, 1, 0, 1, 0, 31, 16, .rc, 0, .num, false, false, .any⟩
/-- 18_performance_counters.md PERF +0x0028 [15:0] RO. SEQ of the newest entry -/
def SAMP_HEAD : Fld := ⟨748, 18, 0x28, 1, 0, 1, 0, 15, 0, .ro, 0, .num, false, false, .any⟩
/-- 18_performance_counters.md PERF +0x0100 [11:0] RW. Counter i of block b, under R497 -/
def EVSEL : Fld := ⟨749, 18, 0x100, 11, 64, 8, 4, 11, 0, .rw, 0, .num, true, false, .any⟩
/-- 18_performance_counters.md PERF +0x0400 [31:0] RO. Bandwidth view: units of port p -/
def BYTES : Fld := ⟨750, 18, 0x400, 32, 8, 1, 0, 31, 0, .ro, 0, .num, false, false, .any⟩
/-- 18_performance_counters.md PERF +0x0404 [31:0] RO. Bandwidth view: binary32 -/
def UTIL : Fld := ⟨751, 18, 0x404, 32, 8, 1, 0, 31, 0, .ro, 0, .num, false, false, .any⟩
/-- 18_performance_counters.md PERF +0x0400 [31:0] RO. Lane-occupancy view: _LO and _HI pairs, in that order, under R502 -/
def LANE_DISCARDED : Fld := ⟨752, 18, 0x400, 2, 4, 1, 0, 31, 0, .ro, 0, .num, false, false, .any⟩
/-- 18_performance_counters.md PERF +0x0408 [31:0] RO. Lane-occupancy view: _LO and _HI pairs, in that order, under R502 -/
def LANE_USEFUL : Fld := ⟨753, 18, 0x408, 2, 4, 1, 0, 31, 0, .ro, 0, .num, false, false, .any⟩
/-- 18_performance_counters.md PERF +0x0410 [31:0] RO. Lane-occupancy view: _LO and _HI pairs, in that order, under R502 -/
def LANE_INPUT_WAIT : Fld := ⟨754, 18, 0x410, 2, 4, 1, 0, 31, 0, .ro, 0, .num, false, false, .any⟩
/-- 18_performance_counters.md PERF +0x0418 [31:0] RO. Lane-occupancy view: _LO and _HI pairs, in that order, under R502 -/
def LANE_OUTPUT_WAIT : Fld := ⟨755, 18, 0x418, 2, 4, 1, 0, 31, 0, .ro, 0, .num, false, false, .any⟩
/-- 18_performance_counters.md PERF +0x0420 [31:0] RO. Lane-occupancy view: _LO and _HI pairs, in that order, under R502 -/
def LANE_NARROW : Fld := ⟨756, 18, 0x420, 2, 4, 1, 0, 31, 0, .ro, 0, .num, false, false, .any⟩
/-- 18_performance_counters.md PERF +0x0800 [31:0] RO. Value of counter i in the last window -/
def GATHERED : Fld := ⟨757, 18, 0x800, 11, 64, 8, 4, 31, 0, .ro, 0, .num, false, false, .any⟩
/-- 18_performance_counters.md PERF +0x0820 [11:0] RO. EVSEL that produced the value, two counters per word: counter 2m in [11:0] and counter 2m + 1 in [27:16], for  -/
def GSEL_EVEN : Fld := ⟨758, 18, 0x820, 11, 64, 4, 4, 11, 0, .ro, 0, .num, false, false, .any⟩
/-- 18_performance_counters.md PERF +0x0820 [27:16] RO. EVSEL that produced the value, two counters per word: counter 2m in [11:0] and counter 2m + 1 in [27:16], for  -/
def GSEL_ODD : Fld := ⟨759, 18, 0x820, 11, 64, 4, 4, 27, 16, .ro, 0, .num, false, false, .any⟩
/-- 18_performance_counters.md PERF +0x0830 [7:0] RO. Bit i: counter i saturated in the last window -/
def OVF : Fld := ⟨760, 18, 0x830, 11, 64, 1, 0, 7, 0, .ro, 0, .num, false, false, .any⟩
/-- 18_performance_counters.md PERF +0x0C00 [31:0] RO. 64 entries of R504, at +0x0C00 + 16 × (SEQ mod 64) -/
def SAMPLE : Fld := ⟨761, 18, 0xC00, 256, 4, 1, 0, 31, 0, .ro, 0, .num, false, false, .any⟩
/-- The fields of the PERF window. -/
def all : List Fld :=
  [VIEW, WIN_SEQ, PERF_USER_EN, GATH_WIN, CYC64_LO, CYC64_HI, WIN_END_LO, WIN_END_HI, TAG_N, TAG_SEED, SAMP_LOST, SAMP_HEAD, EVSEL, BYTES, UTIL, LANE_DISCARDED, LANE_USEFUL, LANE_INPUT_WAIT, LANE_OUTPUT_WAIT, LANE_NARROW, GATHERED, GSEL_EVEN, GSEL_ODD, OVF, SAMPLE]
end R.PERF
namespace I.STAGE
/-- 02_host_access.md R58: number of the present open, to tell which items were written since it. -/
def GEN : Fld := ⟨1000, 31, 0, 1, 0, 1, 0, 31, 0, .ro, 0, .num, false, false, .any⟩
/-- 02_host_access.md R58: GEN at the last write of ITEM_ADDR(i); 0 never. -/
def GEN_A : Fld := ⟨1001, 31, 0, 4096, 0, 1, 0, 31, 0, .ro, 0, .num, false, false, .any⟩
/-- 02_host_access.md R58: GEN at the last write of ITEM_DATA(i); 0 never. -/
def GEN_D : Fld := ⟨1002, 31, 0, 4096, 0, 1, 0, 31, 0, .ro, 0, .num, false, false, .any⟩
/-- 02_host_access.md R58: COUNT of the committed set. -/
def COUNT : Fld := ⟨1003, 31, 0, 1, 0, 1, 0, 12, 0, .ro, 0, .num, false, false, .any⟩
/-- 02_host_access.md R59: the committed set has a target frame. -/
def AT_EN : Fld := ⟨1004, 31, 0, 1, 0, 1, 0, 0, 0, .ro, 0, .num, false, false, .any⟩
/-- 02_host_access.md R59: target FRAME_NO of the committed set. -/
def TARGET : Fld := ⟨1005, 31, 0, 1, 0, 1, 0, 31, 0, .ro, 0, .num, false, false, .any⟩
/-- 02_host_access.md R59: TB ns at which the commit write completed. -/
def COMMIT_NS : Fld := ⟨1006, 31, 0, 1, 0, 1, 0, 63, 0, .ro, 0, .num, false, false, .any⟩
/-- 02_host_access.md R60: lateness in frames to be reported with OK. -/
def LATENESS : Fld := ⟨1007, 31, 0, 1, 0, 1, 0, 7, 0, .ro, 0, .num, false, false, .any⟩
/-- 02_host_access.md R66: LAST_APPLIED_TXN of the snapshot header. -/
def LAST_TXN : Fld := ⟨1008, 31, 0, 1, 0, 1, 0, 15, 0, .ro, 0, .num, false, false, .any⟩
end I.STAGE
namespace I.SNAP
/-- 02_host_access.md R49: SNAP_SEQ of the last latch. -/
def SEQ : Fld := ⟨1009, 31, 0, 1, 0, 1, 0, 63, 0, .ro, 0, .num, false, false, .any⟩
end I.SNAP
namespace I.TB
/-- 03_clocks_timebase.md R90: length in tbc of the frame in progress. -/
def LEN : Fld := ⟨1010, 31, 0, 1, 0, 1, 0, 19, 0, .ro, 25000, .num, false, false, .any⟩
/-- 03_clocks_timebase.md R535: length fixed for the frame that begins at the next boundary; 0 none fixed. -/
def NEXT_LEN : Fld := ⟨1011, 31, 0, 1, 0, 1, 0, 17, 0, .ro, 0, .num, false, false, .any⟩
/-- 03_clocks_timebase.md R84: TB whole ns of the last boundary. -/
def BND_NS : Fld := ⟨1012, 31, 0, 1, 0, 1, 0, 63, 0, .ro, 0, .num, false, false, .any⟩
/-- 03_clocks_timebase.md R77: TB fraction of the last boundary. -/
def BND_FRAC : Fld := ⟨1013, 31, 0, 1, 0, 1, 0, 31, 0, .ro, 0, .num, false, false, .any⟩
/-- 03_clocks_timebase.md R90: the next boundary is the first after the Deckle started. -/
def FIRST : Fld := ⟨1014, 31, 0, 1, 0, 1, 0, 0, 0, .ro, 0, .num, false, false, .any⟩
/-- 03_clocks_timebase.md R84: the Deckle has emitted a boundary since the last boot. -/
def STARTED : Fld := ⟨1015, 31, 0, 1, 0, 1, 0, 0, 0, .ro, 0, .num, false, false, .any⟩
/-- 03_clocks_timebase.md R87: TF of the active Ream; 0 none. -/
def TF_REAM : Fld := ⟨1016, 31, 0, 1, 0, 1, 0, 17, 0, .ro, 0, .num, false, false, .any⟩
/-- 04_ream_image.md R128: a new Tf is taken at the next boundary, under R85. -/
def TF_PEND : Fld := ⟨1017, 31, 0, 1, 0, 1, 0, 0, 0, .ro, 0, .num, false, false, .any⟩
/-- 03_clocks_timebase.md R79: TB_RATE in the accumulator, two's complement. -/
def RATE_TAKEN : Fld := ⟨1018, 31, 0, 1, 0, 1, 0, 31, 0, .ro, 0, .num, false, false, .any⟩
/-- 03_clocks_timebase.md R92: TB ns at which holdover began. -/
def HOLD_NS : Fld := ⟨1019, 31, 0, 1, 0, 1, 0, 63, 0, .ro, 0, .num, false, false, .any⟩
/-- 03_clocks_timebase.md R92: keep-alive counter trusted. -/
def KA_TRUST : Fld := ⟨1020, 31, 0, 1, 0, 1, 0, 0, 0, .ro, 1, .num, false, false, .any⟩
/-- 03_clocks_timebase.md R76: a PLL_S relock caused by a CLK_SSC change is in progress. -/
def SSC_RELOCK : Fld := ⟨1021, 31, 0, 1, 0, 1, 0, 0, 0, .ro, 0, .num, false, false, .any⟩
/-- 01_architecture.md R18: declared L1 of the slowest link of the active Ream, q. -/
def L1_MAX : Fld := ⟨1022, 31, 0, 1, 0, 1, 0, 23, 0, .ro, 0, .num, false, false, .any⟩
/-- 15_partner_redundancy.md R411: FRAME_NO plus 1 that the frame at the next boundary takes from the primary; 0 none. -/
def NO_NEXT : Fld := ⟨1023, 31, 0, 1, 0, 1, 0, 32, 0, .ro, 0, .num, false, false, .any⟩
/-- 15_partner_redundancy.md R411: the primary's next marker ends the frame in progress. -/
def ALIGN_NOW : Fld := ⟨1024, 31, 0, 1, 0, 1, 0, 0, 0, .ro, 0, .num, false, false, .any⟩
/-- 05_modes_startup.md R143: TB ns up to which the keep-alive count is taken. -/
def KA_NS : Fld := ⟨1025, 31, 0, 1, 0, 1, 0, 63, 0, .ro, 0, .num, false, false, .any⟩
end I.TB
namespace I.REAM
/-- 04_ream_image.md R123: FRAME_NO that begins at the boundary of the pending swap. -/
def SWAP_TARGET : Fld := ⟨1026, 31, 0, 1, 0, 1, 0, 31, 0, .ro, 0, .num, false, false, .any⟩
/-- 04_ream_image.md R123: lateness of the pending swap in frames. -/
def SWAP_LATE : Fld := ⟨1027, 31, 0, 1, 0, 1, 0, 7, 0, .ro, 0, .num, false, false, .any⟩
/-- 04_ream_image.md R125: class under which the pending swap was accepted. -/
def SWAP_CLASS : Fld := ⟨1028, 31, 0, 1, 0, 1, 0, 1, 0, .ro, 0, .num, false, false, .any⟩
/-- 04_ream_image.md R129: the standby has confirmed the pending swap, or no confirmation is needed. -/
def SWAP_CONF : Fld := ⟨1029, 31, 0, 1, 0, 1, 0, 0, 0, .ro, 0, .num, false, false, .any⟩
/-- 05_modes_startup.md R140: the pending activation is the one of step 8 of BOOT. -/
def SWAP_BOOT : Fld := ⟨1030, 31, 0, 1, 0, 1, 0, 0, 0, .ro, 0, .num, false, false, .any⟩
/-- 04_ream_image.md R110: slot of the running REAM_CMD. -/
def CMD_RUN_SLOT : Fld := ⟨1031, 31, 0, 1, 0, 1, 0, 0, 0, .ro, 0, .num, false, false, .any⟩
/-- 04_ream_image.md R129: the pending swap was ordered by the primary. -/
def SWAP_ORD : Fld := ⟨1032, 31, 0, 1, 0, 1, 0, 0, 0, .ro, 0, .num, false, false, .any⟩
/-- 04_ream_image.md R116: slots whose BOOT check has run out of time, one bit a slot. -/
def BOOT_TRIED : Fld := ⟨1033, 31, 0, 1, 0, 1, 0, 1, 0, .ro, 0, .num, false, false, .any⟩
/-- 04_ream_image.md R113: slot to be recorded as preferred after an activation; 0 none. -/
def PREF_DUE : Fld := ⟨1034, 31, 0, 1, 0, 1, 0, 1, 0, .ro, 0, .num, false, false, .any⟩
end I.REAM
namespace I.MODE
/-- 05_modes_startup.md R140: step of BOOT in progress; 0 outside BOOT. -/
def BOOT_STEP : Fld := ⟨1035, 31, 0, 1, 0, 1, 0, 3, 0, .ro, 1, .num, false, false, .any⟩
/-- 05_modes_startup.md R147: 0 NORMAL, 1 HELD, 2 STUCK. -/
def NRST : Fld := ⟨1036, 31, 0, 1, 0, 1, 0, 1, 0, .ro, 0, .num, false, false, .any⟩
/-- 05_modes_startup.md R146: nRESET or the watchdog holds the module in reset. -/
def IN_RESET : Fld := ⟨1037, 31, 0, 1, 0, 1, 0, 0, 0, .ro, 0, .num, false, false, .any⟩
/-- 05_modes_startup.md R138: validated request waiting for step 3; 0 none. -/
def REQ_PEND : Fld := ⟨1038, 31, 0, 1, 0, 1, 0, 3, 0, .ro, 0, .num, false, false, .any⟩
/-- 05_modes_startup.md R149: both precharge phases are complete. -/
def DUE_SYNC : Fld := ⟨1039, 31, 0, 1, 0, 1, 0, 0, 0, .ro, 0, .num, false, false, .any⟩
/-- 05_modes_startup.md R150: SYNC_HOLD was reached. -/
def DUE_SYNC_EXIT : Fld := ⟨1040, 31, 0, 1, 0, 1, 0, 0, 0, .ro, 0, .num, false, false, .any⟩
/-- 05_modes_startup.md R135: RT_RECOVER was reached. -/
def DUE_RT_EXIT : Fld := ⟨1041, 31, 0, 1, 0, 1, 0, 0, 0, .ro, 0, .num, false, false, .any⟩
/-- 05_modes_startup.md R151: the ramp of STOPPING is complete. -/
def DUE_RAMP : Fld := ⟨1042, 31, 0, 1, 0, 1, 0, 0, 0, .ro, 0, .num, false, false, .any⟩
/-- 05_modes_startup.md R154: a time limit of the mode in force was reached. -/
def DUE_LIMIT : Fld := ⟨1043, 31, 0, 1, 0, 1, 0, 0, 0, .ro, 0, .num, false, false, .any⟩
/-- 05_modes_startup.md R135: a reaction at STOP or BLOCK fired. -/
def DUE_STOP : Fld := ⟨1044, 31, 0, 1, 0, 1, 0, 0, 0, .ro, 0, .num, false, false, .any⟩
/-- 05_modes_startup.md R135: TS_ORDER was reached. -/
def DUE_STOP_TS : Fld := ⟨1045, 31, 0, 1, 0, 1, 0, 0, 0, .ro, 0, .num, false, false, .any⟩
/-- 05_modes_startup.md R135: a reaction at SAFE or TRIP_MV fired. -/
def DUE_SAFE : Fld := ⟨1046, 31, 0, 1, 0, 1, 0, 0, 0, .ro, 0, .num, false, false, .any⟩
/-- 05_modes_startup.md R135: TS_HARD was reached. -/
def DUE_SAFE_TS : Fld := ⟨1047, 31, 0, 1, 0, 1, 0, 0, 0, .ro, 0, .num, false, false, .any⟩
/-- 05_modes_startup.md R140: BOOT ends at the next boundary. -/
def BOOT_DONE : Fld := ⟨1048, 31, 0, 1, 0, 1, 0, 0, 0, .ro, 0, .num, false, false, .any⟩
/-- 05_modes_startup.md R150: consecutive frames in which every synchronisation criterion held. -/
def SYNC_RUN : Fld := ⟨1049, 31, 0, 1, 0, 1, 0, 15, 0, .ro, 0, .num, false, false, .any⟩
/-- 05_modes_startup.md R135: consecutive frames with the grid inside the band in RIDE_THROUGH. -/
def RT_RUN : Fld := ⟨1050, 31, 0, 1, 0, 1, 0, 15, 0, .ro, 0, .num, false, false, .any⟩
/-- 05_modes_startup.md R151: consecutive frames with every ramped set-point zero. -/
def RAMP_RUN : Fld := ⟨1051, 31, 0, 1, 0, 1, 0, 7, 0, .ro, 0, .num, false, false, .any⟩
/-- 05_modes_startup.md R153: frames of PLAUS_WARMUP left. -/
def WARM_LEFT : Fld := ⟨1052, 31, 0, 1, 0, 1, 0, 15, 0, .ro, 0, .num, false, false, .any⟩
/-- 05_modes_startup.md R148: a cell reached TEST_VMAX in TEST: every pulse generator is blocked until TEST is left. -/
def TEST_BLOCK : Fld := ⟨1053, 31, 0, 1, 0, 1, 0, 0, 0, .ro, 0, .num, false, false, .any⟩
/-- 05_modes_startup.md R146: LAST_CAUSE of the boot in progress; 0 power-up or wake. -/
def CAUSE : Fld := ⟨1054, 31, 0, 1, 0, 1, 0, 2, 0, .ro, 0, .num, false, false, .any⟩
/-- 05_modes_startup.md R143: VBAT fell below 2.0 V while VIN was absent. -/
def VBAT_BAD : Fld := ⟨1055, 31, 0, 1, 0, 1, 0, 0, 0, .ro, 0, .num, false, false, .any⟩
/-- 19_electrical_package.md R532: instruction in the test access port: 0 BYPASS, 1 IDCODE, 2 SAMPLE/PRELOAD, 3 EXTEST, 4 CLAMP. -/
def TAP : Fld := ⟨1056, 31, 0, 1, 0, 1, 0, 2, 0, .ro, 0, .num, false, false, .any⟩
end I.MODE
namespace I.FLT
/-- 13_faults_reactions.md R356: a Ream has been activated since the last boot, so the Reaction Table is in force. -/
def TABLE_ON : Fld := ⟨1057, 31, 0, 1, 0, 1, 0, 0, 0, .ro, 0, .num, false, false, .any⟩
/-- 13_faults_reactions.md R365: TB ns plus 1 at which the unit's recovery window opened; 0 closed. -/
def WIN_NS : Fld := ⟨1058, 31, 0, 173, 0, 1, 0, 64, 0, .ro, 0, .num, false, false, .any⟩
/-- 13_faults_reactions.md R366: a UNIT_CLR of the unit waits for its boundary. -/
def CLR_DUE : Fld := ⟨1059, 31, 0, 173, 0, 1, 0, 0, 0, .ro, 0, .num, false, false, .any⟩
/-- 13_faults_reactions.md R366: TB ns of that UNIT_CLR write. -/
def CLR_NS : Fld := ⟨1060, 31, 0, 173, 0, 1, 0, 63, 0, .ro, 0, .num, false, false, .any⟩
/-- 13_faults_reactions.md R357: a trip is in force. -/
def TRIP_ON : Fld := ⟨1061, 31, 0, 1, 0, 1, 0, 0, 0, .ro, 0, .num, false, false, .any⟩
end I.FLT
namespace I.LVD
/-- 11_lv_drive_port.md R309: channel commanded on. -/
def CH_ON : Fld := ⟨1062, 31, 0, 16, 0, 1, 0, 0, 0, .ro, 0, .num, false, false, .any⟩
/-- 11_lv_drive_port.md R312: a turn-on of the channel is held by the interlock. -/
def CH_REQ : Fld := ⟨1063, 31, 0, 16, 0, 1, 0, 0, 0, .ro, 0, .num, false, false, .any⟩
/-- 11_lv_drive_port.md R314: a soft turn-off of the channel runs. -/
def CH_SOFT : Fld := ⟨1064, 31, 0, 16, 0, 1, 0, 0, 0, .ro, 0, .num, false, false, .any⟩
/-- 11_lv_drive_port.md R306: gate current of the last transition: 0 TON_SRC, 1 TOFF_SNK, 2 SOFT_SNK. -/
def CH_SNK : Fld := ⟨1065, 31, 0, 16, 0, 1, 0, 1, 0, .ro, 0, .num, false, false, .any⟩
/-- 11_lv_drive_port.md R308: state the pulse generator's sequence gives the half-bridge: 0 OFF, 1 P, 2 N. -/
def SEQ_ST : Fld := ⟨1066, 31, 0, 8, 0, 1, 0, 1, 0, .ro, 0, .num, false, false, .any⟩
/-- 11_lv_drive_port.md R318: level that holds the half-bridge; 0 none. -/
def HOLD : Fld := ⟨1067, 31, 0, 8, 0, 1, 0, 2, 0, .ro, 0, .num, false, false, .any⟩
/-- 11_lv_drive_port.md R316: the short group waits for the decision of its safe state. -/
def DET_WAIT : Fld := ⟨1068, 31, 0, 4, 0, 1, 0, 0, 0, .ro, 0, .num, false, false, .any⟩
/-- 11_lv_drive_port.md R316: decided safe state of the short group: 0 none, 1 active short, 2 pulse block. -/
def SAFE_ON : Fld := ⟨1069, 31, 0, 4, 0, 1, 0, 1, 0, .ro, 0, .num, false, false, .any⟩
/-- 11_lv_drive_port.md R321: the retry of the half-bridge is due at the next boundary. -/
def RETRY_DUE : Fld := ⟨1070, 31, 0, 8, 0, 1, 0, 0, 0, .ro, 0, .num, false, false, .any⟩
/-- 11_lv_drive_port.md R321: a retry of the half-bridge is pending. -/
def RETRY_PEND : Fld := ⟨1071, 31, 0, 8, 0, 1, 0, 0, 0, .ro, 0, .num, false, false, .any⟩
/-- 11_lv_drive_port.md R322: an HB_CLR of the half-bridge waits for its boundary. -/
def HBC_DUE : Fld := ⟨1072, 31, 0, 8, 0, 1, 0, 0, 0, .ro, 0, .num, false, false, .any⟩
/-- 11_lv_drive_port.md R322: TB ns of that HB_CLR write. -/
def HBC_NS : Fld := ⟨1073, 31, 0, 8, 0, 1, 0, 63, 0, .ro, 0, .num, false, false, .any⟩
/-- 11_lv_drive_port.md R305: HBk_BST has passed its rising threshold since VLk_P became good. -/
def BST_SEEN : Fld := ⟨1074, 31, 0, 8, 0, 1, 0, 0, 0, .ro, 0, .num, false, false, .any⟩
/-- 11_lv_drive_port.md R324: an LV test pattern runs. -/
def LVT_RUN : Fld := ⟨1075, 31, 0, 1, 0, 1, 0, 0, 0, .ro, 0, .num, false, false, .any⟩
/-- 11_lv_drive_port.md R324: an LVT_GO waits for its boundary. -/
def LVT_DUE : Fld := ⟨1076, 31, 0, 1, 0, 1, 0, 0, 0, .ro, 0, .num, false, false, .any⟩
/-- 11_lv_drive_port.md R324: TB ns of that LVT_GO write. -/
def LVT_NS : Fld := ⟨1077, 31, 0, 1, 0, 1, 0, 63, 0, .ro, 0, .num, false, false, .any⟩
/-- 11_lv_drive_port.md R324: an LVT_STOP waits for the next boundary. -/
def LVT_END : Fld := ⟨1078, 31, 0, 1, 0, 1, 0, 0, 0, .ro, 0, .num, false, false, .any⟩
/-- 11_lv_drive_port.md R318: the power-fail sequence holds the port. -/
def POWER_FAIL : Fld := ⟨1079, 31, 0, 1, 0, 1, 0, 0, 0, .ro, 0, .num, false, false, .any⟩
/-- 11_lv_drive_port.md R318: the half-bridge was held in the frame in progress. -/
def HELD : Fld := ⟨1080, 31, 0, 8, 0, 1, 0, 0, 0, .ro, 0, .num, false, false, .any⟩
/-- 11_lv_drive_port.md R324: LVT_PAT of the running LV test pattern; 4 once pattern 3 has requested its turn-on. -/
def LVT_ACT : Fld := ⟨1081, 31, 0, 1, 0, 1, 0, 2, 0, .ro, 0, .num, false, false, .any⟩
/-- 11_lv_drive_port.md R302: SAFE_STATE of the lv-drive sheet. -/
def SAFE_STATE : Fld := ⟨1082, 31, 0, 1, 0, 1, 0, 7, 0, .ro, 0, .num, false, false, .any⟩
/-- 11_lv_drive_port.md R308: state in which the last frame left the leg group: 0 OFF, 1 P, 2 N. -/
def GRP_ST : Fld := ⟨1083, 31, 0, 8, 0, 1, 0, 1, 0, .ro, 0, .num, false, false, .any⟩
/-- 11_lv_drive_port.md R308: q from the last edge of the leg group to the end of its frame, plus 1; 0 when it had none. -/
def GRP_GAP : Fld := ⟨1084, 31, 0, 8, 0, 1, 0, 23, 0, .ro, 0, .num, false, false, .any⟩
/-- 15_partner_redundancy.md R417: a gate monitor reported on in the frame in progress. -/
def GM_SEEN : Fld := ⟨1085, 31, 0, 1, 0, 1, 0, 0, 0, .ro, 0, .num, false, false, .any⟩
end I.LVD
namespace I.THERM
/-- 16_thermal_lifetime.md R440: a journal entry was dropped and instance 21 is not raised yet. -/
def DROP_PEND : Fld := ⟨1086, 31, 0, 1, 0, 1, 0, 0, 0, .ro, 0, .num, false, false, .any⟩
/-- 16_thermal_lifetime.md R425: last code of the internal housekeeping sequence: TS0 to TS3, then channels 0x34 to 0x38. -/
def INT_CODE : Fld := ⟨1087, 31, 0, 9, 0, 1, 0, 15, 0, .ro, 0, .num, false, false, .any⟩
/-- 16_thermal_lifetime.md R425: TB ns plus 1 of its last run; 0 none. -/
def INT_NS : Fld := ⟨1088, 31, 0, 1, 0, 1, 0, 64, 0, .ro, 0, .num, false, false, .any⟩
/-- 16_thermal_lifetime.md R424: last good code of a die sensor or a supply channel. -/
def CODE : Fld := ⟨1089, 31, 0, 9, 0, 1, 0, 15, 0, .ro, 0, .num, false, false, .any⟩
/-- 16_thermal_lifetime.md R424: the quantity has been read: die sensors 0 to 3, supplies 4 to 8, board sensors 9 to 12. -/
def READ : Fld := ⟨1090, 31, 0, 13, 0, 1, 0, 0, 0, .ro, 0, .num, false, false, .any⟩
/-- 16_thermal_lifetime.md R448: consecutive rounds in which the die sensor was stale, at most 3. -/
def STALE_RUN : Fld := ⟨1091, 31, 0, 4, 0, 1, 0, 1, 0, .ro, 0, .num, false, false, .any⟩
/-- 16_thermal_lifetime.md R429: consecutive rounds in which model and sensor differ by more than 10 degrees, at most 10. -/
def DIS_RUN : Fld := ⟨1092, 31, 0, 4, 0, 1, 0, 3, 0, .ro, 0, .num, false, false, .any⟩
/-- 16_thermal_lifetime.md R429: the die model has taken its first values. -/
def SEEDED : Fld := ⟨1093, 31, 0, 4, 0, 1, 0, 0, 0, .ro, 0, .num, false, false, .any⟩
/-- 16_thermal_lifetime.md R428: T_base of the die, binary32. -/
def BASE : Fld := ⟨1094, 31, 0, 4, 0, 1, 0, 31, 0, .ro, 0, .num, false, false, .any⟩
/-- 16_thermal_lifetime.md R428: temperature rise of node i of die d, at 4 d + i, binary32. -/
def DT : Fld := ⟨1095, 31, 0, 16, 0, 1, 0, 31, 0, .ro, 0, .num, false, false, .any⟩
/-- 16_thermal_lifetime.md R428: model temperature of the die, binary32. -/
def TMODEL : Fld := ⟨1096, 31, 0, 4, 0, 1, 0, 31, 0, .ro, 0, .num, false, false, .any⟩
/-- 16_thermal_lifetime.md R432: temperature rises of the cell: bridge nodes 1 and 2, DAB nodes 1 and 2, at 4 c + i, binary32. -/
def CELL_DT : Fld := ⟨1097, 31, 0, 576, 0, 1, 0, 31, 0, .ro, 0, .num, false, false, .any⟩
/-- 16_thermal_lifetime.md R433: the junction is at TJ_MAX, less the hysteresis: bridge 2 c, DAB 2 c + 1. -/
def TJ_ON : Fld := ⟨1098, 31, 0, 288, 0, 1, 0, 0, 0, .ro, 0, .num, false, false, .any⟩
/-- 16_thermal_lifetime.md R434: half-cycles of bin 8 i + j of cell c, at 64 c + 8 i + j. -/
def BIN_CNT : Fld := ⟨1099, 31, 0, 9216, 0, 1, 0, 63, 0, .ro, 0, .num, false, false, .any⟩
/-- 16_thermal_lifetime.md R434: OP_TIME of the cell in ms. -/
def OP_MS : Fld := ⟨1100, 31, 0, 144, 0, 1, 0, 63, 0, .ro, 0, .num, false, false, .any⟩
/-- 16_thermal_lifetime.md R434: ns of the millisecond of OP_TIME that is not full yet. -/
def OP_NS : Fld := ⟨1101, 31, 0, 144, 0, 1, 0, 19, 0, .ro, 0, .num, false, false, .any⟩
/-- 16_thermal_lifetime.md R436: LIFE_USED of the cell has reached LIFE_WARN. -/
def LIFE_HIT : Fld := ⟨1102, 31, 0, 144, 0, 1, 0, 0, 0, .ro, 0, .num, false, false, .any⟩
/-- 16_thermal_lifetime.md R437: a TEASEL_RST of the slot waits for the next boundary. -/
def RST_DUE : Fld := ⟨1103, 31, 0, 144, 0, 1, 0, 0, 0, .ro, 0, .num, false, false, .any⟩
/-- 16_thermal_lifetime.md R444: the entry that EVJ_SEL names is being loaded. -/
def EVJ_WANT : Fld := ⟨1104, 31, 0, 1, 0, 1, 0, 0, 0, .ro, 0, .num, false, false, .any⟩
/-- 16_thermal_lifetime.md R443: the journal has been recovered since the last BOOT began. -/
def JRN_DONE : Fld := ⟨1105, 31, 0, 1, 0, 1, 0, 0, 0, .ro, 0, .num, false, false, .any⟩
end I.THERM
namespace I.FELT
/-- 06_felt_links.md R189: RING_MASK bit of the active felt sheet. -/
def RING_EN : Fld := ⟨1106, 31, 0, 6, 0, 1, 0, 0, 0, .ro, 0, .num, false, false, .any⟩
/-- 06_felt_links.md R189: LF_MASK bit of the active felt sheet. -/
def LF_EN : Fld := ⟨1107, 31, 0, 16, 0, 1, 0, 0, 0, .ro, 0, .num, false, false, .any⟩
/-- 06_felt_links.md R189: declared east-going latency of segment s of FRr, q. -/
def DECL_E : Fld := ⟨1108, 31, 0, 6, 0, 50, 0, 15, 0, .ro, 0, .num, false, false, .any⟩
/-- 06_felt_links.md R189: declared west-going latency of segment s of FRr, q. -/
def DECL_W : Fld := ⟨1109, 31, 0, 6, 0, 50, 0, 15, 0, .ro, 0, .num, false, false, .any⟩
/-- 06_felt_links.md R189: declared one-way latency of LFn, q. -/
def LF_LAT : Fld := ⟨1110, 31, 0, 16, 0, 1, 0, 15, 0, .ro, 0, .num, false, false, .any⟩
/-- 06_felt_links.md R160: cells mapped to FRr. -/
def NCELLS : Fld := ⟨1111, 31, 0, 6, 0, 1, 0, 5, 0, .ro, 0, .num, false, false, .any⟩
/-- 06_felt_links.md R163: UP_CUT of the link has passed in the frame in progress (rings 0 to 5, Gen1 links 6 to 21). -/
def CUT : Fld := ⟨1112, 31, 0, 22, 0, 1, 0, 0, 0, .ro, 0, .num, false, false, .any⟩
/-- 06_felt_links.md R173: a valid east-going marker looped in the frame in progress. -/
def SEEN_E : Fld := ⟨1113, 31, 0, 6, 0, 1, 0, 0, 0, .ro, 0, .num, false, false, .any⟩
/-- 06_felt_links.md R173: a valid west-going marker looped in the frame in progress. -/
def SEEN_W : Fld := ⟨1114, 31, 0, 6, 0, 1, 0, 0, 0, .ro, 0, .num, false, false, .any⟩
/-- 06_felt_links.md R538: a marker returned turned in the frame in progress. -/
def TURNED : Fld := ⟨1115, 31, 0, 6, 0, 1, 0, 0, 0, .ro, 0, .num, false, false, .any⟩
/-- 06_felt_links.md R181: a valid marker returned on LFn in the frame in progress. -/
def LF_SEEN : Fld := ⟨1116, 31, 0, 16, 0, 1, 0, 0, 0, .ro, 0, .num, false, false, .any⟩
/-- 06_felt_links.md R173: east boundary error, signed, 1/16 q. -/
def EPS_E : Fld := ⟨1117, 31, 0, 6, 0, 1, 0, 31, 0, .ro, 0, .num, false, false, .any⟩
/-- 06_felt_links.md R173: west boundary error, signed, 1/16 q. -/
def EPS_W : Fld := ⟨1118, 31, 0, 6, 0, 1, 0, 31, 0, .ro, 0, .num, false, false, .any⟩
/-- 06_felt_links.md R173: loop residual, signed, 1/16 q. -/
def RHO_NOW : Fld := ⟨1119, 31, 0, 6, 0, 1, 0, 31, 0, .ro, 0, .num, false, false, .any⟩
/-- 06_felt_links.md R174: recorded residual, signed, 1/16 q. -/
def RHO_REF : Fld := ⟨1120, 31, 0, 6, 0, 1, 0, 31, 0, .ro, 0, .num, false, false, .any⟩
/-- 06_felt_links.md R174: a residual is recorded. -/
def HAS_REF : Fld := ⟨1121, 31, 0, 6, 0, 1, 0, 0, 0, .ro, 0, .num, false, false, .any⟩
/-- 06_felt_links.md R171: own difference at the west port of the previous frame, q. -/
def OWN_WP : Fld := ⟨1122, 31, 0, 6, 0, 1, 0, 23, 0, .ro, 0, .num, false, false, .any⟩
/-- 06_felt_links.md R171: own difference at the east port of the previous frame, q. -/
def OWN_EP : Fld := ⟨1123, 31, 0, 6, 0, 1, 0, 23, 0, .ro, 0, .num, false, false, .any⟩
/-- 06_felt_links.md R174: RTT(s) of FRr in the previous frame, q. -/
def PREV_RTT : Fld := ⟨1124, 31, 0, 6, 0, 50, 0, 23, 0, .ro, 0, .num, false, false, .any⟩
/-- 06_felt_links.md R174: the asymmetry check of the frame in progress is done. -/
def ASYM_DONE : Fld := ⟨1125, 31, 0, 6, 0, 1, 0, 0, 0, .ro, 0, .num, false, false, .any⟩
/-- 06_felt_links.md R181: consecutive frames that meet the conditions of CALIBRATE, or of the return from SINGLE. -/
def STABLE_RUN : Fld := ⟨1126, 31, 0, 6, 0, 1, 0, 7, 0, .ro, 0, .num, false, false, .any⟩
/-- 06_felt_links.md R181: the hop count agreed with the map in the last marker. -/
def HOPS_OK : Fld := ⟨1127, 31, 0, 6, 0, 1, 0, 0, 0, .ro, 0, .num, false, false, .any⟩
/-- 06_felt_links.md R181: lanes aligned and a marker returned (rings 0 to 5, Gen1 links 6 to 21). -/
def LANES : Fld := ⟨1128, 31, 0, 22, 0, 1, 0, 0, 0, .ro, 0, .num, false, false, .any⟩
/-- 06_felt_links.md R181: instance 2 of the link was raised for the present TRAIN. -/
def TRAIN_RAISED : Fld := ⟨1129, 31, 0, 22, 0, 1, 0, 0, 0, .ro, 0, .num, false, false, .any⟩
/-- 06_felt_links.md R185: errors of the port in the present 1 s window (FRr_E 2r, FRr_W 2r+1, LFn 12+n). -/
def WIN_ERR : Fld := ⟨1130, 31, 0, 28, 0, 1, 0, 15, 0, .ro, 0, .num, false, false, .any⟩
/-- 06_felt_links.md R170: TRIP_ID of the last trip issued. -/
def TRIP_ID : Fld := ⟨1131, 31, 0, 1, 0, 1, 0, 7, 0, .ro, 0, .num, false, false, .any⟩
/-- 06_felt_links.md R167: SRC of the trip in force. -/
def TRIP_SRC : Fld := ⟨1132, 31, 0, 1, 0, 1, 0, 7, 0, .ro, 0, .num, false, false, .any⟩
/-- 06_felt_links.md R167: ISSUE_NS32 of the trip in force. -/
def TRIP_NS : Fld := ⟨1133, 31, 0, 1, 0, 1, 0, 31, 0, .ro, 0, .num, false, false, .any⟩
/-- 06_felt_links.md R167: TAG of the last management request. -/
def TAG : Fld := ⟨1134, 31, 0, 1, 0, 1, 0, 7, 0, .ro, 0, .num, false, false, .any⟩
/-- 06_felt_links.md R180: posting is stopped everywhere because the epoch was superseded. -/
def STOPPED : Fld := ⟨1135, 31, 0, 1, 0, 1, 0, 0, 0, .ro, 0, .num, false, false, .any⟩
/-- 06_felt_links.md R180: a superseded module without a partner enters IDLE at step 3 of the next boundary. -/
def IDLE_DUE : Fld := ⟨1136, 31, 0, 1, 0, 1, 0, 0, 0, .ro, 0, .num, false, false, .any⟩
/-- 06_felt_links.md R538: a marker sent from FRr_E returned there, turned, in the frame in progress. -/
def TURN_E : Fld := ⟨1137, 31, 0, 6, 0, 1, 0, 0, 0, .ro, 0, .num, false, false, .any⟩
/-- 06_felt_links.md R171: RTT of the last segment as used for the east estimate. -/
def RTT_LAST_E : Fld := ⟨1138, 31, 0, 6, 0, 1, 0, 23, 0, .ro, 0, .num, false, false, .any⟩
/-- 06_felt_links.md R173: measured L1, q (rings 0 to 5, Gen1 links 6 to 21). -/
def L1_MEAS : Fld := ⟨1139, 31, 0, 22, 0, 1, 0, 23, 0, .ro, 0, .num, false, false, .any⟩
/-- 07_cell_node_contract.md R209: boundaries left until TRIP_CLR is sent: 2 while a trip is in force. -/
def TRIP_WAS : Fld := ⟨1140, 31, 0, 1, 0, 1, 0, 1, 0, .ro, 0, .num, false, false, .any⟩
/-- 06_felt_links.md R171: RTT of the last segment as used for the west estimate. -/
def RTT_LAST_W : Fld := ⟨1141, 31, 0, 6, 0, 1, 0, 23, 0, .ro, 0, .num, false, false, .any⟩
/-- 06_felt_links.md R181: consecutive frames in which the RTT of LFn moved by no more than SEG_STEP_THR. -/
def LF_RUN : Fld := ⟨1142, 31, 0, 16, 0, 1, 0, 7, 0, .ro, 0, .num, false, false, .any⟩
/-- 06_felt_links.md R181: RTT of LFn in the previous frame, q. -/
def LF_PREV : Fld := ⟨1143, 31, 0, 16, 0, 1, 0, 23, 0, .ro, 0, .num, false, false, .any⟩
/-- 06_felt_links.md R171: an own difference at the east port of the previous frame exists. -/
def OWN_EP_OK : Fld := ⟨1144, 31, 0, 6, 0, 1, 0, 0, 0, .ro, 0, .num, false, false, .any⟩
/-- 06_felt_links.md R171: an own difference at the west port of the previous frame exists. -/
def OWN_WP_OK : Fld := ⟨1145, 31, 0, 6, 0, 1, 0, 0, 0, .ro, 0, .num, false, false, .any⟩
/-- 08_cascade_modulation.md R235: withdraws sent on the link in the frame in progress. -/
def WDR_SENT : Fld := ⟨1146, 31, 0, 22, 0, 1, 0, 2, 0, .ro, 0, .num, false, false, .any⟩
end I.FELT
namespace I.CELL
/-- 06_felt_links.md R188: the slot is mapped. -/
def USED : Fld := ⟨1147, 31, 0, 144, 0, 1, 0, 0, 0, .ro, 0, .num, false, false, .any⟩
/-- 06_felt_links.md R188: string of the slot. -/
def STRING : Fld := ⟨1148, 31, 0, 144, 0, 1, 0, 2, 0, .ro, 0, .num, false, false, .any⟩
/-- 06_felt_links.md R188: position of the slot in its string. -/
def POS : Fld := ⟨1149, 31, 0, 144, 0, 1, 0, 5, 0, .ro, 0, .num, false, false, .any⟩
/-- 06_felt_links.md R16: a valid block of the slot arrived in the frame in progress. -/
def GOT : Fld := ⟨1150, 31, 0, 144, 0, 1, 0, 0, 0, .ro, 0, .num, false, false, .any⟩
/-- 06_felt_links.md R16: a valid east-going copy arrived in the frame in progress. -/
def GOT_E : Fld := ⟨1151, 31, 0, 144, 0, 1, 0, 0, 0, .ro, 0, .num, false, false, .any⟩
/-- 06_felt_links.md R16: a valid west-going copy arrived in the frame in progress. -/
def GOT_W : Fld := ⟨1152, 31, 0, 144, 0, 1, 0, 0, 0, .ro, 0, .num, false, false, .any⟩
/-- 01_architecture.md R17: a valid block arrived since BOOT or the last class-2 activation. -/
def EVER : Fld := ⟨1153, 31, 0, 144, 0, 1, 0, 0, 0, .ro, 0, .num, false, false, .any⟩
/-- 06_felt_links.md R187: LATE_TOTAL of the last valid block. -/
def LATE_TOT : Fld := ⟨1154, 31, 0, 144, 0, 1, 0, 7, 0, .ro, 0, .num, false, false, .any⟩
/-- 06_felt_links.md R187: WDR_EXEC_TOTAL of the last valid block. -/
def WDR_TOT : Fld := ⟨1155, 31, 0, 144, 0, 1, 0, 7, 0, .ro, 0, .num, false, false, .any⟩
/-- 06_felt_links.md R167: WP_DIFF of the last valid block, q. -/
def WP_DIFF : Fld := ⟨1156, 31, 0, 144, 0, 1, 0, 23, 0, .ro, 0, .num, false, false, .any⟩
/-- 06_felt_links.md R167: EP_DIFF of the last valid block, q. -/
def EP_DIFF : Fld := ⟨1157, 31, 0, 144, 0, 1, 0, 23, 0, .ro, 0, .num, false, false, .any⟩
/-- 06_felt_links.md R180: consecutive posted frames in which the cell echoed a lower epoch. -/
def LOW_RUN : Fld := ⟨1158, 31, 0, 144, 0, 1, 0, 3, 0, .ro, 0, .num, false, false, .any⟩
/-- 06_felt_links.md R186: the cell has lost its uplink: BYP is posted in every later frame. -/
def LOST : Fld := ⟨1159, 31, 0, 144, 0, 1, 0, 0, 0, .ro, 0, .num, false, false, .any⟩
/-- 06_felt_links.md R186: the cell is removed from modulation at step 6 of the next boundary. -/
def REMOVE : Fld := ⟨1160, 31, 0, 144, 0, 1, 0, 0, 0, .ro, 0, .num, false, false, .any⟩
/-- 07_cell_node_contract.md R216: the command executing in the frame in progress had BYP set. -/
def EXEC_BYP : Fld := ⟨1161, 31, 0, 144, 0, 1, 0, 0, 0, .ro, 0, .num, false, false, .any⟩
/-- 06_felt_links.md R185: a command was posted for the boundary that began the frame in progress. -/
def EXEC_POSTED : Fld := ⟨1162, 31, 0, 144, 0, 1, 0, 0, 0, .ro, 0, .num, false, false, .any⟩
/-- 06_felt_links.md R185: CRC field of its east-going copy. -/
def EXEC_CRC_E : Fld := ⟨1163, 31, 0, 144, 0, 1, 0, 31, 0, .ro, 0, .num, false, false, .any⟩
/-- 06_felt_links.md R185: CRC field of its west-going copy. -/
def EXEC_CRC_W : Fld := ⟨1164, 31, 0, 144, 0, 1, 0, 31, 0, .ro, 0, .num, false, false, .any⟩
/-- 06_felt_links.md R185: that command was withdrawn and not replaced. -/
def EXEC_WDR : Fld := ⟨1165, 31, 0, 144, 0, 1, 0, 0, 0, .ro, 0, .num, false, false, .any⟩
/-- 01_architecture.md R23: a tentative command is posted for the next boundary. -/
def NEXT_POSTED : Fld := ⟨1166, 31, 0, 144, 0, 1, 0, 0, 0, .ro, 0, .num, false, false, .any⟩
/-- 07_cell_node_contract.md R216: that command has BYP set. -/
def NEXT_BYP : Fld := ⟨1167, 31, 0, 144, 0, 1, 0, 0, 0, .ro, 0, .num, false, false, .any⟩
/-- 06_felt_links.md R169: REV of that command. -/
def NEXT_REV : Fld := ⟨1168, 31, 0, 144, 0, 1, 0, 7, 0, .ro, 0, .num, false, false, .any⟩
/-- 06_felt_links.md R185: CRC field of its east-going copy. -/
def NEXT_CRC_E : Fld := ⟨1169, 31, 0, 144, 0, 1, 0, 31, 0, .ro, 0, .num, false, false, .any⟩
/-- 06_felt_links.md R185: CRC field of its west-going copy. -/
def NEXT_CRC_W : Fld := ⟨1170, 31, 0, 144, 0, 1, 0, 31, 0, .ro, 0, .num, false, false, .any⟩
/-- 06_felt_links.md R167: that command was withdrawn and not replaced. -/
def NEXT_WDR : Fld := ⟨1171, 31, 0, 144, 0, 1, 0, 0, 0, .ro, 0, .num, false, false, .any⟩
/-- 07_cell_node_contract.md R192: which of NODE_ID, CONTRACT, CAPS and the parameter writes DISCOVER has completed. -/
def ID_BITS : Fld := ⟨1172, 31, 0, 144, 0, 1, 0, 3, 0, .ro, 0, .num, false, false, .any⟩
/-- 07_cell_node_contract.md R192: CAPS word read in DISCOVER. -/
def CAPS : Fld := ⟨1173, 31, 0, 144, 0, 1, 0, 31, 0, .ro, 0, .num, false, false, .any⟩
/-- 07_cell_node_contract.md R209: a TRIP_CLR of the cell is outstanding. -/
def ACT_WAIT : Fld := ⟨1174, 31, 0, 144, 0, 1, 0, 0, 0, .ro, 0, .num, false, false, .any⟩
/-- 05_modes_startup.md R153: the first valid block since BOOT or a class-2 activation has arrived and the thermal model has not started yet. -/
def FIRST : Fld := ⟨1175, 31, 0, 144, 0, 1, 0, 0, 0, .ro, 0, .num, false, false, .any⟩
/-- 01_architecture.md R16: measured quantity k of cell c in the last block with every quantity measurable, which the CE and the Calender use: word 6c + k of VCAP, IAC, IDAB, VDAB, T_HS, T_AUX. -/
def LAST_M : Fld := ⟨1176, 31, 0, 864, 0, 1, 0, 15, 0, .ro, 0, .num, false, false, .any⟩
/-- 07_cell_node_contract.md R216: the block of the frame in progress reported a value as unmeasurable. -/
def UNMEAS : Fld := ⟨1177, 31, 0, 144, 0, 1, 0, 0, 0, .ro, 0, .num, false, false, .any⟩
/-- 08_cascade_modulation.md R231: consecutive frames with a valid block, saturated at 15. -/
def GOOD_RUN : Fld := ⟨1178, 31, 0, 144, 0, 1, 0, 3, 0, .ro, 0, .num, false, false, .any⟩
/-- 16_thermal_lifetime.md R424: TB ns plus 1 of the last valid block; 0 none. -/
def BLK_NS : Fld := ⟨1179, 31, 0, 144, 0, 1, 0, 64, 0, .ro, 0, .num, false, false, .any⟩
end I.CELL
namespace I.MOD
/-- 08_cascade_modulation.md R241: DAB_METHOD of the active modulation sheet. -/
def DAB_METHOD : Fld := ⟨1180, 31, 0, 1, 0, 1, 0, 1, 0, .ro, 0, .num, false, false, .any⟩
/-- 06_felt_links.md R188: STRING_MASK of the active topology sheet. -/
def STR_MASK : Fld := ⟨1181, 31, 0, 1, 0, 1, 0, 5, 0, .ro, 0, .num, false, false, .any⟩
/-- 06_felt_links.md R188: CELLS of the string. -/
def STR_CELLS : Fld := ⟨1182, 31, 0, 6, 0, 1, 0, 5, 0, .ro, 0, .num, false, false, .any⟩
/-- 06_felt_links.md R188: CONN of the active topology sheet. -/
def CONN : Fld := ⟨1183, 31, 0, 1, 0, 1, 0, 0, 0, .ro, 0, .num, false, false, .any⟩
/-- 08_cascade_modulation.md R226: state in which the last command left leg A: 0 OFF, 1 P, 2 N. -/
def LEG_A : Fld := ⟨1184, 31, 0, 144, 0, 1, 0, 1, 0, .ro, 0, .num, false, false, .any⟩
/-- 08_cascade_modulation.md R226: state in which the last command left leg B. -/
def LEG_B : Fld := ⟨1185, 31, 0, 144, 0, 1, 0, 1, 0, .ro, 0, .num, false, false, .any⟩
/-- 08_cascade_modulation.md R227: q from the last edge of leg A in the last command to the end of its frame, plus 1; 0 when it placed none. -/
def GAP_A : Fld := ⟨1186, 31, 0, 144, 0, 1, 0, 23, 0, .ro, 0, .num, false, false, .any⟩
/-- 08_cascade_modulation.md R227: as GAP_A, for leg B. -/
def GAP_B : Fld := ⟨1187, 31, 0, 144, 0, 1, 0, 23, 0, .ro, 0, .num, false, false, .any⟩
/-- 10_control_engine.md R297: used edge slots of the command posted for the next boundary. -/
def NSW_NEXT : Fld := ⟨1188, 31, 0, 144, 0, 1, 0, 2, 0, .ro, 0, .num, false, false, .any⟩
/-- 10_control_engine.md R297: used edge slots of the command executing in the frame in progress. -/
def NSW_EXEC : Fld := ⟨1189, 31, 0, 144, 0, 1, 0, 2, 0, .ro, 0, .num, false, false, .any⟩
/-- 10_control_engine.md R297: used edge slots of the command of the frame that ended at the last boundary. -/
def NSW_LAST : Fld := ⟨1190, 31, 0, 144, 0, 1, 0, 2, 0, .ro, 0, .num, false, false, .any⟩
/-- 10_control_engine.md R297: DAB_MODE of the command posted for the next boundary. -/
def DAB_NEXT : Fld := ⟨1191, 31, 0, 144, 0, 1, 0, 1, 0, .ro, 0, .num, false, false, .any⟩
/-- 10_control_engine.md R297: DAB_MODE of the command executing in the frame in progress. -/
def DAB_EXEC : Fld := ⟨1192, 31, 0, 144, 0, 1, 0, 1, 0, .ro, 0, .num, false, false, .any⟩
/-- 10_control_engine.md R297: DAB_MODE of the command of the frame that ended at the last boundary. -/
def DAB_LAST : Fld := ⟨1193, 31, 0, 144, 0, 1, 0, 1, 0, .ro, 0, .num, false, false, .any⟩
/-- 08_cascade_modulation.md R233: the parked cell has settled and becomes ACTIVE at step 6. -/
def PROMOTE : Fld := ⟨1194, 31, 0, 144, 0, 1, 0, 0, 0, .ro, 0, .num, false, false, .any⟩
/-- 08_cascade_modulation.md R233: the parked cell reached RET_TIMEOUT and becomes OUT at step 6. -/
def RET_OUT : Fld := ⟨1195, 31, 0, 144, 0, 1, 0, 0, 0, .ro, 0, .num, false, false, .any⟩
/-- 08_cascade_modulation.md R236: an OUT_REQ waits for its boundary. -/
def OUT_DUE : Fld := ⟨1196, 31, 0, 144, 0, 1, 0, 0, 0, .ro, 0, .num, false, false, .any⟩
/-- 08_cascade_modulation.md R236: TB ns of that OUT_REQ write. -/
def OUT_NS : Fld := ⟨1197, 31, 0, 144, 0, 1, 0, 63, 0, .ro, 0, .num, false, false, .any⟩
/-- 08_cascade_modulation.md R236: a RET_REQ waits for its boundary. -/
def RET_DUE : Fld := ⟨1198, 31, 0, 144, 0, 1, 0, 0, 0, .ro, 0, .num, false, false, .any⟩
/-- 08_cascade_modulation.md R236: TB ns of that RET_REQ write. -/
def RET_NS : Fld := ⟨1199, 31, 0, 144, 0, 1, 0, 63, 0, .ro, 0, .num, false, false, .any⟩
/-- 08_cascade_modulation.md R217: the commands of the frame in progress have been built. -/
def BUILT : Fld := ⟨1200, 31, 0, 1, 0, 1, 0, 0, 0, .ro, 0, .num, false, false, .any⟩
/-- 08_cascade_modulation.md R240: a test pattern runs. -/
def TEST_RUN : Fld := ⟨1201, 31, 0, 1, 0, 1, 0, 0, 0, .ro, 0, .num, false, false, .any⟩
/-- 08_cascade_modulation.md R240: a TEST_GO waits for its boundary. -/
def TEST_DUE : Fld := ⟨1202, 31, 0, 1, 0, 1, 0, 0, 0, .ro, 0, .num, false, false, .any⟩
/-- 08_cascade_modulation.md R240: TB ns of that TEST_GO write. -/
def TEST_NS : Fld := ⟨1203, 31, 0, 1, 0, 1, 0, 63, 0, .ro, 0, .num, false, false, .any⟩
/-- 08_cascade_modulation.md R240: a TEST_STOP waits for the next boundary. -/
def TEST_END : Fld := ⟨1204, 31, 0, 1, 0, 1, 0, 0, 0, .ro, 0, .num, false, false, .any⟩
/-- 08_cascade_modulation.md R228: CAR_PER(s) under which CAR_POS stands. -/
def CAR_OLD : Fld := ⟨1205, 31, 0, 6, 0, 1, 0, 31, 0, .ro, 0, .num, false, false, .any⟩
/-- 15_partner_redundancy.md R414: TB ns at which the slot entered PARK. -/
def PARK_NS : Fld := ⟨1206, 31, 0, 144, 0, 1, 0, 63, 0, .ro, 0, .num, false, false, .any⟩
end I.MOD
namespace I.CAL
/-- 09_calender_balancing.md R246: the string is posted its law in the frame in progress. -/
def POSTS : Fld := ⟨1207, 31, 0, 6, 0, 1, 0, 0, 0, .ro, 0, .num, false, false, .any⟩
/-- 09_calender_balancing.md R245: pass A of the string has run in the frame in progress. -/
def DONE : Fld := ⟨1208, 31, 0, 6, 0, 1, 0, 0, 0, .ro, 0, .num, false, false, .any⟩
/-- 09_calender_balancing.md R258: VMEANF of the string is set. -/
def VF_SET : Fld := ⟨1209, 31, 0, 6, 0, 1, 0, 0, 0, .ro, 0, .num, false, false, .any⟩
/-- 09_calender_balancing.md R253: raw_c of the last frame, binary32. -/
def RAW : Fld := ⟨1210, 31, 0, 144, 0, 1, 0, 31, 0, .ro, 0, .num, false, false, .any⟩
/-- 09_calender_balancing.md R260: the spread instance was raised in the present run. -/
def SPREAD_RAISED : Fld := ⟨1211, 31, 0, 6, 0, 1, 0, 0, 0, .ro, 0, .num, false, false, .any⟩
/-- 09_calender_balancing.md R247: cells in the balance set of the frame. -/
def BAL_N : Fld := ⟨1212, 31, 0, 6, 0, 1, 0, 5, 0, .ro, 0, .num, false, false, .any⟩
end I.CAL
namespace I.CE
/-- 10_control_engine.md R278: V_s* last delivered, binary32. -/
def VSTAR : Fld := ⟨1213, 31, 0, 6, 0, 1, 0, 31, 0, .ro, 0, .num, false, false, .any⟩
/-- 10_control_engine.md R277: LV phase references last delivered, binary32. -/
def LV_V : Fld := ⟨1214, 31, 0, 3, 0, 1, 0, 31, 0, .ro, 0, .num, false, false, .any⟩
/-- 10_control_engine.md R277: HB_DUTY last delivered, binary32. -/
def HB_DUTY : Fld := ⟨1215, 31, 0, 8, 0, 1, 0, 31, 0, .ro, 0, .num, false, false, .any⟩
/-- 10_control_engine.md R298: REF of the active control-law sheet. -/
def REF : Fld := ⟨1216, 31, 0, 1, 0, 1, 0, 1, 0, .ro, 0, .num, false, false, .any⟩
/-- 10_control_engine.md R298: FE_IN(i). -/
def FE_IN : Fld := ⟨1217, 31, 0, 12, 0, 1, 0, 15, 0, .ro, 0, .num, false, false, .any⟩
/-- 10_control_engine.md R298: STR_PHASE(s). -/
def STR_PHASE : Fld := ⟨1218, 31, 0, 6, 0, 1, 0, 7, 0, .ro, 0, .num, false, false, .any⟩
/-- 10_control_engine.md R298: GAIN(r), binary32. -/
def GAIN : Fld := ⟨1219, 31, 0, 128, 0, 1, 0, 31, 0, .ro, 0, .num, false, false, .any⟩
/-- 10_control_engine.md R298: OFS(r), binary32. -/
def OFS : Fld := ⟨1220, 31, 0, 128, 0, 1, 0, 31, 0, .ro, 0, .num, false, false, .any⟩
/-- 10_control_engine.md R298: words of the loss block. -/
def LOSS : Fld := ⟨1221, 31, 0, 162, 0, 1, 0, 31, 0, .ro, 0, .num, false, false, .any⟩
/-- 12_analog_front_end.md R339: result taken at the AFE cut of the frame in progress. -/
def AFE_CUT : Fld := ⟨1222, 31, 0, 128, 0, 1, 0, 31, 0, .ro, 0, .num, false, false, .any⟩
/-- 10_control_engine.md R267: the CE works on the frame in progress. -/
def BUSY : Fld := ⟨1223, 31, 0, 1, 0, 1, 0, 0, 0, .ro, 0, .num, false, false, .any⟩
/-- 10_control_engine.md R267: TB ns at which stage 1 started. -/
def START_NS : Fld := ⟨1224, 31, 0, 1, 0, 1, 0, 63, 0, .ro, 0, .num, false, false, .any⟩
/-- 10_control_engine.md R269: signals 0x0200 to 0x0212 of the frame in progress, binary32. -/
def FE : Fld := ⟨1225, 31, 0, 19, 0, 1, 0, 31, 0, .ro, 0, .num, false, false, .any⟩
/-- 10_control_engine.md R280: next angle of the MV (0) and the LV (1) PLL, not committed yet, binary64. -/
def F_TH : Fld := ⟨1226, 31, 0, 2, 0, 1, 0, 63, 0, .ro, 0, .num, false, false, .any⟩
/-- 10_control_engine.md R280: angular frequency of the PLL, not committed yet, binary64. -/
def F_OM : Fld := ⟨1227, 31, 0, 2, 0, 1, 0, 63, 0, .ro, 0, .num, false, false, .any⟩
/-- 10_control_engine.md R280: integrator of the PLL, not committed yet, binary64. -/
def F_X : Fld := ⟨1228, 31, 0, 2, 0, 1, 0, 63, 0, .ro, 0, .num, false, false, .any⟩
/-- 10_control_engine.md R280: consecutive frames against the lock in force, not committed yet. -/
def F_RUN : Fld := ⟨1229, 31, 0, 2, 0, 1, 0, 15, 0, .ro, 0, .num, false, false, .any⟩
/-- 10_control_engine.md R282: IN_BAND_RUN, not committed yet. -/
def F_IN : Fld := ⟨1230, 31, 0, 1, 0, 1, 0, 15, 0, .ro, 0, .num, false, false, .any⟩
/-- 10_control_engine.md R282: OUT_BAND_RUN, not committed yet. -/
def F_OUT : Fld := ⟨1231, 31, 0, 1, 0, 1, 0, 15, 0, .ro, 0, .num, false, false, .any⟩
/-- 10_control_engine.md R284: law of the frame in progress. -/
def F_LAW : Fld := ⟨1232, 31, 0, 1, 0, 1, 0, 3, 0, .ro, 0, .num, false, false, .any⟩
/-- 10_control_engine.md R279: MV alpha component of the frame in progress, binary32. -/
def F_ALPHA : Fld := ⟨1233, 31, 0, 1, 0, 1, 0, 31, 0, .ro, 0, .num, false, false, .any⟩
/-- 10_control_engine.md R279: MV beta component of the frame in progress, binary32. -/
def F_BETA : Fld := ⟨1234, 31, 0, 1, 0, 1, 0, 31, 0, .ro, 0, .num, false, false, .any⟩
/-- 10_control_engine.md R280: MV_LOCK has changed in the frame in progress. -/
def MV_CHG : Fld := ⟨1235, 31, 0, 1, 0, 1, 0, 0, 0, .ro, 0, .num, false, false, .any⟩
/-- 10_control_engine.md R280: angle of the MV (0) and the LV (1) PLL at the next boundary, binary64. -/
def TH : Fld := ⟨1236, 31, 0, 2, 0, 1, 0, 63, 0, .ro, 0, .num, false, false, .any⟩
/-- 10_control_engine.md R280: angular frequency of the PLL, binary64. -/
def OM : Fld := ⟨1237, 31, 0, 2, 0, 1, 0, 63, 0, .ro, 0, .num, false, false, .any⟩
/-- 10_control_engine.md R280: integrator of the PLL, binary64. -/
def X : Fld := ⟨1238, 31, 0, 2, 0, 1, 0, 63, 0, .ro, 0, .num, false, false, .any⟩
/-- 10_control_engine.md R280: consecutive frames against the lock in force. -/
def RUN : Fld := ⟨1239, 31, 0, 2, 0, 1, 0, 15, 0, .ro, 0, .num, false, false, .any⟩
/-- 10_control_engine.md R281: LV_LAW of the previous frame. -/
def LVLAW_LAST : Fld := ⟨1240, 31, 0, 1, 0, 1, 0, 0, 0, .ro, 0, .num, false, false, .any⟩
/-- 10_control_engine.md R279: MV alpha components of past frames, binary32. -/
def HIST_A : Fld := ⟨1241, 31, 0, 16384, 0, 1, 0, 31, 0, .ro, 0, .num, false, false, .any⟩
/-- 10_control_engine.md R279: MV beta components of past frames, binary32. -/
def HIST_B : Fld := ⟨1242, 31, 0, 16384, 0, 1, 0, 31, 0, .ro, 0, .num, false, false, .any⟩
/-- 10_control_engine.md R279: place of the newest of them. -/
def HIST_IX : Fld := ⟨1243, 31, 0, 1, 0, 1, 0, 13, 0, .ro, 0, .num, false, false, .any⟩
/-- 10_control_engine.md R275: slew-limiter state of instance i of slot n, at 144 n + i, binary64. -/
def SP : Fld := ⟨1244, 31, 0, 9216, 0, 1, 0, 63, 0, .ro, 0, .num, false, false, .any⟩
/-- 10_control_engine.md R272: first state of section j, at 4 (144 n + i) + j: x or xa in binary64, s1 in binary32. -/
def SA : Fld := ⟨1245, 31, 0, 36864, 0, 1, 0, 63, 0, .ro, 0, .num, false, false, .any⟩
/-- 10_control_engine.md R272: second state of section j: xb in binary64, s2 in binary32. -/
def SB : Fld := ⟨1246, 31, 0, 36864, 0, 1, 0, 63, 0, .ro, 0, .num, false, false, .any⟩
/-- 10_control_engine.md R268: applied output of the instance in the last frame it ran, binary32. -/
def OUT : Fld := ⟨1247, 31, 0, 9216, 0, 1, 0, 31, 0, .ro, 0, .num, false, false, .any⟩
/-- 10_control_engine.md R291: applied output of the frame before, binary32. -/
def OUT2 : Fld := ⟨1248, 31, 0, 9216, 0, 1, 0, 31, 0, .ro, 0, .num, false, false, .any⟩
/-- 10_control_engine.md R291: FB_SIG value of the previous frame, binary32. -/
def FB : Fld := ⟨1249, 31, 0, 9216, 0, 1, 0, 31, 0, .ro, 0, .num, false, false, .any⟩
/-- 10_control_engine.md R291: plausibility count of the instance. -/
def PL_CNT : Fld := ⟨1250, 31, 0, 9216, 0, 1, 0, 15, 0, .ro, 0, .num, false, false, .any⟩
/-- 10_control_engine.md R291: PL_FAIL was raised for the present count. -/
def PL_RAISED : Fld := ⟨1251, 31, 0, 9216, 0, 1, 0, 0, 0, .ro, 0, .num, false, false, .any⟩
/-- 10_control_engine.md R292: frames left in which the count neither counts nor restarts. -/
def QUIET : Fld := ⟨1252, 31, 0, 9216, 0, 1, 0, 1, 0, .ro, 0, .num, false, false, .any⟩
/-- 10_control_engine.md R286: the instance ran in the previous frame. -/
def RAN : Fld := ⟨1253, 31, 0, 9216, 0, 1, 0, 0, 0, .ro, 0, .num, false, false, .any⟩
/-- 10_control_engine.md R293: the previous frame of the instance was held by a numeric fault. -/
def NE : Fld := ⟨1254, 31, 0, 9216, 0, 1, 0, 0, 0, .ro, 0, .num, false, false, .any⟩
/-- 10_control_engine.md R292: frames left after an overrun, or a takeover, without plausibility counts. -/
def OVR_QUIET : Fld := ⟨1255, 31, 0, 1, 0, 1, 0, 1, 0, .ro, 0, .num, false, false, .any⟩
/-- 10_control_engine.md R277: value of destination k at instance i in the previous frame, at 144 k + i, binary32. -/
def DST : Fld := ⟨1256, 31, 0, 1584, 0, 1, 0, 31, 0, .ro, 0, .num, false, false, .any⟩
/-- 10_control_engine.md R287: the destination instance is blending. -/
def B_ON : Fld := ⟨1257, 31, 0, 1584, 0, 1, 0, 0, 0, .ro, 0, .num, false, false, .any⟩
/-- 10_control_engine.md R287: blend value d, binary32. -/
def B_D : Fld := ⟨1258, 31, 0, 1584, 0, 1, 0, 31, 0, .ro, 0, .num, false, false, .any⟩
/-- 10_control_engine.md R287: blend rate R per second, binary32. -/
def B_R : Fld := ⟨1259, 31, 0, 1584, 0, 1, 0, 31, 0, .ro, 0, .num, false, false, .any⟩
/-- 10_control_engine.md R287: ns of HANDOVER_T left. -/
def B_LEFT : Fld := ⟨1260, 31, 0, 1584, 0, 1, 0, 35, 0, .ro, 0, .num, false, false, .any⟩
/-- 10_control_engine.md R287: incoming slot of the blend plus 1; 0 none. -/
def B_SLOT : Fld := ⟨1261, 31, 0, 1584, 0, 1, 0, 6, 0, .ro, 0, .num, false, false, .any⟩
/-- 10_control_engine.md R286: the next frame is the first after a class-2 activation. -/
def FRESH : Fld := ⟨1262, 31, 0, 1, 0, 1, 0, 0, 0, .ro, 0, .num, false, false, .any⟩
/-- 10_control_engine.md R290: the next frame is the first after a bank swap. -/
def SWAPPED : Fld := ⟨1263, 31, 0, 1, 0, 1, 0, 0, 0, .ro, 0, .num, false, false, .any⟩
/-- 10_control_engine.md R289: bank requests of the applied sets waiting for step 5, base 4, the first lowest. -/
def BANK_DUE : Fld := ⟨1264, 31, 0, 1, 0, 1, 0, 63, 0, .ro, 0, .num, false, false, .any⟩
/-- 10_control_engine.md R288: an activation's bank swap waits for step 5. -/
def ACT_SWAP : Fld := ⟨1265, 31, 0, 1, 0, 1, 0, 0, 0, .ro, 0, .num, false, false, .any⟩
/-- 10_control_engine.md R267: the CE has started in the frame in progress. -/
def STARTED : Fld := ⟨1266, 31, 0, 1, 0, 1, 0, 0, 0, .ro, 0, .num, false, false, .any⟩
end I.CE
namespace I.AFE
/-- 12_analog_front_end.md R333: t_trig of the running run, TB ns. -/
def TRIG_NS : Fld := ⟨1267, 31, 0, 8, 0, 1, 0, 63, 0, .ro, 0, .num, false, false, .any⟩
/-- 12_analog_front_end.md R335: t_trig of the queued trigger, TB ns. -/
def QTRIG_NS : Fld := ⟨1268, 31, 0, 8, 0, 1, 0, 63, 0, .ro, 0, .num, false, false, .any⟩
/-- 12_analog_front_end.md R333: TB ns at which the next step became or becomes ready. -/
def READY_NS : Fld := ⟨1269, 31, 0, 8, 0, 1, 0, 63, 0, .ro, 0, .num, false, false, .any⟩
/-- 12_analog_front_end.md R333: steps of the running run that have started. -/
def STEP : Fld := ⟨1270, 31, 0, 8, 0, 1, 0, 4, 0, .ro, 0, .num, false, false, .any⟩
/-- 12_analog_front_end.md R336: TB ns of the first sampling instant of the running run. -/
def SAMPLE_NS : Fld := ⟨1271, 31, 0, 8, 0, 1, 0, 63, 0, .ro, 0, .num, false, false, .any⟩
/-- 12_analog_front_end.md R350: ns the running run has waited for converters. -/
def WAIT : Fld := ⟨1272, 31, 0, 8, 0, 1, 0, 15, 0, .ro, 0, .num, false, false, .any⟩
/-- 12_analog_front_end.md R335: the running run became ready later than its delay. -/
def LATE_RUN : Fld := ⟨1273, 31, 0, 8, 0, 1, 0, 0, 0, .ro, 0, .num, false, false, .any⟩
/-- 12_analog_front_end.md R350: a conversion of the running run did not end in time. -/
def RUN_FAIL : Fld := ⟨1274, 31, 0, 8, 0, 1, 0, 0, 0, .ro, 0, .num, false, false, .any⟩
/-- 12_analog_front_end.md R339: the running run was triggered at the boundary of the frame in progress. -/
def FRAME_RUN : Fld := ⟨1275, 31, 0, 8, 0, 1, 0, 0, 0, .ro, 0, .num, false, false, .any⟩
/-- 12_analog_front_end.md R339: the frame's run: 0 not published, 1 good, 2 with FAIL. -/
def GOT_RUN : Fld := ⟨1276, 31, 0, 8, 0, 1, 0, 1, 0, .ro, 0, .num, false, false, .any⟩
/-- 12_analog_front_end.md R339: result of the last good run of its sequencer. -/
def GOOD : Fld := ⟨1277, 31, 0, 128, 0, 1, 0, 31, 0, .ro, 0, .num, false, false, .any⟩
/-- 12_analog_front_end.md R350: triggers dropped in the frame in progress. -/
def DROPS : Fld := ⟨1278, 31, 0, 8, 0, 1, 0, 7, 0, .ro, 0, .num, false, false, .any⟩
/-- 12_analog_front_end.md R350: triggers dropped in the previous frame. -/
def DROPS_PREV : Fld := ⟨1279, 31, 0, 8, 0, 1, 0, 7, 0, .ro, 0, .num, false, false, .any⟩
/-- 12_analog_front_end.md R333: sequencer whose step holds the converter, plus 1; 0 free. -/
def CONV : Fld := ⟨1280, 31, 0, 4, 0, 1, 0, 3, 0, .ro, 0, .num, false, false, .any⟩
/-- 12_analog_front_end.md R350: the converter failed by timeout. -/
def TO_FAIL : Fld := ⟨1281, 31, 0, 4, 0, 1, 0, 0, 0, .ro, 0, .num, false, false, .any⟩
/-- 12_analog_front_end.md R350: the converter failed its reference conversion. -/
def REF_FAIL : Fld := ⟨1282, 31, 0, 4, 0, 1, 0, 0, 0, .ro, 0, .num, false, false, .any⟩
/-- 12_analog_front_end.md R341: hysteretic state over, one bit a comparator. -/
def WC_H : Fld := ⟨1283, 31, 0, 1, 0, 1, 0, 23, 0, .ro, 0, .num, false, false, .any⟩
/-- 12_analog_front_end.md R341: hysteretic state under, one bit a comparator. -/
def WC_L : Fld := ⟨1284, 31, 0, 1, 0, 1, 0, 23, 0, .ro, 0, .num, false, false, .any⟩
/-- 12_analog_front_end.md R342: filtered condition, one bit a comparator. -/
def WC_C : Fld := ⟨1285, 31, 0, 1, 0, 1, 0, 23, 0, .ro, 0, .num, false, false, .any⟩
/-- 12_analog_front_end.md R343: software clears waiting for their boundary. -/
def SWCLR : Fld := ⟨1286, 31, 0, 1, 0, 1, 0, 23, 0, .ro, 0, .num, false, false, .any⟩
/-- 12_analog_front_end.md R343: TB ns of the last WC_SWCLR write of the comparator. -/
def SWCLR_NS : Fld := ⟨1287, 31, 0, 24, 0, 1, 0, 63, 0, .ro, 0, .num, false, false, .any⟩
/-- 12_analog_front_end.md R347: TB ns of the last change of a threshold DAC (low 2w, high 2w + 1). -/
def DAC_NS : Fld := ⟨1288, 31, 0, 48, 0, 1, 0, 63, 0, .ro, 0, .num, false, false, .any⟩
/-- 12_analog_front_end.md R347: threshold DACs whose last compared readback lay outside DAC_TOL. -/
def DAC_BAD : Fld := ⟨1289, 31, 0, 1, 0, 1, 0, 47, 0, .ro, 0, .num, false, false, .any⟩
/-- 16_thermal_lifetime.md R424: first sampling instant of the last published run, TB ns plus 1; 0 none. -/
def PUB_NS : Fld := ⟨1290, 31, 0, 8, 0, 1, 0, 64, 0, .ro, 0, .num, false, false, .any⟩
/-- 17_grid_network_time.md R480: TB ns of the sampling instant of step k of the running run, at 16 n + k. -/
def STEP_NS : Fld := ⟨1291, 31, 0, 128, 0, 1, 0, 63, 0, .ro, 0, .num, false, false, .any⟩
end I.AFE
namespace I.SAFE
/-- 14_safety_channels.md R387: filtered input at its demand level, at 8 ch + 2 i + (0 A, 1 B). -/
def IN : Fld := ⟨1292, 31, 0, 16, 0, 1, 0, 0, 0, .ro, 0, .num, false, false, .any⟩
/-- 14_safety_channels.md R388: a disagreement of the pair runs, at 4 ch + i. -/
def DIS_ON : Fld := ⟨1293, 31, 0, 8, 0, 1, 0, 0, 0, .ro, 0, .num, false, false, .any⟩
/-- 14_safety_channels.md R388: which input changed first in it: 1 A, 2 B. -/
def DIS_FIRST : Fld := ⟨1294, 31, 0, 8, 0, 1, 0, 1, 0, .ro, 0, .num, false, false, .any⟩
/-- 14_safety_channels.md R388: discrepancy latch of the channel. -/
def LATCH : Fld := ⟨1295, 31, 0, 8, 0, 1, 0, 0, 0, .ro, 0, .num, false, false, .any⟩
/-- 14_safety_channels.md R388: both inputs have been at the demand level since the latch was set. -/
def ARM : Fld := ⟨1296, 31, 0, 8, 0, 1, 0, 0, 0, .ro, 0, .num, false, false, .any⟩
/-- 14_safety_channels.md R390: feedback latch of the channel, at 4 ch + f. -/
def FBL : Fld := ⟨1297, 31, 0, 8, 0, 1, 0, 0, 0, .ro, 0, .num, false, false, .any⟩
/-- 14_safety_channels.md R390: the contact has not confirmed the last command change yet. -/
def FB_WAIT : Fld := ⟨1298, 31, 0, 8, 0, 1, 0, 0, 0, .ro, 0, .num, false, false, .any⟩
/-- 14_safety_channels.md R390: TB ns of the last change of the commanded state. -/
def FB_T0 : Fld := ⟨1299, 31, 0, 8, 0, 1, 0, 63, 0, .ro, 0, .num, false, false, .any⟩
/-- 14_safety_channels.md R390: commanded state the channel supervises, at 2 ch + (0 SOP, 1 SOM); 1 closed. -/
def CS : Fld := ⟨1300, 31, 0, 4, 0, 1, 0, 0, 0, .ro, 0, .num, false, false, .any⟩
/-- 14_safety_channels.md R390: the other channel's half as of the last exchange, at 2 ch + output. -/
def XCMD : Fld := ⟨1301, 31, 0, 4, 0, 1, 0, 0, 0, .ro, 0, .num, false, false, .any⟩
/-- 14_safety_channels.md R391: readback latch of the channel, at 2 ch + function (0 SPB, 1 SMT). -/
def RBL : Fld := ⟨1302, 31, 0, 4, 0, 1, 0, 0, 0, .ro, 0, .num, false, false, .any⟩
/-- 14_safety_channels.md R391: outputs whose pad level was found to differ from the command. -/
def RB_STUCK : Fld := ⟨1303, 31, 0, 1, 0, 1, 0, 3, 0, .ro, 0, .num, false, false, .any⟩
/-- 14_safety_channels.md R392: cross-check latch of the channel. -/
def XCHK : Fld := ⟨1304, 31, 0, 2, 0, 1, 0, 0, 0, .ro, 0, .num, false, false, .any⟩
/-- 14_safety_channels.md R393: Sorrel's self-test failed. -/
def STF : Fld := ⟨1305, 31, 0, 1, 0, 1, 0, 0, 0, .ro, 0, .num, false, false, .any⟩
/-- 14_safety_channels.md R392: Sorrel measured SAFE outside ten percent. -/
def OSC_BAD : Fld := ⟨1306, 31, 0, 1, 0, 1, 0, 0, 0, .ro, 0, .num, false, false, .any⟩
/-- 14_safety_channels.md R392: Yarrow's supply monitor reports its supply outside limits. -/
def YSUP_BAD : Fld := ⟨1307, 31, 0, 1, 0, 1, 0, 0, 0, .ro, 0, .num, false, false, .any⟩
/-- 14_safety_channels.md R384: a TRIP_MV reaction was in force at the last evaluation. -/
def TMV : Fld := ⟨1308, 31, 0, 1, 0, 1, 0, 0, 0, .ro, 0, .num, false, false, .any⟩
/-- 14_safety_channels.md R384: demand of the channel on the function other than that of R540, at 2 ch + function. -/
def REAL : Fld := ⟨1309, 31, 0, 4, 0, 1, 0, 0, 0, .ro, 0, .num, false, false, .any⟩
/-- 14_safety_channels.md R396: SI_CFG in force in Yarrow. -/
def Y_SI_CFG : Fld := ⟨1310, 31, 0, 4, 0, 1, 0, 31, 0, .ro, 0, .num, false, false, .any⟩
/-- 14_safety_channels.md R396: DISC_T in force in Yarrow, ms. -/
def Y_DISC_T : Fld := ⟨1311, 31, 0, 4, 0, 1, 0, 10, 0, .ro, 0, .num, false, false, .any⟩
/-- 14_safety_channels.md R396: FB_CFG in force in Yarrow. -/
def Y_FB_CFG : Fld := ⟨1312, 31, 0, 4, 0, 1, 0, 7, 0, .ro, 0, .num, false, false, .any⟩
/-- 14_safety_channels.md R396: FB_TIMEOUT in force in Yarrow, ms. -/
def Y_FB_TIMEOUT : Fld := ⟨1313, 31, 0, 1, 0, 1, 0, 9, 0, .ro, 0, .num, false, false, .any⟩
end I.SAFE
namespace I.PART
/-- 15_partner_redundancy.md R403: permits in the partner's last valid beat: SOP, SOM. -/
def BEAT_PERMITS : Fld := ⟨1314, 31, 0, 1, 0, 1, 0, 1, 0, .ro, 0, .num, false, false, .any⟩
/-- 15_partner_redundancy.md R403: a valid beat of the partner is in force. -/
def BEAT_OK : Fld := ⟨1315, 31, 0, 1, 0, 1, 0, 0, 0, .ro, 0, .num, false, false, .any⟩
/-- 15_partner_redundancy.md R404: REACT_MAX of the partner's last valid beat. -/
def BEAT_REACT : Fld := ⟨1316, 31, 0, 1, 0, 1, 0, 3, 0, .ro, 0, .num, false, false, .any⟩
/-- 15_partner_redundancy.md R404: active image digest of that beat; 0 none. -/
def BEAT_DIGEST : Fld := ⟨1317, 31, 0, 1, 0, 1, 0, 383, 0, .ro, 0, .num, false, false, .any⟩
/-- 15_partner_redundancy.md R404: strap of that beat. -/
def BEAT_STRAP : Fld := ⟨1318, 31, 0, 1, 0, 1, 0, 1, 0, .ro, 0, .num, false, false, .any⟩
/-- 15_partner_redundancy.md R404: READY of that beat. -/
def BEAT_READY : Fld := ⟨1319, 31, 0, 1, 0, 1, 0, 0, 0, .ro, 0, .num, false, false, .any⟩
/-- 15_partner_redundancy.md R404: IN_SYNC of that beat. -/
def BEAT_INSYNC : Fld := ⟨1320, 31, 0, 1, 0, 1, 0, 0, 0, .ro, 0, .num, false, false, .any⟩
/-- 15_partner_redundancy.md R404: HIF_ID.MAJOR of the partner. -/
def BEAT_MAJOR : Fld := ⟨1321, 31, 0, 1, 0, 1, 0, 7, 0, .ro, 0, .num, false, false, .any⟩
/-- 15_partner_redundancy.md R419: TB_INHIBIT of the partner. -/
def BEAT_INHIBIT : Fld := ⟨1322, 31, 0, 1, 0, 1, 0, 0, 0, .ro, 0, .num, false, false, .any⟩
/-- 15_partner_redundancy.md R404: FRAME_NO of that beat. -/
def BEAT_FRAME : Fld := ⟨1323, 31, 0, 1, 0, 1, 0, 31, 0, .ro, 0, .num, false, false, .any⟩
/-- 15_partner_redundancy.md R405: valid beats in consecutive frames while the PL path is lost, at most 3. -/
def BEAT_RUN : Fld := ⟨1324, 31, 0, 1, 0, 1, 0, 2, 0, .ro, 0, .num, false, false, .any⟩
/-- 15_partner_redundancy.md R405: consecutive good spacings of edges on HB_IN while the wire path is lost, at most 4. -/
def EDGE_RUN : Fld := ⟨1325, 31, 0, 1, 0, 1, 0, 2, 0, .ro, 0, .num, false, false, .any⟩
/-- 15_partner_redundancy.md R405: TB ns plus 1 of the last edge on HB_IN; 0 none. -/
def LAST_EDGE : Fld := ⟨1326, 31, 0, 1, 0, 1, 0, 64, 0, .ro, 0, .num, false, false, .any⟩
/-- 15_partner_redundancy.md R415: items applied since entry to MIRROR, one bit an item. -/
def APPLIED : Fld := ⟨1327, 31, 0, 1, 0, 1, 0, 1023, 0, .ro, 0, .num, false, false, .any⟩
/-- 15_partner_redundancy.md R415: the transfer of R410 has been applied. -/
def XFER_DONE : Fld := ⟨1328, 31, 0, 1, 0, 1, 0, 0, 0, .ro, 0, .num, false, false, .any⟩
/-- 15_partner_redundancy.md R415: frames since a mirror frame was lost, at most 256. -/
def LOST_AGO : Fld := ⟨1329, 31, 0, 1, 0, 1, 0, 8, 0, .ro, 0, .num, false, false, .any⟩
/-- 15_partner_redundancy.md R422: the mirror frame before was lost. -/
def LOST_NOW : Fld := ⟨1330, 31, 0, 1, 0, 1, 0, 0, 0, .ro, 0, .num, false, false, .any⟩
/-- 15_partner_redundancy.md R415: TB ns at which IN_SYNC was last set. -/
def SYNC_NS : Fld := ⟨1331, 31, 0, 1, 0, 1, 0, 63, 0, .ro, 0, .num, false, false, .any⟩
/-- 15_partner_redundancy.md R406: IN_SYNC held when the paths were lost, the loss of the paths itself left aside. -/
def SYNC_LIVE : Fld := ⟨1332, 31, 0, 1, 0, 1, 0, 0, 0, .ro, 0, .num, false, false, .any⟩
/-- 15_partner_redundancy.md R421: ITEM(i) of the active mirror sheet. -/
def ITEM : Fld := ⟨1333, 31, 0, 1024, 0, 1, 0, 31, 0, .ro, 0, .num, false, false, .any⟩
/-- 15_partner_redundancy.md R420: a confirmed handover: 0 none, 1 this module takes, 2 this module yields. -/
def HAND : Fld := ⟨1334, 31, 0, 1, 0, 1, 0, 1, 0, .ro, 0, .num, false, false, .any⟩
/-- 15_partner_redundancy.md R420: FRAME_NO of the frame that begins at H. -/
def H_FRAME : Fld := ⟨1335, 31, 0, 1, 0, 1, 0, 31, 0, .ro, 0, .num, false, false, .any⟩
/-- 15_partner_redundancy.md R420: the handover was requested by YIELD. -/
def H_YIELD : Fld := ⟨1336, 31, 0, 1, 0, 1, 0, 0, 0, .ro, 0, .num, false, false, .any⟩
/-- 15_partner_redundancy.md R419: TB ns plus 1 of the last takeback request; 0 none. -/
def TB_REQ_NS : Fld := ⟨1337, 31, 0, 1, 0, 1, 0, 64, 0, .ro, 0, .num, false, false, .any⟩
/-- 15_partner_redundancy.md R417: a takeover is due at step 3 of the next boundary. -/
def TAKEOVER_DUE : Fld := ⟨1338, 31, 0, 1, 0, 1, 0, 0, 0, .ro, 0, .num, false, false, .any⟩
/-- 15_partner_redundancy.md R406: MIRROR is left for IDLE at step 3 of the next boundary. -/
def LEAVE_DUE : Fld := ⟨1339, 31, 0, 1, 0, 1, 0, 0, 0, .ro, 0, .num, false, false, .any⟩
/-- 15_partner_redundancy.md R408: the module has yielded and enters IDLE at step 3 of the next boundary. -/
def YIELD_DUE : Fld := ⟨1340, 31, 0, 1, 0, 1, 0, 0, 0, .ro, 0, .num, false, false, .any⟩
/-- 15_partner_redundancy.md R417: boundaries since both paths were lost, at most 255. -/
def TO_BND : Fld := ⟨1341, 31, 0, 1, 0, 1, 0, 7, 0, .ro, 0, .num, false, false, .any⟩
/-- 15_partner_redundancy.md R417: a takeover waits for the first measurement block that echoes its epoch. -/
def TO_WAIT : Fld := ⟨1342, 31, 0, 1, 0, 1, 0, 0, 0, .ro, 0, .num, false, false, .any⟩
/-- 15_partner_redundancy.md R417: boundaries for which the LV port has waited since the takeover. -/
def LVW_FRAMES : Fld := ⟨1343, 31, 0, 1, 0, 1, 0, 15, 0, .ro, 0, .num, false, false, .any⟩
/-- 15_partner_redundancy.md R404: level of HB_OUT. -/
def HB_OUT : Fld := ⟨1344, 31, 0, 1, 0, 1, 0, 0, 0, .ro, 0, .num, false, false, .any⟩
/-- 15_partner_redundancy.md R402: the gate pads are released to high impedance. -/
def HIZ : Fld := ⟨1345, 31, 0, 1, 0, 1, 0, 0, 0, .ro, 1, .num, false, false, .any⟩
/-- 15_partner_redundancy.md R414: reaction of the unit in force as the last KIND 13 item gave it. -/
def MU_REACT : Fld := ⟨1346, 31, 0, 173, 0, 1, 0, 3, 0, .ro, 0, .num, false, false, .any⟩
/-- 15_partner_redundancy.md R414: SNAP_SEQ of the last KIND 14 item. -/
def M_SNAPSEQ : Fld := ⟨1347, 31, 0, 1, 0, 1, 0, 63, 0, .ro, 0, .num, false, false, .any⟩
/-- 15_partner_redundancy.md R414: MODE_FRAMES of the last KIND 14 item. -/
def M_MODEFRAMES : Fld := ⟨1348, 31, 0, 1, 0, 1, 0, 31, 0, .ro, 0, .num, false, false, .any⟩
/-- 15_partner_redundancy.md R490: own TB less the primary's TB at a common boundary, ns, two's complement. -/
def SKEW : Fld := ⟨1349, 31, 0, 1, 0, 1, 0, 31, 0, .ro, 0, .num, false, false, .any⟩
/-- 15_partner_redundancy.md R422: mirror frames lost since one was applied, at most 255. -/
def LOST_RUN : Fld := ⟨1350, 31, 0, 1, 0, 1, 0, 7, 0, .ro, 0, .num, false, false, .any⟩
/-- 15_partner_redundancy.md R423: IN_SYNC when ROLE was last judged. -/
def SHOWN_SYNC : Fld := ⟨1351, 31, 0, 1, 0, 1, 0, 0, 0, .ro, 0, .num, false, false, .any⟩
/-- 15_partner_redundancy.md R414: FRAME_NO of the last KIND 14 item. -/
def M_FRAME : Fld := ⟨1352, 31, 0, 1, 0, 1, 0, 31, 0, .ro, 0, .num, false, false, .any⟩
/-- 02_host_access.md R68: the module has yielded: every waiting set is rejected at step 4. -/
def REJ_SETS : Fld := ⟨1353, 31, 0, 1, 0, 1, 0, 0, 0, .ro, 0, .num, false, false, .any⟩
end I.PART
namespace I.NET
/-- 03_clocks_timebase.md R83: TB ns at which TOD_SEC began, two's complement. -/
def REF_NS : Fld := ⟨1354, 31, 0, 1, 0, 1, 0, 65, 0, .ro, 0, .num, false, false, .any⟩
/-- 17_grid_network_time.md R462: integrator I of the servo in ppb, binary64. -/
def SERVO_I : Fld := ⟨1355, 31, 0, 1, 0, 1, 0, 63, 0, .ro, 0, .num, false, false, .any⟩
/-- 17_grid_network_time.md R461: consecutive intervals of LOCKED with the input above STEP_THR. -/
def OVER_RUN : Fld := ⟨1356, 31, 0, 1, 0, 1, 0, 1, 0, .ro, 0, .num, false, false, .any⟩
/-- 17_grid_network_time.md R465: consecutive intervals with the input at most LOCK_THR. -/
def LOCK_RUN : Fld := ⟨1357, 31, 0, 1, 0, 1, 0, 15, 0, .ro, 0, .num, false, false, .any⟩
/-- 17_grid_network_time.md R461: TB ns plus 1 of the last offset of the primary source; 0 none. -/
def OFS_NS : Fld := ⟨1358, 31, 0, 1, 0, 1, 0, 64, 0, .ro, 0, .num, false, false, .any⟩
/-- 17_grid_network_time.md R471: TB ns plus 1 of the last offset of the LAN; 0 none. -/
def LAN_NS : Fld := ⟨1359, 31, 0, 2, 0, 1, 0, 64, 0, .ro, 0, .num, false, false, .any⟩
/-- 17_grid_network_time.md R460: the LAN has delivered an offset in the present interval. -/
def GOT : Fld := ⟨1360, 31, 0, 2, 0, 1, 0, 0, 0, .ro, 0, .num, false, false, .any⟩
/-- 17_grid_network_time.md R468: o_p of the last interval with a non-empty included set, two's complement ns. -/
def LAST_O : Fld := ⟨1361, 31, 0, 2, 0, 1, 0, 31, 0, .ro, 0, .num, false, false, .any⟩
/-- 17_grid_network_time.md R468: servo input of that interval, two's complement ns. -/
def LAST_E : Fld := ⟨1362, 31, 0, 1, 0, 1, 0, 31, 0, .ro, 0, .num, false, false, .any⟩
/-- 17_grid_network_time.md R471: a LAN_RESET of the LAN waits for the next interval. -/
def RST_DUE : Fld := ⟨1363, 31, 0, 2, 0, 1, 0, 0, 0, .ro, 0, .num, false, false, .any⟩
/-- 17_grid_network_time.md R456: sequenceId of the last Pdelay_Req of the port. -/
def TXSEQ : Fld := ⟨1364, 31, 0, 2, 0, 1, 0, 15, 0, .ro, 0, .num, false, false, .any⟩
/-- 17_grid_network_time.md R475: the check source has given an edge in the present second. -/
def CHK_GOT : Fld := ⟨1365, 31, 0, 1, 0, 1, 0, 0, 0, .ro, 0, .num, false, false, .any⟩
/-- 17_grid_network_time.md R475: its difference from the mapping, two's complement ns. -/
def CHK_OFS : Fld := ⟨1366, 31, 0, 1, 0, 1, 0, 31, 0, .ro, 0, .num, false, false, .any⟩
/-- 17_grid_network_time.md R475: consecutive seconds above XCHK_THR, at most 3. -/
def CHK_BAD : Fld := ⟨1367, 31, 0, 1, 0, 1, 0, 1, 0, .ro, 0, .num, false, false, .any⟩
/-- 17_grid_network_time.md R475: consecutive seconds within XCHK_THR, at most 10. -/
def CHK_OK : Fld := ⟨1368, 31, 0, 1, 0, 1, 0, 3, 0, .ro, 0, .num, false, false, .any⟩
/-- 17_grid_network_time.md R476: level of PPS_OUT. -/
def PPS_OUT : Fld := ⟨1369, 31, 0, 1, 0, 1, 0, 0, 0, .ro, 0, .num, false, false, .any⟩
/-- 17_grid_network_time.md R477: a TOD_SET_GO waits for the next second. -/
def SET_DUE : Fld := ⟨1370, 31, 0, 1, 0, 1, 0, 0, 0, .ro, 0, .num, false, false, .any⟩
/-- 17_grid_network_time.md R477: TOD_SET at that write. -/
def SET_SEC : Fld := ⟨1371, 31, 0, 1, 0, 1, 0, 63, 0, .ro, 0, .num, false, false, .any⟩
/-- 17_grid_network_time.md R493: receive errors of the port in the present 1 s window. -/
def WIN_ERR : Fld := ⟨1372, 31, 0, 2, 0, 1, 0, 15, 0, .ro, 0, .num, false, false, .any⟩
/-- 17_grid_network_time.md R482: PTP second of the last sample of the stream plus 1; 0 none. -/
def SV_SEC : Fld := ⟨1373, 31, 0, 8, 0, 1, 0, 64, 0, .ro, 0, .num, false, false, .any⟩
/-- 17_grid_network_time.md R482: smpCnt of the last sample that fell due. -/
def SV_CNT : Fld := ⟨1374, 31, 0, 8, 0, 1, 0, 13, 0, .ro, 0, .num, false, false, .any⟩
/-- 17_grid_network_time.md R485: consecutive frames in which the subscription differs from CMP_SIG. -/
def SUB_RUN : Fld := ⟨1375, 31, 0, 16, 0, 1, 0, 15, 0, .ro, 0, .num, false, false, .any⟩
/-- 17_grid_network_time.md R487: the subscription has accepted a message. -/
def GS_EVER : Fld := ⟨1376, 31, 0, 32, 0, 1, 0, 0, 0, .ro, 0, .num, false, false, .any⟩
/-- 17_grid_network_time.md R489: the dataset is being published. -/
def GP_ON : Fld := ⟨1377, 31, 0, 8, 0, 1, 0, 0, 0, .ro, 0, .num, false, false, .any⟩
/-- 17_grid_network_time.md R489: sqNum of the last message of the dataset. -/
def GP_SQ : Fld := ⟨1378, 31, 0, 8, 0, 1, 0, 31, 0, .ro, 0, .num, false, false, .any⟩
end I.NET
namespace I.PERF
/-- 18_performance_counters.md R497: live programmable counter i of block b at 8 b + i. -/
def CNT : Fld := ⟨1379, 31, 0, 88, 0, 1, 0, 31, 0, .ro, 0, .num, false, false, .any⟩
/-- 18_performance_counters.md R497: the live counter saturated in the window in progress. -/
def OVF : Fld := ⟨1380, 31, 0, 88, 0, 1, 0, 0, 0, .ro, 0, .num, false, false, .any⟩
/-- 18_performance_counters.md R499: EVSEL under which the counter counts in the window in progress. -/
def SEL : Fld := ⟨1381, 31, 0, 88, 0, 1, 0, 11, 0, .ro, 0, .num, false, false, .any⟩
/-- 18_performance_counters.md R497: some counter selects an event. -/
def ANY : Fld := ⟨1382, 31, 0, 1, 0, 1, 0, 0, 0, .ro, 0, .num, false, false, .any⟩
/-- 18_performance_counters.md R499: the first window has begun. -/
def ON : Fld := ⟨1383, 31, 0, 1, 0, 1, 0, 0, 0, .ro, 0, .num, false, false, .any⟩
/-- 18_performance_counters.md R498: TB ns at which the window in progress began. -/
def WIN_NS : Fld := ⟨1384, 31, 0, 1, 0, 1, 0, 63, 0, .ro, 0, .num, false, false, .any⟩
/-- 18_performance_counters.md R499: GATH_WIN of the window in progress. -/
def WIN_MS : Fld := ⟨1385, 31, 0, 1, 0, 1, 0, 13, 0, .ro, 0, .num, false, false, .any⟩
/-- 18_performance_counters.md R499: CYC64 at which the window in progress began. -/
def START_CYC : Fld := ⟨1386, 31, 0, 1, 0, 1, 0, 63, 0, .ro, 0, .num, false, false, .any⟩
/-- 18_performance_counters.md R500: view that the active image selects. -/
def VIEW_NEXT : Fld := ⟨1387, 31, 0, 1, 0, 1, 0, 0, 0, .ro, 0, .num, false, false, .any⟩
/-- 18_performance_counters.md R501: bytes that port p has carried in the window in progress. -/
def BYTES : Fld := ⟨1388, 31, 0, 32, 0, 1, 0, 63, 0, .ro, 0, .num, false, false, .any⟩
/-- 18_performance_counters.md R502: lane-cycles of the window in progress: DISCARDED, USEFUL, INPUT_WAIT, OUTPUT_WAIT, NARROW. -/
def LANE : Fld := ⟨1389, 31, 0, 5, 0, 1, 0, 63, 0, .ro, 0, .num, false, false, .any⟩
/-- 18_performance_counters.md R499: TAG_N of the window in progress. -/
def TAG_N : Fld := ⟨1390, 31, 0, 1, 0, 1, 0, 4, 0, .ro, 0, .num, false, false, .any⟩
/-- 18_performance_counters.md R503: a write of a tagging field waits for the next window boundary. -/
def TAG_DUE : Fld := ⟨1391, 31, 0, 1, 0, 1, 0, 0, 0, .ro, 0, .num, false, false, .any⟩
/-- 18_performance_counters.md R503: the tagging register. -/
def LFSR : Fld := ⟨1392, 31, 0, 1, 0, 1, 0, 31, 0, .ro, 1, .num, false, false, .any⟩
/-- 18_performance_counters.md R501: the NET ports of the active image run at 100 Mb/s. -/
def NET_SLOW : Fld := ⟨1393, 31, 0, 1, 0, 1, 0, 0, 0, .ro, 0, .num, false, false, .any⟩
/-- 18_performance_counters.md R504: the sample buffer has been filled once. -/
def WRAPPED : Fld := ⟨1394, 31, 0, 1, 0, 1, 0, 0, 0, .ro, 0, .num, false, false, .any⟩
end I.PERF
namespace I.HIF
/-- 02_host_access.md R36: generation of the PCI Express link; 0 not trained. -/
def LINK_GEN : Fld := ⟨1395, 31, 0, 1, 0, 1, 0, 3, 0, .ro, 0, .num, false, false, .any⟩
/-- 02_host_access.md R36: lanes of the PCI Express link; 0 not trained. -/
def LINK_LANES : Fld := ⟨1396, 31, 0, 1, 0, 1, 0, 3, 0, .ro, 0, .num, false, false, .any⟩
/-- 05_modes_startup.md R141: the PCI Express endpoint is ready for configuration requests. -/
def READY : Fld := ⟨1397, 31, 0, 1, 0, 1, 0, 0, 0, .ro, 0, .num, false, false, .any⟩
/-- 02_host_access.md R41: the PCI Express link has gone down since it was last trained. -/
def LINK_DN : Fld := ⟨1398, 31, 0, 1, 0, 1, 0, 0, 0, .ro, 0, .num, false, false, .any⟩
end I.HIF
namespace I.NET
/-- 17_grid_network_time.md R461: servo inputs since the last step, at most 256. -/
def STEP_RUN : Fld := ⟨1399, 31, 0, 1, 0, 1, 0, 8, 0, .ro, 0, .num, false, false, .any⟩
/-- 17_grid_network_time.md R455: TSQ_OVF of the port. -/
def TSQ_OVF : Fld := ⟨1400, 31, 0, 2, 0, 1, 0, 0, 0, .ro, 0, .num, false, false, .any⟩
end I.NET
namespace I.FELT
/-- 06_felt_links.md R165: PEER of the next east-going marker of the ring, 24 bits. -/
def PEER_E : Fld := ⟨1401, 31, 0, 6, 0, 1, 0, 23, 0, .ro, 0x800000, .num, false, false, .any⟩
/-- 06_felt_links.md R165: PEER of the next west-going marker of the ring, 24 bits. -/
def PEER_W : Fld := ⟨1402, 31, 0, 6, 0, 1, 0, 23, 0, .ro, 0x800000, .num, false, false, .any⟩
end I.FELT
namespace I.LVD
/-- 11_lv_drive_port.md R312: ST_CONFLICT of the half-bridge keeps both channels off until one alone is requested. -/
def CONFL : Fld := ⟨1403, 31, 0, 8, 0, 1, 0, 0, 0, .ro, 0, .num, false, false, .any⟩
end I.LVD
/-- The fields of the window with the given directory index (R42). -/
def winFields (w : Nat) : List Fld :=
  match w with
  | 0 => R.HIF.all
  | 1 => R.SNAP.all
  | 2 => R.STAGE.all
  | 3 => R.TB.all
  | 4 => R.REAM.all
  | 5 => R.MODE.all
  | 6 => R.FELT.all
  | 7 => R.CELL.all
  | 8 => R.MOD.all
  | 9 => R.CAL.all
  | 10 => R.CE.all
  | 11 => R.LVD.all
  | 12 => R.AFE.all
  | 13 => R.FLT.all
  | 14 => R.SAFE.all
  | 15 => R.PART.all
  | 16 => R.THERM.all
  | 17 => R.NET.all
  | 18 => R.PERF.all
  | _ => []
end Sys2Proof.Machine
end

