-- ==== Sys2Proof/Machine/Operands.lean ====
section
/-! DEFINITION. Operand forms: bit fields, two's complement, little-endian words, byte strings held as one number, serial
comparison of frame numbers. -/
namespace Sys2Proof.Machine

/-- Bits hi down to lo of v. -/
def bitsOf (v hi lo : Nat) : Nat := (v >>> lo) % 2 ^ (hi + 1 - lo)

/-- Bit i of v as 0 or 1. -/
def bitOf (v i : Nat) : Nat := (v >>> i) % 2

/-- v with bit i set or cleared. -/
def setBit (v i : Nat) (b : Bool) : Nat := if bitOf v i = b.toNat then v else if b then v + 2 ^ i else v - 2 ^ i

/-- The w-bit two's complement reading of n. -/
def toInt (w n : Nat) : Int := if n < 2 ^ (w - 1) then n else (n : Int) - 2 ^ w

/-- i as a w-bit two's complement number, wrapping. -/
def ofInt (w : Nat) (i : Int) : Nat := (i % 2 ^ w).toNat

/-- i as a w-bit two's complement number, clamped to the ends of its range. -/
def satInt (w : Nat) (i : Int) : Nat := ofInt w (max (-(2 ^ (w - 1))) (min (2 ^ (w - 1) - 1) i))

/-- a + b, saturated at the w-bit maximum. -/
def satAdd (w a b : Nat) : Nat := min (a + b) (2 ^ w - 1)

/-- The bytes of a list, lowest address first, as one little-endian number. -/
def leNat : List Nat → Nat
  | [] => 0
  | b :: bs => b % 256 + 256 * leNat bs

/-- The n bytes of a number, lowest first. -/
def leBytes : Nat → Nat → List Nat
  | 0, _ => []
  | n + 1, v => v % 256 :: leBytes n (v / 256)

/-- The n bytes of a number, highest first. -/
def beBytes (n v : Nat) : List Nat := (leBytes n v).reverse

/-- The bytes of a list, highest first, as one number. -/
def beNat (l : List Nat) : Nat := leNat l.reverse

/-- `len` bytes at byte `off` of a byte string held as a little-endian number. -/
def bytesAt (data off len : Nat) : Nat := (data >>> (8 * off)) % 2 ^ (8 * len)

/-- The lowest set bit of v below the bound, or the bound. -/
def lowestBit (v : Nat) : Nat → Nat
  | 0 => 0
  | n + 1 => if v % 2 = 1 then 0 else 1 + lowestBit (v / 2) n

/-- Frames from a to b, both 32-bit frame numbers, modulo 2^32 (R84). -/
def framesAhead (a b : Nat) : Nat := (b + 2 ^ 32 - a % 2 ^ 32) % 2 ^ 32

/-- The number of set bits among the lowest n. -/
def popCount (v : Nat) : Nat → Nat
  | 0 => 0
  | n + 1 => v % 2 + popCount (v / 2) n

/-- Replace element i of a list. -/
def setAt {α : Type} : List α → Nat → α → List α
  | [], _, _ => []
  | _ :: t, 0, a => a :: t
  | h :: t, i + 1, a => h :: setAt t i a

/-- The directory index of a source in per-source registers (HIF_SOURCE.SRC). -/
def srcIx : Source → Nat
  | .pf0 => 0
  | .pf1 => 1
  | .cspi => 2

/-- A PCI Express function as a source. -/
def fnSrc : Fn → Source
  | .pf0 => .pf0
  | .pf1 => .pf1

/-- Slot A is 0 and slot B is 1. -/
def slotIx : Slot → Nat
  | .a => 0
  | .b => 1

end Sys2Proof.Machine
end

