-- ==== Sys2Proof/Machine/Float.lean ====
section
/-! DEFINITION. IEEE 754 binary arithmetic on bit patterns, each operation exact and rounded once to nearest, ties to even
(R245, R217, R265). A format with `ftz` flushes subnormal operands and results to zero (R265). -/
namespace Sys2Proof.Machine

/-- A binary interchange format: significand bits with the hidden one, exponent bits, flush to zero. -/
structure Fmt where
  p   : Nat
  w   : Nat
  ftz : Bool
  deriving DecidableEq, Repr

/-- binary32 and binary64, and the two as the control engine uses them. -/
def b32 : Fmt := ⟨24, 8, false⟩
def b64 : Fmt := ⟨53, 11, false⟩
def c32 : Fmt := ⟨24, 8, true⟩
def c64 : Fmt := ⟨53, 11, true⟩

/-- A datum: not a number, an infinity, or (−1)^neg · m · 2^q. -/
inductive Datum
  | nan
  | inf (neg : Bool)
  | fin (neg : Bool) (m : Nat) (q : Int)
  deriving DecidableEq, Repr

def Fmt.bias (F : Fmt) : Nat := 2 ^ (F.w - 1) - 1
def Fmt.infBits (F : Fmt) : Nat := (2 ^ F.w - 1) * 2 ^ (F.p - 1)
def Fmt.signBit (F : Fmt) : Nat := 2 ^ (F.w + F.p - 1)
def Fmt.nanBits (F : Fmt) : Nat := F.infBits + 2 ^ (F.p - 2)
/-- The exponent of the least significant bit of a subnormal. -/
def Fmt.qmin (F : Fmt) : Int := 2 - (F.bias : Int) - F.p

/-- The magnitude bits with a sign. -/
def Fmt.withSign (F : Fmt) (neg : Bool) (v : Nat) : Nat := if neg then v + F.signBit else v

/-- The datum of a bit pattern. -/
def Fmt.decode (F : Fmt) (b : Nat) : Datum :=
  let neg : Bool := (b / F.signBit) % 2 = 1
  let e := (b / 2 ^ (F.p - 1)) % 2 ^ F.w
  let m := b % 2 ^ (F.p - 1)
  if e = 2 ^ F.w - 1 then (if m = 0 then .inf neg else .nan)
  else if e = 0 then .fin neg (if F.ftz then 0 else m) F.qmin
  else .fin neg (m + 2 ^ (F.p - 1)) (F.qmin + (e - 1 : Nat))

/-- n / d rounded to nearest, ties to even. -/
def roundEven (n d : Nat) : Nat :=
  let k := n / d
  let r := 2 * (n % d)
  if r < d then k else if d < r then k + 1 else k + k % 2

/-- The position of the leading one of n / d: the e with 2^e ≤ n / d < 2^(e+1), for n and d not zero. -/
def leadExp (n d : Nat) : Int :=
  let e : Int := (Nat.log2 n : Int) - Nat.log2 d
  let le : Bool := if 0 ≤ e then d * 2 ^ e.toNat ≤ n else d ≤ n * 2 ^ (-e).toNat
  if le then e else e - 1

/-- (−1)^neg · (n / d) · 2^q rounded to the format. -/
def Fmt.round (F : Fmt) (neg : Bool) (n d : Nat) (q : Int) : Nat :=
  if n = 0 ∨ d = 0 then F.withSign neg 0
  else
    let e := leadExp n d + q
    let ulp : Int := max (e + 1 - F.p) F.qmin
    let sh : Int := q - ulp
    let m := if 0 ≤ sh then roundEven (n * 2 ^ sh.toNat) d else roundEven n (d * 2 ^ (-sh).toNat)
    let v := (ulp - F.qmin).toNat * 2 ^ (F.p - 1) + m
    if F.infBits ≤ v then F.withSign neg F.infBits
    else if F.ftz && v < 2 ^ (F.p - 1) then F.withSign neg 0
    else F.withSign neg v

/-- A signed integer times 2^q, rounded; zero is +0. -/
def Fmt.ofIntQ (F : Fmt) (i : Int) (q : Int) : Nat := F.round (i < 0) i.natAbs 1 q
def Fmt.ofInt (F : Fmt) (i : Int) : Nat := F.ofIntQ i 0
/-- i / d, rounded. -/
def Fmt.ofRatio (F : Fmt) (i : Int) (d : Nat) : Nat := F.round (i < 0) i.natAbs d 0
def Fmt.one (F : Fmt) : Nat := F.bias * 2 ^ (F.p - 1)

/-- The signed significand of a finite datum. -/
def signed (neg : Bool) (m : Nat) : Int := if neg then -(m : Int) else m

def Fmt.neg (F : Fmt) (a : Nat) : Nat := if (a / F.signBit) % 2 = 1 then a - F.signBit else a + F.signBit
def Fmt.abs (F : Fmt) (a : Nat) : Nat := a % F.signBit
def Fmt.finite (F : Fmt) (a : Nat) : Bool := (a / 2 ^ (F.p - 1)) % 2 ^ F.w != 2 ^ F.w - 1
def Fmt.isZero (F : Fmt) (a : Nat) : Bool := match F.decode a with | .fin _ 0 _ => true | _ => false

def Fmt.add (F : Fmt) (a b : Nat) : Nat :=
  match F.decode a, F.decode b with
  | .fin na ma qa, .fin nb mb qb =>
    if ma = 0 && mb = 0 then F.withSign (na && nb) 0
    else
      let q := min qa qb
      F.ofIntQ (signed na ma * 2 ^ (qa - q).toNat + signed nb mb * 2 ^ (qb - q).toNat) q
  | .inf na, .inf nb => if na = nb then F.withSign na F.infBits else F.nanBits
  | .inf na, .fin _ _ _ => F.withSign na F.infBits
  | .fin _ _ _, .inf nb => F.withSign nb F.infBits
  | _, _ => F.nanBits

def Fmt.sub (F : Fmt) (a b : Nat) : Nat := F.add a (F.neg b)

def Fmt.mul (F : Fmt) (a b : Nat) : Nat :=
  match F.decode a, F.decode b with
  | .fin na ma qa, .fin nb mb qb => F.round (na != nb) (ma * mb) 1 (qa + qb)
  | .inf na, .inf nb => F.withSign (na != nb) F.infBits
  | .inf na, .fin nb m _ => if m = 0 then F.nanBits else F.withSign (na != nb) F.infBits
  | .fin na m _, .inf nb => if m = 0 then F.nanBits else F.withSign (na != nb) F.infBits
  | _, _ => F.nanBits

def Fmt.div (F : Fmt) (a b : Nat) : Nat :=
  match F.decode a, F.decode b with
  | .fin na ma qa, .fin nb mb qb =>
    if mb = 0 then (if ma = 0 then F.nanBits else F.withSign (na != nb) F.infBits) else F.round (na != nb) ma mb (qa - qb)
  | .inf na, .fin nb _ _ => F.withSign (na != nb) F.infBits
  | .fin na _ _, .inf nb => F.withSign (na != nb) 0
  | _, _ => F.nanBits

/-- The integer square root by digits: the greatest r with r² ≤ n, for n < 4^k. -/
def isqrt : Nat → Nat → Nat
  | 0, _ => 0
  | k + 1, n =>
    let r := 2 * isqrt k (n / 4)
    if (r + 1) * (r + 1) ≤ n then r + 1 else r

/-- The square root, correctly rounded: two guard bits and a sticky bit decide. -/
def Fmt.sqrt (F : Fmt) (a : Nat) : Nat :=
  match F.decode a with
  | .fin neg m q =>
    if m = 0 then F.withSign neg 0
    else if neg then F.nanBits
    else
      let odd : Nat := (q % 2).toNat
      let n := m * 2 ^ (odd + 2 * (F.p + 2))
      let r := isqrt (2 * F.p + 4) n
      let s := 2 * r + (if r * r = n then 0 else 1)
      F.round false s 1 ((q - odd) / 2 - (F.p + 2 : Nat) - 1)
  | .inf false => F.infBits
  | _ => F.nanBits

/-- The exact order of two finite data; false when one is not a number. -/
def Fmt.lt (F : Fmt) (a b : Nat) : Bool :=
  match F.decode a, F.decode b with
  | .fin na ma qa, .fin nb mb qb =>
    let q := min qa qb
    signed na ma * 2 ^ (qa - q).toNat < signed nb mb * 2 ^ (qb - q).toNat
  | .inf na, .inf nb => na && !nb
  | .inf na, .fin _ _ _ => na
  | .fin _ _ _, .inf nb => !nb
  | _, _ => false

def Fmt.eq (F : Fmt) (a b : Nat) : Bool :=
  match F.decode a, F.decode b with
  | .nan, _ => false
  | _, .nan => false
  | _, _ => !F.lt a b && !F.lt b a

def Fmt.le (F : Fmt) (a b : Nat) : Bool := F.lt a b || F.eq a b
def Fmt.max (F : Fmt) (a b : Nat) : Nat := if F.lt a b then b else a
def Fmt.min (F : Fmt) (a b : Nat) : Nat := if F.lt b a then b else a

/-- x held between lo and hi. -/
def Fmt.clamp (F : Fmt) (x lo hi : Nat) : Nat := if F.lt x lo then lo else if F.lt hi x then hi else x

/-- From one format to another. -/
def Fmt.cvt (F G : Fmt) (a : Nat) : Nat :=
  match F.decode a with
  | .nan => G.nanBits
  | .inf neg => G.withSign neg G.infBits
  | .fin neg m q => G.round neg m 1 q

/-- A finite datum as numerator and denominator; 0 for any other. -/
def Fmt.ratio (F : Fmt) (a : Nat) : Int × Nat :=
  match F.decode a with
  | .fin neg m q => if 0 ≤ q then (signed neg (m * 2 ^ q.toNat), 1) else (signed neg m, 2 ^ (-q).toNat)
  | _ => (0, 1)

/-- i / d to the nearest integer, ties upwards. -/
def nearestUp (i : Int) (d : Nat) : Int := (2 * i + d) / (2 * d)

/-- i / d to the nearest integer, ties away from zero. -/
def nearestAway (i : Int) (d : Nat) : Int := if i < 0 then -nearestUp (-i) d else nearestUp i d

/-- A datum to the nearest integer, ties away from zero. -/
def Fmt.toIntAway (F : Fmt) (a : Nat) : Int := let r := F.ratio a; nearestAway r.1 r.2

/-- The sum of a list, from the first term on. -/
def Fmt.sum (F : Fmt) (l : List Nat) : Nat := l.foldl F.add 0

end Sys2Proof.Machine
end

