-- ==== Sys2Proof/Machine/Carrier.lean ====
section
/-! DEFINITION. The triangular carrier and the edges of a leg against it, shared by the cells (R223 to R227) and the LV pulse
generator (R308). A level x is a ratio of an integer and a positive number; for the LV port x = 2d − 1. A carrier of period C
(in 1/256 q) rises from −1 at phase 0 to +1 at C/2. States are 0 OFF, 1 P, 2 N. -/
namespace Sys2Proof.Machine

/-- An edge: offset in q and the state after it. -/
structure Edge where
  off : Nat
  st  : Nat
  deriving DecidableEq, Repr

/-- The state that the comparison gives at phase p: the state just after a crossing that falls there (R226). The rising crossing
is at C (x + 1) / 4 and the falling one at C (3 − x) / 4, here times 4d. -/
def carrierState (C p : Nat) (n : Int) (d : Nat) : Nat :=
  let up : Int := C * (n + d)
  let dn : Int := C * (3 * d - n)
  let q : Int := 4 * d * p
  if 2 * p < C then (if q < up then 1 else 2) else (if dn ≤ q then 1 else 2)

/-- The crossings after phase p in the order of time, rounded to the nearest q with ties upwards (R226): none for a level that
the carrier touches without passing. -/
def crossings (C p : Nat) (n : Int) (d : Nat) : List Edge :=
  if (d : Int) ≤ n ∨ n ≤ -d ∨ d = 0 then []
  else
    (List.range 10).flatMap (fun (k : Nat) =>
      let base : Int := 4 * d * ((C * k : Nat) : Int) - 4 * d * p
      let up := C * (n + d) + base
      let dn := C * (3 * d - n) + base
      let at_ (v : Int) (st : Nat) : List Edge := if 0 < v then [⟨(nearestUp v (1024 * d)).toNat, st⟩] else []
      at_ up 2 ++ at_ dn 1)

/-- The state at the boundary: a crossing that rounds to offset 0 has been passed (R226). -/
def startState (C p : Nat) (n : Int) (d : Nat) : Nat :=
  (((crossings C p n d).filter (fun e => e.off = 0)).getLast?.map (fun e => e.st)).getD (carrierState C p n d)

/-- The candidate edges of a frame of `len` q for a leg that the last command left in `prev` (R226). -/
def candidates (C p : Nat) (n : Int) (d len prev : Nat) : List Edge :=
  let s := startState C p n d
  (if s = prev then [] else [⟨0, s⟩]) ++ (crossings C p n d).filter (fun e => 0 < e.off && e.off < len)

/-- Rule 1 of R227, first part: an edge less than `minP` after the last edge of the previous command is delayed to it plus `minP`;
`gap` is the distance of that edge from the boundary, plus 1, or 0 for none. -/
def delayEdges (minP gap : Nat) (l : List Edge) : List Edge :=
  if gap = 0 then l else l.map (fun e => if e.off + (gap - 1) < minP then { e with off := minP - (gap - 1) } else e)

/-- The earliest pair of edges less than `minP` apart, removed. -/
def dropPair (minP : Nat) : List Edge → Option (List Edge)
  | a :: b :: l => if b.off < a.off + minP then some l else (dropPair minP (b :: l)).map (a :: ·)
  | _ => none

/-- Narrow pairs removed until none is left. -/
def dropPairs (minP : Nat) : Nat → List Edge → List Edge
  | 0, l => l
  | k + 1, l => match dropPair minP l with | some l' => dropPairs minP k l' | none => l

/-- The earliest two removed while more than `most` edges remain. -/
def dropMost (most : Nat) : Nat → List Edge → List Edge
  | 0, l => l
  | k + 1, l => if most < l.length then dropMost most k (l.drop 2) else l

/-- The edges of a leg after the rules of R227. -/
def legEdges (C p : Nat) (n : Int) (d len prev minP gap most : Nat) : List Edge :=
  let c := delayEdges minP gap (candidates C p n d len prev)
  dropMost most c.length (dropPairs minP c.length c)

/-- How many edges the rules removed. -/
def legTrimmed (C p : Nat) (n : Int) (d len prev minP gap most : Nat) : Nat :=
  (candidates C p n d len prev).length - (legEdges C p n d len prev minP gap most).length

/-- The state in which the edges leave the leg. -/
def endState (prev : Nat) (l : List Edge) : Nat := (l.getLast?.map (fun e => e.st)).getD prev

/-- The gap from the last edge to the end of a frame of `len` q, plus 1; 0 without an edge. -/
def endGap (len : Nat) (l : List Edge) : Nat := (l.getLast?.map (fun e => len - e.off + 1)).getD 0

end Sys2Proof.Machine
end

