-- ==== Sys2Proof/Config.lean ====
section
/-! DEFINITION. What an implementation fixes and the spec leaves open: free values, none of which has a body. -/
namespace Sys2Proof

/-- Whether the accumulator of R77 rounds the increment of a TB cycle up, for a TB_RATE whose increment is no whole number of
2^-32 ns; the spec states the width of the fraction and not the rounding. DESIGN CHOICE (notes/assumptions). -/
opaque Config.tbRoundUp : Int → Bool

/-- The cosine and the sine the control engine computes, as binary32 patterns of a binary32 pattern (R278, R279), and as binary64
patterns of a binary64 pattern (R272); the spec gives no accuracy for them. DESIGN CHOICE. -/
opaque Config.cos32 : Nat → Nat
opaque Config.sin32 : Nat → Nat
opaque Config.cos64 : Nat → Nat
opaque Config.sin64 : Nat → Nat

/-- The normalised q component of a PLL when the voltage it divides by is zero (R280): the spec states no result there. A free
binary32 value for each place in the stream of free values. DESIGN CHOICE. -/
opaque Config.pllOfZero : Nat → Nat

/-- The time the module measures from a demand to its outputs (R389), before its limit; the spec states no value. DESIGN CHOICE. -/
opaque Config.demandTime : Nat → Nat

/-- The exponential that the thermal networks use (R428, R432), as a binary32 pattern of a binary32 pattern; the spec gives no
accuracy for it. DESIGN CHOICE. -/
opaque Config.exp32 : Nat → Nat

/-- The factory calibration constants DIE_MODEL (R428): word k of die d at 8 d + k. The spec gives no values. DESIGN CHOICE. -/
opaque Config.dieModel : Nat → Nat

/-- A byte of a flash sector whose erase was abandoned (R441), for each place in the stream of free values and each address; the
spec says only that the sector is dirty. DESIGN CHOICE. -/
opaque Config.dirtyByte : Nat → Nat → Nat

/-- Where the field stands that a rule over several fields names as offending (R114, steps 10 to 12), for each place in the stream of
free values; the spec does not say which of the fields it is. DESIGN CHOICE. -/
opaque Config.ruleOffset : Nat → Nat

/-- Which entry of a journal block of several entries a JSEQ selects (R444), by JSEQ; the spec does not say. DESIGN CHOICE. -/
opaque Config.evjPick : Nat → Nat

/-- Whether the servo uses an IRIG-B frame whose IEEE 1344 time-quality bits have this value (R473): the spec says that they are
taken into account and not how. DESIGN CHOICE. -/
opaque Config.irigUse : Nat → Bool

/-- The time from a GOOSE message to the start of its reaction's actions (R487), before its limit; the spec states no value.
DESIGN CHOICE. -/
opaque Config.gooseTime : Nat → Nat

/-- What the performance counters show of the control engine's timing (R497, R502): for each place in the stream of free values, the
operations retired, the cycles waiting for inputs, the cycles of the span, and a lane class's share; and the bytes of a network
frame or of a Felt transfer whose length the spec does not give. DESIGN CHOICE. -/
opaque Config.ceOps : Nat → Nat
opaque Config.ceWaits : Nat → Nat
opaque Config.ceSpan : Nat → Nat
opaque Config.laneShare : Nat → Nat → Nat
opaque Config.wireBytes : Nat → Nat

/-- Whether MIRROR_BYTES rounds a fraction up (R421); the spec does not say. DESIGN CHOICE. -/
opaque Config.mirrorRoundUp : Nat → Bool

/-- The factory MAC address of the module (R453), held in its fuses; the spec gives no value. DESIGN CHOICE. -/
opaque Config.macOwn : Nat

/-- The DERATE_K of a reaction that a new primary takes over (R414), by the place in the stream of free values; a KIND 13 item does
not carry it. DESIGN CHOICE. -/
opaque Config.mirrorDerate : Nat → Nat

/-- KA cycles in a time of the timebase in ns (R143); the keep-alive oscillator is not derived from it. DESIGN CHOICE. -/
opaque Config.kaCycles : Nat → Nat

/-- The residence of a marker in a module that relays it, in q (R157), by the place in the stream of free values; the spec bounds it by
64 ns and does not fix it. DESIGN CHOICE. -/
opaque Config.relayResidence : Nat → Nat

end Sys2Proof
end

