-- ==== Sys2Proof/Machine/Crc.lean ====
section
/-! DEFINITION. The cyclic redundancy checks: the CRC-32 of IEEE 802.3 (R101), the CRC-16/CCITT-FALSE of the boundary marker
(R165) and CRC-32C. -/
namespace Sys2Proof.Machine

/-- One bit of a reflected CRC with the reflected polynomial. -/
def crcBit (poly c : Nat) : Nat := if c % 2 = 1 then (c / 2) ^^^ poly else c / 2

/-- One byte of a reflected CRC. -/
def crcByte (poly c b : Nat) : Nat :=
  crcBit poly (crcBit poly (crcBit poly (crcBit poly (crcBit poly (crcBit poly (crcBit poly (crcBit poly (c ^^^ (b % 256)))))))))

/-- CRC-32 of IEEE 802.3 over a byte list (R101): reflected, initial value and final XOR all ones. -/
def crc32 (bs : List Nat) : Nat := (bs.foldl (crcByte 0xEDB88320) 0xFFFFFFFF) ^^^ 0xFFFFFFFF

/-- CRC-32C (Castagnoli) over a byte list: reflected, initial value and final XOR all ones. -/
def crc32c (bs : List Nat) : Nat := (bs.foldl (crcByte 0x82F63B78) 0xFFFFFFFF) ^^^ 0xFFFFFFFF

/-- One bit of CRC-16/CCITT-FALSE. -/
def crc16Bit (c : Nat) : Nat := if 32768 ≤ c then ((2 * c) % 65536) ^^^ 0x1021 else 2 * c

/-- CRC-16/CCITT-FALSE over a byte list (R165): polynomial 0x1021, initial value 0xFFFF, no reflection, no final XOR. -/
def crc16 (bs : List Nat) : Nat :=
  bs.foldl (fun c b => crc16Bit (crc16Bit (crc16Bit (crc16Bit (crc16Bit (crc16Bit (crc16Bit (crc16Bit (c ^^^ (b % 256 * 256)))))))))) 0xFFFF

end Sys2Proof.Machine
end

