-- ==== Sys2Proof/Machine/Ops.lean ====
section
/-! DEFINITION. The named operations every meaning is written over: reading and writing one field of the register store, the
summary words, recording a rejection, and the order in which errors are reported. -/
namespace Sys2Proof.Machine

/-- Levels of the register trie: field numbers below 2048, indices below 65,536. -/
def storeDepth : Nat := 27

/-- The value the store lists for a key. -/
def Store.get : Nat → Store → Nat → Option Nat
  | 0, .leaf v, _ => some v
  | 0, _, _ => none
  | n + 1, .node l r, k => if k % 2 = 0 then Store.get n l (k / 2) else Store.get n r (k / 2)
  | _ + 1, _, _ => none

/-- The store with a key's value set. -/
def Store.set : Nat → Store → Nat → Nat → Store
  | 0, _, _, v => .leaf v
  | n + 1, .node l r, k, v => if k % 2 = 0 then .node (Store.set n l (k / 2) v) r else .node l (Store.set n r (k / 2) v)
  | n + 1, _, k, v => if k % 2 = 0 then .node (Store.set n .nil (k / 2) v) .nil else .node .nil (Store.set n .nil (k / 2) v)

/-- The number of elements a field has. -/
def Fld.count (f : Fld) : Nat := f.n1 * f.n2

/-- The width of a field in bits. -/
def Fld.width (f : Fld) : Nat := f.hi + 1 - f.lo

/-- The key of element i of a field. -/
def Fld.key (f : Fld) (i : Nat) : Nat := f.id * 65536 + i % 65536

/-- Element i of a field in a register store: the listed value, or the reset value. -/
def Store.field (r : Store) (f : Fld) (i : Nat) : Nat := (Store.get storeDepth r (f.key i)).getD f.reset

/-- The value of element i of a field. -/
def Dev.get (d : Dev) (f : Fld) (i : Nat := 0) : Nat := d.regs.field f i

/-- Set element i of a field, cut to the field's width. -/
def Dev.put (d : Dev) (f : Fld) (v : Nat) (i : Nat := 0) : Dev :=
  { d with regs := Store.set storeDepth d.regs (f.key i) (v % 2 ^ f.width) }

/-- The field as a truth value. -/
def Dev.is (d : Dev) (f : Fld) (i : Nat := 0) : Bool := d.get f i != 0

/-- The field read as two's complement. -/
def Dev.getInt (d : Dev) (f : Fld) (i : Nat := 0) : Int := toInt f.width (d.get f i)

/-- Set a field to a two's complement number, wrapping. -/
def Dev.putInt (d : Dev) (f : Fld) (v : Int) (i : Nat := 0) : Dev := d.put f (ofInt f.width v) i

/-- Set a one-bit field. -/
def Dev.flag (d : Dev) (f : Fld) (b : Bool) (i : Nat := 0) : Dev := d.put f b.toNat i

/-- Add to a field, saturating at its greatest value (counters saturate). -/
def Dev.bump (d : Dev) (f : Fld) (i : Nat := 0) (n : Nat := 1) : Dev := d.put f (satAdd f.width (d.get f i) n) i

/-- Add to a field, modulo its width. -/
def Dev.wrap (d : Dev) (f : Fld) (i : Nat := 0) (n : Nat := 1) : Dev := d.put f (d.get f i + n) i

/-- Set one bit of a bit-map field. -/
def Dev.setBitOf (d : Dev) (f : Fld) (bit : Nat) (b : Bool) (i : Nat := 0) : Dev := d.put f (setBit (d.get f i) bit b) i

/-- Every element of a field set to one value. -/
def Dev.fill (d : Dev) (f : Fld) (v : Nat) : Dev := (List.range f.count).foldl (fun d i => d.put f v i) d

/-- Apply a function for each number below n, in order. -/
def Dev.forN (d : Dev) (n : Nat) (g : Dev → Nat → Dev) : Dev := (List.range n).foldl g d

/-- Apply a function only when a condition holds. -/
def Dev.onlyIf (d : Dev) (c : Bool) (g : Dev → Dev) : Dev := if c then g d else d

/-- `n` events `ev` of block b at an instance: every counter that selects them counts, saturating (R497). -/
def Dev.perf (d : Dev) (b ev inst : Nat) (n : Nat := 1) : Dev :=
  if !d.is I.PERF.ANY then d
  else d.forN 8 (fun d i =>
    let k := 8 * b + i
    let sel := d.get I.PERF.SEL k
    if sel % 256 != ev || (sel / 256 != 15 && sel / 256 != inst) then d
    else (d.bump I.PERF.CNT k n).onlyIf (2 ^ 32 - 1 ≤ d.get I.PERF.CNT k + n) (fun d => d.put I.PERF.OVF 1 k))

/-- `n` bytes carried by port p of the bandwidth view (R501). -/
def Dev.carry (d : Dev) (p n : Nat) : Dev := if d.is I.PERF.ON then d.wrap I.PERF.BYTES p n else d

/-- `n` bytes sent on both ports of link ix, when it is a ring (R501). -/
def Dev.carryRing (d : Dev) (ix n : Nat) : Dev := if ix < 6 then (d.carry (4 * ix) n).carry (4 * ix + 2) n else d

/-- `n` bytes received at a port of link ix, when it is a ring. -/
def Dev.carryIn (d : Dev) (ix : Nat) (west : Bool) (n : Nat) : Dev := if ix < 6 then d.carry (4 * ix + (if west then 3 else 1)) n else d

/-- A message put on a wire. -/
def Dev.send (d : Dev) (o : Out) : Dev := { d with outbox := d.outbox ++ [o] }

/-- The twelve modes (R133). -/
inductive Mode
  | backup | boot | idle | test | mirror | precharge | sync | run | degraded | rideThrough | stopping | safe
  deriving DecidableEq, Repr

/-- The code of a mode (R133). -/
def Mode.code : Mode → Nat
  | .backup => 0 | .boot => 1 | .idle => 2 | .test => 3 | .mirror => 4 | .precharge => 5
  | .sync => 6 | .run => 7 | .degraded => 8 | .rideThrough => 9 | .stopping => 10 | .safe => 11

/-- The mode with a code; the four unused codes never occur. -/
def Mode.ofCode (n : Nat) : Mode :=
  match n with
  | 0 => .backup | 1 => .boot | 2 => .idle | 3 => .test | 4 => .mirror | 5 => .precharge
  | 6 => .sync | 7 => .run | 8 => .degraded | 9 => .rideThrough | 10 => .stopping | _ => .safe

/-- The mode in force. -/
def Dev.mode (d : Dev) : Mode := Mode.ofCode (d.get R.MODE.STATE)

/-- The mode is one of a list. -/
def Dev.inMode (d : Dev) (l : List Mode) : Bool := l.contains d.mode

/-! Error codes of R47. -/
def eRange (detail : Nat := 0xFF) : Err := ⟨1, detail⟩
def eZero : Err := ⟨2, 0⟩
def eMode (d : Dev) : Err := ⟨3, d.get R.MODE.STATE⟩
def eStruct (detail : Nat) : Err := ⟨4, detail⟩
def ePast (late : Nat) : Err := ⟨5, min late 255⟩
def eBusy (holder : Nat) : Err := ⟨6, holder⟩
def eLocked (detail : Nat) : Err := ⟨7, detail⟩
def ePriv (detail : Nat) : Err := ⟨8, detail⟩
def eAlign (detail : Nat) : Err := ⟨9, detail⟩
def eTxn (detail : Nat) : Err := ⟨10, detail⟩
def eAuth (detail : Nat) : Err := ⟨11, detail⟩
def eRole (d : Dev) : Err := ⟨12, d.get R.MODE.STATE⟩
def eTimeout (detail : Nat) : Err := ⟨13, detail⟩
def eFull (detail : Nat) : Err := ⟨14, detail⟩
def eInternal (detail : Nat) : Err := ⟨15, detail⟩

/-- The place of a code in the order of R46; a code the table does not list comes last. -/
def Err.rank (e : Err) : Nat :=
  match e.code with
  | 8 => 1 | 9 => 2 | 12 => 3 | 10 => 4 | 6 => 5 | 7 => 6 | 3 => 7 | 2 => 8 | 1 => 9 | 4 => 10 | 5 => 11 | 14 => 12 | _ => 13

/-- The error reported when one access breaks several rules (R46): the first in the order, the earliest found among equals. -/
def firstErr : List Err → Option Err
  | [] => none
  | e :: es =>
    match firstErr es with
    | none => some e
    | some e' => if e'.rank < e.rank then some e' else some e

/-- An error when a condition holds. -/
def errIf (c : Bool) (e : Err) : List Err := if c then [e] else []

/-- Set a bit of HIF_SUMMARY in the copy of one source (R48). -/
def Dev.sumOne (d : Dev) (f : Fld) (src : Source) : Dev := d.put f 1 (srcIx src)

/-- Set a bit of HIF_SUMMARY in every copy (R48). -/
def Dev.sumAll (d : Dev) (f : Fld) : Dev := ((d.put f 1 0).put f 1 1).put f 1 2

/-- Record a rejection in HIF_LAST_ERR and HIF_LAST_ERR_ADDR of a source and set LAST_ERR in its summary copy (R47, R48, R497). -/
def Dev.reject (d : Dev) (src : Source) (e : Err) (off : Nat) (implicit : Bool := false) : Dev :=
  let i := srcIx src
  (((((((d.put R.HIF.ERR_VALID 1 i).bump R.HIF.ERR_COUNT i).put R.HIF.ERR_CODE e.code i).put R.HIF.ERR_DETAIL e.detail i).put
    R.HIF.ERR_OFFSET off i).flag R.HIF.ERR_IMPLICIT implicit i).sumOne R.HIF.SUM_LAST_ERR src).perf 9 4 i

/-- The answer to a read: data words, or a Completer Abort (R38, R39). -/
def Dev.respond (d : Dev) (src : Source) (data : List Nat) (abort : Bool := false) : Dev := { d with answer := ⟨src, abort, data⟩ }

/-- A fresh place in the stream of free values. -/
def Dev.draw (d : Dev) : Dev := { d with draws := d.draws + 1 }

/-- A meaning that changes only the module's registers and records. -/
def State.onDev (s : State) (g : Dev → Dev) : Host.Outcome State Fault Refusal := .next { s with dev := g s.dev }

/-- Measured quantity k of cell c in its raw unit, from the cell's last valid measurement (R16, R216): VCAP, IAC, IDAB, VDAB, T_HS,
T_AUX. -/
def Dev.measured (d : Dev) (c k : Nat) : Nat := d.get I.CELL.LAST_M (6 * c + k)
/-- The same as a signed number. -/
def Dev.measuredInt (d : Dev) (c k : Nat) : Int := toInt 16 (d.measured c k)

/-! Ring states (R181) and Gen1 states. -/
def ringDown : Nat := 0
def ringTrain : Nat := 1
def ringDiscover : Nat := 2
def ringCal : Nat := 3
def ringReady : Nat := 4
def ringSingle : Nat := 5
def ringRelay : Nat := 6
def lfTrain : Nat := 1
def lfCal : Nat := 2
def lfUp : Nat := 3

/-- The link originates markers and management blocks (R181). -/
def Dev.linkOwned (d : Dev) (ix : Nat) : Bool :=
  if ix < 6 then d.get R.FELT.RING_STATE ix != ringDown && d.get R.FELT.RING_STATE ix != ringRelay else d.get R.FELT.LF_STATE (ix - 6) != 0

/-- Some link originates traffic. -/
def Dev.ownsLink (d : Dev) : Bool := (List.range 22).any d.linkOwned

end Sys2Proof.Machine
end

