-- ==== Sys2Proof/Machine/Faults.lean ====
section
/-! DEFINITION. The fault collector (13_faults_reactions.md): fence units, the history ring, raising an instance and its
reaction, quiet periods, recovery and its counters, SIG_OK, and the commands of the FLT window. -/
namespace Sys2Proof.Machine

/-- SIG_OK states (R374). -/
def sigOff : Nat := 0
def sigPulse : Nat := 1
def sigHold : Nat := 2
def sigAlive : Nat := 3
def sigStopped : Nat := 4

/-- The short group of a half-bridge, from HB_CFG (R325). -/
def Dev.shortGrp (d : Dev) (k : Nat) : Nat := bitsOf (d.get R.LVD.HB_CFG k) 5 4

/-- HBk is used: its ROLE is not 0 (R301). -/
def Dev.hbUsed (d : Dev) (k : Nat) : Bool := bitsOf (d.get R.LVD.HB_CFG k) 1 0 != 0

/-- The port an instance of the network-and-time class is marked with (R493). -/
def netPort (inst : Nat) : Option Nat :=
  if inst < 6 then some (inst % 2) else if inst = 14 then some 0 else if inst = 15 then some 1 else none

/-- The fence units of an instance (R360). -/
def Dev.fenceUnits (d : Dev) (cls inst detail : Nat) : List Nat :=
  match cls with
  | 4 => if inst < 96 then [144 + inst / 16] else if inst < 160 then [150 + (inst - 96) / 4] else []
  | 5 => if inst < 144 then [inst] else if inst < 151 then [detail % 256] else []
  | 6 => if (16 ≤ inst ∧ inst ≤ 18) ∨ (40 ≤ inst ∧ inst ≤ 45) then [detail % 256] else []
  | 8 =>
    if inst < 128 then [166 + d.shortGrp (inst / 16)]
    else if inst < 132 then [166 + (inst - 128)]
    else if 136 ≤ inst ∧ inst < 160 then
      (List.range 4).filterMap (fun g =>
        if (List.range 8).any (fun k => bitOf (d.get R.LVD.TRIP_MAP (inst - 136)) k = 1 && d.shortGrp k = g) then some (166 + g) else none)
    else []
  | 13 => match netPort inst with | some p => [170 + p] | none => []
  | _ => []

/-- The instance has a fence unit under R360, so that its entry may hold FENCE (R378). -/
def fenceable (cls inst : Nat) : Bool :=
  match cls with
  | 4 => inst < 160
  | 5 => inst < 151
  | 6 => (16 ≤ inst && inst ≤ 18) || (40 ≤ inst && inst ≤ 45)
  | 8 => inst < 132 || (136 ≤ inst && inst < 160)
  | 13 => (netPort inst).isSome
  | _ => false

/-- The list of active instances replaced. -/
def Dev.setActive (d : Dev) (l : List Active) : Dev := { d with active := l }

/-- One active instance changed. -/
def Dev.mapActive (d : Dev) (cls inst : Nat) (g : Active → Active) : Dev :=
  d.setActive (d.active.map (fun a => if a.cls = cls ∧ a.inst = inst then g a else a))

/-- Some active instance has a reaction of at least this code. -/
def Dev.reactAtLeast (d : Dev) (code : Nat) : Bool := d.active.any (fun a => code ≤ a.react)

/-- A fence is in force on unit u. -/
def Dev.fenced (d : Dev) (u : Nat) : Bool := d.active.any (fun a => a.react = 3 && a.units.contains u)

/-- A fence is in force anywhere. -/
def Dev.anyFence (d : Dev) : Bool := d.active.any (fun a => a.react = 3)

/-- The greatest of a list of numbers. -/
def maxOf (l : List Nat) : Nat := l.foldl max 0

/-- The register bits that follow from the list of active instances: CLASS_ACTIVE, REACT_MAX, WARN_ACTIVE, DERATE_NOW, and
HELD and REACT of every unit. -/
def Dev.fltStatus (d : Dev) : Dev :=
  let cls := (List.range 16).foldl (fun v c => if d.active.any (fun a => a.cls = c) then v + 2 ^ c else v) 0
  let ders := (d.active.filter (fun a => a.react = 4)).map (fun a => a.derate)
  let d1 := (((d.put R.FLT.CLASS_ACTIVE cls).put R.FLT.REACT_MAX (maxOf (d.active.map (fun a => a.react)))).flag R.FLT.WARN_ACTIVE
    (d.reactAtLeast 2)).put R.FLT.DERATE_NOW (match ders with | [] => 0 | x :: xs => xs.foldl min x)
  let locked := (List.range 173).filter (fun u => d.is R.FLT.UNIT_LOCKED u)
  let d2 := (d1.put R.FLT.LOCKED_CNT locked.length).flag R.FLT.LOCKED_ANY (!locked.isEmpty)
  d2.forN 173 (fun d u =>
    let m := maxOf ((d.active.filter (fun a => a.units.contains u)).map (fun a => a.react))
    if m = d.get R.FLT.UNIT_REACT u then d else (d.put R.FLT.UNIT_REACT m u).flag R.FLT.UNIT_HELD (3 ≤ m) u)

/-- The 16 bytes of a record as four words (R368). -/
def Entry.words (e : Entry) : List Nat :=
  [e.ns32, e.frame, e.cls + 256 * e.inst + 65536 * e.detail, e.react + 256 * e.flags + 65536 * e.seq]

/-- Write the four words of a record at word 4i of a field. -/
def Dev.putEntry (d : Dev) (f : Fld) (i : Nat) (e : Entry) : Dev :=
  e.words.zipIdx.foldl (fun d p => d.put f p.1 (4 * i + p.2)) d

/-- The entry after seq: 1 to 65,535 and then 1 again (R368). -/
def nextSeq (seq : Nat) : Nat := if seq ≥ 65535 then 1 else seq + 1

/-- Entries from a to b in sequence order (R369). -/
def seqAhead (a b : Nat) : Nat := if a ≤ b then b - a else b + 65535 - a

/-- Unacknowledged entries: HEAD_SEQ after ACK_SEQ. -/
def Dev.unacked (d : Dev) : Nat := seqAhead (d.get R.FLT.ACK_SEQ) (d.get R.FLT.HEAD_SEQ)

/-- Set an instance's bit in STICKY or ACTIVE (R372). -/
def Dev.instBit (d : Dev) (f : Fld) (cls inst : Nat) (b : Bool) : Dev := d.setBitOf f (inst % 32) b (cls * 8 + inst / 32 % 8)

/-- Queue a history entry for the event journal: at most 256, the oldest dropped and counted (R440). -/
def Dev.queueEvent (d : Dev) (e : Entry) : Dev :=
  let q := d.nvm.evq
  let put (l : List Entry) : Dev := { d with nvm := { d.nvm with evq := l } }
  if q.length < 256 then (put (q ++ [e])).put R.THERM.EVJ_BACKLOG (q.length + 1) else ((put (q.tail ++ [e])).bump R.THERM.EVJ_DROP).put I.THERM.DROP_PEND 1

/-- Write a history entry under the next SEQ (R368, R369); the flag says that it overwrote an entry not yet acknowledged. -/
def Dev.writeEntry (d : Dev) (e : Entry) : Dev × Nat × Bool :=
  let seq := nextSeq (d.get R.FLT.HEAD_SEQ)
  let lost : Bool := 32 ≤ d.unacked
  let e := { e with seq := seq }
  let d1 := ((d.putEntry R.FLT.HISTORY (seq % 32) e).put R.FLT.HEAD_SEQ seq).sumAll R.HIF.SUM_FAULT
  let d2 := if lost then (d1.put R.FLT.ACK_SEQ (nextSeq (d.get R.FLT.ACK_SEQ))).bump R.FLT.HIST_LOST else d1
  ((d2.perf 6 2 e.cls).queueEvent e, seq, lost)

/-- The reaction code and DERATE_K an instance takes at this instant: LOG for all until a Ream has been activated (R356). -/
def Dev.entryOf (d : Dev) (cls inst : Nat) : Nat × Nat :=
  if d.is I.FLT.TABLE_ON then (d.get R.FLT.RT_CODE (cls * 256 + inst), d.get R.FLT.RT_DERATE_K (cls * 256 + inst)) else (1, 0)

/-- SIG_OK stops: a reaction at BLOCK or above was raised (R374). -/
def Dev.sigStop (d : Dev) : Dev :=
  let st := d.get R.FLT.SIGOK_STATE
  if st = sigPulse ∨ st = sigHold ∨ st = sigAlive then
    ((d.put R.FLT.SIGOK_STATE sigStopped).put R.FLT.SIGOK_PIN 0).put R.FLT.ALIVE 0
  else d

/-- SIG_OK starts its low pulse (R374). -/
def Dev.sigPulseStart (d : Dev) : Dev :=
  (d.put R.FLT.SIGOK_STATE sigPulse).put R.FLT.SIGOK_PIN 0

/-- SIG_OK is off: reset, watchdog or BACKUP (R374). -/
def Dev.sigOffNow (d : Dev) : Dev :=
  (((d.put R.FLT.SIGOK_STATE sigOff).put R.FLT.SIGOK_PIN 0).put R.FLT.ALIVE 0).put R.FLT.LEVEL 0

/-- A trip ordered set is sent, twice, on every ring and Gen1 link the module owns, under a new TRIP_ID, and the trip stays in
force (R170, R357); a standby owns none. SRC is 0 the module's own logic, 1 Yarrow, 2 Sorrel, 3 power fail (R167). -/
def Dev.tripIssue (d : Dev) (t src : Nat) : Dev :=
  if d.mode = .mirror then d
  else
    let id := (d.get I.FELT.TRIP_ID + 1) % 256
    ((((((d.put I.FELT.TRIP_ID id).put I.FELT.TRIP_SRC src).put I.FELT.TRIP_NS t).put I.FLT.TRIP_ON 1).onlyIf d.ownsLink
      (fun d => d.send (.trip id src (t % 2 ^ 32))))).forN 22
      (fun d ix => if d.linkOwned ix then (d.perf 0 8 ix (if ix < 6 then 4 else 2)).carryRing ix 8 else d)

/-- The demands and outputs of a reaction code at its raising (R357, R374, R416). -/
def Dev.reactNow (d : Dev) (t code : Nat) : Dev :=
  let standby : Bool := d.mode = .mirror
  let d1 := d.onlyIf (5 ≤ code && !standby) (fun d => d.put I.MODE.DUE_STOP 1)
  let d2 := d1.onlyIf (6 ≤ code) Dev.sigStop
  d2.onlyIf (7 ≤ code) (fun d => if standby then d else (d.put I.MODE.DUE_SAFE 1).tripIssue t 0)

/-- The class and then the instance of a record, from its third word (R368, R373). -/
def recordKey (w : Nat) : Nat := w % 256 * 256 + w / 256 % 256

/-- The first-fault register holds a raising of the same TB cycle that comes after this one in the order of R373. -/
def Dev.firstAfter (d : Dev) (e : Entry) : Bool :=
  d.get R.FLT.FIRST_FAULT 0 = e.ns32 && recordKey (e.cls + 256 * e.inst) < recordKey (d.get R.FLT.FIRST_FAULT 2)

/-- The first-fault register takes a raising of at least FIRST_MIN while it is free; of several raisings in one TB cycle it takes the
first in the order of R373 (R371). -/
def Dev.firstFault (d : Dev) (e : Entry) : Dev :=
  if d.get R.FLT.FIRST_MIN ≤ e.react ∧ (d.get R.FLT.FF_VALID = 0 ∨ d.firstAfter e = true) then
    ((d.putEntry R.FLT.FIRST_FAULT 0 e).put R.FLT.FF_VALID 1).sumAll R.HIF.SUM_FIRST_FAULT
  else d

/-- The units of an instance in force: its fence units under FENCE, the module unit otherwise (R360). -/
def Dev.unitsFor (d : Dev) (cls inst detail code : Nat) : List Nat := if code = 3 then d.fenceUnits cls inst detail else [172]

/-- Raise an instance without writing an entry: the raising of module-internal instance 0, which never overwrites (R369). -/
def Dev.raiseSilent (d : Dev) (t cls inst detail : Nat) : Dev :=
  let code := (d.entryOf cls inst).1
  let d1 := d.instBit R.FLT.STICKY cls inst true
  if d.active.any (fun a => a.cls = cls && a.inst = inst) then
    ((d1.mapActive cls inst (fun a => { a with present := true, quiet := none, elapsed := false })).bump R.FLT.REPEAT_CNT cls).perf 6 4 cls
  else if code = 0 then d1
  else
    let a : Active := ⟨cls, inst, detail, code, (d.entryOf cls inst).2, d.unitsFor cls inst detail code, 0, true, false, none, false, false, false⟩
    ((d1.setActive (d1.active ++ [a])).instBit R.FLT.ACTIVE cls inst true).reactNow t code

/-- Write an entry and, when it overwrote an unacknowledged one, raise module-internal instance 0 (R369). -/
def Dev.logEntry (d : Dev) (t : Nat) (e : Entry) : Dev × Nat :=
  let (d1, seq, lost) := d.writeEntry e
  (if lost then d1.raiseSilent t 15 0 (d1.get R.FLT.HIST_LOST) else d1, seq)

/-- The record of a raising at TB ns t; FLAGS shows STANDBY in MIRROR (R368). -/
def Dev.record (d : Dev) (t cls inst detail code flags : Nat) : Entry :=
  ⟨t % 2 ^ 32, d.get R.TB.FRAME_NO_LIVE, cls, inst, detail % 65536, code, flags + (if d.mode = .mirror then 32 else 0), 0⟩

/-- Entry s2 and the entry s1 before it change places, and with them what refers to them by SEQ. -/
def Dev.swapEntries (d : Dev) (s1 s2 : Nat) : Dev :=
  let other (s : Nat) : Nat := if s = s1 then s2 else if s = s2 then s1 else s
  let word (s k : Nat) : Nat := d.get R.FLT.HISTORY (4 * (s % 32) + k)
  let d1 := [(s1, s2), (s2, s1)].foldl (fun d p =>
    (d.forN 3 (fun d k => d.put R.FLT.HISTORY (word p.2 k) (4 * (p.1 % 32) + k))).put R.FLT.HISTORY
      (word p.2 3 % 65536 + 65536 * p.1) (4 * (p.1 % 32) + 3)) d
  let d2 := d1.setActive (d1.active.map (fun a => { a with seq := other a.seq }))
  let q := d2.nvm.evq
  let q := q.map (fun e => ((q.find? (fun x => x.seq = other e.seq)).map (fun x => { x with seq := e.seq })).getD e)
  let ff := d2.get R.FLT.FIRST_FAULT 3
  ({ d2 with nvm := { d2.nvm with evq := q } }).onlyIf (d2.get R.FLT.FIRST_FAULT 0 = word s2 0) (fun d =>
    d.put R.FLT.FIRST_FAULT (ff % 65536 + 65536 * other (ff / 65536)) 3)

/-- The raising entry `seq` moves before the raising entries of the same TB cycle that come after it in the order of R373. -/
def Dev.orderEntry (d : Dev) (seq : Nat) : Nat → Dev
  | 0 => d
  | fuel + 1 =>
    let prev := if seq ≤ 1 then 65535 else seq - 1
    let word (s k : Nat) : Nat := d.get R.FLT.HISTORY (4 * (s % 32) + k)
    let raising : Bool := word prev 3 / 512 % 4 = 0 && seqAhead prev (d.get R.FLT.HEAD_SEQ) < d.unacked
    if raising && word prev 0 = word seq 0 && recordKey (word seq 2) < recordKey (word prev 2) then
      (d.swapEntries prev seq).orderEntry prev fuel
    else d

/-- A raising of an instance that is not active: the entry, the active bit, the first-fault register, the reaction. -/
def Dev.raiseNew (d : Dev) (t cls inst detail : Nat) (held : Bool) : Dev :=
  let code := (d.entryOf cls inst).1
  let e := d.record t cls inst detail code 0
  let (d2, seq) := d.logEntry t e
  let a : Active := ⟨cls, inst, detail, code, (d.entryOf cls inst).2, d.unitsFor cls inst detail code, seq, true, held, none, false, false, false⟩
  let d3 := (((d2.setActive (d2.active ++ [a])).instBit R.FLT.ACTIVE cls inst true).bump R.FLT.RAISE_CNT cls).perf 6 1 cls
  (((d3.firstFault { e with seq := seq }).orderEntry seq 32).reactNow t code).fltStatus

/-- A raising of an active instance: counted, or an escalation when the entry's code is higher (R363). -/
def Dev.raiseAgain (d : Dev) (t cls inst detail : Nat) (held : Bool) (react : Nat) : Dev :=
  let code := (d.entryOf cls inst).1
  let d1 := d.mapActive cls inst (fun a => { a with present := true, held := held, quiet := none, elapsed := false })
  if react < code then
    let e := d.record t cls inst detail code 16
    let (d1, seq) := d1.logEntry t e
    let d2 := d1.mapActive cls inst
      (fun a => { a with seq := seq, react := code, derate := (d.entryOf cls inst).2, units := d.unitsFor cls inst detail code })
    (((((d2.bump R.FLT.RAISE_CNT cls).perf 6 1 cls).firstFault { e with seq := seq }).orderEntry seq 32).reactNow t code).fltStatus
  else (d1.bump R.FLT.REPEAT_CNT cls).perf 6 4 cls

/-- Raise an instance at TB ns t (R353, R356, R357, R363, R371, R372). `held` says that its condition is a state that lasts,
so that the instance stays present until `Dev.lower`. -/
def Dev.raiseBase (d : Dev) (t cls inst detail : Nat) (held : Bool) : Dev :=
  let d1 := d.instBit R.FLT.STICKY cls inst true
  match d.active.find? (fun a => a.cls = cls && a.inst = inst) with
  | some a => d1.raiseAgain t cls inst detail held a.react
  | none => if (d.entryOf cls inst).1 = 0 then d1 else d1.raiseNew t cls inst detail held

/-- A dropped journal entry raises instance 21 of the Ream class (R440, R445). -/
def Dev.dropCheck (d : Dev) (t : Nat) : Dev :=
  if d.is I.THERM.DROP_PEND then ((d.put I.THERM.DROP_PEND 0).raiseBase t 2 21 (d.get R.THERM.EVJ_DROP) false).put I.THERM.DROP_PEND 0 else d

/-- Raise an instance at TB ns t, with what a dropped journal entry adds (R353, R440). -/
def Dev.raise (d : Dev) (t cls inst detail : Nat) (held : Bool := false) : Dev := (d.raiseBase t cls inst detail held).dropCheck t

/-- The condition of an instance is a state that holds: the first report of it is the raising, and it stays present until the state
ends (R353). -/
def Dev.raiseState (d : Dev) (t cls inst detail : Nat) : Dev :=
  if d.active.any (fun a => a.cls = cls && a.inst = inst && a.held) then d else d.raise t cls inst detail true

/-- A lasting condition has ended: the instance is no longer held present (R353). -/
def Dev.lower (d : Dev) (cls inst : Nat) : Dev := d.mapActive cls inst (fun a => { a with held := false })

/-- The quiet period of a class in ns; 0 means one frame (R364). -/
def Dev.quietNs (d : Dev) (cls : Nat) : Nat := d.get R.FLT.QUIET_T cls * 1000000

/-- The quiet periods of some instances start at the boundary at TB ns t, and their entries take TRANSIENT where they are not
acknowledged (R364, R370). -/
def Dev.quietFrom (d : Dev) (t : Nat) (starts : Active → Bool) : Dev :=
  let d1 := (d.active.filter starts).foldl (fun d a =>
    if a.seq ≠ 0 ∧ seqAhead a.seq (d.get R.FLT.HEAD_SEQ) < d.unacked then
      let w := d.get R.FLT.HISTORY (4 * (a.seq % 32) + 3)
      d.put R.FLT.HISTORY (setBit w 8 true) (4 * (a.seq % 32) + 3)
    else d) d
  d1.setActive (d1.active.map (fun a => if starts a then { a with quiet := some t } else a))

/-- At the boundary at TB ns t, the quiet period of every instance starts whose condition does not go on into the next frame; a
raising in a later frame restarts it (R364). -/
def Dev.startQuiet (d : Dev) (t : Nat) : Dev :=
  let d1 := d.quietFrom t (fun a => !a.held && a.quiet.isNone)
  d1.setActive (d1.active.map (fun a => { a with present := false }))

/-- The conditions that the boundary itself has ended were last present in the frame that ended there. -/
def Dev.endQuiet (d : Dev) (t : Nat) : Dev := d.quietFrom t (fun a => !a.present && !a.held && a.quiet.isNone)

/-- The quiet period of an active instance has elapsed at TB ns t: QUIET_T, or one frame when it is 0 (R364). -/
def Dev.quietOver (d : Dev) (t : Nat) (a : Active) : Bool :=
  match a.quiet with
  | none => false
  | some q => a.elapsed || (if d.get R.FLT.QUIET_T a.cls = 0 then q < t else q + d.quietNs a.cls ≤ t)

/-- 24 h of TB time in ns (R365). -/
def windowNs : Nat := 86400 * 1000000000

/-- The window of a unit has run out or none is open: open one and set RECOV_CNT to 0 (R365). -/
def Dev.openWindow (d : Dev) (t u : Nat) : Dev :=
  let w := d.get I.FLT.WIN_NS u
  if w = 0 ∨ w - 1 + windowNs ≤ t then ((d.put I.FLT.WIN_NS (t + 1) u).put R.FLT.UNIT_RECOV_CNT 0 u).put R.FLT.UNIT_WIN_LEFT 24 u else d

/-- Release an instance: its active bit, and, for FENCE or higher, an entry with RECOVERY (R364, R366, R370). -/
def Dev.release (d : Dev) (t : Nat) (a : Active) (hostClr : Bool) : Dev :=
  let d1 := (d.setActive (d.active.filter (fun b => !(b.cls = a.cls && b.inst = a.inst)))).instBit R.FLT.ACTIVE a.cls a.inst false
  let d1 := d1.perf 6 3 a.cls
  if 3 ≤ a.react then (d1.logEntry t (d.record t a.cls a.inst a.detail a.react (if hostClr then 11 else 3))).1 else d1

/-- One more recovery counted in each unit. -/
def Dev.countRecov (d : Dev) (us : List Nat) : Dev := us.foldl (fun d u => d.bump R.FLT.UNIT_RECOV_CNT u) d

/-- An automatic recovery refused: the units at MAX_RECOV are LOCKED, an entry with LOCKOUT is written and module-internal
instance 1 is raised with the lowest of them (R365). -/
def Dev.lockOut (d : Dev) (t : Nat) (a : Active) (full : List Nat) : Dev :=
  let d1 := (full.foldl (fun d u => d.put R.FLT.UNIT_LOCKED 1 u) d).mapActive a.cls a.inst (fun a => { a with refused := true })
  (d1.logEntry t (d.record t a.cls a.inst a.detail a.react 4)).1.raise t 15 1 ((full ++ a.units).headD 0)

/-- The automatic recovery of an instance whose quiet period is over (R364, R365). A refused recovery is not retried while a
unit of the instance is LOCKED. -/
def Dev.recoverAuto (d : Dev) (t : Nat) (a : Active) : Dev :=
  if a.react < 3 then d.release t a false
  else if a.units.any (fun u => d.is R.FLT.UNIT_LOCKED u) then
    if a.refused then d else d.lockOut t a (a.units.filter (fun u => d.get R.FLT.MAX_RECOV ≤ d.get R.FLT.UNIT_RECOV_CNT u))
  else
    let d1 := a.units.foldl (fun d u => d.openWindow t u) d
    let full := a.units.filter (fun u => d.get R.FLT.MAX_RECOV ≤ d1.get R.FLT.UNIT_RECOV_CNT u)
    if full.isEmpty then (d1.release t a false).countRecov a.units else d1.lockOut t a full

/-- The recovery that a UNIT_CLR orders, whatever MAX_RECOV is, unless another unit of the instance is LOCKED (R366). -/
def Dev.recoverHost (d : Dev) (t : Nat) (a : Active) : Dev :=
  if a.react < 3 then d.release t a true
  else if a.units.any (fun u => d.is R.FLT.UNIT_LOCKED u) then d
  else ((a.units.foldl (fun d u => d.openWindow t u) d).release t a true).countRecov a.units

/-- No reaction at BLOCK or above is left: SIG_OK leaves STOPPED with its pulse (R374). -/
def Dev.sigRecover (d : Dev) : Dev :=
  if d.get R.FLT.SIGOK_STATE = sigStopped ∧ !d.reactAtLeast 6 then d.sigPulseStart else d

/-- No reaction at SAFE is in force, the mode is not SAFE and no channel demands SPB: the trip is no longer in force (R170, R357,
R383). -/
def Dev.tripEnd (d : Dev) : Dev := if !d.reactAtLeast 7 && d.mode ≠ .safe && !d.is I.SAFE.REAL 0 && !d.is I.SAFE.REAL 2 then d.put I.FLT.TRIP_ON 0 else d

/-- Every automatic recovery due at the boundary at TB ns t (R364, R365); a recovery that the locked unit refuses is not retried. -/
def Dev.recoverDue (d : Dev) (t : Nat) : Dev :=
  let before := d.reactAtLeast 6
  let due := d.active.filter (fun a => d.quietOver t a)
  let d1 := (due.foldl (fun d a => d.recoverAuto t a) d).fltStatus
  (if before then d1.sigRecover else d1).tripEnd

/-- The UNIT_CLR orders due at the boundary at TB ns t: those written at least 2 µs before (R366). -/
def Dev.unitClrDue (d : Dev) (t : Nat) : Dev :=
  let us := (List.range 173).filter (fun u => d.is I.FLT.CLR_DUE u && d.get I.FLT.CLR_NS u + 2000 ≤ t)
  if us.isEmpty then d
  else
    let d1 := us.foldl (fun d u =>
      ((((d.put I.FLT.CLR_DUE 0 u).put R.FLT.UNIT_RECOV_CNT 0 u).put I.FLT.WIN_NS 0 u).put R.FLT.UNIT_WIN_LEFT 0 u).put R.FLT.UNIT_LOCKED 0 u) d
    let d1 := d1.setActive (d1.active.map (fun a => if a.units.any (fun u => us.contains u) then { a with refused := false } else a))
    let due := d1.active.filter (fun a => d.quietOver t a && a.units.any (fun u => us.contains u))
    let d2 := (due.foldl (fun d a => d.recoverHost t a) d1).fltStatus
    d2.sigRecover.tripEnd

/-- WIN_LEFT of every unit with an open window, and the closing of windows that have run out (R365). -/
def Dev.windows (d : Dev) (t : Nat) : Dev :=
  d.forN 173 (fun d u =>
    let w := d.get I.FLT.WIN_NS u
    if w = 0 then d
    else if w - 1 + windowNs ≤ t then (d.put I.FLT.WIN_NS 0 u).put R.FLT.UNIT_WIN_LEFT 0 u
    else d.put R.FLT.UNIT_WIN_LEFT ((w - 1 + windowNs - t) / 3600000000000) u)

/-- BOOT: every RECOV_CNT 0, every window closed (R365). -/
def Dev.fltBoot (d : Dev) : Dev :=
  ((d.fill R.FLT.UNIT_RECOV_CNT 0).fill I.FLT.WIN_NS 0).fill R.FLT.UNIT_WIN_LEFT 0

end Sys2Proof.Machine
end

