-- ==== Sys2Proof/Machine/SafetyCore.lean ====
section
/-! DEFINITION. The demands, outputs and supervision of the two safety channels (14_safety_channels.md). Channel 0 is Yarrow and
1 Sorrel; function 0 is SPB and 1 SMT; output 0 is SOP and 1 SOM. -/
namespace Sys2Proof.Machine

def chanIx : Channel → Nat
  | .yarrow => 0
  | .sorrel => 1

/-- The parameters a channel uses: Yarrow those it took into force, Sorrel those of the active sheet (R396). -/
def Dev.siCfg (d : Dev) (ch i : Nat) : Nat := if ch = 0 then d.get I.SAFE.Y_SI_CFG i else d.get R.SAFE.PAIR_SI_CFG i
def Dev.fbCfg (d : Dev) (ch f : Nat) : Nat := if ch = 0 then d.get I.SAFE.Y_FB_CFG f else d.get R.SAFE.FB_CFG f

/-- The pair is used. -/
def Dev.pairUsed (d : Dev) (ch i : Nat) : Bool := bitOf (d.siCfg ch i) 0 = 1
/-- The discrepancy time in SAFE cycles (R388): Sorrel's is 3,200 cycles longer. -/
def Dev.discN (d : Dev) (ch i : Nat) : Nat :=
  if ch = 0 then d.get I.SAFE.Y_DISC_T i * 16000 else d.get R.SAFE.PAIR_DISC_T i * 16000 + 3200

/-- The filtered inputs of a pair. -/
def Dev.pairIn (d : Dev) (ch i b : Nat) : Bool := d.is I.SAFE.IN (8 * ch + 2 * i + b)

/-- The pair is in demand in a channel (R387). -/
def Dev.pairDemand (d : Dev) (ch i : Nat) : Bool :=
  d.pairUsed ch i && (d.pairIn ch i 0 || d.pairIn ch i 1 || d.is I.SAFE.LATCH (4 * ch + i))

/-- A TRIP_MV reaction is in force (R357). -/
def Dev.tripMv (d : Dev) : Bool := d.active.any (fun a => a.react = 8)

/-- The demand on a function from the sources that both channels evaluate (R384, R392). -/
def Dev.commonDemand (d : Dev) (ch fn : Nat) : Bool :=
  (List.range 4).any (fun i => d.pairDemand ch i && bitOf (d.siCfg ch i) (2 + fn) = 1) ||
  (List.range 4).any (fun f => d.is I.SAFE.FBL (4 * ch + f) && bitOf (d.fbCfg ch f) 1 = fn) ||
  bitOf (d.get R.SAFE.SF_HOST_DEM) fn = 1 || (fn = 1 && d.tripMv)

/-- The demand on a function from the channel's own conditions (R391 to R393). -/
def Dev.ownDemand (d : Dev) (ch fn : Nat) : Bool :=
  d.is I.SAFE.RBL (2 * ch + fn) || d.is I.SAFE.XCHK ch || (if ch = 0 then d.is I.SAFE.YSUP_BAD else d.is I.SAFE.STF || d.is I.SAFE.OSC_BAD)

/-- The channel is unconfigured (R396). -/
def Dev.unconfigured (d : Dev) (ch : Nat) : Bool := if ch = 0 then !d.is R.SAFE.CFG_OK else d.ream.active.isNone

/-- A demand with the consequences of R384; while no Ream is active an unconfigured channel's demand has none (R540). -/
def Dev.realDemand (d : Dev) (ch fn : Nat) : Bool :=
  d.commonDemand ch fn || d.ownDemand ch fn || (d.unconfigured ch && d.ream.active.isSome)

/-- A function is demanded in a channel (R384). -/
def Dev.demanded (d : Dev) (ch fn : Nat) : Bool := d.realDemand ch fn || d.unconfigured ch

/-- Some channel demands a function, other than under R540. -/
def Dev.anyDemand (d : Dev) : Bool := (List.range 4).any (fun k => d.is I.SAFE.REAL k)

/-- The permits of the mode in force (R385). -/
def permitsOf (m : Mode) : Bool × Bool :=
  match m with
  | .precharge | .sync | .run | .degraded | .rideThrough | .stopping => (true, true)
  | .test => (true, false)
  | _ => (false, false)

/-- The mode controller passes the permits to the channels (R385). -/
def Dev.safePermits (d : Dev) : Dev :=
  let p := permitsOf d.mode
  (d.flag R.SAFE.PERMIT_SOP p.1).flag R.SAFE.PERMIT_SOM p.2

/-- What a change of sets SAFETY in HIF_SUMMARY (R399): SF_STAT, FB_LATCH and the pairs' demands. -/
def Dev.safeSig (d : Dev) : List Nat :=
  ([R.SAFE.CFG_OK, R.SAFE.XCHK_FAIL, R.SAFE.YSUP_OK, R.SAFE.PERMIT_SOM, R.SAFE.PERMIT_SOP, R.SAFE.OUT_RB, R.SAFE.OUT_CMD, R.SAFE.SMT_S,
    R.SAFE.SMT_Y, R.SAFE.SPB_S, R.SAFE.SPB_Y, R.SAFE.FB_LATCH].map (fun f => d.get f)) ++ [d.get R.SAFE.SF_IN &&& 0x4444]

/-- The commanded level of an output (R382, R385): 0 SOPA, 1 SOPB, 2 SOMA, 3 SOMB. -/
def Dev.outLevel (d : Dev) (o : Nat) : Bool :=
  let permit : Bool := if o < 2 then d.is R.SAFE.PERMIT_SOP else d.is R.SAFE.PERMIT_SOM
  permit && !d.demanded (o % 2) (o / 2) && !(o % 2 = 1 && d.is I.MODE.IN_RESET)

/-- Commands and pads; a pad found to differ from its command keeps its level (R391). -/
def Dev.safeOutputs (d : Dev) : Dev :=
  (List.range 4).foldl (fun d o =>
    let v := d.outLevel o
    let d1 := d.setBitOf R.SAFE.OUT_CMD o v
    if bitOf (d.get I.SAFE.RB_STUCK) o = 1 then d1 else d1.setBitOf R.SAFE.OUT_RB o v) d

/-- The commanded state of an output that a channel supervises (R390, R403). -/
def Dev.commandedState (d : Dev) (ch out : Nat) : Bool :=
  if d.get R.PART.STRAP != 0 && d.is I.PART.BEAT_OK && bitOf (d.get I.PART.BEAT_PERMITS) out = 1 then true
  else bitOf (d.get R.SAFE.OUT_CMD) (2 * out + ch) = 1 && d.is I.SAFE.XCMD (2 * ch + out)

/-- The contactor of a contact is closed, as the channel's polarity reads it (R390). -/
def Dev.contactorClosed (d : Dev) (ch f : Nat) : Bool := bitOf (d.get R.SAFE.FB_LEVEL) f != bitOf (d.fbCfg ch f) 2

/-- A change of a commanded state starts the supervision of its contacts (R390). -/
def Dev.fbCommand (d : Dev) (t ch out : Nat) : Dev :=
  let cs := d.commandedState ch out
  if cs = d.is I.SAFE.CS (2 * ch + out) then d
  else
    (d.flag I.SAFE.CS cs (2 * ch + out)).forN 4 (fun d f =>
      let c := d.fbCfg ch f
      if bitOf c 0 = 1 && bitOf c 1 = out then
        let ok : Bool := d.contactorClosed ch f = cs
        ((d.put I.SAFE.FB_T0 t (4 * ch + f)).flag I.SAFE.FB_WAIT (!ok) (4 * ch + f)).onlyIf ok (fun d => d.put R.SAFE.FB_CONF_T 0 f)
      else d)

def Dev.fbCommands (d : Dev) (t : Nat) : Dev := (List.range 4).foldl (fun d k => d.fbCommand t (k / 2) (k % 2)) d

/-- Bits 4i to 4i + 3 of SF_IN: what either channel sees of pair i. -/
def Dev.safeInputs (d : Dev) : Dev :=
  let any (g : Nat → Bool) : Nat := (g 0 || g 1).toNat
  d.put R.SAFE.SF_IN ((List.range 4).foldl (fun v i =>
    v + 16 ^ i * (any (fun ch => d.pairUsed ch i && d.pairIn ch i 0) + 2 * any (fun ch => d.pairUsed ch i && d.pairIn ch i 1) +
      4 * any (fun ch => d.pairDemand ch i) + 8 * any (fun ch => d.is I.SAFE.LATCH (4 * ch + i)))) 0)

/-- A channel newly demands a function: the trip of SPB, and the measured time, which is open up to the limits of R389. -/
def Dev.demandStart (d : Dev) (t ch fn : Nat) : Dev :=
  let d1 := if fn = 0 then d.tripIssue t (ch + 1) else d
  (if ch = 0 then d1.put R.SAFE.LAST_Y_T (min (Config.demandTime d.draws) 20000) else d1.put R.SAFE.LAST_S_T (min (Config.demandTime d.draws) 2000)).draw

/-- Evaluate both channels at TB ns t (R383 to R386). -/
def Dev.safeEval (d : Dev) (t : Nat) : Dev :=
  let was (fn : Nat) : Bool := d.is I.SAFE.REAL fn || d.is I.SAFE.REAL (2 + fn)
  let d1 := (List.range 4).foldl (fun d k =>
    let r := d.realDemand (k / 2) (k % 2)
    let d2 := d.flag I.SAFE.REAL r k
    if r && !d.is I.SAFE.REAL k then d2.demandStart t (k / 2) (k % 2) else d2) d
  let now (fn : Nat) : Bool := d1.is I.SAFE.REAL fn || d1.is I.SAFE.REAL (2 + fn)
  let d2 := d1.bump R.SAFE.DEM_CNT 0 ((now 0 && !was 0) || (now 1 && !was 1)).toNat
  let d3 := (((d2.flag R.SAFE.SPB_Y (d2.demanded 0 0)).flag R.SAFE.SMT_Y (d2.demanded 0 1)).flag R.SAFE.SPB_S (d2.demanded 1 0)).flag R.SAFE.SMT_S (d2.demanded 1 1)
  (d3.flag R.SAFE.SPB_DEM (d3.is R.SAFE.SPB_Y || d3.is R.SAFE.SPB_S)).flag R.SAFE.SMT_DEM (d3.is R.SAFE.SMT_Y || d3.is R.SAFE.SMT_S)

/-- Demands, outputs, supervision and status at TB ns t; a TRIP_MV demand received raises instance 23 (R398). -/
def Dev.safeUpdate (d : Dev) (t : Nat) : Dev :=
  let d1 := (if d.tripMv && !d.is I.SAFE.TMV then (d.put I.SAFE.TMV 1).raise t 10 23 0 else d.flag I.SAFE.TMV d.tripMv)
  let d2 := ((d1.safeEval t).safeOutputs.fbCommands t).safeInputs
  let d3 := ((d2.flag R.SAFE.XCHK_FAIL (d2.is I.SAFE.XCHK 0 || d2.is I.SAFE.XCHK 1)).put R.SAFE.FB_LATCH
    ((List.range 4).foldl (fun v f => v + 2 ^ f * (d2.is I.SAFE.FBL f || d2.is I.SAFE.FBL (4 + f)).toNat) 0))
  if d3.safeSig = d.safeSig then d3 else d3.sumAll R.HIF.SUM_SAFETY

end Sys2Proof.Machine
end

