-- ==== Sys2Proof/Machine/Command.lean ====
section
/-! DEFINITION. Links and cell commands (06_felt_links.md): which slot stands on which link, the CMD block, posting and
replacing a command, and the instant of the next boundary. A link index is 0 to 5 for the rings and 6 to 21 for the Gen1
links. -/
namespace Sys2Proof.Machine

/-- The index of a link. -/
def linkIx : Link → Nat
  | .ring r => r
  | .gen1 n => 6 + n

/-- The link index of slot c, for a mapped slot (R188). -/
def Dev.cellLink (d : Dev) (c : Nat) : Option Nat :=
  match d.get R.CELL.LINK_KIND c with
  | 1 => some (d.get R.CELL.LINK c)
  | 2 => some (6 + d.get R.CELL.LINK c)
  | _ => none

/-- Slot c is mapped (R188). -/
def Dev.cellUsed (d : Dev) (c : Nat) : Bool := d.is I.CELL.USED c

/-- The slots of a link in slot order. -/
def Dev.slotsOn (d : Dev) (ix : Nat) : List Nat := (List.range 144).filter (fun c => d.cellUsed c && d.cellLink c = some ix)

/-- The slot at a hop of a link. -/
def Dev.slotAt (d : Dev) (ix hop : Nat) : Option Nat := (d.slotsOn ix).find? (fun c => d.get R.CELL.HOP c = hop)

/-- The frame before the handover boundary H: this module already posts, or no longer posts (R420). -/
def Dev.lastFrame (d : Dev) (hand : Nat) : Bool := d.get I.PART.HAND = hand && (d.get R.TB.FRAME_NO_LIVE + 1) % 2 ^ 32 = d.get I.PART.H_FRAME

/-- The module posts commands in the frame (R412, R420). -/
def Dev.posts (d : Dev) : Bool := (d.mode != .mirror || d.lastFrame 1) && !d.lastFrame 2

/-- Commands are posted on the link: READY or SINGLE, or UP (R181), and posting is not stopped (R180). -/
def Dev.linkPosts (d : Dev) (ix : Nat) : Bool :=
  !d.is I.FELT.STOPPED && d.is R.TB.PLL_T_LOCK &&
    (if ix < 6 then d.get R.FELT.RING_STATE ix = ringReady || d.get R.FELT.RING_STATE ix = ringSingle || (d.get R.FELT.RING_STATE ix = ringRelay && d.lastFrame 1) else d.get R.FELT.LF_STATE (ix - 6) = lfUp)

/-- The increment of a TB cycle in 2^-32 ns for a rate in 2^-8 ppb (R77): 2^33 (1 + rate · 2^-8 · 10^-9). Where it is no whole
number the rounding is free. -/
def tbInc (rate : Int) : Int :=
  let n : Int := rate * 2 ^ 25
  2 ^ 33 + n / 1000000000 + (if n % 1000000000 = 0 then 0 else (Config.tbRoundUp rate).toNat)

/-- TB whole ns of the next boundary: the frame in progress runs its length at the rate taken at its start (R79). -/
def Dev.nextNs (d : Dev) : Nat :=
  ((d.get I.TB.BND_NS : Int) * 2 ^ 32 + d.get I.TB.BND_FRAC + d.get I.TB.LEN * tbInc (d.getInt I.TB.RATE_TAKEN)).toNat / 2 ^ 32 % 2 ^ 64

/-- The length in tbc over which the commands of the next frame are built (R535). -/
def Dev.nextLen (d : Dev) : Nat := if d.is I.TB.NEXT_LEN then d.get I.TB.NEXT_LEN else d.get R.TB.TF

/-- A cell command: BYP, DAB_MODE, EDGE_STATE, the four offsets and the DAB field (R167). -/
structure Cmd where
  byp  : Bool
  dab  : Nat
  st   : Nat
  a0   : Nat
  a1   : Nat
  b0   : Nat
  b1   : Nat
  dabF : Nat
  deriving DecidableEq, Repr

/-- A CMD with BYP set, every edge slot unused and DAB_MODE 0 (R220). -/
def Cmd.bypass : Cmd := ⟨true, 0, 0xFF, 0, 0, 0, 0, 0⟩

/-- Both legs in one state at offset 0 (R220): 0 OFF, 1 P, 2 N. -/
def Cmd.legs (a b dab dabF : Nat) : Cmd := ⟨false, dab, a * 64 + 3 * 16 + b * 4 + 3, 0, 0, 0, 0, dabF⟩

/-- The used edge slots of a command. -/
def Cmd.edges (c : Cmd) : Nat := ((List.range 4).filter (fun i => bitsOf c.st (2 * i + 1) (2 * i) != 3)).length

/-- The 27 bytes of a CMD block's header and payload (R167). -/
def Cmd.bytes (c : Cmd) (epoch execNs rev hop dir : Nat) : List Nat :=
  [0x10 + 8 * c.byp.toNat + c.dab, 128 * dir + hop, rev] ++ leBytes 2 epoch ++ leBytes 4 execNs ++ [c.st] ++ leBytes 3 c.a0 ++ leBytes 3 c.a1 ++
    leBytes 3 c.b0 ++ leBytes 3 c.b1 ++ leBytes 5 c.dabF

/-- The copy of a command for one direction with its CRC, as a number. -/
def Dev.cmdBlock (d : Dev) (c : Nat) (cmd : Cmd) (rev dir : Nat) : Nat × Nat :=
  let bs := cmd.bytes (d.get R.FELT.OWN_EPOCH) (d.nextNs % 2 ^ 32) rev (d.get R.CELL.HOP c) dir
  (leNat bs, crc32 bs)

/-- Post a command to slot c for the next boundary under a REV (R22, R169); a Gen1 link carries DIR 0 (R182). -/
def Dev.post (d : Dev) (c rev : Nat) (cmd : Cmd) : Dev :=
  let (e, ce) := d.cmdBlock c cmd rev 0
  let (w, cw) := d.cmdBlock c cmd rev (if d.get R.CELL.LINK_KIND c = 1 then 1 else 0)
  let d1 := ((((d.put I.CELL.NEXT_POSTED 1 c).flag I.CELL.NEXT_BYP cmd.byp c).put I.CELL.NEXT_REV rev c).put I.CELL.NEXT_CRC_E ce c).put I.CELL.NEXT_CRC_W cw c
  ((((d1.put I.CELL.NEXT_WDR 0 c).put I.MOD.NSW_NEXT (if cmd.byp then 0 else cmd.edges) c).put I.MOD.DAB_NEXT cmd.dab c).perf 1 1 (d.get I.CELL.STRING c) |>.carryRing ((d.cellLink c).getD 22) 32).send
    (.command c rev (e + 2 ^ 216 * ce) (w + 2 ^ 216 * cw))

/-- The posting deadline of R18: 1 µs plus the L1 of the slowest link before the next boundary. -/
def Dev.deadline (d : Dev) : Nat := d.nextNs - 1000 - (d.get I.TB.L1_MAX + 3) / 4

/-- A fence on the cell slot, or on the link it is mapped to (R361). -/
def Dev.cellFenced (d : Dev) (c : Nat) : Bool :=
  d.fenced c || (match d.cellLink c with | some ix => d.fenced (144 + ix) | none => false)

/-- The zero state of a leg pair (R205): kept when both legs agree in P or N, otherwise N. -/
def Dev.zeroLegs (d : Dev) (c : Nat) : Dev :=
  if d.get I.MOD.LEG_A c = d.get I.MOD.LEG_B c && d.is I.MOD.LEG_A c then d else (d.put I.MOD.LEG_A 2 c).put I.MOD.LEG_B 2 c

/-- A cell fenced after its command was built (R235): a replacement with BYP before the deadline, else a withdraw, of which a link
carries four a frame; else instance 19. -/
def Dev.refenceCell (d : Dev) (t c : Nat) : Dev :=
  match d.cellLink c with
  | none => d
  | some ix =>
    if t < d.deadline then ((d.post c (d.get I.CELL.NEXT_REV c + 1) Cmd.bypass).put I.CELL.REMOVE 1 c).perf 1 5 (d.get I.CELL.STRING c)
    else if d.get I.FELT.WDR_SENT ix < 4 then
      let d1 := (((d.put I.CELL.NEXT_WDR 1 c).put I.CELL.NEXT_POSTED 0 c).put I.MOD.NSW_NEXT 0 c).put I.MOD.DAB_NEXT 0 c
      ((((d1.zeroLegs c).bump I.FELT.WDR_SENT ix).send (.withdraw c (d.get I.CELL.NEXT_REV c))).perf 0 6 ix |>.carryRing ix 16).put I.CELL.REMOVE 1 c
    else (d.put I.CELL.REMOVE 1 c).raise t 6 19 c

/-- Every posted cell on which a fence has come into force since its command was built (R235). -/
def Dev.refence (d : Dev) (t : Nat) : Dev :=
  if !d.anyFence then d
  else
    let cs := (List.range 144).filter (fun c => d.is I.CELL.NEXT_POSTED c && !d.is I.CELL.NEXT_BYP c && !d.is I.CELL.REMOVE c && d.cellFenced c)
    cs.foldl (fun d c => d.refenceCell t c) d

end Sys2Proof.Machine
end

