-- ==== Sys2Proof/Machine/LvDrive.lean ====
section
/-! DEFINITION. The LV drive port (11_lv_drive_port.md): channels, interlock, holds and their levels, soft turn-off and safe
states, retries and clears, and the meanings of its commands. Channel 2k is the low side of HBk, 2k + 1 its high side. -/
namespace Sys2Proof.Machine

def Dev.hbRole (d : Dev) (k : Nat) : Nat := bitsOf (d.get R.LVD.HB_CFG k) 1 0
def Dev.hbLegPos (d : Dev) (k : Nat) : Nat := bitsOf (d.get R.LVD.HB_CFG k) 3 2

/-- The channel's enable bit (R301): L_EN is bit 7 and H_EN bit 6 of HB_CFG. -/
def Dev.chEnabled (d : Dev) (ch : Nat) : Bool := bitOf (d.get R.LVD.HB_CFG (ch / 2)) (if ch % 2 = 1 then 6 else 7) = 1

/-- The lowest half-bridge of the leg group of HBk (R302). -/
def Dev.legGroup (d : Dev) (k : Nat) : Nat :=
  if d.hbRole k = 1 then ((List.range 8).find? (fun j => d.hbRole j = 1 && d.hbLegPos j = d.hbLegPos k)).getD k else k

/-- The members of the leg group of HBk. -/
def Dev.legMembers (d : Dev) (k : Nat) : List Nat := (List.range 8).filter (fun j => d.hbUsed j && d.legGroup j = d.legGroup k)

/-- The half-bridges of short group g (R302). -/
def Dev.shortMembers (d : Dev) (g : Nat) : List Nat := (List.range 8).filter (fun j => d.hbUsed j && d.shortGrp j = g)

/-- SAFE_STATE of short group g in the lv-drive sheet: true for the active short (R302). -/
def Dev.activeShort (d : Dev) (g : Nat) : Bool := bitOf (d.get I.LVD.SAFE_STATE) g = 1

/-- HBk is fit: its supplies are good and it holds no latch but SC1 or SC2 on its high side (R316). -/
def Dev.hbFit (d : Dev) (k : Nat) : Bool :=
  d.is R.LVD.HB_VLP_OK k && d.is R.LVD.HB_VLN_OK k && (d.get R.LVD.HB_LATCH k) &&& 0b1110101 = 0

/-- A soft turn-off runs in HBk. -/
def Dev.softIn (d : Dev) (k : Nat) : Bool := d.is I.LVD.CH_SOFT (2 * k) || d.is I.LVD.CH_SOFT (2 * k + 1)

/-- OUT and FIT of HBk, and its bit of HB_FLT. -/
def Dev.hbStatus (d : Dev) (k : Nat) : Dev :=
  (((d.put R.LVD.HB_OUT (if d.is I.LVD.CH_ON (2 * k + 1) then 1 else if d.is I.LVD.CH_ON (2 * k) then 2 else 0) k).flag R.LVD.HB_FIT
    (d.hbFit k) k).setBitOf R.LVD.HB_FLT k (d.get R.LVD.HB_LATCH k != 0))

/-- Turn a channel off at once (R311), with SOFT_SNK or TOFF_SNK; a held turn-on of it is dropped. -/
def Dev.turnOff (d : Dev) (ch : Nat) (soft : Bool) : Dev :=
  let d1 := d.put I.LVD.CH_REQ 0 ch
  if d.is I.LVD.CH_ON ch then
    (((d1.put I.LVD.CH_ON 0 ch).put I.LVD.CH_SNK (if soft then 2 else 1) ch).flag I.LVD.CH_SOFT soft ch).hbStatus (ch / 2)
  else d1

/-- Turn a channel on (R306, R309). -/
def Dev.turnOn (d : Dev) (ch : Nat) : Dev :=
  (((d.put I.LVD.CH_ON 1 ch).put I.LVD.CH_REQ 0 ch).put I.LVD.CH_SNK 0 ch).hbStatus (ch / 2)

/-- The gate monitor of a channel reports on. -/
def Dev.gateOn (d : Dev) (ch : Nat) : Bool := if ch % 2 = 1 then d.is R.LVD.HB_GM_H (ch / 2) else d.is R.LVD.HB_GM_L (ch / 2)

/-- The gate monitors as the pads show them, one bit per channel. -/
def Dev.setMonitors (d : Dev) (gm : Nat) : Dev :=
  (d.forN 8 (fun d k => (d.put R.LVD.HB_GM_L (bitOf gm (2 * k)) k).put R.LVD.HB_GM_H (bitOf gm (2 * k + 1)) k)).onlyIf (gm != 0)
    (fun d => d.put I.LVD.GM_SEEN 1)

/-- What the holds allow a channel to turn on: nothing held, or the low sides under a decided active short (R316, R318). -/
def Dev.allowed (d : Dev) (ch : Nat) : Bool :=
  let k := ch / 2
  d.chEnabled ch && d.hbUsed k &&
    (d.get I.LVD.HOLD k = 0 || (d.get I.LVD.HOLD k = 4 && d.get I.LVD.SAFE_ON (d.shortGrp k) = 1 && ch % 2 = 0))

/-- Request a turn-on (R311, R312): refused without an enable or under a hold, refused and counted for a high side whose
bootstrap is not good (R303), and otherwise held until the interlock is met. -/
def Dev.request (d : Dev) (ch : Nat) : Dev :=
  if !d.allowed ch then d
  else if ch % 2 = 1 && !d.is R.LVD.HB_BST_OK (ch / 2) then d.bump R.LVD.HB_BST_HOLD_CNT (ch / 2)
  else if d.is I.LVD.CH_ON ch then d
  else (d.put I.LVD.CH_REQ 1 ch).perf 4 2 (ch / 2) (d.is I.LVD.CH_ON (if ch % 2 = 1 then ch - 1 else ch + 1) || d.gateOn (if ch % 2 = 1 then ch - 1 else ch + 1)).toNat

/-- The channel state that a leg state gives HBk: P is the high side, N the low side, OFF none (R309). -/
def Dev.applyLeg (d : Dev) (k st : Nat) : Dev :=
  match st with
  | 1 => (d.turnOff (2 * k) false).request (2 * k + 1)
  | 2 => (d.turnOff (2 * k + 1) false).request (2 * k)
  | _ => (d.turnOff (2 * k) false).turnOff (2 * k + 1) false

/-- Both channels of HBk off with TOFF_SNK. -/
def Dev.bothOff (d : Dev) (k : Nat) : Dev := (d.turnOff (2 * k) false).turnOff (2 * k + 1) false

/-- A demand of level 1 is in force (R318). -/
def Dev.portOff (d : Dev) : Bool :=
  d.is R.SAFE.SPB_DEM || !d.is R.LVD.DRV_EN_PIN || d.is I.MODE.IN_RESET || !d.is R.TB.PLL_S_LOCK || d.is I.LVD.POWER_FAIL ||
    d.inMode [.boot, .backup]

/-- A latched short-circuit fault in short group g (bits SC1 and SC2 of LATCH). -/
def Dev.scLatched (d : Dev) (g : Nat) : Bool := (d.shortMembers g).any (fun k => (d.get R.LVD.HB_LATCH k) &&& 0b1111 != 0)

/-- A short-group safe state is demanded: after a detection, in SAFE, or under a SAFE reaction (R318). -/
def Dev.safeDemand (d : Dev) (g : Nat) : Bool := d.scLatched g || d.mode = .safe || (d.reactAtLeast 7 && d.mode != .mirror)

/-- A window comparator with its latched trip output holds HBk (R320, R343). -/
def Dev.tripHolds (d : Dev) (k : Nat) : Bool :=
  (List.range 24).any (fun w => bitOf (d.get R.AFE.WC_LATCH) w = 1 && d.is R.AFE.WC_ROLE w && bitOf (d.get R.LVD.TRIP_MAP w) k = 1)

/-- The mode in force gives the port edges: SYNC to STOPPING, or a running test pattern in TEST that names HBk (R133, R324). -/
def Dev.lvRuns (d : Dev) (k : Nat) : Bool :=
  match d.mode with
  | .sync | .run | .degraded | .rideThrough | .stopping => !d.is R.PART.LV_WAIT
  | .test => d.is I.LVD.LVT_RUN && !d.is I.MODE.TEST_BLOCK && bitOf (d.get R.LVD.LVT_MASK) k = 1
  | _ => false

/-- The highest demand on HBk (R318): levels 1 to 5, or 0 for none. -/
def Dev.lvLevel (d : Dev) (k : Nat) : Nat :=
  let g := d.shortGrp k
  if d.portOff then 1
  else if !d.is R.LVD.HB_VLP_OK k || !d.is R.LVD.HB_VLN_OK k then 2
  else if (d.shortMembers g).any (fun j => d.softIn j) then 3
  else if d.safeDemand g then 4
  else if (d.reactAtLeast 6) || d.fenced (166 + g) || d.tripHolds k || !d.is R.TB.PLL_T_LOCK ||
      (d.get R.LVD.HB_LATCH k) &&& 0b1110000 != 0 || !d.lvRuns k then 5
  else 0

/-- The pulse generator's sequence drives the channels: always but under LV test patterns 1 and 3 (R310, R324). -/
def Dev.seqDrives (d : Dev) : Bool := !d.is I.LVD.LVT_RUN || d.get I.LVD.LVT_ACT = 2

/-- Decide the safe state of short group g (R316) at an instant at which no soft turn-off runs in it and every high-side gate
monitor of it reports off; before that instant nothing is decided. -/
def Dev.decideSafe (d : Dev) (t g : Nat) : Dev :=
  let ks := d.shortMembers g
  if !d.is I.LVD.DET_WAIT g || ks.any (fun k => d.softIn k || d.is R.LVD.HB_GM_H k) then d
  else
    let d1 := d.put I.LVD.DET_WAIT 0 g
    if d.portOff then ks.foldl (fun d k => d.bothOff k) (d1.put I.LVD.SAFE_ON 2 g)
    else if d.activeShort g && ks.all (fun k => d.hbFit k) then
      ks.foldl (fun d k => (d.turnOff (2 * k + 1) false).request (2 * k)) (d1.put I.LVD.SAFE_ON 1 g)
    else
      let d2 := ks.foldl (fun d k => d.bothOff k) (d1.put I.LVD.SAFE_ON 2 g)
      if d.activeShort g then d2.raise t 8 (128 + g) ((ks.filter (fun k => !d.hbFit k)).headD 0) else d2

/-- The state of short group g in SG_STATE (R318). DEDUCED: a group is in pulse block where R316 decided so, or while every
half-bridge of it is held. -/
def Dev.sgState (d : Dev) (g : Nat) : Nat :=
  let ks := d.shortMembers g
  if ks.any (fun k => d.softIn k) then 1
  else if d.get I.LVD.SAFE_ON g = 1 then 2
  else if ks != [] && (d.get I.LVD.SAFE_ON g = 2 || ks.all (fun k => d.get I.LVD.HOLD k != 0)) then 3 else 0

/-- Put the hold of level lev on HBk (R318). -/
def Dev.holdHb (d : Dev) (k lev : Nat) : Dev :=
  let d1 := d.put I.LVD.HOLD lev k
  let d1 := d1.onlyIf (lev != 0) (fun d => d.put I.LVD.HELD 1 k)
  match lev with
  | 1 | 2 | 5 => d1.bothOff k
  | 4 =>
    let g := d.shortGrp k
    if d.get I.LVD.SAFE_ON g = 0 then
      let d2 := (d1.turnOff (2 * k + 1) false).put I.LVD.DET_WAIT 1 g
      if d.activeShort g then d2 else d2.turnOff (2 * k) false
    else d1
  | _ => d1

/-- The port registers that follow: PORT_OFF, SG_STATE, TRIP_ACT. -/
def Dev.portStatus (d : Dev) : Dev :=
  let sg := (List.range 4).foldl (fun v g => v + d.sgState g * 4 ^ g) 0
  let trip := (List.range 24).foldl (fun v w =>
    if bitOf (d.get R.AFE.WC_LATCH) w = 1 && d.is R.AFE.WC_ROLE w && d.get R.LVD.TRIP_MAP w != 0 then v + 2 ^ w else v) 0
  ((d.flag R.LVD.PORT_OFF d.portOff).put R.LVD.SG_STATE sg).put R.LVD.TRIP_ACT trip

/-- Start every hold whose demand is there, at detection (R319): a hold never becomes weaker before the boundary, but for a
supply that is good again (R303). A cell that a fence has reached since its command was built is bypassed (R235). The safety
channels evaluate their demands first (R384). -/
def Dev.settle (d : Dev) (t : Nat) : Dev :=
  let d1 := (d.safeUpdate t).forN 8 (fun d k =>
    if !d.hbUsed k then d
    else
      let now := d.lvLevel k
      let old := d.get I.LVD.HOLD k
      let lev := if old = 0 ∨ old = 2 then now else if now = 0 then old else if old = 3 then now else min old now
      if lev = old && lev != 1 then d else d.holdHb k lev)
  (((d1.forN 4 (fun d g => d.decideSafe t g)).portStatus).refence t)

/-- The boundary rule of R319: every hold becomes what its demands now give, and a half-bridge that is released takes the state
that the pulse generator's sequence gives, through the interlock. -/
def Dev.lvRelease (d : Dev) (t : Nat) : Dev :=
  let d0 := d.forN 4 (fun d g => if d.safeDemand g then d else (d.put I.LVD.SAFE_ON 0 g).put I.LVD.DET_WAIT 0 g)
  let d1 := d0.forN 8 (fun d k =>
    if !d.hbUsed k then d
    else
      let now := d.lvLevel k
      let old := d.get I.LVD.HOLD k
      let held := d.is I.LVD.HELD k
      let d := (d.setBitOf R.LVD.HB_OFF k held).perf 4 4 k held.toNat
      let d := (d.put I.LVD.HELD 0 k).holdHb k now
      if old != 0 && now = 0 && d.seqDrives then d.applyLeg k (d.get I.LVD.SEQ_ST k) else d)
  (d1.forN 4 (fun d g => d.decideSafe t g)).portStatus

/-- Latch a fault of HBk: its bit of LATCH, FLT_CNT, and the retry rule of R321 (no retry in TEST). -/
def Dev.latch (d : Dev) (t k bit : Nat) : Dev :=
  let d1 := (((d.setBitOf R.LVD.HB_LATCH bit true k).bump R.LVD.HB_FLT_CNT k).perf 4 3 k (decide (bit < 4)).toNat).hbStatus k
  if d.is R.LVD.LEGACY_CLR || d.get R.LVD.RETRY_MAX = 0 || d.mode = .test then d1
  else
    let n := (d.lvRetry.filter (fun p => p.1 = k && t < p.2 + 60000000000)).length
    if n < d.get R.LVD.RETRY_MAX then (d1.put I.LVD.RETRY_PEND 1 k).put I.LVD.RETRY_DUE 0 k
    else ((d1.put R.LVD.HB_RETRY_EXH 1 k).put I.LVD.RETRY_PEND 0 k).raise t 8 (16 * k + 8) (d.get R.LVD.RETRY_MAX)

/-- Clear every latch of HBk unless a soft turn-off still runs in it (R321 to R323). -/
def Dev.clearLatches (d : Dev) (k : Nat) : Dev :=
  if d.softIn k then d else (((d.put R.LVD.HB_LATCH 0 k).put I.LVD.RETRY_PEND 0 k).put I.LVD.RETRY_DUE 0 k).hbStatus k

/-- The detection of R314 in a channel that is on: the soft turn-off of its leg group and what it does to the short group. -/
def Dev.scTurnOff (d : Dev) (ch : Nat) : Dev :=
  let k := ch / 2
  let g := d.shortGrp k
  let mine := d.legMembers k
  let d1 := mine.foldl (fun d j => (d.turnOff (2 * j) true).turnOff (2 * j + 1) true) d
  let rest := (d.shortMembers g).filter (fun j => !mine.contains j)
  let d2 := rest.foldl (fun d j => d.turnOff (2 * j + 1) false) d1
  let d3 := if d.activeShort g then d2 else rest.foldl (fun d j => d.turnOff (2 * j) false) d2
  (d3.put I.LVD.DET_WAIT 1 g).put I.LVD.SAFE_ON 0 g

/-- A detection injected by LV test pattern 3 (R324): nothing is latched or raised; the time is measured, and a soft turn-off that
begins later than 300 ns is too slow. -/
def Dev.lvtDetect (d : Dev) (ch scTime : Nat) : Dev :=
  ((d.turnOff ch true).put R.LVD.LVT_TIME scTime).put R.LVD.LVT_RESULT (if scTime ≤ 1200 then 0 else 3)

/-- LV test pattern 3 is exercising this channel: LVT_ACT is 3 until its turn-on is requested, and 4 from then on. -/
def Dev.lvtTests (d : Dev) (ch : Nat) : Bool :=
  d.is I.LVD.LVT_RUN && 3 ≤ d.get I.LVD.LVT_ACT && ch = 2 * lowestBit (d.get R.LVD.LVT_MASK) 8 + d.get R.LVD.LVT_SIDE

/-! The meanings of the commands of the port. -/

/-- A scheduled edge is placed (R309); the sequence advances whatever holds the group off, and a hold masks the edge at the channels
(R310). -/
def Dev.lvEdge (d : Dev) (e : LvEdge) : Dev :=
  (d.legMembers e.grp).foldl (fun d k => (d.put I.LVD.SEQ_ST e.st k).onlyIf (d.get I.LVD.HOLD k = 0 && d.seqDrives) (fun d => d.applyLeg k e.st)) { d with lvEdges := d.lvEdges.erase e }

/-- LV_EDGE (R309): the next scheduled edge of the leg group of HBk. -/
def execLvEdge (hb : Fin 8) (s : State) : Host.Outcome State Fault Refusal :=
  s.onDev fun d =>
    match d.lvEdges.find? (fun e => e.grp = d.legGroup hb) with
    | none => d
    | some e => d.lvEdge e

/-- INCOMING_TURN_ON (R311): the held turn-on of HBk takes place when the other channel is off and its gate monitor reports off. -/
def execIncomingTurnOn (hb : Fin 8) (gm : BitVec 16) (s : State) : Host.Outcome State Fault Refusal :=
  s.onDev fun d =>
    let d1 := d.setMonitors gm.toNat
    let turn (d : Dev) (ch other : Nat) : Dev :=
      if d.is I.LVD.CH_REQ ch && d.allowed ch && !d.is I.LVD.CH_ON other && bitOf gm.toNat other = 0 then d.turnOn ch else d
    if d.is I.LVD.CH_REQ (2 * hb) && d.is I.LVD.CH_REQ (2 * hb + 1) then d1
    else turn (turn d1 (2 * hb) (2 * hb + 1)) (2 * hb + 1) (2 * hb)

/-- SC_DETECT (R313 to R315): ignored for a channel that is off. -/
def execScDetect (ch : Fin 16) (sc2 : Bool) (scTime : BitVec 24) (s : State) : Host.Outcome State Fault Refusal :=
  s.onDev fun d =>
    let k := ch.val / 2
    let t := s.clk.ns
    if !d.is I.LVD.CH_ON ch then d
    else if d.lvtTests ch then d.lvtDetect ch scTime.toNat
    else
      let d1 := (d.latch t k (2 * sc2.toNat + ch % 2)).put R.LVD.CH_SC_TIME scTime.toNat ch
      ((d1.scTurnOff ch).raise t 8 (16 * k + sc2.toNat) (ch % 2)).settle t

/-- The soft turn-off of a channel ends; the self-test of pattern 3 has passed when it began in time (R314, R324). -/
def Dev.softEnd (d : Dev) (ch : Nat) : Dev :=
  if !d.is I.LVD.CH_SOFT ch then d
  else (d.put I.LVD.CH_SOFT 0 ch).onlyIf (d.lvtTests ch && d.get R.LVD.LVT_RESULT = 0) (fun d => d.put R.LVD.LVT_RESULT 1)

/-- SOFT_TURNOFF_END (R314, R316): the gate monitors as reported; every soft turn-off whose monitor is off ends, and each short
group that waits is decided. -/
def execSoftTurnoffEnd (gm : BitVec 16) (s : State) : Host.Outcome State Fault Refusal :=
  s.onDev fun d =>
    let d1 := (d.setMonitors gm.toNat).forN 16 (fun d ch => if bitOf gm.toNat ch = 0 then d.softEnd ch else d)
    d1.settle s.clk.ns

/-- SOFT_TURNOFF_TIMEOUT (R314): the channel goes on with TOFF_SNK and HS_TO is latched; the self-test of pattern 3 latches nothing and
was too slow (R324). -/
def execSoftTurnoffTimeout (ch : Fin 16) (s : State) : Host.Outcome State Fault Refusal :=
  s.onDev fun d =>
    if !d.is I.LVD.CH_SOFT ch then d
    else if d.lvtTests ch then ((d.put I.LVD.CH_SNK 1 ch).put R.LVD.LVT_RESULT 3).settle s.clk.ns
    else (((d.put I.LVD.CH_SNK 1 ch).latch s.clk.ns (ch / 2) 4).raise s.clk.ns 8 (16 * (ch / 2) + 2) ch).settle s.clk.ns

/-- HS_TO (R312): a held turn-on is abandoned and the half-bridge latches HS_TO. -/
def execHsTo (ch : Fin 16) (s : State) : Host.Outcome State Fault Refusal :=
  s.onDev fun d =>
    if !d.is I.LVD.CH_REQ ch then d
    else (((d.put I.LVD.CH_REQ 0 ch).latch s.clk.ns (ch / 2) 4).raise s.clk.ns 8 (16 * (ch / 2) + 2) ch).settle s.clk.ns

/-- GON_TIMEOUT (R312): the channel is turned off and GON_L or GON_H is latched. -/
def execGonTimeout (ch : Fin 16) (s : State) : Host.Outcome State Fault Refusal :=
  s.onDev fun d =>
    if !d.is I.LVD.CH_ON ch then d
    else (((d.turnOff ch false).latch s.clk.ns (ch / 2) (5 + ch % 2)).raise s.clk.ns 8 (16 * (ch / 2) + 3) ch).settle s.clk.ns

/-- ST_CONFLICT (R312): both channels requested on in the same tbc; neither turns on. -/
def execStConflict (hb : Fin 8) (s : State) : Host.Outcome State Fault Refusal :=
  s.onDev fun d =>
    if d.is I.LVD.CH_REQ (2 * hb) && d.is I.LVD.CH_REQ (2 * hb + 1) then
      ((((d.bothOff hb).put I.LVD.CONFL 1 hb).bump R.LVD.HB_CONFLICT_CNT hb).raise s.clk.ns 8 (16 * hb + 4) 0).settle s.clk.ns
    else d

/-- The field and the instance of a supply (R303, R327). -/
def railFld : Rail → Fld
  | .vlp => R.LVD.HB_VLP_OK
  | .vln => R.LVD.HB_VLN_OK
  | .bst => R.LVD.HB_BST_OK
def railInst : Rail → Nat
  | .vlp => 5
  | .vln => 6
  | .bst => 7

/-- SUPPLY_FAULT (R303): the channels that the supply feeds are held off, and the instance of a used half-bridge is raised. -/
def execSupplyFault (hb : Fin 8) (rail : Rail) (s : State) : Host.Outcome State Fault Refusal :=
  s.onDev fun d =>
    let d1 := (d.put (railFld rail) 0 hb).hbStatus hb
    let d2 := if rail = .bst then d1.turnOff (2 * hb + 1) false else if rail = .vlp then d1.put I.LVD.BST_SEEN 0 hb else d1
    (d2.onlyIf (d.hbUsed hb) (fun d => d.raise s.clk.ns 8 (16 * hb + railInst rail) 0 true)).settle s.clk.ns

/-- SUPPLY_GOOD (R303): the fault is released with no latch. -/
def execSupplyGood (hb : Fin 8) (rail : Rail) (s : State) : Host.Outcome State Fault Refusal :=
  s.onDev fun d =>
    let d1 := ((d.put (railFld rail) 1 hb).hbStatus hb).onlyIf (rail = .bst) (fun d => d.put I.LVD.BST_SEEN 1 hb)
    (d1.lower 8 (16 * hb + railInst rail)).settle s.clk.ns

/-- BST_START_TIMEOUT (R305): the bootstrap has not passed its rising threshold 500 ms after VLk_P became good. -/
def execBstStartTimeout (hb : Fin 8) (s : State) : Host.Outcome State Fault Refusal :=
  s.onDev fun d =>
    if d.hbUsed hb && d.is R.LVD.HB_VLP_OK hb && !d.is I.LVD.BST_SEEN hb then
      (d.raise s.clk.ns 8 (16 * hb + 7) 1 true).settle s.clk.ns
    else d

/-- RETRY_WAIT_EXPIRY (R321): the pending retry falls due at the next boundary. -/
def execRetryWaitExpiry (hb : Fin 8) (s : State) : Host.Outcome State Fault Refusal :=
  s.onDev fun d => if d.is I.LVD.RETRY_PEND hb then d.put I.LVD.RETRY_DUE 1 hb else d

/-- DRV_EN_FALL (R323): a demand of level 1, and instance 132. -/
def execDrvEnFall (s : State) : Host.Outcome State Fault Refusal :=
  s.onDev fun d => (((d.put R.LVD.DRV_EN_PIN 0).put R.LVD.DRV_EN_LOW 1).raise s.clk.ns 8 132 0).settle s.clk.ns

/-- DRV_EN_RISE (R323): with LEGACY_CLR and a low phase of at least 10 µs, every latch and every RETRY_EXH is cleared. -/
def execDrvEnRise (lowTenUs : Bool) (s : State) : Host.Outcome State Fault Refusal :=
  s.onDev fun d =>
    let d1 := d.put R.LVD.DRV_EN_PIN 1
    if d.is R.LVD.LEGACY_CLR && lowTenUs then
      let cleared := (List.range 8).foldl (fun v k => if d.get R.LVD.HB_LATCH k != 0 && !d.softIn k then v + 2 ^ k else v) 0
      let d2 := (d1.forN 8 (fun d k => (d.clearLatches k).put R.LVD.HB_RETRY_EXH 0 k)).put R.LVD.LEGACY_DONE 1
      (d2.raise s.clk.ns 8 133 cleared).settle s.clk.ns
    else d1.settle s.clk.ns

/-! The parts of a frame boundary that belong to the port. -/

/-- The edges of the ended frame that no command has brought have been placed in it. -/
def Dev.lvFinish (d : Dev) : Dev := d.lvEdges.foldl Dev.lvEdge d

/-- The edges built for the frame that begins, cut at its actual length (R535), and where they leave each leg group. -/
def Dev.lvStart (d : Dev) : Dev :=
  let q := 8 * d.get I.TB.LEN
  let kept := d.lvNext.filter (fun e => e.off < q)
  let d1 := d.forN 8 (fun d g =>
    let own (e : LvEdge) : Bool := decide (e.grp = g)
    let d2 := match d.lvNext.find? (fun e => own e && q ≤ e.off) with
      | some e => d.put I.LVD.GRP_ST (3 - e.st) g
      | none => d
    d2.put I.LVD.GRP_GAP (((kept.filter own).getLast?.map (fun e => q - e.off + 1)).getD 0) g)
  { d1 with lvEdges := kept, lvNext := [] }

/-- The retries due at the boundary (R321): counted, latches cleared, the retry instance raised. -/
def Dev.lvRetries (d : Dev) (t : Nat) : Dev :=
  let d0 : Dev := { d with lvRetry := d.lvRetry.filter (fun p => t < p.2 + 60000000000) }
  d0.forN 8 (fun d k =>
    if d.is I.LVD.RETRY_DUE k && !d.softIn k then
      let d1 : Dev := { d.clearLatches k with lvRetry := d.lvRetry ++ [(k, t)] }
      let n := (d1.lvRetry.filter (fun p => p.1 = k)).length
      (d1.put R.LVD.HB_RETRY_CNT (min n 7) k).raise t 8 (16 * k + 9) n
    else d.put R.LVD.HB_RETRY_CNT (min (d.lvRetry.filter (fun p => p.1 = k)).length 7) k)

/-- The HB_CLR orders due at the boundary: those written at least 2 µs before (R322). -/
def Dev.lvClears (d : Dev) (t : Nat) : Dev :=
  d.forN 8 (fun d k =>
    if d.is I.LVD.HBC_DUE k && d.get I.LVD.HBC_NS k + 2000 ≤ t && !d.softIn k then
      let d1 := (((d.put I.LVD.HBC_DUE 0 k).clearLatches k).put R.LVD.HB_RETRY_EXH 0 k).put R.LVD.HB_RETRY_CNT 0 k
      { d1 with lvRetry := d1.lvRetry.filter (fun p => p.1 != k) }
    else d)

/-- The start and the end of an LV test pattern at the boundary (R324). -/
def Dev.lvtBoundary (d : Dev) (t : Nat) : Dev :=
  let stop (d : Dev) : Dev := ((((d.put I.LVD.LVT_RUN 0).put I.LVD.LVT_ACT 0).put I.LVD.LVT_DUE 0).put I.LVD.LVT_END 0)
  if d.mode ≠ .test then stop d
  else if d.is I.LVD.LVT_END then stop d
  else if d.is I.LVD.LVT_DUE && d.get I.LVD.LVT_NS + 2000 ≤ t then
    let p := d.get R.LVD.LVT_PAT
    let d1 := (((d.put I.LVD.LVT_DUE 0).put I.LVD.LVT_RUN 1).put I.LVD.LVT_ACT p).fill I.LVD.CONFL 0
    match p with
    | 1 => d1
    | 2 => (d1.put R.LVD.LV_POS 0).forN 8 (fun d k =>
        d.onlyIf (d.hbUsed k && d.get I.LVD.HOLD k = 0) (fun d => d.applyLeg k (d.get I.LVD.SEQ_ST k)))
    | _ => (d1.put R.LVD.LVT_RESULT 2).put R.LVD.LVT_TIME 0
  else d

/-- The channel requests of LV test patterns 1 and 3 at a boundary (R312, R324), through the interlock; the 3 µs of pattern 3 are over at
the boundary after its turn-on. -/
def Dev.lvtDrive (d : Dev) : Dev :=
  if !d.is I.LVD.LVT_RUN then d
  else
    match d.get I.LVD.LVT_ACT with
    | 1 => d.forN 8 (fun d k =>
        if bitOf (d.get R.LVD.LVT_MASK) k = 0 then d
        else
          let hi := bitOf (d.get R.LVD.LVT_H) k = 1
          let lo := bitOf (d.get R.LVD.LVT_L) k = 1
          let d1 := if hi then d else d.turnOff (2 * k + 1) false
          let d2 := if lo then d1 else d1.turnOff (2 * k) false
          let both : Bool := hi && lo
          let d3 := d2.onlyIf (!both) (fun d => d.put I.LVD.CONFL 0 k)
          if d3.is I.LVD.CONFL k then d3
          else (d3.onlyIf hi (fun d => d.request (2 * k + 1))).onlyIf lo (fun d => d.request (2 * k)))
    | 3 => ((d.forN 8 (fun d k => if bitOf (d.get R.LVD.LVT_MASK) k = 1 then d.bothOff k else d)).put I.LVD.LVT_ACT 4).request
        (2 * lowestBit (d.get R.LVD.LVT_MASK) 8 + d.get R.LVD.LVT_SIDE)
    | 4 => d.turnOff (2 * lowestBit (d.get R.LVD.LVT_MASK) 8 + d.get R.LVD.LVT_SIDE) false
    | _ => d

end Sys2Proof.Machine
end

