-- ==== Sys2Proof/Machine/Felt.lean ====
section
/-! DEFINITION. The Felt links and the cell table (06_felt_links.md, 07_cell_node_contract.md): markers and the hop
calibration, ring states, epochs, measurement blocks, management requests, and the meanings of their commands. A link index
is 0 to 5 for the rings and 6 to 21 for the Gen1 links. -/
namespace Sys2Proof.Machine

/-- The state of a ring, with the bits of FELT_STAT and UNSUPERVISED that follow from it (R175, R539). -/
def Dev.ringTo (d : Dev) (r st : Nat) : Dev :=
  let open_ : Bool := d.is R.FELT.RING_OPEN r
  (((((d.put R.FELT.RING_STATE st r).setBitOf R.FELT.RING_OK r (st = ringReady || st = ringSingle)).setBitOf R.FELT.RING_SINGLE r (st = ringSingle)).flag
    R.FELT.RING_UNSUPERVISED (st = ringSingle || (open_ && st != ringDown && st != ringRelay)) r).put I.FELT.STABLE_RUN 0 r).put I.FELT.TRAIN_RAISED 0 r

/-- The state of a Gen1 link, with its bit of LF_UP. -/
def Dev.lfTo (d : Dev) (n st : Nat) : Dev :=
  (((d.put R.FELT.LF_STATE st n).setBitOf R.FELT.LF_UP n (st = lfUp)).put I.FELT.LF_RUN 0 n).put I.FELT.TRAIN_RAISED 0 (6 + n)

/-- DISCOVER starts again for every cell of a link: nothing read yet, no request outstanding (R181). -/
def Dev.discoverReset (d : Dev) (ix : Nat) : Dev :=
  let d1 := (d.slotsOn ix).foldl (fun d c => d.put I.CELL.ID_BITS 0 c) d
  { d1 with mgt := d1.mgt.filter (fun q => !(q.link = ix && (q.why = 0 || q.why = 1))) }

/-- A ring or a Gen1 link to TRAIN. -/
def Dev.toTrain (d : Dev) (ix : Nat) : Dev :=
  let d1 := (d.discoverReset ix).put I.FELT.LANES 0 ix
  if ix < 6 then d1.ringTo ix ringTrain else d1.lfTo (ix - 6) lfTrain

/-- Raise instance e of ring r (R185) and set its EVENTS bit. -/
def Dev.ringRaise (d : Dev) (t r e : Nat) (held : Bool := false) : Dev := (d.setBitOf R.FELT.RING_EVENTS e true r).raise t 4 (16 * r + e) 0 held

/-- Raise instance g of Gen1 link n (R185) and set its EVENTS bit. -/
def Dev.lfRaise (d : Dev) (t n g : Nat) : Dev := (d.setBitOf R.FELT.LF_EVENTS g true n).raise t 4 (96 + 4 * n + g) 0

/-- As `ringRaise` and `lfRaise`, for a condition that is a state (R353). -/
def Dev.ringState (d : Dev) (t r e : Nat) : Dev := (d.setBitOf R.FELT.RING_EVENTS e true r).raiseState t 4 (16 * r + e) 0
def Dev.lfState (d : Dev) (t n g : Nat) : Dev := (d.setBitOf R.FELT.LF_EVENTS g true n).raiseState t 4 (96 + 4 * n + g) 0

/-- Raise the ring instance e of a ring, or the Gen1 instance g of a Gen1 link, where there is one. -/
def Dev.linkRaise (d : Dev) (t ix e : Nat) (g : Option Nat) : Dev :=
  if ix < 6 then d.ringRaise t ix e else match g with | some g => d.lfRaise t (ix - 6) g | none => d

/-- Epoch x is higher than epoch y (R177). -/
def higher (x y : Nat) : Bool := let k := (x + 65536 - y % 65536) % 65536; 1 ≤ k && k ≤ 32767

/-- The epoch after x, from 1 to 65,535 (R177). -/
def nextEpoch (x : Nat) : Nat := if 65535 ≤ x then 1 else x + 1

/-- The highest epoch echoed by any mapped cell of the list; 0 when none echoes one. -/
def Dev.topEcho (d : Dev) (cs : List Nat) : Nat :=
  cs.foldl (fun m c => let e := d.get R.CELL.ECHO_EPOCH c; if e = 0 then m else if m = 0 || higher e m then e else m) 0

/-- Strapped for a pair under R400. -/
def Dev.strapped (d : Dev) : Bool := d.get R.PART.STRAP = 1 || d.get R.PART.STRAP = 2

/-- OWN_EPOCH of a module without a partner, as DISCOVER completes (R179): one higher than the highest echo, or 1. -/
def Dev.setEpoch (d : Dev) : Dev :=
  if d.strapped || d.is R.FELT.SUPERSEDED then d
  else
    let m := d.topEcho ((List.range 144).filter d.cellUsed)
    let own := d.get R.FELT.OWN_EPOCH
    if own = 0 || (m != 0 && higher m own) then d.put R.FELT.OWN_EPOCH (if m = 0 then 1 else nextEpoch m) else d

/-- A higher epoch was echoed (R28, R180): posting stops everywhere, instance 161; a module in a pair relays, a module without a
partner turns its ports off and goes to IDLE. No trip is sent. -/
def Dev.supersede (d : Dev) (t : Nat) : Dev :=
  if d.is I.FELT.STOPPED then d
  else
    let pair : Bool := d.strapped
    let d1 := ((d.put I.FELT.STOPPED 1).put R.FELT.SUPERSEDED 1).put I.FELT.IDLE_DUE (if pair then 0 else 1)
    let d2 := d1.forN 6 (fun d r =>
      let st := d.get R.FELT.RING_STATE r
      if pair then (if st = ringReady || st = ringSingle then d.ringTo r ringRelay else d) else if st = ringRelay then d else d.ringTo r ringDown)
    let d3 := if pair then d2 else d2.forN 16 (fun d n => d.lfTo n 0)
    let d4 := d3.raise t 4 161 0
    if pair then ((d4.put I.PART.YIELD_DUE 1).put I.PART.HIZ 1).raise t 11 14 0 else d4

/-! Management requests (R167, R214). -/

/-- Queue a management request. -/
def Dev.ask (d : Dev) (ix hop op addr data slot why : Nat) : Dev :=
  let tag := (d.get I.FELT.TAG + 1) % 256
  { d.put I.FELT.TAG tag with mgt := d.mgt ++ [⟨ix, hop, op, addr, data, tag, slot, why, none⟩] }

/-- A(s) of a segment of a ring in q (R171). -/
def Dev.asym (d : Dev) (r s : Nat) : Int := (d.get I.FELT.DECL_E (r * 50 + s) : Int) - d.get I.FELT.DECL_W (r * 50 + s)

/-- The node parameters written to slot c (R171, R214, R241), each with its address: a contactor only where it is fitted, and
VCAP_OVP and T_MAX only where the sheet gives them. -/
def Dev.nodeParams (d : Dev) (c : Nat) : List (Nat × Nat) :=
  let h := d.get R.CELL.HOP c
  let sides := match d.cellLink c with
    | some ix => if ix < 6 then [(0x18, ofInt 16 (d.asym ix h)), (0x1C, ofInt 16 (d.asym ix (h + 1)))] else [(0x18, 0), (0x1C, 0)]
    | none => []
  let mech := if bitOf (d.get I.CELL.CAPS c) 8 = 1 then d.get R.MOD.MECH_EN else 0
  let ovp := d.get R.MOD.VCAP_OVP
  let tmax := d.get R.MOD.T_MAX
  [(0x10, d.get R.TB.TF), (0x14, d.get R.FELT.CELL_LINK_TIMEOUT)] ++ sides ++
    [(0x20, d.get R.MOD.DT_CELL), (0x24, d.get R.MOD.BYP_ALT), (0x28, d.get R.MOD.BYP_MECH_DELAY + 65536 * mech),
     (0x2C, d.get R.MOD.MECH_OPEN_MAX), (0x30, d.get R.MOD.DAB_PER)] ++
    (if ovp = 0 then [] else [(0x34, ovp)]) ++ (if tmax = 0x8000 then [] else [(0x38, tmax)])

/-- DISCOVER reads NODE_ID, CONTRACT and CAPS of slot c (R192). -/
def Dev.askIdentity (d : Dev) (c : Nat) : Dev :=
  match d.cellLink c with
  | none => d
  | some ix => [0, 4, 8].foldl (fun d a => d.ask ix (d.get R.CELL.HOP c) 1 a 0 c 0) d

/-- Write every node parameter to slot c. -/
def Dev.writeParams (d : Dev) (c : Nat) : Dev :=
  match d.cellLink c with
  | none => d
  | some ix => (d.nodeParams c).foldl (fun d p => d.ask ix (d.get R.CELL.HOP c) 2 p.1 p.2 c 1) d

/-- Write one node parameter to every mapped cell (R189, R214, R241). -/
def Dev.writeEvery (d : Dev) (addr : Nat) : Dev :=
  d.forN 144 (fun d c =>
    if !d.cellUsed c then d
    else match d.cellLink c, (d.nodeParams c).find? (fun p => p.1 = addr) with
      | some ix, some p => d.ask ix (d.get R.CELL.HOP c) 2 addr p.2 c 1
      | _, _ => d)

/-- DISCOVER of a ring, or the identity check of a Gen1 link, starts or is retried. -/
def Dev.discover (d : Dev) (ix : Nat) : Dev := (d.slotsOn ix).foldl Dev.askIdentity (d.discoverReset ix)

/-- Every cell of a link has been identified and written (bits 0 to 2 the three reads, bit 3 the writes). -/
def Dev.identified (d : Dev) (ix : Nat) : Bool := (d.slotsOn ix).all (fun c => d.get I.CELL.ID_BITS c = 15)

/-- DISCOVER is complete: the epoch is set and the ring goes to CALIBRATE (R181). -/
def Dev.discovered (d : Dev) (ix : Nat) : Dev :=
  if !d.identified ix then d
  else if ix < 6 then
    if d.get R.FELT.RING_STATE ix = ringDiscover && d.is I.FELT.HOPS_OK ix then (d.setEpoch).ringTo ix ringCal else d
  else if d.get R.FELT.LF_STATE (ix - 6) = lfTrain && d.is I.FELT.LANES ix then (d.setEpoch).lfTo (ix - 6) lfCal
  else d

/-- A node that does not meet the contract, or fails to answer, in DISCOVER (R193, R185). -/
def Dev.badNode (d : Dev) (t ix : Nat) : Dev := d.linkRaise t ix 5 (some 2)

/-- What a DISCOVER read must return (R185, R193): the generation of the link, a CONTRACT major of 1, a PREP_T of at most 1 µs. -/
def readOk (ix addr data : Nat) : Bool :=
  match addr with
  | 0 => bitsOf data 15 12 = (if ix < 6 then 2 else 1)
  | 4 => bitsOf data 15 8 = 1
  | _ => bitsOf data 7 0 ≤ 100

/-- The register that holds a DISCOVER read. -/
def Dev.keepRead (d : Dev) (c addr data : Nat) : Dev :=
  match addr with
  | 0 => d.put R.CELL.NODE_ID data c
  | 8 => d.put I.CELL.CAPS data c
  | _ => d

/-- The bit of ID_BITS that a DISCOVER read completes. -/
def readBit (addr : Nat) : Nat := if addr = 0 then 0 else if addr = 4 then 1 else 2

/-- A DISCOVER read is answered: after the third, the parameters are written. A cell without EPS under an EPS sheet raises
modulation instance 17 (R243). -/
def Dev.readAnswered (d : Dev) (t c ix addr data : Nat) : Dev :=
  let d1 := d.keepRead c addr data
  if !readOk ix addr data then d1.badNode t ix
  else
    let d2 := d1.setBitOf I.CELL.ID_BITS (readBit addr) true c
    let d3 := if addr = 8 && d2.get I.MOD.DAB_METHOD = 2 && bitOf data 9 = 0 then d2.raise t 6 17 c else d2
    if d3.get I.CELL.ID_BITS c = 7 then d3.writeParams c else d3

/-- A parameter write is acknowledged: after the last one the cell's writes are complete. -/
def Dev.writeAnswered (d : Dev) (c ix : Nat) : Dev :=
  if d.mgt.any (fun q => q.slot = c && q.why = 1 && q.hop != 63) then d
  else (d.setBitOf I.CELL.ID_BITS 3 true c).discovered ix

/-- Raise cell instance 150 for slot c with an error code (R216). -/
def Dev.mgtError (d : Dev) (t c code : Nat) : Dev := d.raise t 5 150 (c + 256 * code)

/-- What an answer does for the request it answers (R214, R216): op 3 read response, 4 acknowledge, 5 error. -/
def Dev.mgtAnswered (d : Dev) (t : Nat) (q : MgtReq) (op data : Nat) : Dev :=
  if op = 5 then
    let d1 := d.mgtError t q.slot (bitsOf data 7 0)
    match q.why with
    | 0 => d1.badNode t q.link
    | 2 => d1.put R.CELL.CLR_RESULT 3 q.slot
    | 3 => d1.put I.CELL.ACT_WAIT 0 q.slot
    | 4 => d1.put I.CELL.ACT_WAIT 0 q.slot
    | _ => d1
  else
    match q.why with
    | 0 => d.readAnswered t q.slot q.link q.addr data
    | 1 => d.writeAnswered q.slot q.link
    | 2 => d.put R.CELL.CLR_RESULT 2 q.slot
    | 3 => d.ask q.link q.hop 2 0x40 (bitsOf data 15 8) q.slot 4
    | _ => d.put I.CELL.ACT_WAIT 0 q.slot

/-- Send what waits, at most two blocks a link a frame (R161), in the order queued; a write to hop 63 has no answer (R214). -/
def Dev.mgtDrain (d : Dev) : Dev :=
  let pick := (List.range 22).flatMap (fun ix => if d.linkOwned ix then (d.mgt.filter (fun q => q.link = ix && q.sent.isNone)).take 2 else [])
  let f := d.get R.TB.FRAME_NO_LIVE
  let d1 := pick.foldl (fun d q => (d.send (.mgt q.link q.hop q.op q.addr q.data q.tag (d.get R.FELT.OWN_EPOCH))).perf 0 7 q.link |>.carryRing q.link 20) d
  { d1 with mgt := (d1.mgt.map (fun q => if pick.contains q then { q with sent := some f } else q)).filter (fun q => !(q.hop = 63 && q.sent.isSome)) }

/-! Measurement blocks (R163, R167, R186, R216). -/

/-- The fields of a MEAS block, by offset in its payload (R167). -/
def meas (block off len : Nat) : Nat := bytesAt block (3 + off) len

/-- The block is a MEAS block with a valid CRC and no code violation, for the frame in progress (R167, R200). -/
def Dev.blockValid (d : Dev) (block viol : Nat) : Bool :=
  viol = 0 && bytesAt block 0 1 = 0x20 && bitOf block 14 = 0 && crc32 (leBytes 43 block) = bytesAt block 43 4 &&
    meas block 2 2 = d.get R.TB.FRAME_NO_LIVE % 65536

/-- A code violation or a discarded copy counted for the port it arrived at (R185, R186). -/
def Dev.portErrors (d : Dev) (ix : Nat) (west : Bool) (viol : Nat) (bad : Bool) : Dev :=
  let d1 := if ix < 6 then
      (d.bump (if west then R.FELT.RING_CODE_W else R.FELT.RING_CODE_E) ix viol).bump (if west then R.FELT.RING_CRC_W else R.FELT.RING_CRC_E) ix bad.toNat
    else (d.bump R.FELT.LF_CODE (ix - 6) viol).bump R.FELT.LF_CRC (ix - 6) bad.toNat
  (d1.perf 0 4 ix viol).bump I.FELT.WIN_ERR (if ix < 6 then 2 * ix + west.toNat else 12 + (ix - 6)) (viol + bad.toNat)

/-- The first quantity a block reports as unmeasurable (R199, R216): VCAP, IAC, IDAB, VDAB, T_HS, T_AUX. -/
def unmeasurable (block : Nat) : Option Nat :=
  (List.range 6).find? (fun k => meas block (8 + 2 * k) 2 = if k = 0 || k = 3 then 0xFFFF else 0x8000)

/-- The measured quantities of a block into the words of the slot, raw as the block holds them (07_cell_node_contract.md). -/
def Dev.keepQuantities (d : Dev) (c block : Nat) : Dev :=
  (((((d.put R.CELL.VCAP (meas block 8 2) c).put R.CELL.IAC (meas block 10 2) c).put R.CELL.IDAB (meas block 12 2) c).put R.CELL.VDAB
    (meas block 14 2) c).put R.CELL.T_HS (meas block 16 2) c).put R.CELL.T_AUX (meas block 18 2) c

/-- The measured quantities of a block become those that the CE and the Calender use (R16). -/
def Dev.useQuantities (d : Dev) (c block : Nat) : Dev := d.forN 6 (fun d k => d.put I.CELL.LAST_M (meas block (8 + 2 * k) 2) (6 * c + k))

/-- The link and state words of a block into the registers of the slot. -/
def Dev.keepReport (d : Dev) (c block : Nat) : Dev :=
  let st := meas block 4 1
  let d1 := d.onlyIf (st != d.get R.CELL.CELL_STATE c) (fun d => d.sumAll R.HIF.SUM_CELL)
  let d1 := d1.onlyIf (st % 16 = 1 && d.get R.CELL.CELL_STATE c % 16 != 1 && d.is I.CELL.EVER c) (fun d => d.bump R.CELL.BYP_ENTRIES c)
  let d2 := (((d1.put R.CELL.ECHO_EPOCH (meas block 0 2) c).put R.CELL.CELL_STATE st c).put R.CELL.EVENT (meas block 5 1) c).put R.CELL.LOCAL_FAULT
    (meas block 6 2) c
  let d3 := (((d2.put R.CELL.TIME_DIR (bitOf (meas block 5 1) 7) c).put R.CELL.RES_E (meas block 28 2) c).put R.CELL.RES_W (meas block 30 2) c).putInt R.CELL.BT_DIFF
    (toInt 24 (meas block 32 3)) c
  ((d3.put R.CELL.EXEC_CRC (meas block 36 4) c).put I.CELL.WP_DIFF (meas block 22 3) c).put I.CELL.EP_DIFF (meas block 25 3) c

/-- LATE and WDR_EXEC of the slot take the modulo-256 differences of CNT (R187), with instances 144 and 145 (R216). -/
def Dev.keepCounts (d : Dev) (t c block : Nat) : Dev :=
  let late := meas block 20 1
  let wdr := meas block 21 1
  let dl := if d.is I.CELL.EVER c then (late + 256 - d.get I.CELL.LATE_TOT c) % 256 else 0
  let dw := if d.is I.CELL.EVER c then (wdr + 256 - d.get I.CELL.WDR_TOT c) % 256 else 0
  let d1 := (((d.put I.CELL.LATE_TOT late c).put I.CELL.WDR_TOT wdr c).bump R.CELL.LATE c dl).bump R.CELL.WDR_EXEC c dw
  let d2 := d1.onlyIf (dl != 0) (fun d => d.raise t 5 144 (c + 256 * dl))
  d2.onlyIf (dw != 0) (fun d => d.raise t 5 145 (c + 256 * dw))

/-- The state and events a block reports, judged against what was posted (R185, R216); a report that takes the cell out of
modulation (R222). -/
def Dev.judgeReport (d : Dev) (t c block : Nat) : Dev :=
  let ev := meas block 5 1
  let st := meas block 4 1 % 16
  let cause := meas block 4 1 / 16
  let posted := d.is I.CELL.EXEC_POSTED c
  let d1 := d.onlyIf (bitOf ev 2 = 1) (fun d => (d.bump R.CELL.NO_CMD c).raise t 5 146 c)
  let d2 := d1.onlyIf (bitOf ev 6 = 1) (fun d => d.raise t 5 147 c)
  let d3 := d2.onlyIf (st = 1 && (cause = 2 || cause = 4 || cause = 5) && posted && !d.is I.CELL.EXEC_BYP c)
    (fun d => (d.put I.CELL.REMOVE 1 c).raise t 5 c (c + 256 * cause))
  let d3 := d3.onlyIf ((d.get R.MOD.SLOT_ROLE c = 5 && (st = 1 || st = 2)) ||
      (d.get R.MOD.SLOT_ROLE c = 4 && (bitOf ev 4 = 1 || meas block 6 2 % 2048 != 0))) (fun d => d.put I.CELL.REMOVE 1 c)
  let d4 := d3.onlyIf (st = 3 && posted && d.is I.CELL.EXEC_BYP c) (fun d => d.raise t 5 149 c)
  match d.cellLink c with
  | some ix =>
    let crc := meas block 36 4
    let bad : Bool := if d.is I.CELL.EXEC_WDR c then crc != 0
      else posted && crc != d.get I.CELL.EXEC_CRC_E c && crc != d.get I.CELL.EXEC_CRC_W c
    if ix < 6 && bad then (d4.bump R.CELL.EXEC_MISMATCH c).ringRaise t ix 15 else d4
  | none => d4

/-- The echoed epoch (R180): a lower one for CELL_LINK_TIMEOUT posted frames raises instance 14 of the ring; a higher one
supersedes the module. -/
def Dev.judgeEcho (d : Dev) (t c echo : Nat) : Dev :=
  let own := d.get R.FELT.OWN_EPOCH
  let d1 := if higher own echo then
      (if d.is I.CELL.EXEC_POSTED c then
        let d1 := d.bump I.CELL.LOW_RUN c
        if d.get R.FELT.CELL_LINK_TIMEOUT ≤ d1.get I.CELL.LOW_RUN c then
          match d.cellLink c with | some ix => (if ix < 6 then d1.ringRaise t ix 14 else d1) | none => d1
        else d1
       else d)
    else d.put I.CELL.LOW_RUN 0 c
  let d2 := if echo = own && d.is I.PART.TO_WAIT then (d1.put I.PART.TO_WAIT 0).raise t 11 4 (d.get I.PART.TO_BND) else d1
  if own != 0 && higher echo own && d.mode != .mirror then d2.supersede t else d2

/-- A cell voltage at or above TEST_VMAX in TEST: instance 7 and every pulse generator blocked (R148). -/
def Dev.testLimit (d : Dev) (t c : Nat) : Dev :=
  if d.mode = .test && 20 * d.get R.MODE.TEST_VMAX ≤ d.measured c 0 then (d.put I.MODE.TEST_BLOCK 1).raiseState t 3 7 c else d

/-- A cell still shows TRIP_HELD after the trip was released: its TRIP_ID is read (R209). -/
def Dev.heldTrip (d : Dev) (c ix block : Nat) : Dev :=
  if bitOf (meas block 5 1) 4 = 1 && !d.is I.FLT.TRIP_ON && d.get I.FELT.TRIP_WAS = 0 && !d.is I.CELL.ACT_WAIT c && d.linkOwned ix then
    (d.ask ix (d.get R.CELL.HOP c) 1 0x50 0 c 3).put I.CELL.ACT_WAIT 1 c
  else d

/-- The first valid copy of slot c's block in this frame is taken. -/
def Dev.takeBlock (d : Dev) (t c ix block : Nat) : Dev :=
  let d1 := ((d.keepReport c block).keepQuantities c block).keepCounts t c block
  let d2 := match unmeasurable block with
    | some k => (d1.put I.CELL.UNMEAS 1 c).raise t 5 148 (c + 256 * k)
    | none => d1.useQuantities c block
  let d3 := (((d2.put I.CELL.GOT 1 c).put I.CELL.BLK_NS (t + 1) c).onlyIf (!d.is I.CELL.EVER c) (fun d => (d.put I.CELL.EVER 1 c).put I.CELL.FIRST 1 c)).onlyIf
    (d.is I.CELL.LOST c) (fun d => d.lower 5 c)
  (((d3.judgeReport t c block).testLimit t c).judgeEcho t c (meas block 0 2)).heldTrip c ix block

/-- The RTT of a Gen1 link from its own loop time and the node's difference (R182). -/
def Dev.lfRtt (d : Dev) (n : Nat) : Dev :=
  match d.slotAt (6 + n) 0 with
  | some c => d.put R.FELT.LF_RTT ((d.get I.FELT.L1_MEAS (6 + n) : Int) + toInt 24 (d.get I.CELL.WP_DIFF c)).toNat n
  | none => d

/-- A copy of a block of slot c with a valid CRC, before the cut-off. -/
def Dev.goodCopy (d : Dev) (t c ix block atNs : Nat) : Dev :=
  let west := bitOf block 15 = 1
  let d1 := if d.is I.CELL.GOT c then d else d.takeBlock t c ix block
  let d2 := d1.put (if west then I.CELL.GOT_W else I.CELL.GOT_E) 1 c
  if ix < 6 then d2.put R.FELT.RING_UP_LAST atNs ix else d2.lfRtt (ix - 6)

/-- MEAS_BLOCK_RX (R163, R186, R216); a ring in RELAY forwards the block, and the cell table takes it all the same (R157). -/
def execMeasBlockRx (link : Link) (side : Side) (block : BitVec 376) (violations : BitVec 8) (atNs : BitVec 16) (s : State) :
    Host.Outcome State Fault Refusal :=
  s.onDev fun d =>
    let ix := linkIx link
    let b := block.toNat
    let west : Bool := side = .w
    let ok := d.blockValid b violations.toNat
    let d1 := ((d.portErrors ix west violations.toNat (!ok)).carryIn ix west 48).onlyIf (ix < 6 && d.get R.FELT.RING_STATE ix = ringRelay) (fun d =>
      (d.send (.blockRelay ix (!west) b)).carry (4 * ix + (if west then 0 else 2)) 48)
    match d.slotAt ix (bitsOf b 13 8) with
    | none => d1
    | some c =>
      if !ok then (d1.bump (if bitOf b 15 = 1 then R.CELL.CRC_W else R.CELL.CRC_E) c).perf 0 3 ix
      else if d.is I.FELT.CUT ix then
        let d2 := (d1.bump R.CELL.LATE_UP c).perf 0 5 ix
        if ix < 6 then (d2.ringRaise s.clk.ns ix 10).settle s.clk.ns else d2
      else (d1.goodCopy s.clk.ns c ix b atNs.toNat).settle s.clk.ns

/-! The asymmetry supervision (R174, R175). -/

/-- Segments of a ring: 0 to N, and N + 1 in a pair (R156, R157). -/
def Dev.segCount (d : Dev) (r : Nat) : Nat := d.get I.FELT.NCELLS r + (if d.is R.FELT.PAIR then 2 else 1)

/-- End A of a pair, or the only module, sends its east-going marker into segment 0 (R157). -/
def Dev.endB (d : Dev) : Bool := d.is R.FELT.PAIR && d.get R.PART.STRAP = 2

/-- The last segment of an east-going marker's way round. -/
def Dev.lastEast (d : Dev) (r : Nat) : Nat := if d.endB then d.get I.FELT.NCELLS r else d.segCount r - 1

/-- The last segment of a west-going marker's way round. -/
def Dev.lastWest (d : Dev) (r : Nat) : Nat := if d.endB then d.get I.FELT.NCELLS r + 1 else 0

/-- EP_DIFF of the node before segment s, when it reported one. -/
def Dev.epBefore (d : Dev) (r s : Nat) : Option Int :=
  if s = 0 then (if d.is I.FELT.OWN_EP_OK r then some (toInt 24 (d.get I.FELT.OWN_EP r)) else none)
  else match d.slotAt r (s - 1) with
    | some c => if d.is I.CELL.GOT c then some (toInt 24 (d.get I.CELL.EP_DIFF c)) else none
    | none => none

/-- WP_DIFF of the node after segment s, when it reported one. -/
def Dev.wpAfter (d : Dev) (r s : Nat) : Option Int :=
  match d.slotAt r s with
  | some c => if d.is I.CELL.GOT c then some (toInt 24 (d.get I.CELL.WP_DIFF c)) else none
  | none => if d.is I.FELT.OWN_WP_OK r then some (toInt 24 (d.get I.FELT.OWN_WP r)) else none

/-- The round trips of the segments of a ring, as this frame's blocks and own differences give them (R171). -/
def Dev.segments (d : Dev) (r : Nat) : Dev :=
  d.forN (d.segCount r) (fun d s =>
    match d.epBefore r s, d.wpAfter r s with
    | some e, some w => d.put R.FELT.SEG_RTT (e + w).toNat (r * 50 + s)
    | _, _ => d)

/-- The step of a segment's round trip from the previous frame, in q. -/
def Dev.segStep (d : Dev) (r s : Nat) : Nat :=
  ((d.get R.FELT.SEG_RTT (r * 50 + s) : Int) - d.get I.FELT.PREV_RTT (r * 50 + s)).natAbs

/-- The segments that stepped by more than SEG_STEP_THR. -/
def Dev.stepped (d : Dev) (r : Nat) : List Nat :=
  (List.range (d.segCount r)).filter (fun s => d.get R.FELT.SEG_STEP_THR < d.segStep r s)

/-- ASYM_THR in 1/16 q. -/
def Dev.asymThr (d : Dev) : Nat := 16 * d.get R.FELT.ASYM_THR

/-- The supervision of one frame of READY (R174, R175). A located change that the markers already carry stands in
FR_ASYM_DELTA and is no new change. -/
def Dev.asymJudge (d : Dev) (t r : Nat) : Dev :=
  let now : Int := d.getInt I.FELT.RHO_NOW r - d.getInt I.FELT.RHO_REF r
  let active : Bool := d.is R.FELT.RING_ASYM_ACTIVE r
  let new : Int := now - (if active then d.getInt R.FELT.RING_ASYM_DELTA r else 0)
  if new.natAbs ≤ d.asymThr then d
  else
    match d.stepped r with
    | [s] =>
      let off : Int := (16 * d.segStep r s : Int) - new.natAbs
      if !active && off.natAbs ≤ d.asymThr then
        (((d.put R.FELT.RING_ASYM_ACTIVE 1 r).put R.FELT.RING_ASYM_SEG s r).putInt R.FELT.RING_ASYM_DELTA now r).ringRaise t r 6
      else (d.put R.FELT.RING_HOLD 1 r).ringRaise t r 7
    | _ => (d.put R.FELT.RING_HOLD 1 r).ringRaise t r 7

/-- The checks of a ring's frame once its loops and its blocks are in, or UP_CUT has passed: segments, asymmetry, and in
CALIBRATE the residual (R174, R181). -/
def Dev.asymCheck (d : Dev) (t r : Nat) : Dev :=
  if d.is I.FELT.ASYM_DONE r then d
  else
    let both : Bool := d.is I.FELT.SEEN_E r && d.is I.FELT.SEEN_W r
    let blocks : Bool := d.is I.FELT.CUT r || (d.slotsOn r).all (fun c => d.is I.CELL.GOT c)
    let d0 := if blocks then d.segments r else d
    if !blocks then d0
    else if both && d.get R.FELT.RING_STATE r = ringReady then (d0.put I.FELT.ASYM_DONE 1 r).asymJudge t r
    else if both && d.get R.FELT.RING_STATE r = ringCal && d.asymThr < (d.getInt I.FELT.RHO_NOW r).natAbs then
      ((d0.put I.FELT.ASYM_DONE 1 r).put I.FELT.STABLE_RUN 0 r).ringRaise t r 7
    else d0

/-- UP_CUT (R16, R17, R163, R186): stale marks, MISS and MISS_RUN of every cell of the link; later copies are discarded. -/
def Dev.upCut (d : Dev) (t ix : Nat) : Dev :=
  if d.is I.FELT.CUT ix then d
  else
    let d1 := (d.slotsOn ix).foldl (fun d c =>
      if d.is I.CELL.GOT c then (d.put R.CELL.MISS_RUN 0 c).put R.CELL.STALE (d.get I.CELL.UNMEAS c) c
      else ((d.put R.CELL.STALE 1 c).bump R.CELL.MISS c).bump R.CELL.MISS_RUN c) (d.put I.FELT.CUT 1 ix)
    if ix < 6 then d1.asymCheck t ix else d1

/-- UP_CUT of a ring or Gen1 link passes. -/
def execUpCut (link : Link) (s : State) : Host.Outcome State Fault Refusal :=
  s.onDev fun d => (d.upCut s.clk.ns (linkIx link)).settle s.clk.ns

/-- CELL_LINK_LOSS (R186): BYP in every later frame, removal at step 6, and the cell-link fault. Only a cell that has delivered
a valid block, and misses CELL_LINK_TIMEOUT in a row, is lost. -/
def execCellLinkLoss (c : Fin 144) (s : State) : Host.Outcome State Fault Refusal :=
  s.onDev fun d =>
    if d.cellUsed c && d.is I.CELL.EVER c && d.get R.FELT.CELL_LINK_TIMEOUT ≤ d.get R.CELL.MISS_RUN c then
      (((d.put I.CELL.LOST 1 c).put I.CELL.REMOVE 1 c).raise s.clk.ns 5 c (c + 256 * 2) true).settle s.clk.ns
    else d

/-! Markers (R160, R165, R171 to R173, R538, R539). -/

/-- The marker's CRC16 holds, without a code violation, and it is the marker of the frame in progress (R165). -/
def Dev.markerValid (d : Dev) (m viol : Nat) : Bool :=
  viol = 0 && crc16 (leBytes 13 m) = bytesAt m 13 2 && bytesAt m 0 2 = d.get R.TB.FRAME_NO_LIVE % 65536

/-- The hop count that a returned marker shows: bits [6:0] of HOPCNT, counted out and back by a turned one (R538). -/
def hopsOf (m : Nat) : Nat := let k := bytesAt m 10 1; if k < 128 then k else (k - 128 + 1) / 2

/-- The measured L1 of a link lies above the declared one by more than LAT_TOL, or, on a Gen1 link, above 9,500 ns (R185). -/
def Dev.latOver (d : Dev) (ix : Nat) : Bool :=
  if ix < 6 then d.get R.FELT.RING_L1_DECL ix + d.get R.FELT.LAT_TOL < d.get I.FELT.L1_MEAS ix
  else
    let l := d.get I.FELT.L1_MEAS ix / 2
    d.get I.FELT.LF_LAT (ix - 6) + 1600 + d.get R.FELT.LAT_TOL < l || 38000 < l

/-- L1 as measured in this frame, with instances 8 and 9 of a ring and g = 3 of a Gen1 link (R173, R185). -/
def Dev.l1Check (d : Dev) (t ix : Nat) : Dev :=
  if ix < 6 then
    let l := d.get I.FELT.L1_MEAS ix
    let d1 := d.onlyIf (d.latOver ix) (fun d => d.ringState t ix 8)
    d1.onlyIf (38000 < l) (fun d => d.ringState t ix 9)
  else
    d.onlyIf (d.latOver ix) (fun d => d.lfState t (ix - 6) 3)

/-- The loop time of a marker measured in this frame. -/
def Dev.loopTime (d : Dev) (ix q : Nat) (first : Bool) : Dev := d.put I.FELT.L1_MEAS (if first then q else max q (d.get I.FELT.L1_MEAS ix)) ix

/-- RTT of the last segment on an east-going marker's way, from its PEER and the own difference of the frame before; HOLD keeps the
last one (R171, R172). -/
def Dev.rttEast (d : Dev) (r m : Nat) (hold : Bool) : Dev :=
  let peer := bytesAt m 7 3
  if hold || peer = 0x800000 || !d.is I.FELT.OWN_WP_OK r then d
  else d.put I.FELT.RTT_LAST_E (toInt 24 peer + toInt 24 (d.get I.FELT.OWN_WP r)).toNat r

/-- The same on a west-going marker's way. -/
def Dev.rttWest (d : Dev) (r m : Nat) (hold : Bool) : Dev :=
  let peer := bytesAt m 7 3
  if hold || peer = 0x800000 || !d.is I.FELT.OWN_EP_OK r then d
  else d.put I.FELT.RTT_LAST_W (toInt 24 peer + toInt 24 (d.get I.FELT.OWN_EP r)).toNat r

/-- What the last segment adds to ACC on an east-going and on a west-going marker's way, in 1/16 q (R171). -/
def Dev.addEast (d : Dev) (r : Nat) : Int := 8 * ((d.get I.FELT.RTT_LAST_E r : Int) + d.asym r (d.lastEast r))
def Dev.addWest (d : Dev) (r : Nat) : Int := 8 * ((d.get I.FELT.RTT_LAST_W r : Int) - d.asym r (d.lastWest r))

/-- The boundary error of an east-going looped marker: B_E − B in 1/16 q (R171, R173). -/
def Dev.eastError (d : Dev) (r loopQ m : Nat) : Dev :=
  let d1 := d.rttEast r m (d.is R.FELT.RING_HOLD r)
  d1.putInt I.FELT.EPS_E ((16 * loopQ : Int) - bytesAt m 4 3 - d1.addEast r) r

/-- The boundary error of a west-going looped marker: B_W − B in 1/16 q. -/
def Dev.westError (d : Dev) (r loopQ m : Nat) : Dev :=
  let d1 := d.rttWest r m (d.is R.FELT.RING_HOLD r)
  d1.putInt I.FELT.EPS_W ((16 * loopQ : Int) - bytesAt m 4 3 - d1.addWest r) r

/-- The loop residual once both directions have looped (R173). -/
def Dev.residual (d : Dev) (r : Nat) : Dev :=
  if d.is I.FELT.SEEN_E r && d.is I.FELT.SEEN_W r then
    let rho := d.getInt I.FELT.EPS_E r - d.getInt I.FELT.EPS_W r
    (d.putInt I.FELT.RHO_NOW rho r).putInt R.FELT.RING_RHO (rho - d.getInt I.FELT.RHO_REF r) r
  else d

/-- The hop count of a returned marker, and instance 4 when it disagrees with the map in DISCOVER (R181, R185). -/
def Dev.hopCheck (d : Dev) (t r m : Nat) : Dev :=
  let n := d.get I.FELT.NCELLS r
  let ok : Bool := hopsOf m = n && bytesAt m 11 1 = n
  let d1 := (d.put R.FELT.RING_HOPS (hopsOf m) r).flag I.FELT.HOPS_OK ok r
  if d.get R.FELT.RING_STATE r != ringDiscover then d1 else if ok then d1.discovered r else d1.ringRaise t r 4

/-- The own difference at a port: the arrival of a marker less the departure of the one sent there (R171). -/
def Dev.ownDiff (d : Dev) (r : Nat) (west : Bool) (loopQ : Nat) : Dev :=
  if west then (d.put I.FELT.OWN_WP loopQ r).put I.FELT.OWN_WP_OK 1 r else (d.put I.FELT.OWN_EP loopQ r).put I.FELT.OWN_EP_OK 1 r

/-- A valid marker of a ring in RELAY goes out of the other port, updated as a cell node does but for HOPCNT (R157, R171); the
residence, at most 64 ns, is free. -/
def Dev.relayMarker (d : Dev) (t r : Nat) (west : Bool) (m loopQ : Nat) : Dev :=
  let hops := bytesAt m 10 1
  let trust := bytesAt m 12 1
  let d1 := if west then d.rttEast r m (bitOf trust 6 = 1) else d.rttWest r m (bitOf trust 6 = 1)
  let acc := ofInt 24 ((bytesAt m 4 3 : Int) + (if west then d1.addEast r else d1.addWest r) + 16 * (Config.relayResidence d.draws % 257 : Nat))
  let out : Out := .markerRelay r (!west) (bytesAt m 0 2) (bytesAt m 2 2) acc (d.get (if west then I.FELT.PEER_E else I.FELT.PEER_W) r) hops (bytesAt m 11 1) trust
  let d2 := if 128 ≤ hops then (d1.put I.FELT.TURNED 1 r).onlyIf (!west) (fun d => d.put I.FELT.TURN_E 1 r)
    else d1.put (if west then I.FELT.SEEN_E else I.FELT.SEEN_W) 1 r
  (((d2.ownDiff r west loopQ).send out).draw.carry (4 * r + (if west then 0 else 2)) 16).asymCheck t r

/-- A marker of ring r returns, valid, at a port. -/
def Dev.ringMarker (d : Dev) (t r : Nat) (west : Bool) (m loopQ : Nat) : Dev :=
  let turned : Bool := 128 ≤ bytesAt m 10 1
  let first : Bool := !d.is I.FELT.SEEN_E r && !d.is I.FELT.SEEN_W r && !d.is I.FELT.TURNED r
  let d1 := if turned then
      ((d.put I.FELT.TURNED 1 r).onlyIf (!west) (fun d => d.put I.FELT.TURN_E 1 r))
    else if west then (((d.eastError r loopQ m).put I.FELT.SEEN_E 1 r).put R.FELT.RING_LOOP_E loopQ r)
    else (((d.westError r loopQ m).put I.FELT.SEEN_W 1 r).put R.FELT.RING_LOOP_W loopQ r)
  (((((d1.ownDiff r west loopQ).loopTime r loopQ first).l1Check t r).residual r).hopCheck t r m).asymCheck t r

/-- A marker of Gen1 link n returns, valid. -/
def Dev.lfMarker (d : Dev) (t n loopQ : Nat) : Dev :=
  ((((d.put I.FELT.LF_SEEN 1 n).put I.FELT.L1_MEAS loopQ (6 + n)).lfRtt n).l1Check t (6 + n)).discovered (6 + n)

/-- MARKER_RX (R157, R165, R171, R173, R186): the marker bytes after K28.1, the time from the departure of the own marker at that port
in q. -/
def execMarkerRx (link : Link) (side : Side) (marker : BitVec 120) (loopQ : BitVec 24) (violations : BitVec 8) (s : State) :
    Host.Outcome State Fault Refusal :=
  s.onDev fun d =>
    let ix := linkIx link
    let west : Bool := side = .w
    let ok := d.markerValid marker.toNat violations.toNat
    let d1 := (d.portErrors ix west violations.toNat (!ok)).carryIn ix west 16
    if ok && ix < 6 && d.get R.FELT.RING_STATE ix = ringRelay then ((d1.perf 0 2 ix).relayMarker s.clk.ns ix west marker.toNat loopQ.toNat).settle s.clk.ns
    else if !ok || !d.linkOwned ix then d1
    else match link with
      | .ring r => ((d1.perf 0 2 ix).ringMarker s.clk.ns r west marker.toNat loopQ.toNat).settle s.clk.ns
      | .gen1 n => ((d1.perf 0 2 ix).lfMarker s.clk.ns n loopQ.toNat).settle s.clk.ns

/-- A direction of a ring is broken: instance 0 or 1, and READY becomes SINGLE (R181, R185). -/
def Dev.broken (d : Dev) (t r e : Nat) : Dev :=
  let st := d.get R.FELT.RING_STATE r
  if d.is R.FELT.RING_OPEN r || !(st = ringReady || st = ringSingle) then d
  else (if st = ringReady then d.ringTo r ringSingle else d).ringRaise t r e

/-- No marker returned at any port (R181, R185): instance 2 or g = 0, posting stops, TRAIN. -/
def Dev.allLost (d : Dev) (t ix : Nat) : Dev :=
  if ix < 6 then
    let st := d.get R.FELT.RING_STATE ix
    if st = ringDiscover || st = ringCal || st = ringReady || st = ringSingle then (d.toTrain ix).ringRaise t ix 2 else d
  else
    let st := d.get R.FELT.LF_STATE (ix - 6)
    if st = lfCal || st = lfUp then (d.toTrain ix).lfRaise t (ix - 6) 0 else d

/-- MARKER_TIMEOUT (R181, R185). -/
def execMarkerTimeout (link : Link) (miss : Missing) (s : State) : Host.Outcome State Fault Refusal :=
  s.onDev fun d =>
    let t := s.clk.ns
    match link, miss with
    | .ring r, .eastGoing => if d.is I.FELT.SEEN_E r then d else (d.broken t r 0).settle t
    | .ring r, .westGoing => if d.is I.FELT.SEEN_W r then d else (d.broken t r 1).settle t
    | .ring r, .all => if d.is I.FELT.SEEN_E r || d.is I.FELT.SEEN_W r || d.is I.FELT.TURNED r then d else (d.allLost t r).settle t
    | .gen1 n, _ => if d.is I.FELT.LF_SEEN n then d else (d.allLost t (6 + n)).settle t

/-- LANE_ALIGNED (R181): every lane of the link has 64 consecutive valid characters and a marker returns. -/
def execLaneAligned (link : Link) (s : State) : Host.Outcome State Fault Refusal :=
  s.onDev fun d =>
    let ix := linkIx link
    let d1 := d.put I.FELT.LANES 1 ix
    match link with
    | .ring r =>
      let st := d.get R.FELT.RING_STATE r
      if st = ringTrain then (d1.ringTo r ringDiscover).discover ix
      else if st = ringDown && d.strapped && !d.is R.PART.PRIMARY && d.is R.TB.PLL_T_LOCK then d1.ringTo r ringRelay
      else d1
    | .gen1 n => if d.get R.FELT.LF_STATE n = lfTrain then d1.discover ix else d1

/-- COMMA_LOSS (R185): instance 13 of the ring; the direction that arrives at the port is broken, as e = 0 or 1. -/
def execCommaLoss (link : Link) (side : Side) (s : State) : Host.Outcome State Fault Refusal :=
  s.onDev fun d =>
    let ix := linkIx link
    let d1 := d.put I.FELT.LANES 0 ix
    match link with
    | .ring r => if d.get R.FELT.RING_STATE r = ringDown then d1
        else ((d1.ringRaise s.clk.ns r 13).broken s.clk.ns r (if side = .w then 0 else 1)).settle s.clk.ns
    | .gen1 _ => d1

/-- TRAIN_TIMEOUT (R181): instance 2, or g = 0, raised once; training is retried. -/
def execTrainTimeout (link : Link) (s : State) : Host.Outcome State Fault Refusal :=
  s.onDev fun d =>
    let ix := linkIx link
    let inTrain : Bool := match link with
      | .ring r => d.get R.FELT.RING_STATE r = ringTrain
      | .gen1 n => d.get R.FELT.LF_STATE n = lfTrain
    if inTrain && !d.is I.FELT.TRAIN_RAISED ix then ((d.linkRaise s.clk.ns ix 2 (some 0)).put I.FELT.TRAIN_RAISED 1 ix).settle s.clk.ns else d

/-- DISCOVER_RETRY (R181): the identities are read again, 100 ms after a disagreement. -/
def execDiscoverRetry (link : Link) (s : State) : Host.Outcome State Fault Refusal :=
  s.onDev fun d =>
    match link with
    | .ring r => if d.get R.FELT.RING_STATE r = ringDiscover then d.discover r else d
    | .gen1 n => if d.get R.FELT.LF_STATE n = lfTrain && d.is I.FELT.LANES (6 + n) then d.discover (6 + n) else d

/-- ρ_ref recorded (R174). -/
def Dev.recordRef (d : Dev) (r : Nat) : Dev :=
  ((d.put I.FELT.RHO_REF (d.get I.FELT.RHO_NOW r) r).put I.FELT.HAS_REF 1 r).put R.FELT.RING_RHO 0 r

/-- CAL_SETTLE_DONE (R181, R539): from CALIBRATE to READY when both directions loop and to SINGLE on an open ring; from SINGLE
to READY on a ring that the felt sheet does not run open. -/
def execCalSettleDone (link : Link) (s : State) : Host.Outcome State Fault Refusal :=
  s.onDev fun d =>
    match link with
    | .ring r =>
      if d.get I.FELT.STABLE_RUN r < d.get R.FELT.CAL_SETTLE then d
      else if d.get R.FELT.RING_STATE r = ringCal then
        if d.is R.FELT.RING_EAST_OK r && d.is R.FELT.RING_WEST_OK r then ((d.recordRef r).ringTo r ringReady).settle s.clk.ns
        else d.ringTo r ringSingle
      else if d.get R.FELT.RING_STATE r = ringSingle && !d.is R.FELT.RING_OPEN r then
        (if d.is I.FELT.HAS_REF r then d else d.recordRef r).ringTo r ringReady
      else d
    | .gen1 n => if d.get R.FELT.LF_STATE n = lfCal && d.get R.FELT.CAL_SETTLE ≤ d.get I.FELT.LF_RUN n then d.lfTo n lfUp else d

/-- The errors of a ring port or a Gen1 link in the window that ends, above ERR_THR (R185); the next window starts at 0. -/
def Dev.errWindow (d : Dev) (t ix port : Nat) : Dev :=
  let d1 := if d.get R.FELT.ERR_THR < d.get I.FELT.WIN_ERR port then d.linkRaise t ix 3 (some 1) else d
  d1.put I.FELT.WIN_ERR 0 port

/-- MGT_RESPONSE_RX (R214, R216): the answer to a request that was sent on the link to the hop with this TAG; any other response
changes nothing. -/
def execMgtResponseRx (link : Link) (hop : BitVec 6) (op : BitVec 8) (tag : BitVec 8) (addr : BitVec 32) (data : Word) (s : State) :
    Host.Outcome State Fault Refusal :=
  s.onDev fun d =>
    let d := d.carryIn (linkIx link) false 20
    match d.mgt.find? (fun q => q.link = linkIx link && q.hop = hop.toNat && q.tag = tag.toNat && q.addr = addr.toNat && q.sent.isSome) with
    | none => d
    | some q =>
      if op.toNat < 3 || 5 < op.toNat then d
      else (Dev.mgtAnswered { d with mgt := d.mgt.erase q } s.clk.ns q op.toNat data.toNat).settle s.clk.ns

/-- A request that went unanswered for 2 frames: instance 150 with 0xFF, CLR_RESULT 4, and in DISCOVER instance 5 or g = 2. -/
def Dev.mgtLost (d : Dev) (t : Nat) (q : MgtReq) : Dev :=
  let d1 := (Dev.mgtError { d with mgt := d.mgt.erase q } t q.slot 0xFF)
  match q.why with
  | 0 => d1.badNode t q.link
  | 2 => d1.put R.CELL.CLR_RESULT 4 q.slot
  | 3 => d1.put I.CELL.ACT_WAIT 0 q.slot
  | 4 => d1.put I.CELL.ACT_WAIT 0 q.slot
  | _ => d1

/-- MGT_TIMEOUT (R216): the oldest request to slot c that was sent and not answered. -/
def execMgtTimeout (c : Fin 144) (s : State) : Host.Outcome State Fault Refusal :=
  s.onDev fun d =>
    match d.mgt.find? (fun q => q.slot = c.val && q.sent.isSome) with
    | none => d
    | some q => (d.mgtLost s.clk.ns q).settle s.clk.ns

/-! Direct writes of the windows, once the checks of a host write have passed. -/

/-- CLR_GO of slot c (R216): FAULT_CLR with CLR_MASK in the next frame; the result is pending. -/
def Dev.clrGo (d : Dev) (c mask : Nat) : Dev :=
  match d.cellLink c with
  | none => d
  | some ix => ((d.ask ix (d.get R.CELL.HOP c) 2 0x44 mask c 2).put R.CELL.CLR_RESULT 1 c)

/-- RETRAIN of ring r (R181): to TRAIN from any state but RELAY, for a ring that the active felt sheet enables. -/
def Dev.retrain (d : Dev) (r : Nat) : Dev :=
  if d.get R.FELT.RING_STATE r = ringRelay || !d.is I.FELT.RING_EN r then d else d.toTrain r

/-- ASYM_CLR of ring r (R176). -/
def Dev.asymClear (d : Dev) (r : Nat) : Dev :=
  (((d.put R.FELT.RING_ASYM_ACTIVE 0 r).put R.FELT.RING_HOLD 0 r).put R.FELT.RING_ASYM_SEG 0 r).put R.FELT.RING_ASYM_DELTA 0 r

/-- |ρ − ρ_ref| is at most ASYM_THR in this frame (R176). -/
def Dev.asymBack (d : Dev) (r : Nat) : Bool := (d.getInt R.FELT.RING_RHO r).natAbs ≤ d.asymThr

/-! The parts of a frame boundary that belong to the links. -/

/-- A ring's frame ends: EAST_OK, WEST_OK, the broken counters, the run of stable frames, the previous round trips (R181). -/
def Dev.ringEnds (d : Dev) (r : Nat) : Dev :=
  let e := d.is I.FELT.SEEN_E r
  let w := d.is I.FELT.SEEN_W r
  let st := d.get R.FELT.RING_STATE r
  if st = ringDown then d
  else
    let d1 := ((((d.flag R.FELT.RING_EAST_OK e r).flag R.FELT.RING_WEST_OK w r).bump R.FELT.RING_BROKEN_E r (!e).toNat).bump R.FELT.RING_BROKEN_W r (!w).toNat)
    let still : Bool := (List.range (d.segCount r)).all (fun s => d.segStep r s ≤ d.get R.FELT.SEG_STEP_THR)
    let near : Bool := (d.getInt (if d.is I.FELT.HAS_REF r && st = ringSingle then R.FELT.RING_RHO else I.FELT.RHO_NOW) r).natAbs ≤ d.asymThr
    let good : Bool :=
      if st = ringCal then still && (e || w || d.is I.FELT.TURNED r) && (!(e && w) || near)
      else st = ringSingle && !d.is R.FELT.RING_OPEN r && e && w && near
    let d2 := if st = ringCal || st = ringSingle then (if good then d1.bump I.FELT.STABLE_RUN r else d1.put I.FELT.STABLE_RUN 0 r) else d1
    let d3 := d2.forN (d.segCount r) (fun d s => d.put I.FELT.PREV_RTT (d.get R.FELT.SEG_RTT (r * 50 + s)) (r * 50 + s))
    let d4 := (d3.flag I.FELT.OWN_EP_OK (w || d.is I.FELT.TURN_E r) r).flag I.FELT.OWN_WP_OK (e || (d.is I.FELT.TURNED r && !d.is I.FELT.TURN_E r)) r
    let d5 := (d4.put I.FELT.PEER_E (if d4.is I.FELT.OWN_EP_OK r then d4.get I.FELT.OWN_EP r else 0x800000) r).put I.FELT.PEER_W
      (if d4.is I.FELT.OWN_WP_OK r then d4.get I.FELT.OWN_WP r else 0x800000) r
    ((((d5.put I.FELT.SEEN_E 0 r).put I.FELT.SEEN_W 0 r).put I.FELT.TURNED 0 r).put I.FELT.TURN_E 0 r).put I.FELT.ASYM_DONE 0 r

/-- A Gen1 link's frame ends. -/
def Dev.lfEnds (d : Dev) (n : Nat) : Dev :=
  if d.get R.FELT.LF_STATE n = 0 then d
  else
    let move := ((d.get R.FELT.LF_RTT n : Int) - d.get I.FELT.LF_PREV n).natAbs
    let good : Bool := d.is I.FELT.LF_SEEN n && move ≤ d.get R.FELT.SEG_STEP_THR
    let d1 := if d.get R.FELT.LF_STATE n = lfCal then (if good then d.bump I.FELT.LF_RUN n else d.put I.FELT.LF_RUN 0 n) else d
    (d1.put I.FELT.LF_PREV (d.get R.FELT.LF_RTT n) n).put I.FELT.LF_SEEN 0 n

/-- A cell's frame ends: PATH, and what the next frame starts with. -/
def Dev.cellEnds (d : Dev) (c : Nat) : Dev :=
  if !d.cellUsed c then d
  else
    let d1 := d.put R.CELL.PATH (d.get I.CELL.GOT_E c + 2 * d.get I.CELL.GOT_W c) c
    let d1 := if d.is I.CELL.GOT c then d1.bump I.CELL.GOOD_RUN c else d1.put I.CELL.GOOD_RUN 0 c
    (((d1.put I.CELL.GOT 0 c).put I.CELL.GOT_E 0 c).put I.CELL.GOT_W 0 c).put I.CELL.UNMEAS 0 c

/-- The command posted for the boundary becomes the one that executes in the new frame (R23). -/
def Dev.cellExecutes (d : Dev) (c : Nat) : Dev :=
  if !d.cellUsed c then d
  else
    let d1 := ((d.put I.CELL.EXEC_POSTED (d.get I.CELL.NEXT_POSTED c) c).put I.CELL.EXEC_BYP (d.get I.CELL.NEXT_BYP c) c).put I.CELL.EXEC_WDR
      (d.get I.CELL.NEXT_WDR c) c
    let d2 := (d1.put I.CELL.EXEC_CRC_E (d.get I.CELL.NEXT_CRC_E c) c).put I.CELL.EXEC_CRC_W (d.get I.CELL.NEXT_CRC_W c) c
    let d3 := ((((d2.put I.CELL.NEXT_POSTED 0 c).put I.CELL.NEXT_BYP 0 c).put I.CELL.NEXT_WDR 0 c).put I.CELL.NEXT_REV 0 c)
    let d4 := ((d3.put I.MOD.NSW_LAST (d.get I.MOD.NSW_EXEC c) c).put I.MOD.NSW_EXEC (d.get I.MOD.NSW_NEXT c) c).put I.MOD.NSW_NEXT 0 c
    ((d4.put I.MOD.DAB_LAST (d.get I.MOD.DAB_EXEC c) c).put I.MOD.DAB_EXEC (d.get I.MOD.DAB_NEXT c) c).put I.MOD.DAB_NEXT 0 c

/-- The frame ends on every link: an UP_CUT that no command has brought passes at the latest now. -/
def Dev.feltEnds (d : Dev) (t : Nat) : Dev :=
  let d0 := d.forN 22 (fun d ix => if (d.slotsOn ix).isEmpty then d else d.upCut t ix)
  let d1 := d0.put R.FELT.MAX_ECHO (d0.topEcho ((List.range 144).filter (fun c => d0.cellUsed c && d0.is I.CELL.GOT c)))
  let d2 := (d1.forN 6 Dev.ringEnds).forN 16 Dev.lfEnds
  ((d2.forN 144 (fun d c => (d.cellEnds c).cellExecutes c)).fill I.FELT.CUT 0).fill I.FELT.WDR_SENT 0

/-- Rings and links that may come up do so (R181); those disabled, or without PLL_T, go DOWN. -/
def Dev.feltUp (d : Dev) : Dev :=
  let may : Bool := d.is R.TB.PLL_T_LOCK && (!d.strapped || d.is R.PART.PRIMARY) && !d.is I.FELT.STOPPED
  let d1 := d.forN 6 (fun d r =>
    let st := d.get R.FELT.RING_STATE r
    if !d.is I.FELT.RING_EN r || !d.is R.TB.PLL_T_LOCK then (if st = ringDown then d else d.ringTo r ringDown)
    else if st = ringDown && may then d.toTrain r else d)
  d1.forN 16 (fun d n =>
    let st := d.get R.FELT.LF_STATE n
    if !d.is I.FELT.LF_EN n || !d.is R.TB.PLL_T_LOCK then (if st = 0 then d else d.lfTo n 0)
    else if st = 0 && may then d.toTrain (6 + n) else d)

/-- The trip of the frame: a TRIP block to hop 63 while a trip is in force, and TRIP_CLR to hop 63 one full frame after it has
been released (R170, R209). -/
def Dev.tripFrame (d : Dev) : Dev :=
  let links := (List.range 22).filter d.linkOwned
  if d.is I.FLT.TRIP_ON then
    links.foldl (fun d ix => d.carryRing ix 16) ((d.put I.FELT.TRIP_WAS 2).onlyIf (!links.isEmpty) (fun d =>
      d.send (.tripBlock (d.get I.FELT.TRIP_ID) (d.get I.FELT.TRIP_SRC) (d.get I.FELT.TRIP_NS) (d.get R.FELT.OWN_EPOCH))))
  else match d.get I.FELT.TRIP_WAS with
    | 2 => d.put I.FELT.TRIP_WAS 1
    | 1 => links.foldl (fun d ix => d.ask ix 63 2 0x40 (d.get I.FELT.TRIP_ID) 255 4) (d.put I.FELT.TRIP_WAS 0)
    | _ => d

/-- PEER of the marker sent on a link: the own difference of the frame before at the far side (R165, R171). -/
def Dev.peerOf (d : Dev) (ix : Nat) (f : Fld) : Nat := if ix < 6 then d.get f ix else 0x800000

/-- The boundary markers of every link that originates them, with the PEER of the east-going and of the west-going one (R160, R165). -/
def Dev.markers (d : Dev) : Dev :=
  d.forN 22 (fun d ix =>
    if !d.linkOwned ix then d
    else
      let trust := if ix < 6 then
          128 * d.get R.FELT.RING_ASYM_ACTIVE ix + 64 * d.get R.FELT.RING_HOLD ix + (if d.is R.FELT.RING_ASYM_ACTIVE ix then d.get R.FELT.RING_ASYM_SEG ix else 0)
        else 0
      (d.send (.marker ix (d.get R.TB.FRAME_NO_LIVE) (d.get R.FELT.OWN_EPOCH) trust (d.peerOf ix I.FELT.PEER_E) (d.peerOf ix I.FELT.PEER_W))).perf 0 1 ix (if ix < 6 then 2 else 1) |>.carryRing ix 16)

/-- The measured L1 of the slowest link that carries traffic, in q; half of a Gen1 link's loop. -/
def Dev.l1Measured (d : Dev) : Nat :=
  maxOf ((List.range 22).map (fun ix => if d.linkPosts ix then (if ix < 6 then d.get I.FELT.L1_MEAS ix else d.get I.FELT.L1_MEAS ix / 2) else 0))

/-- The feasibility rule with the measured latencies (R21), in q: Tf ≥ 2 L1 + CE compute time + 2 µs. -/
def Dev.feasible (d : Dev) (len : Nat) : Bool := 2 * d.l1Measured + 4 * d.get R.CE.CE_TIME_DECL + 8000 ≤ 8 * len

/-- R21 for the frame that ends, in the modes it names: FEAS_FAIL and instance 160. -/
def Dev.feasCheck (d : Dev) (t len : Nat) : Dev :=
  if !d.inMode [.precharge, .sync, .run, .degraded, .rideThrough] then d.put R.FELT.FEAS_FAIL 0
  else if d.feasible len then d.put R.FELT.FEAS_FAIL 0 else (d.put R.FELT.FEAS_FAIL 1).raiseState t 4 160 0

end Sys2Proof.Machine
end

