-- ==== Sys2Proof/Machine/Calender.lean ====
section
/-! DEFINITION. The Calender (09_calender_balancing.md): cell sets, the sort, string currents, tenure and selection, offsets,
the inter-string term, and the meanings of CALENDER_PASS_A and SPREAD_ALARM. -/
namespace Sys2Proof.Machine

/-! Slot roles (R218). -/
def roleUnused : Nat := 0
def roleOut : Nat := 1
def roleHeld : Nat := 2
def roleSpare : Nat := 3
def rolePark : Nat := 4
def roleActive : Nat := 5

def Dev.role (d : Dev) (c : Nat) : Nat := d.get R.MOD.SLOT_ROLE c

/-- String s exists (R188). -/
def Dev.strExists (d : Dev) (s : Nat) : Bool := bitOf (d.get I.MOD.STR_MASK) s = 1
def Dev.strings (d : Dev) : List Nat := (List.range 6).filter d.strExists

/-- Insert into a list sorted by a key; an equal key goes after. -/
def insertBy {α : Type} (key : α → Nat) (a : α) : List α → List α
  | [] => [a]
  | b :: l => if key a < key b then a :: b :: l else b :: insertBy key a l

/-- A stable sort by a key. -/
def sortBy {α : Type} (key : α → Nat) (l : List α) : List α := l.foldl (fun acc a => insertBy key a acc) []

/-- The slots of string s in order of position. -/
def Dev.strSlots (d : Dev) (s : Nat) : List Nat :=
  sortBy (fun c => d.get I.CELL.POS c) ((List.range 144).filter (fun c => d.cellUsed c && d.get I.CELL.STRING c = s))

/-- The balance set of string s (R247): its ACTIVE cells less those that R222 leaves out. -/
def Dev.balanceSet (d : Dev) (s : Nat) : List Nat := (d.strSlots s).filter (fun c => d.role c = roleActive && !d.is I.CELL.REMOVE c)

/-- VCAP of slot c in the raw unit of 0.05 V; 0 before the first valid block (R17). -/
def Dev.vcap (d : Dev) (c : Nat) : Nat := if d.is I.CELL.EVER c then d.measured c 0 else 0
/-- IAC of slot c in 0.01 A. -/
def Dev.iac (d : Dev) (c : Nat) : Int := if d.is I.CELL.EVER c then d.measuredInt c 1 else 0

/-- The cell delivered a valid block of this frame with every quantity measurable: it is not stale (R16, R216). -/
def Dev.fresh (d : Dev) (c : Nat) : Bool := d.is I.CELL.GOT c && !d.is I.CELL.UNMEAS c

/-- A raw sum of 0.05 V units as volts in a format, over n. -/
def voltsOf (F : Fmt) (raw : Nat) (n : Nat := 1) : Nat := F.ofRatio raw (20 * n)

def sumNat (l : List Nat) : Nat := l.foldl (· + ·) 0

/-- The cells whose mean is VMEAN_s (R247). -/
def Dev.meanSet (d : Dev) (s : Nat) : List Nat :=
  let bal := d.balanceSet s
  if !bal.isEmpty then bal
  else
    let park := (d.strSlots s).filter (fun c => d.role c = rolePark)
    if !park.isEmpty then park else (d.strSlots s).filter d.fresh

/-- VMEAN_s as binary32 (R247). -/
def Dev.vmean (d : Dev) (s : Nat) : Nat :=
  let l := d.meanSet s
  if l.isEmpty then 0 else voltsOf b32 (sumNat (l.map d.vcap)) l.length

/-- The direction of a current against I_DB (R250): 0, 1 positive, 2 negative. -/
def Dev.direction (d : Dev) (i : Nat) : Nat :=
  let db := d.get R.CAL.I_DB
  if b32.lt db i then 1 else if b32.lt i (b32.neg db) then 2 else 0

/-- The least and the greatest VCAP of a set, with their positions: the cells of the lowest and of the highest RANK (R248). DEDUCED. -/
def Dev.extremes (d : Dev) (bal : List Nat) : Nat × Nat × Nat × Nat :=
  match sortBy d.vcap bal with
  | [] => (0, 0, 0, 0)
  | c :: l =>
    let top := (l.getLast?).getD c
    (d.vcap c, d.get I.CELL.POS c, d.vcap top, d.get I.CELL.POS top)

/-- Errors, ranks and spread of string s (R247, R248). -/
def Dev.passASort (d : Dev) (s : Nat) : Dev :=
  let bal := d.balanceSet s
  let vm := d.vmean s
  let d1 := (d.strSlots s).foldl (fun d c =>
    let inIt : Bool := bal.contains c || d.role c = rolePark
    (d.put R.CAL.SLOT_E (if inIt && vm != 0 then b32.sub (voltsOf b32 (d.vcap c)) vm else 0) c).flag R.CAL.SLOT_STALE (!d.fresh c) c) d
  let d2 := (sortBy d.vcap bal).zipIdx.foldl (fun d p => d.put R.CAL.SLOT_RANK p.2 p.1) d1
  let (lo, loPos, hi, hiPos) := d.extremes bal
  (((((d2.put R.CAL.STR_VMEAN vm s).put R.CAL.STR_SPREAD (hi - lo) s).put R.CAL.STR_MIN_POS loPos s).put R.CAL.STR_MAX_POS hiPos s).put I.CAL.BAL_N bal.length s)

/-- The run of frames above SPREAD_MAX, in 0.1 % of VCELL_NOM (R260). -/
def Dev.passASpread (d : Dev) (s : Nat) : Dev :=
  let wide : Bool := d.get R.CAL.SPREAD_MAX * d.get R.MOD.STR_VCELL_NOM s < 1000 * d.get R.CAL.STR_SPREAD s
  let d1 := if wide then d.bump R.CAL.STR_SPREAD_RUN s else (d.put R.CAL.STR_SPREAD_RUN 0 s).put I.CAL.SPREAD_RAISED 0 s
  d1.setBitOf R.CAL.SPREAD_ALM s (d.get R.CAL.SPREAD_FRAMES ≤ d1.get R.CAL.STR_SPREAD_RUN s && wide)

/-- The string current and its direction; without an IAC, 0 and the no-current instance in a string posted its law (R250). -/
def Dev.passACurrent (d : Dev) (t s : Nat) : Dev :=
  let l := (d.balanceSet s).filter d.fresh
  let i := if l.isEmpty then 0 else b32.ofRatio ((l.map d.iac).foldl (· + ·) 0) (100 * l.length)
  let dir := d.direction i
  let d1 := (((d.put R.CAL.STR_I_STR i s).put R.CAL.STR_CUR_DIR dir s).setBitOf R.CAL.NO_CUR s l.isEmpty).setBitOf R.CAL.DEADBAND s (dir = 0)
  if l.isEmpty && d.is I.CAL.POSTS s then d1.raiseState t 6 (56 + s) 0 else d1

/-- The filtered mean of a string with a non-empty balance set (R254, R258). -/
def Dev.passAFilter (d : Dev) (s : Nat) : Dev :=
  if d.get I.CAL.BAL_N s = 0 then d
  else
    let vm := d.get R.CAL.STR_VMEAN s
    let vf := d.get R.CAL.STR_VMEANF s
    if d.is I.CAL.VF_SET s then d.put R.CAL.STR_VMEANF (b32.add vf (b32.mul (d.get R.CAL.VM_FILT) (b32.sub vm vf))) s
    else (d.put R.CAL.STR_VMEANF vm s).put I.CAL.VF_SET 1 s

/-- The strings that take part in VM_ALL and in the sums (R254). -/
def Dev.balStrings (d : Dev) : List Nat := d.strings.filter (fun s => d.get I.CAL.BAL_N s != 0)

/-- VM_ALL and the string errors (R254). DEDUCED: no mean is formed of no strings, so VM_ALL keeps its value. -/
def Dev.stringErrors (d : Dev) : Dev :=
  let l := d.balStrings
  let all := if l.isEmpty then d.get R.CAL.VM_ALL else b32.div (b32.sum (l.map (fun s => d.get R.CAL.STR_VMEANF s))) (b32.ofInt l.length)
  d.strings.foldl (fun d s =>
    d.put R.CAL.STR_ES (if l.isEmpty || !d.is I.CAL.VF_SET s then 0 else b32.sub (d.get R.CAL.STR_VMEANF s) all) s) (d.put R.CAL.VM_ALL all)

/-- −g · Σ (ES_s x_s) / (Σ x_s² + f²) over the strings that take part (R255, R256). -/
def Dev.interTerm (d : Dev) (g f : Nat) (x : Nat → Nat) : Nat :=
  let l := d.balStrings
  let num := b32.sum (l.map (fun s => b32.mul (d.get R.CAL.STR_ES s) (x s)))
  let den := b32.add (b32.sum (l.map (fun s => b32.mul (x s) (x s)))) (b32.mul f f)
  b32.div (b32.mul (b32.neg g) num) den

/-- The inter-string term (R246, R255, R256), its clamp, count and instance 48. -/
def Dev.interString (d : Dev) (t : Nat) : Dev :=
  let mode := d.get R.CAL.INTER
  let on : Bool := (mode = 1 || mode = 2) && d.strings.all (fun s => d.is I.CAL.POSTS s)
  let raw := if mode = 1 then d.interTerm (d.get R.CAL.ZS_GAIN) (d.get R.CAL.ZS_IFLOOR) (fun s => d.get R.CAL.STR_I_STR s)
    else d.interTerm (d.get R.CAL.CC_GAIN) (d.get R.CAL.CC_VFLOOR) (fun s => d.get I.CE.VSTAR s)
  let lim := if mode = 1 then d.get R.CAL.ZS_MAX else d.get R.CAL.CC_MAX
  let v := if on then b32.clamp raw (b32.neg lim) lim else 0
  let sat : Bool := on && (b32.lt lim raw || b32.lt raw (b32.neg lim))
  let d1 := ((d.put R.CAL.INTER_OUT v).flag R.CAL.INTER_SAT sat).bump R.CAL.INTER_SAT_CNT 0 sat.toNat
  if sat && !d.is R.CAL.INTER_SAT then d1.raise t 6 48 mode else d1

/-- The blocks of string s are in, or their UP_CUT has passed (R245). -/
def Dev.blocksIn (d : Dev) (s : Nat) : Bool :=
  (d.strSlots s).all (fun c => d.is I.CELL.GOT c || (match d.cellLink c with | some ix => d.is I.FELT.CUT ix | none => true))

/-- The frames in which a parked cell of string s has been within RET_BAND of the mean of its ACTIVE cells, in state ACTIVE
(R233). -/
def Dev.bandRuns (d : Dev) (s : Nat) : Dev :=
  let act := (d.strSlots s).filter (fun c => d.role c = roleActive)
  let sum := sumNat (act.map d.vcap)
  (d.strSlots s).foldl (fun d c =>
    if d.role c != rolePark || !d.inMode [.sync, .run, .degraded, .rideThrough] then d.put R.MOD.SLOT_IN_BAND 0 c
    else
      let dist : Int := (act.length * d.vcap c : Nat) - (sum : Int)
      let near : Bool := !act.isEmpty && d.fresh c && d.get R.CELL.CELL_STATE c % 16 = 3 &&
        1000 * dist.natAbs ≤ d.get R.MOD.RET_BAND * d.get R.MOD.STR_VCELL_NOM s * act.length
      if near then d.bump R.MOD.SLOT_IN_BAND c else d.put R.MOD.SLOT_IN_BAND 0 c) d

/-- Pass A of string s (R245, R247 to R250, R254, R260); with the last string, the inter-string term. -/
def Dev.passA (d : Dev) (t s : Nat) : Dev :=
  let d1 := ((((d.passASort s).passASpread s).passACurrent t s).passAFilter s).bandRuns s
  let d2 := d1.put I.CAL.DONE 1 s
  if d2.strings.all (fun s => d2.is I.CAL.DONE s) then (d2.stringErrors).interString t else d2

/-- CALENDER_PASS_A (R245): once a frame for each existing string, in every mode from IDLE to SAFE. -/
def execCalenderPassA (s : Fin 6) (st : State) : Host.Outcome State Fault Refusal :=
  st.onDev fun d =>
    if d.strExists s && !d.is I.CAL.DONE s && d.blocksIn s && !d.inMode [.backup, .boot] then (d.passA st.clk.ns s).settle st.clk.ns else d

/-- The spread instance of string s, once for each run that has reached SPREAD_FRAMES (R260). -/
def Dev.spreadAlarm (d : Dev) (t s : Nat) : Dev :=
  if d.strExists s && bitOf (d.get R.CAL.SPREAD_ALM) s = 1 && !d.is I.CAL.SPREAD_RAISED s then
    (d.put I.CAL.SPREAD_RAISED 1 s).raise t 6 (32 + s) (d.get R.CAL.STR_SPREAD s)
  else d

/-- SPREAD_ALARM (R260, R263): the count has reached SPREAD_FRAMES. -/
def execSpreadAlarm (s : Fin 6) (st : State) : Host.Outcome State Fault Refusal :=
  st.onDev fun d => (d.spreadAlarm st.clk.ns s).settle st.clk.ns

/-! Pass B (R251 to R253). -/

/-- BAND_s = TEN_BAND × VCELL_NOM / 1,000 in volts, binary32 (R251). -/
def Dev.band (d : Dev) (s : Nat) : Nat := b32.ofRatio (d.get R.CAL.TEN_BAND * d.get R.MOD.STR_VCELL_NOM s : Nat) 20000

/-- The error of slot c is at most the band in magnitude. -/
def Dev.withinBand (d : Dev) (s c : Nat) : Bool := b32.le (b32.abs (d.get R.CAL.SLOT_E c)) (d.band s)

/-- Step 1 and 2 of R251: tenure counts down, and the locked cells are marked. -/
def Dev.tenureDown (d : Dev) (s : Nat) (bal : List Nat) : Dev :=
  bal.foldl (fun d c =>
    let n := d.get R.CAL.SLOT_TEN_LEFT c - 1
    (d.put R.CAL.SLOT_TEN_LEFT n c).flag R.CAL.SLOT_LOCKED ((0 < n && d.withinBand s c) || d.is R.CAL.SLOT_STALE c) c) d

/-- The order of preference of R252; `g` is 1 positive, 2 negative, 0 none. -/
def Dev.preference (d : Dev) (s g : Nat) (bal : List Nat) : List Nat :=
  let dir := d.get R.CAL.STR_CUR_DIR s
  let inBefore (c : Nat) : Bool := g != 0 && d.get R.CAL.SLOT_ASSIGN c = g
  if g = 0 || dir = 0 then bal.filter inBefore ++ bal.filter (fun c => !inBefore c)
  else if g = dir then sortBy (fun c => d.get R.CAL.SLOT_RANK c) bal
  else (sortBy (fun c => d.get R.CAL.SLOT_RANK c) bal).reverse

/-- Add cells in order until n are selected. -/
def fillUp (n : Nat) (ok : Nat → Bool) (sel : List Nat) (pref : List Nat) : List Nat :=
  pref.foldl (fun sel c => if sel.length < n && !sel.contains c && ok c then sel ++ [c] else sel) sel

/-- The selection of R252. -/
def Dev.select (d : Dev) (s n g : Nat) (bal : List Nat) : List Nat :=
  let pref := d.preference s g bal
  let locked (c : Nat) : Bool := d.is R.CAL.SLOT_LOCKED c
  let inBefore (c : Nat) : Bool := g != 0 && d.get R.CAL.SLOT_ASSIGN c = g
  let sel := (pref.filter (fun c => locked c && inBefore c)).take n
  fillUp n (fun _ => true) (fillUp n (fun c => !locked c || inBefore c) sel pref) pref

/-- Step 4 of R251: new assignments, tenure, SWITCH_CNT and BREAK_CNT. -/
def Dev.assign (d : Dev) (s g : Nat) (bal sel : List Nat) : Dev :=
  bal.foldl (fun d c =>
    let new := if sel.contains c then g else 0
    if new = d.get R.CAL.SLOT_ASSIGN c then d
    else
      let brk : Bool := d.get R.CAL.SLOT_TEN_LEFT c != 0
      (((((d.put R.CAL.SLOT_ASSIGN new c).put R.CAL.SLOT_TEN_LEFT (d.get R.CAL.TENURE) c).bump R.CAL.STR_SWITCH_CNT s).bump R.CAL.STR_BREAK_CNT s brk.toNat).perf 2 1 s).perf 2 2 s brk.toNat) d

/-- The list of an NLM string for n cells of sign g (R251, R252). -/
def Dev.passBList (d : Dev) (s n g : Nat) : Dev :=
  let bal := d.balanceSet s
  let d1 := d.tenureDown s bal
  let g := if n = 0 then 0 else g
  let sel := d1.select s n g bal
  (((d1.assign s g bal sel).put R.CAL.STR_N_IN sel.length s).flag R.CAL.STR_NEG (g = 2) s).setBitOf R.CAL.BAL_ON s true

/-- raw_c of R253 before its clamp. -/
def Dev.offsetRaw (d : Dev) (s c : Nat) : Nat :=
  let e := d.get R.CAL.SLOT_E c
  let band := d.band s
  let x := if d.withinBand s c then 0
    else b32.div (b32.sub e (if b32.lt e 0 then b32.neg band else band)) (voltsOf b32 (d.get R.MOD.STR_VCELL_NOM s))
  match d.get R.CAL.STR_CUR_DIR s with
  | 1 => b32.neg (b32.mul (d.get R.CAL.K_BAL) x)
  | 2 => b32.mul (d.get R.CAL.K_BAL) x
  | _ => 0

/-- The offsets of a PSC string (R253), with its counts and instance 40 + s (R263). -/
def Dev.passBOffsets (d : Dev) (t s : Nat) : Dev :=
  let bal := d.balanceSet s
  let dm := d.get R.CAL.DELTA_MAX
  let clamped := bal.filter (fun c => !d.is R.CAL.SLOT_STALE c && b32.lt dm (b32.abs (d.offsetRaw s c)))
  let d1 := bal.foldl (fun d c => if d.is R.CAL.SLOT_STALE c then d else d.put I.CAL.RAW (b32.clamp (d.offsetRaw s c) (b32.neg dm) dm) c) d
  let num := b32.sum (bal.map (fun c => b32.mul (d1.get I.CAL.RAW c) (voltsOf b32 (d1.vcap c))))
  let vsum := voltsOf b32 (sumNat (bal.map d1.vcap))
  let corr := if vsum = 0 then 0 else b32.div num vsum
  let d2 := bal.foldl (fun d c => d.put R.CAL.SLOT_DELTA (b32.sub (d.get I.CAL.RAW c) corr) c) d1
  let d2 := (d2.perf 2 3 s clamped.length)
  let d3 := ((d2.setBitOf R.CAL.OFS_SAT s (!clamped.isEmpty)).bump R.CAL.STR_OFS_SAT_CNT s (!clamped.isEmpty).toNat).setBitOf R.CAL.BAL_ON s true
  if !clamped.isEmpty && bitOf (d.get R.CAL.OFS_SAT) s = 0 then d3.raise t 6 (40 + s) (clamped.headD 0) else d3

/-- Entry to PRECHARGE and a class-2 activation (R153, R258): tenure and assignments cleared, filtered means unset. -/
def Dev.calFresh (d : Dev) : Dev :=
  let d1 := d.forN 144 (fun d c => (d.put R.CAL.SLOT_TEN_LEFT 0 c).put R.CAL.SLOT_ASSIGN 0 c)
  d1.forN 6 (fun d s => (d.put I.CAL.VF_SET 0 s).put R.CAL.STR_VMEANF 0 s)

/-- A new TENURE cuts every greater count (R259). -/
def Dev.tenureCut (d : Dev) : Dev :=
  d.forN 144 (fun d c => if d.get R.CAL.TENURE < d.get R.CAL.SLOT_TEN_LEFT c then d.put R.CAL.SLOT_TEN_LEFT (d.get R.CAL.TENURE) c else d)

end Sys2Proof.Machine
end

