-- ==== Sys2Proof/Machine/Modulator.lean ====
section
/-! DEFINITION. The modulator (08_cascade_modulation.md) and the LV pulse generator (R307, R308): what each slot is posted, slot
roles, the two laws, DAB phase shifts, test patterns, and the meanings of their commands. -/
namespace Sys2Proof.Machine

/-- The mode whose law is computed: the primary's in MIRROR (R284). -/
def Dev.lawMode (d : Dev) : Mode := if d.mode = .mirror then Mode.ofCode (d.get R.PART.PARTNER_MODE) else d.mode

/-- Law is posted to the ACTIVE slots in the mode (R220): in STOPPING until the ramp is complete. -/
def Dev.lawOn (d : Dev) : Bool :=
  match d.lawMode with
  | .sync | .run | .degraded | .rideThrough => true
  | .stopping => !d.is I.MODE.DUE_RAMP
  | _ => false

/-- DAB runs for ACTIVE and PARK slots in the mode (R220): in PRECHARGE in the LV phase. -/
def Dev.dabOn (d : Dev) : Bool := d.lawOn || (d.mode = .precharge && d.get R.MODE.PRE_PHASE = 2)

/-! DAB phase shifts (R239). -/

/-- D1 as delivered, rounded to the nearest q away from zero on ties, to 16 q for a Gen1 cell. -/
def Dev.dabRound (d : Dev) (c bits : Nat) : Int :=
  let r := b32.ratio bits
  if d.get R.CELL.LINK_KIND c = 2 then 16 * nearestAway r.1 (16 * r.2) else nearestAway r.1 r.2

/-- The DAB field for D1 and D2 in q, and whether a clamp acted. -/
def Dev.dabField (d : Dev) (d1 d2 : Int) : Nat × Bool :=
  let m : Int := d.get R.MOD.D1_MAX
  let half : Int := d.get R.MOD.DAB_PER / 512
  let eps : Bool := d.get I.MOD.DAB_METHOD = 2
  let x1 := max (-m) (min m d1)
  let x2 := if eps then max 0 (min half d2) else 0
  (ofInt 20 x1 + 2 ^ 20 * ofInt 20 x2, x1 != d1 || (eps && x2 != d2))

/-- DAB_MODE, DAB field and clamp of slot c in this frame. -/
def Dev.dabOf (d : Dev) (c : Nat) : Nat × Nat × Bool :=
  let m := d.get I.MOD.DAB_METHOD
  if !d.dabOn || m = 0 then (0, 0, false)
  else
    let (f, cl) := d.dabField (d.dabRound c (d.get R.CE.CELL_D1 c)) (d.dabRound c (d.get R.CE.CELL_D2 c))
    (m, f, cl)

/-! Edges of a cell. -/

/-- The frame length in q over which the next frame's commands are built. -/
def Dev.frameQ (d : Dev) : Nat := 8 * d.nextLen

/-- A Gen1 cell's offsets are rounded to the nearest 16 q, ties upward (R182). -/
def Dev.gen1Round (d : Dev) (c : Nat) (l : List Edge) : List Edge :=
  if d.get R.CELL.LINK_KIND c = 2 then l.map (fun e => { e with off := (e.off + 8) / 16 * 16 }) else l

/-- The conditions of R168 on a leg's edges over a frame of `len` q. -/
def edgesOk (len : Nat) (l : List Edge) : Bool :=
  l.all (fun e => e.off < len) && (match l with | [] => true | [_] => true | [a, b] => a.off < b.off | _ => false)

/-- The state after edge i of a leg; 3 for an unused slot, and its offset. -/
def slotSt (l : List Edge) (i : Nat) : Nat := (l[i]?.map (fun e => e.st)).getD 3
def slotOff (l : List Edge) (i : Nat) : Nat := (l[i]?.map (fun e => e.off)).getD 0

/-- The command of two legs' edges with a DAB field. -/
def Cmd.ofEdges (a b : List Edge) (dab dabF : Nat) : Cmd :=
  ⟨false, dab, slotSt a 0 * 64 + slotSt a 1 * 16 + slotSt b 0 * 4 + slotSt b 1, slotOff a 0, slotOff a 1, slotOff b 0, slotOff b 1, dabF⟩

/-- The leg states and gaps that a command leaves. -/
def Dev.leaveLegs (d : Dev) (c a b ga gb : Nat) : Dev :=
  (((d.put I.MOD.LEG_A a c).put I.MOD.LEG_B b c).put I.MOD.GAP_A ga c).put I.MOD.GAP_B gb c

/-- Both legs to a state at offset 0. -/
def Dev.bothLegs (d : Dev) (c a b dab dabF : Nat) : Dev × Cmd :=
  (d.leaveLegs c a b (d.frameQ + 1) (d.frameQ + 1), Cmd.legs a b dab dabF)

/-- A command from edge sets, checked against R168: a set that breaks it is replaced by legs N with instance 18 (R243). -/
def Dev.edgeCmd (d : Dev) (t c : Nat) (a b : List Edge) (dab dabF : Nat) : Dev × Cmd :=
  let a := d.gen1Round c a
  let b := d.gen1Round c b
  if edgesOk d.frameQ a && edgesOk d.frameQ b then
    (d.leaveLegs c (endState (d.get I.MOD.LEG_A c) a) (endState (d.get I.MOD.LEG_B c) b) (endGap d.frameQ a) (endGap d.frameQ b), Cmd.ofEdges a b dab dabF)
  else
    let (d1, cmd) := d.bothLegs c 2 2 dab dabF
    (d1.raise t 6 18 c, cmd)

/-- The PSC law of slot c of string s at index m (binary64) and shift (R224, R226, R227). -/
def Dev.pscCmd (d : Dev) (t s c m shift dab dabF : Nat) : Dev × Cmd :=
  let C := d.get R.MOD.STR_CAR_PER s
  if C = 0 then d.bothLegs c 0 0 dab dabF
  else
    let pos := (d.get R.MOD.STR_CAR_POS s + 2048 * d.get I.TB.LEN + C - shift % C) % C
    let r := b64.ratio m
    let mp := d.get R.MOD.MIN_PULSE
    let leg (n : Int) (prev gap : Nat) : List Edge := legEdges C pos n r.2 d.frameQ prev mp gap 2
    let cut (n : Int) (prev gap : Nat) : Nat := legTrimmed C pos n r.2 d.frameQ prev mp gap 2
    let pa := d.get I.MOD.LEG_A c
    let pb := d.get I.MOD.LEG_B c
    let ga := d.get I.MOD.GAP_A c
    let gb := d.get I.MOD.GAP_B c
    ((d.bump R.MOD.STR_TRIM_CNT s (cut r.1 pa ga + cut (-r.1) pb gb)).perf 1 2 s (cut r.1 pa ga + cut (-r.1) pb gb)).edgeCmd t c (leg r.1 pa ga) (leg (-r.1) pb gb) dab dabF

/-- The NLM law of slot c (R230): its assignment at offset 0, an edge only where a leg changes. -/
def Dev.nlmCmd (d : Dev) (t c dab dabF : Nat) : Dev × Cmd :=
  let a := d.get I.MOD.LEG_A c
  let b := d.get I.MOD.LEG_B c
  let (na, nb) := match d.get R.CAL.SLOT_ASSIGN c with
    | 1 => (1, 2)
    | 2 => (2, 1)
    | _ => if a = 0 || b = 0 then (2, 2) else (a, a)
  d.edgeCmd t c (if na = a then [] else [⟨0, na⟩]) (if nb = b then [] else [⟨0, nb⟩]) dab dabF

/-! The laws of a string (R225, R229). -/

/-- VSUM_s in raw units over the balance set, and as binary64 volts. -/
def Dev.vsumRaw (d : Dev) (s : Nat) : Nat := sumNat ((d.balanceSet s).map d.vcap)

/-- A frame of string s in which a clamp acted, or did not: the count, the bit, and instance s at a first clamp (R225, R243). -/
def Dev.satFrame (d : Dev) (t s : Nat) (sat : Bool) : Dev :=
  let d1 := ((d.setBitOf R.MOD.SAT s sat).bump R.MOD.STR_SAT_CNT s sat.toNat).perf 1 3 s sat.toNat
  if sat && bitOf (d.get R.MOD.SAT) s = 0 then d1.raise t 6 s 0 else d1

/-- m_c in binary64 before its clamp (R225). -/
def Dev.pscIndex (d : Dev) (s c : Nat) : Nat :=
  b64.add (b64.div (b32.cvt b64 (d.get I.CE.VSTAR s)) (voltsOf b64 (d.vsumRaw s))) (b32.cvt b64 (d.get R.CAL.SLOT_DELTA c))

/-- The level of an NLM string before its clamp (R229): V_s* / (VSUM_s / Na), to the nearest integer, ties away from zero. -/
def Dev.nlmLevel (d : Dev) (s : Nat) : Int :=
  let na := (d.balanceSet s).length
  b64.toIntAway (b64.div (b32.cvt b64 (d.get I.CE.VSTAR s)) (b64.div (voltsOf b64 (d.vsumRaw s)) (b64.ofInt na)))

/-- Pass B and the law of string s: the indices or the list its ACTIVE cells are built from. -/
def Dev.lawString (d : Dev) (t s : Nat) : Dev :=
  let bal := d.balanceSet s
  let d1 := ((d.put R.MOD.STR_VREF (d.get I.CE.VSTAR s) s).put R.MOD.STR_VSUM (voltsOf b32 (d.vsumRaw s)) s).setBitOf R.MOD.LAW_ON s (!bal.isEmpty)
  if bal.isEmpty then d1
  else if d.vsumRaw s = 0 then d1.raiseState t 6 (20 + s) 0
  else if d.get R.MOD.STR_METHOD s = 0 then
    let d2 := (d1.perf 2 4 s).passBOffsets t s
    let lim := b64.ofRatio (d.get R.MOD.M_MAX : Nat) 32768
    let sat := bal.any (fun c => b64.lt lim (b64.abs (d2.pscIndex s c)))
    (bal.foldl (fun d c => d.put R.MOD.SLOT_M (b64.cvt b32 (b64.clamp (d2.pscIndex s c) (b64.neg lim) lim)) c) d2).satFrame t s sat
  else
    let na : Int := bal.length
    let l := d.nlmLevel s
    let lv := max (-na) (min na l)
    (((d1.perf 2 4 s).passBList s lv.natAbs (if 0 < lv then 1 else if lv < 0 then 2 else 0)).putInt R.MOD.STR_LEVEL lv s).satFrame t s (lv != l)

/-- A string that is not posted its law in the frame (R246). -/
def Dev.noLaw (d : Dev) (s : Nat) : Dev :=
  (((d.setBitOf R.MOD.LAW_ON s false).setBitOf R.MOD.SAT s false).setBitOf R.CAL.BAL_ON s false).setBitOf R.CAL.OFS_SAT s false

/-- Slot c is selected by the running test pattern (R240). -/
def Dev.testSelects (d : Dev) (c : Nat) : Bool := d.get R.MOD.TEST_SLOT = 255 || d.get R.MOD.TEST_SLOT = c

/-- The shift of slot c over the selected slots of its string (R224, R240). -/
def Dev.testShift (d : Dev) (s c : Nat) : Nat :=
  let l := (d.strSlots s).filter d.testSelects
  (l.idxOf c * d.get R.MOD.STR_CAR_PER s) / (2 * l.length)

/-- The command of slot c under a running test pattern (R240). -/
def Dev.testCmd (d : Dev) (t c : Nat) : Dev × Cmd :=
  let s := d.get I.CELL.STRING c
  if !d.testSelects c then
    (if d.get R.CELL.CELL_STATE c % 16 = 1 then (d.leaveLegs c 2 2 0 0, Cmd.bypass) else d.bothLegs c 0 0 0 0)
  else match d.get R.MOD.TEST_PAT with
    | 1 => d.bothLegs c (d.get R.MOD.TEST_A) (d.get R.MOD.TEST_B) 0 0
    | 2 => d.pscCmd t s c (b64.ofRatio (d.getInt R.MOD.TEST_M) 32768) (d.testShift s c) 0 0
    | 3 => d.bothLegs c 2 2 (d.get I.MOD.DAB_METHOD) (d.dabField (d.getInt R.MOD.TEST_D1) 0).1
    | _ => d.bothLegs c 0 0 0 0

/-- The command of an ACTIVE or PARK slot outside the law (R220). -/
def Dev.restCmd (d : Dev) (c : Nat) : Dev × Cmd :=
  let (dab, f, _) := d.dabOf c
  if d.role c = rolePark && d.lawOn then d.bothLegs c 2 2 dab f else d.bothLegs c 0 0 dab f

/-- The command of slot c in this frame (R220, R222, R225, R361). -/
def Dev.slotCmd (d : Dev) (t c : Nat) : Dev × Cmd :=
  let r := d.role c
  let s := d.get I.CELL.STRING c
  if d.is I.MOD.TEST_RUN && d.mode = .test && !d.is I.CELL.LOST c && !d.cellFenced c then d.testCmd t c
  else if d.is I.CELL.REMOVE c || d.is I.CELL.LOST c || d.cellFenced c || d.mode = .safe || !(r = roleActive || r = rolePark) then
    (d.leaveLegs c 2 2 0 0, Cmd.bypass)
  else if r = roleActive && d.lawOn then
    let (dab, f, _) := d.dabOf c
    if d.vsumRaw s = 0 then d.bothLegs c 2 2 dab f
    else if d.get R.MOD.STR_METHOD s = 0 then
      let lim := b64.ofRatio (d.get R.MOD.M_MAX : Nat) 32768
      d.pscCmd t s c (b64.clamp (d.pscIndex s c) (b64.neg lim) lim) (d.get R.MOD.SLOT_SHIFT c) dab f
    else d.nlmCmd t c dab f
  else d.restCmd c

/-- Build and post the command of slot c: nothing is posted in MIRROR, nor on a link that carries no commands (R181, R220). -/
def Dev.buildCell (d : Dev) (t c : Nat) : Dev :=
  let (d1, cmd) := d.slotCmd t c
  let d2 := d1.onlyIf (d.cellFenced c && d.role c != roleHeld) (fun d => d.put I.CELL.REMOVE 1 c)
  match d.cellLink c with
  | some ix => if d.linkPosts ix && d.posts then d2.post c 0 cmd else d2
  | none => d2

/-- The frames with a DAB clamp, per string (R239). -/
def Dev.dabCounts (d : Dev) : Dev :=
  d.strings.foldl (fun d s =>
    let clamp := (d.strSlots s).any (fun c => (d.role c = roleActive || d.role c = rolePark) && (d.dabOf c).2.2)
    d.bump R.MOD.STR_DSAT_CNT s clamp.toNat) d

/-! The LV pulse generator (R307, R308). -/

/-- The leg groups by their lowest half-bridge. -/
def Dev.legGroups (d : Dev) : List Nat := (List.range 8).filter (fun k => d.hbUsed k && d.legGroup k = k)

/-- The duty of a leg group in binary64 before its clamp (R307). -/
def Dev.duty (d : Dev) (g : Nat) : Nat :=
  let half := b64.ofRatio 1 2
  if d.mode = .test && d.is I.LVD.LVT_RUN && d.get I.LVD.LVT_ACT = 2 then b64.ofRatio (d.get R.LVD.LVT_DUTY : Nat) 65536
  else if d.hbRole g = 2 then b32.cvt b64 (d.get I.CE.HB_DUTY g)
  else
    let vb := b32.cvt b64 (d.get R.CE.LV_VBUS)
    if b64.lt vb (b64.ofInt 10) then half
    else
      let v (i : Nat) : Nat := b32.cvt b64 (d.get I.CE.LV_V i)
      let hi := b64.max (b64.max (v 0) (v 1)) (b64.max (v 2) 0)
      let lo := b64.min (b64.min (v 0) (v 1)) (b64.min (v 2) 0)
      let o := b64.neg (b64.div (b64.add hi lo) (b64.ofInt 2))
      let u := if d.hbLegPos g = 3 then o else b64.add (v (d.hbLegPos g)) o
      b64.add half (b64.div u vb)

/-- The edges of leg group g for the next frame (R308): the level is 2d − 1, at most 16 edges; DUTY and TRIM_CNT of every
member show the group's. -/
def Dev.lvGroup (d : Dev) (g : Nat) : Dev × Bool :=
  let C := d.get R.LVD.LV_CAR_PER
  let raw := d.duty g
  let hi := b64.ofRatio (d.get R.LVD.DUTY_MAX : Nat) 65536
  let lo := b64.ofRatio (65536 - d.get R.LVD.DUTY_MAX : Nat) 65536
  let du := b64.clamp raw lo hi
  let sat : Bool := !b64.eq du raw
  let ks := d.legMembers g
  let d1 := ks.foldl (fun d k => d.put R.LVD.HB_DUTY (b64.cvt b32 du) k) d
  if C = 0 then (d1, sat)
  else
    let pos := (d.get R.LVD.LV_POS + 2048 * d.get I.TB.LEN) % C
    let r := b64.ratio du
    let n : Int := 2 * r.1 - r.2
    let prev := d.get I.LVD.GRP_ST g
    let gap := d.get I.LVD.GRP_GAP g
    let mp := d.get R.LVD.LV_MIN_PULSE
    let l := legEdges C pos n r.2 d.frameQ prev mp gap 16
    let cut := legTrimmed C pos n r.2 d.frameQ prev mp gap 16
    let d2 := (d1.put I.LVD.GRP_ST (endState prev l) g).put I.LVD.GRP_GAP (endGap d.frameQ l) g
    let d2 := ks.foldl (fun d k => d.bump R.LVD.HB_TRIM_CNT k cut) d2
    let d2 := d2.perf 4 1 g l.length
    ({ d2 with lvNext := d2.lvNext ++ l.map (fun e => ⟨g, e.off, e.st⟩) }, sat)

/-- The edges of every used leg group, whatever holds it off (R310). -/
def Dev.lvBuild (d : Dev) : Dev :=
  let d0 : Dev := { d with lvNext := [] }
  let r := d.legGroups.foldl (fun p g => let q := p.1.lvGroup g; (q.1, p.2 || q.2)) (d0, false)
  r.1.bump R.LVD.LV_SAT_CNT 0 r.2.toNat

/-- MODULATOR_BUILD (R217, R220, R245, R307): pass B and the laws, one command per mapped cell, the LV edges; once a frame. A
command released after its deadline raises instance 12 of its ring (R185). -/
def execModulatorBuild (s : State) : Host.Outcome State Fault Refusal :=
  s.onDev fun d =>
    let t := s.clk.ns
    if d.is I.MOD.BUILT || d.inMode [.backup, .boot] || !d.is R.TB.PLL_T_LOCK then d
    else
      let d0 := d.put I.MOD.BUILT 1
      let d1 := (List.range 6).foldl (fun d s => if d.strExists s && d.lawOn then d.lawString t s else d.noLaw s) d0
      let d2 := (d1.forN 144 (fun d c => if d.cellUsed c then d.buildCell t c else d)).dabCounts
      let d3 := d2.lvBuild
      let d4 := if d.deadline < t then d3.forN 6 (fun d r => if d.linkPosts r && d.posts then d.ringRaise t r 12 else d) else d3
      d4.settle t

/-! Roles at step 6 of a boundary (R221, R231 to R236). -/

/-- A role given to a slot; CELL in every summary when it changes. -/
def Dev.setRole (d : Dev) (c r : Nat) : Dev := if d.role c = r then d else (((d.put R.MOD.SLOT_ROLE r c).put I.MOD.PARK_NS (d.get I.TB.BND_NS) c).perf 1 4 (d.get I.CELL.STRING c)).sumAll R.HIF.SUM_CELL

/-- The roles that an entry into a mode takes away (R221). -/
def Dev.entryRoles (d : Dev) : Dev :=
  d.forN 144 (fun d c =>
    let r := d.role c
    match d.mode with
    | .idle | .stopping => if r = rolePark then d.setRole c roleOut else d
    | .safe => if r = rolePark || r = roleSpare || r = roleActive then d.setRole c roleOut else d
    | _ => d)

/-- The host's requests due at the boundary at TB ns t: those written at least 2 µs before (R236). -/
def Dev.hostRoles (d : Dev) (t : Nat) : Dev :=
  d.forN 144 (fun d c =>
    let d1 := if d.is I.MOD.OUT_DUE c && d.get I.MOD.OUT_NS c + 2000 ≤ t then (d.put I.MOD.OUT_DUE 0 c).setRole c roleHeld else d
    if d1.is I.MOD.RET_DUE c && d1.get I.MOD.RET_NS c + 2000 ≤ t then
      let d2 := d1.put I.MOD.RET_DUE 0 c
      if d2.role c = roleHeld then d2.setRole c roleOut else d2
    else d1)

/-- The parked cell has been within RET_BAND for RET_SETTLE frames (R233). -/
def Dev.settled (d : Dev) (c : Nat) : Bool :=
  d.role c = rolePark && d.get R.MOD.RET_SETTLE ≤ d.get R.MOD.SLOT_IN_BAND c && d.inMode [.sync, .run, .degraded, .rideThrough]

/-- Cells removed in the frame, fenced, promoted or timed out (R222, R233, R361); a count that has reached RET_SETTLE promotes
whether or not RET_SETTLE_REACHED has said so. -/
def Dev.cellRoles (d : Dev) : Dev :=
  d.forN 144 (fun d c =>
    if !d.cellUsed c then d
    else
      let r := d.role c
      let up : Bool := r = rolePark || r = roleSpare || r = roleActive
      let d1 := if up && (d.is I.CELL.REMOVE c || d.cellFenced c || (r = rolePark && d.is I.MOD.RET_OUT c)) then d.setRole c roleOut
        else if r = rolePark && (d.is I.MOD.PROMOTE c || d.settled c) then d.setRole c roleActive else d
      ((d1.put I.CELL.REMOVE 0 c).put I.MOD.PROMOTE 0 c).put I.MOD.RET_OUT 0 c)

/-- The link of slot c carries commands (R231). -/
def Dev.linkUp (d : Dev) (c : Nat) : Bool := match d.cellLink c with | some ix => d.linkPosts ix | none => false

/-- An OUT slot is eligible for return (R231). -/
def Dev.eligible (d : Dev) (c : Nat) : Bool :=
  d.role c = roleOut && !d.cellFenced c && d.is I.CELL.EVER c && d.get R.CELL.CELL_STATE c % 16 = 1 && bitOf (d.get R.CELL.EVENT c) 4 = 0 &&
    d.get R.CELL.LOCAL_FAULT c % 2048 = 0 && d.linkUp c && d.get R.FELT.CELL_LINK_TIMEOUT ≤ d.get I.CELL.GOOD_RUN c &&
    d.get I.CELL.ID_BITS c = 15 && (d.get I.MOD.DAB_METHOD != 2 || bitOf (d.get I.CELL.CAPS c) 9 = 1)

/-- Where R232 moves an eligible slot of string s. -/
def Dev.returnRole (d : Dev) (s : Nat) : Nat :=
  let hot : Bool := d.is R.MOD.STR_HOT s
  match d.mode with
  | .precharge => rolePark
  | .sync | .run | .degraded => if hot then rolePark else roleSpare
  | .rideThrough => if hot then roleOut else roleSpare
  | _ => roleOut

/-- Eligible slots return (R232). -/
def Dev.returnCells (d : Dev) : Dev :=
  d.forN 144 (fun d c =>
    if d.cellUsed c && d.eligible c then
      let r := d.returnRole (d.get I.CELL.STRING c)
      if r = roleOut then d else (d.setRole c r).put I.CELL.LOST 0 c
    else d)

/-- Entry to SYNC (R233): parked cells that report ACTIVE join; in a cold string the NEEDED of lowest position, the rest SPARE. -/
def Dev.syncRoles (d : Dev) (s : Nat) : Dev :=
  let l := (d.strSlots s).filter (fun c => d.role c = rolePark && d.get R.CELL.CELL_STATE c % 16 = 3)
  let n := if d.is R.MOD.STR_HOT s then l.length else d.get R.MOD.STR_NEEDED s
  l.zipIdx.foldl (fun d p => d.setRole p.1 (if p.2 < n then roleActive else roleSpare)) d

/-- Spares of a cold string are called (R234): highest reported VCAP first, the lower position among equals; the last one raises
instance 8 + s. -/
def Dev.callSpares (d : Dev) (t s : Nat) : Dev :=
  let l := d.strSlots s
  let have_ := (l.filter (fun c => d.role c = roleActive || d.role c = rolePark)).length
  let spares := sortBy (fun c => 65536 - d.vcap c) (l.filter (fun c => d.role c = roleSpare))
  let n := min (d.get R.MOD.STR_NEEDED s - have_) spares.length
  if d.is R.MOD.STR_HOT s || !d.inMode [.sync, .run, .degraded, .rideThrough] || n = 0 then d
  else
    let d1 := (spares.take n).foldl (fun d c => d.setRole c rolePark) d
    if n = spares.length then d1.raise t 6 (8 + s) 0 else d1

/-- Phase indices and shifts of a PSC string (R224), counted when a shift changes. -/
def Dev.phases (d : Dev) (s : Nat) : Dev :=
  let l := (d.strSlots s).filter (fun c => d.role c = roleActive)
  let C := d.get R.MOD.STR_CAR_PER s
  let shift (j : Nat) : Nat := if d.get R.MOD.STR_METHOD s = 0 then j * C / (2 * l.length) else 0
  let moved := l.zipIdx.any (fun p => d.get R.MOD.SLOT_SHIFT p.1 != shift p.2)
  let d1 := (d.strSlots s).foldl (fun d c => d.put R.MOD.SLOT_PHASE_IDX 0 c) d
  let d2 := l.zipIdx.foldl (fun d p => (d.put R.MOD.SLOT_PHASE_IDX p.2 p.1).put R.MOD.SLOT_SHIFT (shift p.2) p.1) d1
  (d2.bump R.MOD.STR_REASSIGN_CNT s moved.toNat)

/-- The counts of a string's roles (R219), NO_SPARE and PARKING. -/
def Dev.strStatus (d : Dev) (s : Nat) : Dev :=
  let l := d.strSlots s
  let n (r : Nat) : Nat := (l.filter (fun c => d.role c = r)).length
  (((d.put R.MOD.STR_USABLE (n roleSpare + n rolePark + n roleActive) s).put R.MOD.STR_NA (n roleActive) s).setBitOf R.MOD.NO_SPARE s
    (!d.is R.MOD.STR_HOT s && d.strExists s && n roleSpare = 0)).setBitOf R.MOD.PARKING s (n rolePark != 0)

/-- Step 6 of a boundary (R29, R221): roles, returns, spares and carriers; `entry` says that a mode was entered at step 3. -/
def Dev.stepSix (d : Dev) (t : Nat) (entry : Bool) : Dev :=
  let d1 := if entry then d.entryRoles else d
  let d2 := (d1.hostRoles t).cellRoles
  let d3 := if entry && d.mode = .sync then d2.strings.foldl Dev.syncRoles d2 else d2
  let d4 := d3.returnCells
  let d5 := d4.strings.foldl (fun d s => (d.callSpares t s).phases s) d4
  (List.range 6).foldl Dev.strStatus d5

/-- What R246 fixes for the frame that begins: which strings are posted their law. -/
def Dev.fixPosts (d : Dev) : Dev :=
  d.forN 6 (fun d s => (d.flag I.CAL.POSTS (d.lawOn && d.strExists s && (d.strSlots s).any (fun c => d.role c = roleActive)) s).put I.CAL.DONE 0 s)

/-! Carriers at a boundary (R223, R228, R308). -/

/-- Advance of a carrier position by a frame of `len` tbc. -/
def advance (pos C len : Nat) : Nat := if C = 0 then 0 else (pos + 2048 * len) % C

/-- Every carrier at the boundary that ends a frame of `len` tbc. -/
def Dev.carriers (d : Dev) (len : Nat) : Dev :=
  let d1 := d.forN 6 (fun d s => d.put R.MOD.STR_CAR_POS (advance (d.get R.MOD.STR_CAR_POS s) (d.get R.MOD.STR_CAR_PER s) len) s)
  d1.put R.LVD.LV_POS (advance (d.get R.LVD.LV_POS) (d.get R.LVD.LV_CAR_PER) len)

/-- Entry to SYNC and the start of test pattern 2 restart the carriers (R223). -/
def Dev.carrierZero (d : Dev) : Dev := (d.forN 6 (fun d s => d.put R.MOD.STR_CAR_POS 0 s)).put R.LVD.LV_POS 0

/-- A changed CAR_PER keeps the carrier phase (R228). -/
def Dev.carrierScale (d : Dev) : Dev :=
  let d1 := d.forN 6 (fun d s =>
    let new := d.get R.MOD.STR_CAR_PER s
    let old := d.get I.MOD.CAR_OLD s
    if new = old then d
    else
      let p := if old = 0 || new = 0 then 0 else (nearestUp (d.get R.MOD.STR_CAR_POS s * new : Nat) old).toNat % new
      (d.put R.MOD.STR_CAR_POS p s).put I.MOD.CAR_OLD new s)
  if d.get R.LVD.LV_CAR_PER = 0 then d1 else d1.put R.LVD.LV_POS (d.get R.LVD.LV_POS % d.get R.LVD.LV_CAR_PER)

/-- The start and the end of a modulator test pattern at a boundary (R240). -/
def Dev.testBoundary (d : Dev) (t : Nat) : Dev :=
  if d.mode ≠ .test || d.is I.MOD.TEST_END then ((d.put I.MOD.TEST_RUN 0).put I.MOD.TEST_DUE 0).put I.MOD.TEST_END 0
  else if d.is I.MOD.TEST_DUE && d.get I.MOD.TEST_NS + 2000 ≤ t then
    let d1 := (d.put I.MOD.TEST_DUE 0).put I.MOD.TEST_RUN 1
    if d.get R.MOD.TEST_PAT = 2 then d1.forN 6 (fun d s => d.put R.MOD.STR_CAR_POS 0 s) else d1
  else d

/-! Commands of the slots. -/

/-- RET_TIMEOUT (R233): a PARK slot becomes OUT, posted BYP, with instance 16. -/
def execRetTimeout (c : Fin 144) (s : State) : Host.Outcome State Fault Refusal :=
  s.onDev fun d =>
    if d.role c = rolePark then (((d.put I.MOD.RET_OUT 1 c).put I.CELL.REMOVE 1 c).raise s.clk.ns 6 16 c).settle s.clk.ns else d

/-- RET_SETTLE_REACHED (R233): the parked cell becomes ACTIVE at step 6 of the next boundary. -/
def execRetSettleReached (c : Fin 144) (s : State) : Host.Outcome State Fault Refusal :=
  s.onDev fun d => if d.settled c then d.put I.MOD.PROMOTE 1 c else d

/-- An OUT_REQ or RET_REQ that has passed its checks waits for its boundary (R236). -/
def Dev.outReq (d : Dev) (t c : Nat) : Dev := (d.put I.MOD.OUT_DUE 1 c).put I.MOD.OUT_NS t c
def Dev.retReq (d : Dev) (t c : Nat) : Dev := (d.put I.MOD.RET_DUE 1 c).put I.MOD.RET_NS t c

/-- The rejections of a SLOT_CTL write (R236). -/
def Dev.slotCtlErrs (d : Dev) (c : Nat) (out ret : Bool) : List Err :=
  let s := d.get I.CELL.STRING c
  let usable (c : Nat) : Bool := (d.role c = roleSpare || d.role c = rolePark || d.role c = roleActive) && !d.is I.MOD.OUT_DUE c
  let left := ((d.strSlots s).filter (fun x => x != c && usable x)).length
  errIf (out && ret) (eRange 0) ++
    errIf ((out || ret) && d.inMode [.boot, .mirror, .safe]) (eMode d) ++
    errIf (out && d.inMode [.sync, .run, .degraded, .rideThrough] && usable c && left < d.get R.MOD.STR_NEEDED s) (eMode d) ++
    errIf (ret && d.cellUsed c && d.role c != roleHeld) (eMode d) ++
    errIf ((out || ret) && !d.cellUsed c) (eStruct 1)

/-- The rejections of a write to TEST_CTL (R240). -/
def Dev.testErrs (d : Dev) (slot : Nat) (m : Int) (d1 : Int) (a b : Nat) : List Err :=
  errIf (d.mode != .test) (eMode d) ++ errIf (a = 3 || b = 3) eRange ++ errIf (d.get R.MOD.M_MAX < m.natAbs) eRange ++
    errIf (d.get R.MOD.D1_MAX < d1.natAbs) eRange ++ errIf (144 ≤ slot && slot != 255) eRange ++ errIf (slot < 144 && !d.cellUsed slot) (eStruct 1)

/-- VCELL_NOM of string s is 0 for an absent string, and for no other (R241). -/
def Dev.nomBad (d : Dev) (s : Nat) : Bool := d.strExists s != d.is R.MOD.STR_VCELL_NOM s

/-- The cross-field rules of the modulation fields (R242), with E_STRUCT 0x03, and the range of VCELL_NOM. -/
def Dev.modRules (d : Dev) : List Err :=
  let tf := d.get R.TB.TF
  let perString := (List.range 6).any (fun s =>
    let C := d.get R.MOD.STR_CAR_PER s
    let m := d.get R.MOD.STR_METHOD s
    if d.strExists s then
      if m = 0 then C < 102400000 || 4096000000 < C || C < 4096 * tf else C != 0
    else C != 0 || m != 0)
  let dab := d.get R.MOD.DAB_PER
  let dabBad : Bool := if d.get I.MOD.DAB_METHOD = 0 then dab != 0
    else dab < 10240000 || 102400000 < dab || dab < 1024 * d.get R.MOD.D1_MAX
  errIf ((List.range 6).any d.nomBad) eRange ++ errIf (perString || dabBad || d.get R.MOD.MIN_PULSE < d.get R.MOD.DT_CELL || 2 * tf < d.get R.MOD.MIN_PULSE) (eStruct 3)

end Sys2Proof.Machine
end

