-- ==== Sys2Proof/Machine/Afe.lean ====
section
/-! DEFINITION. The analogue front end (12_analog_front_end.md): sequencers and their triggers, results, the AFE cut, converters
that fail, window comparators, and the meanings of their commands. -/
namespace Sys2Proof.Machine

/-! Entries (R331, R348): CH [7:0], ADC [9:8], LINK [10], FMT [12:11], USED [15]. -/
def entCh (e : Nat) : Nat := e % 256
def entAdc (e : Nat) : Nat := bitsOf e 9 8
def entLink (e : Nat) : Bool := bitOf e 10 = 1
def entFmt (e : Nat) : Nat := bitsOf e 12 11
def entUsed (e : Nat) : Bool := bitOf e 15 = 1

/-- The entries of sequencer n that are in use. -/
def Dev.seqEntries (d : Dev) (n : Nat) : List Nat := (List.range (d.get R.AFE.SEQ_NENT n)).map (fun i => d.get R.AFE.ENTRY (16 * n + i))

/-- A list of entries cut into steps: an entry with LINK set joins the step before it. -/
def stepsOf : List Nat → List (List Nat)
  | [] => []
  | e :: l =>
    match stepsOf l, l with
    | s :: ss, e' :: _ => if entLink e' then (e :: s) :: ss else [e] :: s :: ss
    | _, _ => [[e]]

def Dev.seqSteps (d : Dev) (n : Nat) : List (List Nat) := stepsOf (d.seqEntries n)

/-- The converters a sequencer uses. -/
def Dev.seqAdcs (d : Dev) (n : Nat) : List Nat := (d.seqEntries n).map entAdc

/-- A Ream is active, so that sequencers and comparators run, BACKUP excepted (R337). -/
def Dev.afeRuns (d : Dev) : Bool := d.ream.active.isSome && d.mode != .backup

/-- A run of sequencer n is triggered at TB ns tt and becomes ready at `ready` (R333). -/
def Dev.seqStart (d : Dev) (n tt ready : Nat) (frame : Bool) : Dev :=
  let d1 := (((d.put R.AFE.SEQ_BUSY 1 n).put I.AFE.TRIG_NS tt n).put I.AFE.READY_NS ready n).put I.AFE.STEP 0 n
  (((d1.put I.AFE.WAIT 0 n).put I.AFE.RUN_FAIL 0 n).flag I.AFE.FRAME_RUN frame n).flag I.AFE.LATE_RUN (tt + 2 * d.get R.AFE.SEQ_DLY n < ready) n

/-- A dropped trigger (R335), with instance 64 + n when the previous frame dropped none (R350). -/
def Dev.seqDrop (d : Dev) (t n : Nat) : Dev :=
  let d1 := ((d.bump R.AFE.SEQ_TRIG_OVR n).bump I.AFE.DROPS n).perf 5 3 n
  if d.get I.AFE.DROPS n = 0 && d.get I.AFE.DROPS_PREV n = 0 then d1.raise t 9 (64 + n) 1 else d1

/-- A trigger of sequencer n at TB ns t: it starts, is queued, or is dropped (R335). -/
def Dev.trigger (d : Dev) (t n : Nat) (frame : Bool) : Dev :=
  if !d.afeRuns || d.get R.AFE.SEQ_NENT n = 0 then d
  else if !d.is R.AFE.SEQ_BUSY n then d.seqStart n t (t + 2 * d.get R.AFE.SEQ_DLY n) frame
  else if d.is R.AFE.SEQ_QUEUE1 n && !d.is R.AFE.SEQ_QUEUED n then (d.put R.AFE.SEQ_QUEUED 1 n).put I.AFE.QTRIG_NS t n
  else d.seqDrop t n

/-- Every sequencer with a source of the list is triggered (R334). -/
def Dev.triggerAll (d : Dev) (t : Nat) (srcs : List Nat) (frame : Bool) : Dev :=
  d.forN 8 (fun d n => if d.get R.AFE.SEQ_NENT n != 0 && srcs.contains (d.get R.AFE.SEQ_TRIG_SRC n) then d.trigger t n frame else d)

/-- SEQ_TRIGGER (R334, R335): a trigger other than the boundary's, which FRAME_BOUNDARY brings, and the software trigger. -/
def execSeqTrigger (n : Fin 8) (s : State) : Host.Outcome State Fault Refusal :=
  s.onDev fun d => if 2 ≤ d.get R.AFE.SEQ_TRIG_SRC n then (d.trigger s.clk.ns n false).settle s.clk.ns else d

/-- GT_EVENT (R334): general timer g triggers its sequencers; a PERIOD of 0 stops it. -/
def execGtEvent (g : Fin 2) (s : State) : Host.Outcome State Fault Refusal :=
  s.onDev fun d => if d.get R.AFE.GT_PERIOD g = 0 then d else (d.triggerAll s.clk.ns [5 + g] false).settle s.clk.ns

/-- LV_CARRIER_EVENT (R310, R334): a valley or a peak of the LV carrier triggers its sequencers. -/
def execLvCarrierEvent (peak : Bool) (s : State) : Host.Outcome State Fault Refusal :=
  s.onDev fun d => (d.triggerAll s.clk.ns (if peak then [3, 4] else [2, 4]) false).settle s.clk.ns

/-- The SEQ_SWTRIG write, once accepted (R334). -/
def Dev.swTrigger (d : Dev) (t mask : Nat) : Dev := d.forN 8 (fun d n => if bitOf mask n = 1 then d.trigger t n false else d)

/-- Its rejections: E_STRUCT 0x06 for a sequencer with another source (R334). -/
def Dev.swTrigErrs (d : Dev) (mask : Nat) : List Err :=
  errIf ((List.range 8).any (fun n => bitOf mask n = 1 && d.get R.AFE.SEQ_TRIG_SRC n != 0)) (eStruct 6)

/-- The converters that a sequencer's step holds are freed. -/
def Dev.freeConv (d : Dev) (n : Nat) : Dev := d.forN 4 (fun d a => if d.get I.AFE.CONV a = n + 1 then d.put I.AFE.CONV 0 a else d)

/-- Converter a is held by a step of another sequencer than n whose 200 ns have not passed (R333). -/
def Dev.convHeld (d : Dev) (t n a : Nat) : Bool :=
  let c := d.get I.AFE.CONV a
  c != 0 && c != n + 1 && t < d.get I.AFE.READY_NS (c - 1)

/-- SEQ_STEP_START (R333): the next step of a busy sequencer starts on converters that no other sequencer's step holds. ADC edges
fall every 10 ns, so that a wait is counted in whole edges after the first one at which the step was ready (R350). -/
def execSeqStepStart (n : Fin 8) (s : State) : Host.Outcome State Fault Refusal :=
  s.onDev fun d =>
    let k := d.get I.AFE.STEP n
    match (d.seqSteps n)[k]? with
    | none => d
    | some st =>
      let adcs := st.map entAdc
      if !d.is R.AFE.SEQ_BUSY n || adcs.any (fun a => d.convHeld s.clk.ns n a) then d
      else
        let wait := (s.clk.ns - d.get I.AFE.READY_NS n) / 10 * 10
        let d1 := adcs.foldl (fun d a => d.put I.AFE.CONV (n + 1) a) (d.freeConv n)
        let d2 := ((d1.put I.AFE.STEP (k + 1) n).bump I.AFE.WAIT n wait).put I.AFE.READY_NS (s.clk.ns + 200) n
        let d2 := d2.put I.AFE.STEP_NS (s.clk.ns + 50) (16 * n + k)
        if k = 0 then (d2.put I.AFE.SAMPLE_NS (s.clk.ns + 50) n).onlyIf (0 < wait) (fun d => d.put I.AFE.LATE_RUN 1 n) else d2

/-- The result of a code in a format (R338). -/
def resultOf (fmt code : Nat) : Nat :=
  match fmt with
  | 1 => code * 65536
  | 2 => ofInt 32 ((code : Int) - 32768)
  | _ => code

/-- A converter is failed (R350). -/
def Dev.adFailed (d : Dev) (a : Nat) : Bool := d.is I.AFE.TO_FAIL a || d.is I.AFE.REF_FAIL a

/-- CONV_OK follows the failures. -/
def Dev.convStatus (d : Dev) : Dev := d.put R.AFE.CONV_OK ((List.range 4).foldl (fun v a => if d.adFailed a then v else v + 2 ^ a) 0)

/-- The converter of an entry has completed a conversion in time; a VREF/2 conversion is judged (R350). -/
def Dev.adComplete (d : Dev) (t e code : Nat) : Dev :=
  let a := entAdc e
  let d1 := d.put I.AFE.TO_FAIL 0 a
  let d2 := if entCh e != 0x31 then d1
    else if 32640 ≤ code && code ≤ 32896 then d1.put I.AFE.REF_FAIL 0 a
    else (d1.put I.AFE.REF_FAIL 1 a).raise t 9 (88 + a) 1 true
  if d2.adFailed a then d2 else d2.lower 9 (88 + a)

/-- A converted threshold DAC is compared with 64 × TH (R347): `hi` is its place in the pair. -/
def Dev.dacCheck (d : Dev) (t w : Nat) (hi : Bool) (code : Nat) : Dev :=
  if t < d.get I.AFE.DAC_NS (2 * w + hi.toNat) + 2000 then d
  else
    let th := if hi then d.get R.AFE.WC_TH_HI w else d.get R.AFE.WC_TH_LO w
    let off := ((code : Int) - 64 * th).natAbs
    let d1 := d.put (if hi then R.AFE.WC_RB_HI else R.AFE.WC_RB_LO) code w
    if off ≤ d.get R.AFE.DAC_TOL then
      let d2 := d1.setBitOf I.AFE.DAC_BAD (2 * w + hi.toNat) false
      if bitsOf (d2.get I.AFE.DAC_BAD) (2 * w + 1) (2 * w) = 0 then d2.setBitOf R.AFE.WC_DACERR w false else d2
    else
      let d2 := ((d1.setBitOf I.AFE.DAC_BAD (2 * w + hi.toNat) true).setBitOf R.AFE.WC_DACERR w true).bump R.AFE.WC_DACERR_CNT w
      (if d.is R.AFE.WC_ROLE w then d2.setBitOf R.AFE.WC_LATCH w true else d2).raiseState t 9 (32 + w) hi.toNat

/-- What a converted channel says beyond its result. -/
def Dev.channelCheck (d : Dev) (t e code : Nat) : Dev :=
  let ch := entCh e
  if 0x40 ≤ ch && ch < 0x58 then d.dacCheck t (ch - 0x40) false code
  else if 0x60 ≤ ch && ch < 0x78 then d.dacCheck t (ch - 0x60) true code
  else d

/-- The instance of a run that waited for a converter after a run that did not (R350). -/
def Dev.waitCheck (d : Dev) (t n wait : Nat) : Dev :=
  if 0 < wait && d.get R.AFE.SEQ_WAIT_LAST n = 0 then d.raise t 9 (80 + n) (min (wait / 10) 255) else d

/-- The queued run starts once the running run is published (R335). -/
def Dev.seqQueued (d : Dev) (t n : Nat) : Dev :=
  if d.is R.AFE.SEQ_QUEUED n then
    let q := d.get I.AFE.QTRIG_NS n
    (d.put R.AFE.SEQ_QUEUED 0 n).seqStart n q (max (q + 2 * d.get R.AFE.SEQ_DLY n) t) false
  else d

/-- Publication of a run with its codes, entry i in bits [16i+15:16i] (R336, R339, R350). -/
def Dev.publish (d : Dev) (t n codes : Nat) : Dev :=
  let es := d.seqEntries n
  let code (i : Nat) : Nat := bitsOf codes (16 * i + 15) (16 * i)
  let d1 := es.zipIdx.foldl (fun d p => d.adComplete t p.1 (code p.2)) d
  let fail : Bool := d.is I.AFE.RUN_FAIL n || (d1.seqAdcs n).any (fun a => d1.adFailed a)
  let clip := es.zipIdx.foldl (fun v p => if code p.2 = 0 || code p.2 = 65535 then v + 2 ^ p.2 else v) 0
  let d2 := es.zipIdx.foldl (fun d p =>
    let r := resultOf (entFmt p.1) (code p.2)
    (d.put R.AFE.RESULT r (16 * n + p.2)).onlyIf (!fail) (fun d => d.put I.AFE.GOOD r (16 * n + p.2))) d1
  let wait := d.get I.AFE.WAIT n
  let d2 := (d2.perf 5 1 n).perf 5 2 n (decide (0 < wait)).toNat
  let d3 := ((((d2.put R.AFE.SEQ_TS (d.get I.AFE.SAMPLE_NS n) n).put I.AFE.PUB_NS (d.get I.AFE.SAMPLE_NS n + 1) n).wrap R.AFE.SEQ_RUNS n).put R.AFE.SEQ_CLIP clip n).flag R.AFE.SEQ_FAIL fail n
  let d4 := (((d3.bump R.AFE.SEQ_FAIL_CNT n fail.toNat).waitCheck t n wait).put R.AFE.SEQ_WAIT_LAST wait n).bump R.AFE.SEQ_LATE_CNT n (d.get I.AFE.LATE_RUN n)
  let d5 := ((d4.put R.AFE.SEQ_DUR_LAST (t - d.get I.AFE.TRIG_NS n) n).put R.AFE.SEQ_BUSY 0 n).freeConv n
  let d6 := d5.onlyIf (d.is I.AFE.FRAME_RUN n) (fun d => d.put I.AFE.GOT_RUN (if fail then 2 else 1) n)
  let d7 := es.zipIdx.foldl (fun d p => d.channelCheck t p.1 (code p.2)) d6
  (d7.convStatus).seqQueued t n

/-- CONVERSION_TIMEOUT (R350): converter a has failed; the runs that use it are published with FAIL. -/
def execConversionTimeout (a : Fin 4) (s : State) : Host.Outcome State Fault Refusal :=
  s.onDev fun d =>
    let d1 := d.forN 8 (fun d n => if d.is R.AFE.SEQ_BUSY n && (d.seqAdcs n).contains a.val then d.put I.AFE.RUN_FAIL 1 n else d)
    (((d1.put I.AFE.TO_FAIL 1 a).convStatus).raise s.clk.ns 9 (88 + a) 0 true).settle s.clk.ns

/-- The AFE cut (R339): the CE takes the last good runs; a frame-triggered sequencer whose run is missing or failed is stale. -/
def Dev.afeCut (d : Dev) (t : Nat) : Dev :=
  let d1 := d.forN 128 (fun d r => d.put I.CE.AFE_CUT (d.get I.AFE.GOOD r) r)
  d1.forN 8 (fun d n =>
    if d.get R.AFE.SEQ_NENT n = 0 || d.get R.AFE.SEQ_TRIG_SRC n != 1 then d
    else
      let ok : Bool := d.get I.AFE.GOT_RUN n = 1
      let d2 := ((d.flag R.AFE.SEQ_STALE (!ok) n).setBitOf R.AFE.STAT_STALE n (!ok)).bump R.AFE.SEQ_STALE_CNT n (!ok).toNat
      if ok then d2 else d2.raise t 9 (72 + n) (if d.get I.AFE.GOT_RUN n = 2 then 1 else 0))

/-- A result as the integer of its format (R338). -/
def Dev.afeRaw (d : Dev) (r : Nat) : Int :=
  let v := d.get I.CE.AFE_CUT r
  if entFmt (d.get R.AFE.ENTRY r) = 2 then toInt 32 v else v

/-! Window comparators (R341 to R344). -/

/-- The condition of comparator w from its hysteretic states (R341). -/
def condition (mode : Nat) (high low : Bool) : Bool :=
  match mode with
  | 1 => high
  | 2 => low
  | 3 => high || low
  | _ => false

/-- A latch is set by the filtered condition (R343, R350), with the LV instance of a trip comparator that holds half-bridges. -/
def Dev.wcLatch (d : Dev) (t w : Nat) (high : Bool) : Dev :=
  if bitOf (d.get R.AFE.WC_LATCH) w = 1 then d
  else
    let d1 := ((d.setBitOf R.AFE.WC_LATCH w true).bump R.AFE.WC_LATCH_CNT w).perf 5 4 15 |>.raise t 9 w (if high then 1 else 2) true
    if d.is R.AFE.WC_ROLE w && d.get R.LVD.TRIP_MAP w != 0 then d1.raise t 8 (136 + w) (d.get R.LVD.TRIP_MAP w) true else d1

/-- WC_FILTERED_CHANGE (R341, R342): the two hysteretic states as they now stand, their condition filtered. -/
def execWcFilteredChange (w : Fin 24) (high low : Bool) (s : State) : Host.Outcome State Fault Refusal :=
  s.onDev fun d =>
    if !d.afeRuns || d.get R.AFE.WC_WMODE w = 0 then d
    else
      let c := condition (d.get R.AFE.WC_WMODE w) high low
      let d1 := ((d.setBitOf I.AFE.WC_H w high).setBitOf I.AFE.WC_L w low).setBitOf I.AFE.WC_C w c
      (if c && bitOf (d.get I.AFE.WC_C) w = 0 then d1.wcLatch s.clk.ns w (high && d.get R.AFE.WC_WMODE w != 2) else d1).settle s.clk.ns

/-- The WC_SWCLR write, once accepted: clears wait for their boundary (R343). -/
def Dev.swClear (d : Dev) (t mask : Nat) : Dev :=
  d.forN 24 (fun d w => if bitOf mask w = 1 then (d.setBitOf I.AFE.SWCLR w true).put I.AFE.SWCLR_NS t w else d)

/-- The clearing boundaries at TB ns t (R343, R344, R347), and WC_COND. -/
def Dev.wcBoundary (d : Dev) (t : Nat) : Dev :=
  let d1 := d.put R.AFE.WC_COND (d.get I.AFE.WC_C)
  d1.forN 24 (fun d w =>
    if d.get R.AFE.WC_WMODE w = 0 then d
    else
      let sw : Bool := bitOf (d.get I.AFE.SWCLR) w = 1 && d.get I.AFE.SWCLR_NS w + 2000 ≤ t
      if !sw && !d.is R.AFE.WC_CLR w then d
      else
        let held : Bool := d.is R.AFE.WC_ROLE w && bitOf (d.get R.AFE.WC_DACERR) w = 1
        let c : Bool := bitOf (d.get I.AFE.WC_C) w = 1 || held
        let d2 := (d.setBitOf I.AFE.SWCLR w (bitOf (d.get I.AFE.SWCLR) w = 1 && !sw)).setBitOf R.AFE.WC_LATCH w c
        if c then d2 else d2.setBitOf R.AFE.WC_INIT w false)

/-- The start of a comparator under a Ream that gives it a WMODE (R344). -/
def Dev.wcStart (d : Dev) (w : Nat) : Dev :=
  let m := d.get R.AFE.WC_WMODE w
  let trip : Bool := d.is R.AFE.WC_ROLE w && m != 0
  ((((d.setBitOf I.AFE.WC_H w (trip && (m = 1 || m = 3))).setBitOf I.AFE.WC_L w (trip && (m = 2 || m = 3))).setBitOf I.AFE.WC_C w trip).setBitOf
    R.AFE.WC_LATCH w trip).setBitOf R.AFE.WC_INIT w trip

/-- The AFE at a boundary: drops of the ended frame, busy sequencers, frame triggers (R334, R339). -/
def Dev.afeBoundary (d : Dev) (t : Nat) : Dev :=
  let busy := (List.range 8).foldl (fun v n => if d.is R.AFE.SEQ_BUSY n then v + 2 ^ n else v) 0
  let d1 := (d.put R.AFE.STAT_BUSY busy).forN 8 (fun d n =>
    (((d.put I.AFE.DROPS_PREV (d.get I.AFE.DROPS n) n).put I.AFE.DROPS 0 n).put I.AFE.GOT_RUN 0 n).put I.AFE.FRAME_RUN 0 n)
  d1.triggerAll t [1] true

/-! The checks of the afe sheet. -/

/-- A sequencer's place in the check of R340: its pending steps and the ADC edge at which the next is ready. -/
structure SeqSim where
  steps : List (List Nat)
  ready : Nat
  deriving DecidableEq, Repr

/-- The edge at which the next step of a sequencer can start, given when each converter is free. -/
def SeqSim.next (q : SeqSim) (free : List Nat) : Option Nat :=
  match q.steps with
  | [] => none
  | st :: _ => some ((st.map (fun e => free.getD (entAdc e) 0)).foldl max q.ready)

/-- The sequencer whose step starts first, the lowest number among equals (R333). -/
def firstReady (free : List Nat) (l : List SeqSim) : Option (Nat × Nat) :=
  (l.zipIdx).foldl (fun best p =>
    match p.1.next free, best with
    | some e, some (_, eb) => if e < eb then some (p.2, e) else best
    | some e, none => some (p.2, e)
    | none, b => b) none

/-- The edge after which the last step of all ends, 20 edges a step. -/
def simulate : Nat → List Nat → List SeqSim → Nat → Nat
  | 0, _, _, last => last
  | k + 1, free, l, last =>
    match firstReady free l with
    | none => last
    | some (n, e) =>
      match l[n]? with
      | some ⟨st :: rest, _⟩ =>
        let free' := (st.map entAdc).foldl (fun f a => setAt f a (e + 20)) free
        simulate k free' (setAt l n ⟨rest, e + 20⟩) (max last (e + 20))
      | _ => last

/-- The end of the last frame-triggered run in ns after a boundary 8 ns before an ADC edge (R340). -/
def Dev.afeEnd (d : Dev) : Nat :=
  let l := (List.range 8).map (fun n =>
    if d.get R.AFE.SEQ_TRIG_SRC n = 1 then (⟨d.seqSteps n, (2 * d.get R.AFE.SEQ_DLY n + 1) / 10⟩ : SeqSim) else ⟨[], 0⟩)
  let e := simulate 128 [0, 0, 0, 0] l 0
  if e = 0 then 0 else 8 + 10 * e

/-- Some entries of one step name one converter twice. -/
def stepClash (st : List Nat) : Bool := decide (¬ (st.map entAdc).Nodup)

/-- The channels of R331. -/
def chExists (ch : Nat) : Bool :=
  ch ≤ 0x32 || (0x34 ≤ ch && ch ≤ 0x38) || (0x3C ≤ ch && ch ≤ 0x57) || (0x60 ≤ ch && ch ≤ 0x77)

/-- The rules of one sequencer (R349). -/
def Dev.seqBad (d : Dev) (n : Nat) : Bool :=
  let nent := d.get R.AFE.SEQ_NENT n
  let src := d.get R.AFE.SEQ_TRIG_SRC n
  let all := (List.range 16).map (fun i => d.get R.AFE.ENTRY (16 * n + i))
  let used := all.take nent
  (all.drop nent).any (fun e => e != 0) || (nent = 0 && src != 0) || used.any (fun e => !entUsed e || !chExists (entCh e)) ||
    (used.headD 0 |> entLink) || (stepsOf used).any stepClash || used.any (fun e => entFmt e = 2 && !(0x20 ≤ entCh e && entCh e ≤ 0x2F)) ||
    (2 ≤ src && src ≤ 4 && (List.range 8).all (fun k => !d.hbUsed k)) || ((src = 5 || src = 6) && d.get R.AFE.GT_PERIOD (src - 5) = 0) ||
    (src = 7 && !d.is I.FELT.RING_EN (d.get R.AFE.SEQ_FSYNC_RING n))

/-- The rules of one comparator (R349). -/
def Dev.wcBad (d : Dev) (w : Nat) : Bool :=
  let hi := d.get R.AFE.WC_TH_HI w
  let lo := d.get R.AFE.WC_TH_LO w
  let h := d.get R.AFE.WC_HYST w
  match d.get R.AFE.WC_WMODE w with
  | 0 => d.is R.AFE.WC_ROLE w
  | 1 => hi < h
  | 2 => 1023 < lo + h
  | _ => (hi : Int) - h ≤ lo + h

/-- The rules of R340 and R349, with E_STRUCT 0x06; a GT_PHASE outside its timer's period is out of range. -/
def Dev.afeRules (d : Dev) : List Err :=
  errIf ((List.range 2).any (fun g => if d.get R.AFE.GT_PERIOD g = 0 then d.get R.AFE.GT_PHASE g != 0 else d.get R.AFE.GT_PERIOD g ≤ d.get R.AFE.GT_PHASE g)) eRange ++
  errIf ((List.range 8).any d.seqBad || (List.range 24).any d.wcBad || d.get I.TB.L1_MAX < 4 * d.afeEnd) (eStruct 6)

end Sys2Proof.Machine
end

