-- ==== Sys2Proof/Machine/CtrlEngine.lean ====
section
/-! DEFINITION. The control engine's front end (10_control_engine.md): slot descriptors, signals, transforms, PLLs, the grid
monitor and the laws. What stage 1 computes stands in the F_ fields until delivery commits it (R294). -/
namespace Sys2Proof.Machine

/-! Constants as bit patterns, each the nearest value of its format. -/
def tau32 : Nat := 0x40C90FDB
def tau64 : Nat := 0x401921FB54442D18
def third32 : Nat := 0x40060A92     -- 2π/3
def twoThird32 : Nat := 0x40860A92  -- 4π/3

/-- A loop-slot descriptor (R298). -/
structure LoopSlot where
  n        : Nat
  kind     : Nat
  nsec     : Nat
  errNeg   : Bool
  refLv    : Bool
  stopRamp : Bool
  plEn     : Bool
  types    : List Nat
  mask     : Nat
  fb       : Nat
  sp       : Nat
  ff       : Nat
  preset   : Nat
  dest     : Nat
  hb       : Nat
  deriving DecidableEq, Repr

/-- Slot n as its descriptor words give it (R298). -/
def Dev.slot (d : Dev) (n : Nat) : LoopSlot :=
  let w (i : Nat) : Nat := d.get R.CE.SLOT_DESC (4 * n + i)
  let a := w 0
  let nsec := bitsOf a 10 8
  ⟨n, bitsOf a 7 0, nsec, bitOf a 11 = 1, bitOf a 12 = 1, bitOf a 13 = 1, bitOf a 14 = 1,
    (List.range nsec).map (fun j => bitsOf a (17 + 2 * j) (16 + 2 * j)), bitsOf a 28 24, bitsOf (w 1) 15 0, bitsOf (w 1) 31 16,
    bitsOf (w 2) 15 0, bitsOf (w 2) 31 16, bitsOf (w 3) 7 0, bitsOf (w 3) 23 16⟩

/-- The slots that are present, in ascending number (R271). -/
def Dev.slots (d : Dev) : List LoopSlot := ((List.range 64).filter (fun n => bitsOf (d.get R.CE.SLOT_DESC (4 * n)) 7 0 != 0)).map d.slot

/-- The instances of a slot computed in a frame whose law enables it (R271). -/
def Dev.instances (d : Dev) (sl : LoopSlot) : List Nat :=
  match sl.kind with
  | 1 => [0]
  | 2 => d.strings
  | 3 => (List.range 144).filter (fun c => d.role c = roleActive || d.role c = rolePark)
  | 4 => (List.range 8).filter (fun k => bitOf sl.hb k = 1)
  | _ => []

/-- LAW_MASK includes a law (R284). -/
def LoopSlot.inLaw (sl : LoopSlot) (law : Nat) : Bool := law != 0 && bitOf sl.mask (law - 1) = 1

/-- The mode the law follows: a standby computes under the primary's (R284, R412). -/
def Dev.ceMode (d : Dev) : Mode := if d.mode = .mirror then Mode.ofCode (d.get R.PART.PARTNER_MODE) else d.mode

/-- The law of the frame (R284). -/
def Dev.lawOf (d : Dev) : Nat :=
  match d.ceMode with
  | .precharge => 1
  | .sync => 2
  | .run | .degraded => 3 + d.get R.CE.LV_LAW
  | .rideThrough => 5
  | .stopping => d.get R.CE.LAW
  | _ => 0

/-- T of the frame in a format: TF_LAST × 2 ns (R266). -/
def Dev.frameT (d : Dev) (F : Fmt) : Nat := F.ofRatio (2 * d.get R.TB.TF_LAST : Nat) 1000000000

/-! Signals (R269, R270). -/

/-- AFE result r in SI units. -/
def Dev.afeSig (d : Dev) (r : Nat) : Nat := c32.add (c32.mul (d.get I.CE.GAIN r) (c32.ofInt (d.afeRaw r))) (d.get I.CE.OFS r)

/-- A measured quantity of cell c in SI units; 0 before its first valid block (R17). -/
def Dev.cellSig (d : Dev) (c m : Nat) : Nat :=
  if !d.is I.CELL.EVER c then 0
  else
    match m with
    | 0 => c32.ofRatio (d.measured c 0 : Nat) 20
    | 1 => c32.ofRatio (d.measuredInt c 1) 100
    | 2 => c32.ofRatio (d.measuredInt c 2) 50
    | 3 => c32.ofRatio (d.measured c 3 : Nat) 20
    | 4 => c32.ofRatio (d.measuredInt c 4) 16
    | 5 => c32.ofRatio (d.measuredInt c 5) 16
    | _ => 0

/-- A quantity of string s; DIR_s is 1, −1 or 0. -/
def Dev.strSig (d : Dev) (s m : Nat) : Nat :=
  match m with
  | 0 => d.get R.CAL.STR_VMEAN s
  | 1 => d.get R.CAL.STR_VMEANF s
  | 2 => d.get R.CAL.STR_ES s
  | 3 => d.get R.CAL.STR_I_STR s
  | 4 => match d.get R.CAL.STR_CUR_DIR s with | 1 => c32.one | 2 => c32.neg c32.one | _ => 0
  | _ => 0

/-- The instance of a per-cell signal a slot of kind k reads at instance i: its own cell, or the one the index names. -/
def atCell (k i base : Nat) : Nat := if k = 3 then base + i else base

/-- The instance of a per-string signal: its own string, the string of its cell, or the one the index names. -/
def Dev.atString (d : Dev) (k i base : Nat) : Nat := if k = 2 then base + i else if k = 3 then d.get I.CELL.STRING i else base

/-- The value of signal idx for instance i of a slot of kind k, binary32. -/
def Dev.sig (d : Dev) (k i idx : Nat) : Nat :=
  if idx = 1 then c32.one
  else if 0x100 ≤ idx ∧ idx < 0x180 then d.afeSig (idx - 0x100)
  else if 0x200 ≤ idx ∧ idx < 0x213 then d.get I.CE.FE (idx - 0x200)
  else if 0x1000 ≤ idx ∧ idx < 0x1480 then d.cellSig (atCell k i ((idx - 0x1000) / 8)) (idx % 8)
  else if 0x1800 ≤ idx ∧ idx < 0x1890 then d.get R.CAL.SLOT_E (atCell k i (idx - 0x1800))
  else if 0x1A00 ≤ idx ∧ idx < 0x1A30 then d.strSig (d.atString k i ((idx - 0x1A00) / 8)) (idx % 8)
  else if idx = 0x1A40 then d.get R.CAL.VM_ALL
  else if idx = 0x1A41 then d.get R.CAL.INTER_OUT
  else if 0x2000 ≤ idx ∧ idx < 0x2040 then d.get R.CE.SETPT (idx - 0x2000)
  else if 0x3000 ≤ idx ∧ idx < 0x3040 then
    let m := idx - 0x3000
    let km := (d.slot m).kind
    d.get I.CE.OUT (144 * m + (if km = 1 then 0 else if km = k then i else if km = 2 ∧ k = 3 then d.get I.CELL.STRING i else 0))
  else 0

/-- The signal is stale in the frame: a cell quantity without a valid block (R16, R17), or the result of a stale sequencer (R339). -/
def Dev.sigStale (d : Dev) (k i idx : Nat) : Bool :=
  if 0x100 ≤ idx ∧ idx < 0x180 then d.is R.AFE.SEQ_STALE ((idx - 0x100) / 16)
  else if 0x1000 ≤ idx ∧ idx < 0x1480 then !d.fresh (atCell k i ((idx - 0x1000) / 8))
  else if 0x1800 ≤ idx ∧ idx < 0x1890 then !d.fresh (atCell k i (idx - 0x1800))
  else false

/-- Front-end input i; 0 when it is not mapped. -/
def Dev.feIn (d : Dev) (i : Nat) : Nat := let x := d.get I.CE.FE_IN i; if x = 0 then 0 else d.sig 1 0 x

/-! Transforms (R279). -/

/-- a·cos θ + b·cos(θ − 2π/3) + c·cos(θ + 2π/3), or with another function in place of the cosine. -/
def threeSum (g : Nat → Nat) (a b c th : Nat) : Nat :=
  c32.add (c32.add (c32.mul a (g th)) (c32.mul b (g (c32.sub th third32)))) (c32.mul c (g (c32.add th third32)))

def twoOverThree : Nat := 0x3F2AAAAB
def parkD (a b c th : Nat) : Nat := c32.mul twoOverThree (threeSum Config.cos32 a b c th)
def parkQ (a b c th : Nat) : Nat := c32.mul (c32.neg twoOverThree) (threeSum Config.sin32 a b c th)
def park0 (a b c : Nat) : Nat := c32.div (c32.add (c32.add a b) c) (c32.ofInt 3)
/-- The Clarke components: α and β of three phases. -/
def clarkeA (a b c : Nat) : Nat := c32.mul twoOverThree (c32.sub a (c32.div (c32.add b c) (c32.ofInt 2)))
def clarkeB (b c : Nat) : Nat := c32.mul 0x3F13CD3A (c32.sub b c)
/-- The rotation of (α, β) into a frame at θ. -/
def rotD (al be th : Nat) : Nat := c32.add (c32.mul al (Config.cos32 th)) (c32.mul be (Config.sin32 th))
def rotQ (al be th : Nat) : Nat := c32.sub (c32.mul be (Config.cos32 th)) (c32.mul al (Config.sin32 th))
def hyp (x y : Nat) : Nat := c32.sqrt (c32.add (c32.mul x x) (c32.mul y y))
/-- D·cos x − Q·sin x + Z: the inverse Park transform (R278). -/
def invPark (dd q z x : Nat) : Nat := c32.add (c32.sub (c32.mul dd (Config.cos32 x)) (c32.mul q (Config.sin32 x))) z

/-- a modulo m, for finite a and positive m. -/
def Fmt.modulo (F : Fmt) (a m : Nat) : Nat :=
  if !F.finite a then a
  else
    let (na, da) := F.ratio a
    let (nm, dm) := F.ratio m
    let k : Int := (na * dm) / (nm * da)
    F.ofRatio (na * dm - k * nm * da) (da * dm)

/-! Delayed-signal cancellation (R279). -/

/-- The component k frames before the frame in progress; 0 is the frame in progress. -/
def Dev.histAt (d : Dev) (f now : Fld) (k : Nat) : Nat :=
  if k = 0 then d.get now else d.get f ((d.get I.CE.HIST_IX + 16385 - min k 16383) % 16384)

/-- A component D frames ago, interpolated between whole frames; D = 1/(4 × FNOM × T). -/
def Dev.delayed (d : Dev) (f now : Fld) : Nat :=
  let D := c32.div c32.one (c32.mul (c32.mul (c32.ofInt 4) (d.get R.CE.FNOM)) (d.frameT c32))
  let r := c32.ratio D
  let j := (r.1 / r.2).toNat
  let fr := c32.sub D (c32.ofInt j)
  c32.add (c32.mul (d.histAt f now j) (c32.sub c32.one fr)) (c32.mul (d.histAt f now (j + 1)) fr)

/-! PLLs (R280, R281): index 0 is the MV PLL, 1 the LV PLL. Their states are binary64, as the mirror items carry them (R414). -/

/-- vq = q / |v|; a free value when |v| is zero. -/
def Dev.vqNorm (d : Dev) (q mag : Nat) : Nat := if c32.isZero mag then Config.pllOfZero d.draws % 2 ^ 32 else c32.div q mag

/-- One frame of a PLL's law: ω, its integrator and the next angle. -/
def Dev.pllStep (d : Dev) (p vq fnom : Nat) : Dev :=
  let T := d.frameT c64
  let v := c32.cvt c64 vq
  let x := d.get I.CE.X p
  let span := c64.mul tau64 (c32.cvt c64 (d.get R.CE.PLL_DFMAX))
  let mid := c64.mul tau64 (c32.cvt c64 fnom)
  let w0 := c64.add (c64.add mid (c64.mul (c32.cvt c64 (d.get R.CE.PLL_KP)) v)) x
  let w := c64.clamp w0 (c64.sub mid span) (c64.add mid span)
  let x1 := c64.clamp (c64.add x (c64.mul (c64.mul (c32.cvt c64 (d.get R.CE.PLL_KI)) T) v)) (c64.neg span) span
  ((d.put I.CE.F_X x1 p).put I.CE.F_OM w p).put I.CE.F_TH (c64.modulo (c64.add (d.get I.CE.TH p) (c64.mul w T)) tau64) p

/-- The lock of a PLL after the frame, from the lock in force and the count of consecutive frames against it (R280). -/
def Dev.lockStep (d : Dev) (p vq : Nat) (lock : Bool) : Dev × Bool :=
  let near : Bool := c32.le (c32.abs vq) (d.get R.CE.PLL_LOCK_THR)
  if near = lock then (d.put I.CE.F_RUN 0 p, lock)
  else
    let n := satAdd 16 (d.get I.CE.RUN p) 1
    (d.put I.CE.F_RUN n p, if d.get R.CE.PLL_LOCK_N ≤ n then near else lock)

/-- The PLL holds its states in a mode in which it does not run (R280). -/
def Dev.pllHold (d : Dev) (p : Nat) : Dev :=
  (((d.put I.CE.F_X (d.get I.CE.X p) p).put I.CE.F_OM (d.get I.CE.OM p) p).put I.CE.F_TH (d.get I.CE.TH p) p).put I.CE.F_RUN (d.get I.CE.RUN p) p

def one32If (b : Bool) : Nat := if b then c32.one else 0

/-- A front-end signal of the frame. -/
def Dev.putFe (d : Dev) (idx v : Nat) : Dev := d.put I.CE.FE v (idx - 0x200)

/-- The PLLs run in every mode except BOOT, BACKUP and SAFE (R280). -/
def Dev.pllsRun (d : Dev) : Bool := !d.inMode [.boot, .backup, .safe]

/-- The MV side: transforms, positive sequence, PLL and VP_PU (R279, R280). -/
def Dev.feMv (d : Dev) : Dev :=
  let a := d.feIn 0
  let b := d.feIn 1
  let c := d.feIn 2
  let d1 := (d.put I.CE.F_ALPHA (clarkeA a b c)).put I.CE.F_BETA (clarkeB b c)
  let half := 0x3F000000
  let al := c32.mul half (c32.sub (d1.get I.CE.F_ALPHA) (d1.delayed I.CE.HIST_B I.CE.F_BETA))
  let be := c32.mul half (c32.add (d1.get I.CE.F_BETA) (d1.delayed I.CE.HIST_A I.CE.F_ALPHA))
  let th := c64.cvt c32 (d1.get I.CE.TH 0)
  let q := rotQ al be th
  let mag := hyp al be
  let vq := d1.vqNorm q mag
  let old : Bool := d1.is R.CE.MV_LOCK
  let (d2, lock) := if d1.pllsRun then (d1.pllStep 0 vq (d1.get R.CE.FNOM)).lockStep 0 vq old else (d1.pllHold 0, old)
  let nom := c32.mul (d2.get R.CE.VMV_NOM) 0x3F5105EC
  ((((((d2.draw.putFe 0x200 th).putFe 0x201 (c64.cvt c32 (d2.get I.CE.F_OM 0))).putFe 0x202 (rotD al be th)).putFe 0x203 q).putFe 0x204
    (c32.div mag nom)).putFe 0x205 (one32If lock))

/-- The LV angle of the frame that follows (R281): the LV PLL, or with LV_LAW 1 the signal LV_FSIG. On a return to LV_LAW 0 the
integrator starts so that OMEGA_LV goes on from its value. -/
def Dev.lvAngle (d : Dev) (vq : Nat) : Dev × Bool :=
  let old : Bool := d.is R.CE.LV_LOCK
  if !d.pllsRun then (d.pllHold 1, old)
  else if d.get R.CE.LV_LAW = 1 then
    let w := c64.mul tau64 (c32.cvt c64 (d.sig 1 0 (d.get R.CE.LV_FSIG)))
    let th := c64.modulo (c64.add (d.get I.CE.TH 1) (c64.mul (c64.mul tau64 (d.frameT c64)) (c32.cvt c64 (d.sig 1 0 (d.get R.CE.LV_FSIG))))) tau64
    ((((d.put I.CE.F_X (d.get I.CE.X 1) 1).put I.CE.F_OM w 1).put I.CE.F_TH th 1).put I.CE.F_RUN 0 1, true)
  else
    let d1 := if !d.is I.CE.LVLAW_LAST then d
      else
        let base := c64.add (c64.mul tau64 (c32.cvt c64 (d.get R.CE.LV_FNOM))) (c64.mul (c32.cvt c64 (d.get R.CE.PLL_KP)) (c32.cvt c64 vq))
        let span := c64.mul tau64 (c32.cvt c64 (d.get R.CE.PLL_DFMAX))
        d.put I.CE.X (c64.clamp (c64.sub (d.get I.CE.OM 1) base) (c64.neg span) span) 1
    (d1.pllStep 1 vq (d.get R.CE.LV_FNOM)).lockStep 1 vq old

/-- The LV side: transforms, angle and lock (R279, R281). -/
def Dev.feLv (d : Dev) : Dev :=
  let th := c64.cvt c32 (d.get I.CE.TH 1)
  let v (i : Nat) : Nat := d.feIn i
  let vd := parkD (v 3) (v 4) (v 5) th
  let vq := parkQ (v 3) (v 4) (v 5) th
  let (d1, lock) := d.lvAngle (d.vqNorm vq (hyp vd vq))
  let i0 := if d.get I.CE.FE_IN 9 = 0 then park0 (v 6) (v 7) (v 8) else c32.div (c32.neg (v 9)) (c32.ofInt 3)
  let d2 := ((d1.draw.putFe 0x208 th).putFe 0x209 (c64.cvt c32 (d1.get I.CE.F_OM 1))).putFe 0x212 (one32If lock)
  let d3 := ((d2.putFe 0x20A vd).putFe 0x20B vq).putFe 0x20C (park0 (v 3) (v 4) (v 5))
  let d4 := ((d3.putFe 0x20D (parkD (v 6) (v 7) (v 8) th)).putFe 0x20E (parkQ (v 6) (v 7) (v 8) th)).putFe 0x20F i0
  (d4.putFe 0x210 (v 10)).putFe 0x211 (v 11)

/-- The grid is out of band in the frame (R282); without an MV side there is no grid to watch. -/
def Dev.outOfBand (d : Dev) : Bool :=
  let pu := d.get I.CE.FE 4
  bitOf (d.get I.CE.REF) 0 = 1 &&
    (c32.lt pu (d.get R.CE.RT_VLO) || c32.lt (d.get R.CE.RT_VHI) pu || d.get I.CE.FE 5 = 0 ||
      c32.lt (d.get R.CE.RT_DF) (c32.abs (c32.sub (c32.div (d.get I.CE.FE 1) tau32) (d.get R.CE.FNOM))))

/-- The counts of the grid monitor (R282). -/
def Dev.gridMonitor (d : Dev) : Dev :=
  if d.outOfBand then (d.put I.CE.F_OUT (satAdd 16 (d.get R.CE.OUT_BAND_RUN) 1)).put I.CE.F_IN 0
  else (d.put I.CE.F_IN (satAdd 16 (d.get R.CE.IN_BAND_RUN) 1)).put I.CE.F_OUT 0

/-- Stage 1 at TB ns t (R267): the AFE results are taken, the front end computes, and the law of the frame is set. A module with
no active Ream has no control law and computes nothing. -/
def Dev.ceStart (d : Dev) (t : Nat) : Dev :=
  if d.is I.CE.STARTED || d.ream.active.isNone then d
  else
    let d1 := ((((d.afeCut t).put I.CE.STARTED 1).put I.CE.BUSY 1).put I.CE.START_NS t).put I.CE.MV_CHG 0
    ((d1.feMv.feLv).gridMonitor).put I.CE.F_LAW d.lawOf

/-- The count of stage 1 has reached PLL_LOCK_N, and MV_LOCK changes; a fall in a law other than none raises instance 2 (R280, R295).
The delivery takes a change that MV_LOCK_CHANGE has not brought. -/
def Dev.mvLockTake (d : Dev) (t : Nat) : Dev :=
  let new : Bool := d.get I.CE.FE 5 != 0
  if !d.is I.CE.BUSY || new = d.is R.CE.MV_LOCK then d
  else
    let d1 := ((d.flag R.CE.MV_LOCK new).put I.CE.F_RUN 0 0).put I.CE.MV_CHG 1
    if !new && d.get I.CE.F_LAW != 0 then d1.raise t 7 2 0 else d1

/-- MV_LOCK_CHANGE (R280, R295). -/
def execMvLockChange (s : State) : Host.Outcome State Fault Refusal := s.onDev fun d => (d.mvLockTake s.clk.ns).settle s.clk.ns

/-- The grid has been out of band for GM_DET consecutive frames, and the grid monitor reports a fault (R282); the end of the frame
takes one that GRID_FAULT has not brought. -/
def Dev.gridTake (d : Dev) : Dev :=
  let n := if d.is I.CE.BUSY then d.get I.CE.F_OUT else d.get R.CE.OUT_BAND_RUN
  if 0 < d.get R.CE.GM_DET && d.get R.CE.GM_DET ≤ n then d.put R.CE.GRID_FAULT 1 else d

/-- GRID_FAULT (R282). -/
def execGridFault (s : State) : Host.Outcome State Fault Refusal := s.onDev fun d => d.gridTake

end Sys2Proof.Machine
end

