-- ==== Sys2Proof/Machine/CtrlSlots.lean ====
section
/-! DEFINITION. The loop slots (10_control_engine.md): sections, anti-windup, slew limiter, preload, hand-over, blends, plausibility
and the coefficient banks. Instance i of slot n stands at 144 n + i; destination instance k at 144 DEST + i. -/
namespace Sys2Proof.Machine

/-! Section types (R272). -/
def secPI : Nat := 0
def secBiquad : Nat := 1
def secPR : Nat := 2
def secLeadlag : Nat := 3

/-- The states of one instance: the slew limiter and the two states of each section. -/
structure Inst where
  sp : Nat
  a  : List Nat
  b  : List Nat
  deriving DecidableEq, Repr

/-- Coefficient k of section j of a slot in the active bank (R298). -/
def Dev.coef (d : Dev) (sl : LoopSlot) (j k : Nat) : Nat := d.get R.CE.ACTIVE_BANK (36 * sl.n + 8 * j + k)
def Dev.coef64 (d : Dev) (sl : LoopSlot) (j k : Nat) : Nat := c32.cvt c64 (d.coef sl j k)
def Dev.yMin (d : Dev) (sl : LoopSlot) : Nat := d.get R.CE.ACTIVE_BANK (36 * sl.n + 32)
def Dev.yMax (d : Dev) (sl : LoopSlot) : Nat := d.get R.CE.ACTIVE_BANK (36 * sl.n + 33)
def Dev.kb (d : Dev) (sl : LoopSlot) : Nat := d.get R.CE.ACTIVE_BANK (36 * sl.n + 34)

/-- The place of an instance. -/
def LoopSlot.at (sl : LoopSlot) (i : Nat) : Nat := 144 * sl.n + i

def Dev.loadInst (d : Dev) (sl : LoopSlot) (i : Nat) : Inst :=
  ⟨d.get I.CE.SP (sl.at i), (List.range 4).map (fun j => d.get I.CE.SA (4 * sl.at i + j)), (List.range 4).map (fun j => d.get I.CE.SB (4 * sl.at i + j))⟩

def Dev.saveInst (d : Dev) (sl : LoopSlot) (i : Nat) (st : Inst) : Dev :=
  let d1 := d.put I.CE.SP st.sp (sl.at i)
  let d2 := st.a.zipIdx.foldl (fun d p => d.put I.CE.SA p.1 (4 * sl.at i + p.2)) d1
  st.b.zipIdx.foldl (fun d p => d.put I.CE.SB p.1 (4 * sl.at i + p.2)) d2

/-- The first state of a section as its output reads it. -/
def Inst.read (st : Inst) (ty j : Nat) : Nat :=
  let v := st.a.getD j 0
  if ty = secPI || ty = secPR then c64.cvt c32 v else v

/-- Input and output of every section, from its present states (R272). -/
def Dev.chain (d : Dev) (sl : LoopSlot) (st : Inst) (u : Nat) : List (Nat × Nat) :=
  (sl.types.zipIdx.foldl (fun (acc : Nat × List (Nat × Nat)) p =>
    let y := c32.add (c32.mul (d.coef sl p.2 0) acc.1) (st.read p.1 p.2)
    (y, acc.2 ++ [(acc.1, y)])) (u, [])).2

/-- y_raw: the chain output plus the feed-forward (R273). -/
def Dev.yRaw (d : Dev) (sl : LoopSlot) (st : Inst) (u ff : Nat) : Nat :=
  c32.add (match (d.chain sl st u).getLast? with | some p => p.2 | none => u) ff

/-- G_d of section j: the product of the direct gains that follow it (R274). -/
def Dev.gD (d : Dev) (sl : LoopSlot) (j : Nat) : Nat :=
  ((List.range sl.nsec).filter (fun k => j < k)).foldl (fun g k => c32.mul g (d.coef sl k 0)) c32.one

/-- The input term of a section is omitted by AW = 0 in a saturated frame (R274). -/
def Dev.omitIn (d : Dev) (sl : LoopSlot) (ty j v : Nat) (hi lo : Bool) : Bool :=
  if d.get R.CE.PAR_AW sl.n = 1 then false
  else if ty = secPR then hi || lo
  else
    let p := c32.mul (c32.mul (d.coef sl j 1) v) (d.gD sl j)
    (hi && c32.lt 0 p) || (lo && c32.lt p 0)

/-- The new states of section j (R272, R274); diff is y_app − y_raw and om is ω, both binary64. -/
def Dev.secUpdate (d : Dev) (sl : LoopSlot) (st : Inst) (ty j v y : Nat) (hi lo : Bool) (diff om : Nat) : Nat × Nat :=
  let T := d.frameT c64
  let a := st.a.getD j 0
  let b := st.b.getD j 0
  let aw := if d.get R.CE.PAR_AW sl.n = 1 then c64.mul (c64.mul (c32.cvt c64 (d.kb sl)) T) diff else 0
  let inp := if d.omitIn sl ty j v hi lo then 0 else c64.mul (c64.mul (d.coef64 sl j 1) T) (c32.cvt c64 v)
  if ty = secPI then (c64.clamp (c64.add (c64.add a inp) aw) (d.coef64 sl j 2) (d.coef64 sl j 3), 0)
  else if ty = secPR then
    let th := c64.mul (c64.mul (d.coef64 sl j 2) om) T
    let dm := c64.max 0 (c64.sub c64.one (c64.mul (d.coef64 sl j 3) T))
    let co := Config.cos64 th
    let si := Config.sin64 th
    let xa := c64.add (c64.mul dm (c64.sub (c64.mul co a) (c64.mul si b))) (c64.add inp aw)
    let xb := c64.mul dm (c64.add (c64.mul si a) (c64.mul co b))
    (c64.clamp xa (d.coef64 sl j 4) (d.coef64 sl j 5), c64.clamp xb (d.coef64 sl j 4) (d.coef64 sl j 5))
  else if ty = secBiquad then
    (c32.add (c32.sub (c32.mul (d.coef sl j 1) v) (c32.mul (d.coef sl j 3) y)) b,
     c32.sub (c32.mul (d.coef sl j 2) v) (c32.mul (d.coef sl j 4) y))
  else (c32.sub (c32.mul (d.coef sl j 1) v) (c32.mul (d.coef sl j 2) y), 0)

/-- The states of an instance after its output was formed (R272, R273). -/
def Dev.updateInst (d : Dev) (sl : LoopSlot) (st : Inst) (u : Nat) (hi lo : Bool) (diff : Nat) : Inst :=
  let om := c32.cvt c64 (d.get I.CE.FE (if sl.refLv then 9 else 1))
  (((d.chain sl st u).zip sl.types).zipIdx).foldl (fun acc p =>
    let r := d.secUpdate sl st p.1.2 p.2 p.1.1.1 p.1.1.2 hi lo diff om
    { acc with a := setAt acc.a p.2 r.1, b := setAt acc.b p.2 r.2 }) st

/-- The last PI or PR section of a slot (R285). -/
def LoopSlot.lastInt (sl : LoopSlot) : Option Nat := ((List.range sl.nsec).filter (fun j => sl.types.getD j 0 = secPI || sl.types.getD j 0 = secPR)).getLast?

/-- The preload of an instance to a target, and whether it is limited (R285). -/
def Dev.preload (d : Dev) (sl : LoopSlot) (st : Inst) (u ff target : Nat) : Inst × Bool :=
  let yc := c32.clamp target (d.yMin sl) (d.yMax sl)
  match sl.lastInt with
  | none => (st, true)
  | some j =>
    let g := d.gD sl j
    if c32.lt (c32.abs g) 0x358637BD then (st, true)
    else
      let raw := d.yRaw sl st u ff
      let k := if sl.types.getD j 0 = secPI then 2 else 4
      let lo := d.coef64 sl j k
      let hi := d.coef64 sl j (k + 1)
      let a0 := c64.add (st.a.getD j 0) (c64.div (c64.sub (c32.cvt c64 yc) (c32.cvt c64 raw)) (c32.cvt c64 g))
      let b0 := st.b.getD j 0
      let a1 := c64.clamp a0 lo hi
      let b1 := if k = 4 then c64.clamp b0 lo hi else b0
      ({ st with a := setAt st.a j a1, b := setAt st.b j b1 }, yc != target || a1 != a0 || b1 != b0)

/-- The factor on the set-points of STOP_RAMP slots while a DERATE is in force (R362): the lowest DERATE_K. -/
def Dev.derateK (d : Dev) : Option Nat :=
  if !d.inMode [.sync, .run, .degraded, .rideThrough] then none
  else
    match (d.active.filter (fun a => a.react = 4)).map (fun a => a.derate) with
    | [] => none
    | x :: xs => some (xs.foldl min x)

/-- sp_in of an instance (R275, R362). -/
def Dev.spIn (d : Dev) (sl : LoopSlot) (i : Nat) : Nat :=
  let v := d.sig sl.kind i sl.sp
  if !sl.stopRamp then v
  else if d.ceMode = .stopping then 0
  else match d.derateK with | some k => c32.mul (c32.ofRatio (k : Nat) 256) v | none => v

/-- One frame of the slew limiter (R275). -/
def Dev.slew (d : Dev) (sl : LoopSlot) (sp spIn : Nat) : Nat :=
  let T := d.frameT c64
  c64.add sp (c64.clamp (c64.sub (c32.cvt c64 spIn) sp) (c64.neg (c64.mul (c32.cvt c64 (d.get R.CE.PAR_SLEW_DN sl.n)) T))
    (c64.mul (c32.cvt c64 (d.get R.CE.PAR_SLEW_UP sl.n)) T))

/-! Destinations (R277). -/

/-- The instances a destination has. -/
def destCount (k : Nat) : Nat :=
  match k with
  | 1 | 2 | 3 | 7 | 8 | 9 => 1
  | 4 => 6
  | 5 | 6 => 144
  | 10 => 8
  | _ => 0

/-- The place of the destination instance a slot instance drives. -/
def LoopSlot.destAt (sl : LoopSlot) (i : Nat) : Nat := 144 * sl.dest + (if sl.kind = 1 then 0 else i)

/-- A slot that runs in the frame, with its instances. -/
abbrev Runs := List (LoopSlot × List Nat)

/-- The slots the law of the frame runs (R271, R284). -/
def Dev.runsOf (d : Dev) : Runs := (d.slots.filter (fun sl => sl.inLaw (d.get I.CE.F_LAW))).map (fun sl => (sl, d.instances sl))

/-- The slots that drive a destination instance in the frame. -/
def drivers (rs : Runs) (k : Nat) : List LoopSlot :=
  (rs.filter (fun p => p.1.dest != 0 && p.2.any (fun i => p.1.destAt i = k))).map (fun p => p.1)

/-- The slots that drove it in the previous frame. -/
def Dev.driversPrev (d : Dev) (sls : List LoopSlot) (k : Nat) : List LoopSlot :=
  sls.filter (fun sl => sl.dest = k / 144 && sl.dest != 0 && d.is I.CE.RAN (sl.at (k % 144)))

/-- An instance starts in the frame (R286). -/
def Dev.starts (d : Dev) (sl : LoopSlot) (i : Nat) : Bool := d.is I.CE.FRESH || !sl.inLaw (d.get R.CE.LAW) || !d.is I.CE.RAN (sl.at i)

/-- The sum of the outputs of the continuing slots of a destination instance, a slot left out: of this frame for a lower number, of
the previous frame for a higher one (R268, R286). -/
def Dev.othersOut (d : Dev) (rs : Runs) (sl : LoopSlot) (i : Nat) : Nat :=
  let k := sl.destAt i
  c32.sum (((drivers rs k).filter (fun m => m.n != sl.n && !d.starts m (k % 144))).map (fun m => d.get I.CE.OUT (m.at (k % 144))))

/-- A new blend of a destination instance from its present value (R287). -/
def Dev.blendStart (d : Dev) (k raw slot : Nat) : Dev :=
  let dp := if d.is I.CE.B_ON k then d.get I.CE.B_D k else d.get I.CE.DST k
  let h := d.get R.CE.HANDOVER_T
  let r := c32.div (c32.abs (c32.sub raw dp)) (c32.ofRatio (h : Nat) 1000)
  ((((d.put I.CE.B_ON 1 k).put I.CE.B_D dp k).put I.CE.B_R r k).put I.CE.B_LEFT (h * 1000000) k).put I.CE.B_SLOT slot k

/-- One frame of a blend towards the sum of the frame: the value applied (R287). -/
def Dev.blendStep (d : Dev) (k raw : Nat) : Dev × Nat :=
  let b := d.get I.CE.B_D k
  let r := c32.mul (d.get I.CE.B_R k) (d.frameT c32)
  let x := c32.add b (c32.clamp (c32.sub raw b) (c32.neg r) r)
  let left := d.get I.CE.B_LEFT k - 2 * d.get R.TB.TF_LAST
  if c32.eq x raw || left = 0 then (((d.put I.CE.B_ON 0 k).put I.CE.B_D raw k).put I.CE.B_LEFT 0 k, raw)
  else ((d.put I.CE.B_D x k).put I.CE.B_LEFT left k, x)

/-! One instance. -/

/-- The target of a starting instance, and whether it is a hand-over (R286). -/
def Dev.startTarget (d : Dev) (rs : Runs) (sls : List LoopSlot) (sl : LoopSlot) (i : Nat) : Nat × Bool :=
  let k := sl.destAt i
  let now := drivers rs k
  let hand : Bool := sl.dest != 0 && (d.driversPrev sls k).any (fun m => m.n != sl.n && !now.any (fun x => x.n = m.n))
  if hand then (c32.sub (d.get I.CE.DST k) (d.othersOut rs sl i), true)
  else (if sl.preset = 0 then 0 else c32.mul (d.get R.CE.PAR_PRESET_K sl.n) (d.sig sl.kind i sl.preset), false)

/-- At a start the slew limiter takes the feedback and the BIQUAD and LEADLAG states are cleared (R286). -/
def Inst.begin (st : Inst) (sl : LoopSlot) (fb : Nat) : Inst :=
  sl.types.zipIdx.foldl (fun st p =>
    if p.1 = secBiquad || p.1 = secLeadlag then { st with a := setAt st.a p.2 0, b := setAt st.b p.2 0 } else st) { st with sp := c32.cvt c64 fb }

/-- What the slot stage collects: the state, whether a running slot was saturated, and the slots whose swap preload was limited. -/
structure SlotAcc where
  dev : Dev
  sat : Bool
  lim : List Nat

/-- The plausibility count of an instance (R291, R292). -/
def Dev.plausible (d : Dev) (sl : LoopSlot) (i fb : Nat) (blending : Bool) : Dev :=
  if !sl.plEn then d
  else
    let x := sl.at i
    let n := sl.n
    let p := c32.add (c32.add (c32.mul (d.get R.CE.PAR_PL_A n) (d.get I.CE.FB x)) (c32.mul (d.get R.CE.PAR_PL_B n) (d.get I.CE.OUT2 x))) (d.get R.CE.PAR_PL_C n)
    let r := c32.sub fb p
    let skip : Bool := d.sigStale sl.kind i sl.fb || d.is I.CE.QUIET x || d.is I.CE.OVR_QUIET || blending
    let d1 := d.onlyIf (i = 0) (fun d => (d.put R.CE.SLOT_PL_RES r n).flag R.CE.SLOT_PL_SKIP skip n)
    if d.is R.MODE.PLAUS_WARM then (d1.put I.CE.PL_CNT 0 x).put I.CE.PL_RAISED 0 x
    else if skip then d1
    else if c32.lt (d.get R.CE.PAR_PL_THR n) (c32.abs r) then d1.bump I.CE.PL_CNT x
    else (d1.put I.CE.PL_CNT 0 x).put I.CE.PL_RAISED 0 x

/-- A numeric fault: output and states are kept, and instance 64 + n is raised at the first such frame (R293). -/
def Dev.numericFault (d : Dev) (t : Nat) (sl : LoopSlot) (i fb : Nat) (start : Bool) : Dev :=
  let x := sl.at i
  let d1 := ((((d.put I.CE.FB fb x).put I.CE.OUT2 (d.get I.CE.OUT x) x).put I.CE.NE 1 x).perf 3 7 (sl.n / 8)).perf 3 4 (sl.n / 8)
  let d2 := d1.onlyIf (i = 0) (fun d => (((d.put R.CE.SLOT_RUN 1 sl.n).flag R.CE.SLOT_STARTED start sl.n).put R.CE.SLOT_NUMERR 1 sl.n).bump R.CE.SLOT_NUMERR_CNT sl.n)
  if d.is I.CE.NE x then d2 else d2.raiseState t 7 (64 + sl.n) 0

/-- The slot status words of instance 0. -/
def Dev.slotWords (d : Dev) (sl : LoopSlot) (st : Inst) (y : Nat) (start hi lo blending : Bool) : Dev :=
  let n := sl.n
  let x := match sl.lastInt with | some j => st.a.getD j 0 | none => 0
  let d1 := (((((d.put R.CE.SLOT_OUT y n).put R.CE.SLOT_SP (c64.cvt c32 st.sp) n).put R.CE.SLOT_RUN 1 n).flag R.CE.SLOT_STARTED start n).flag R.CE.SLOT_SAT_HI hi n).flag R.CE.SLOT_SAT_LO lo n
  (((d1.flag R.CE.SLOT_BLEND blending n).put R.CE.SLOT_PL_RUN (d.get I.CE.PL_CNT (sl.at 0)) n).bump R.CE.SLOT_SAT_CNT n (hi || lo).toNat).put R.CE.SLOT_X_LO (x % 2 ^ 32) n |>.put R.CE.SLOT_X_HI (x / 2 ^ 32) n

/-- The applied output: y, or during a blend the blend value less the continuing slots' outputs (R273, R287). -/
def Dev.applied (d : Dev) (rs : Runs) (sl : LoopSlot) (i y : Nat) (start newBlend : Bool) : Dev × Nat × Bool :=
  let k := sl.destAt i
  let lawChg : Bool := d.get I.CE.F_LAW != d.get R.CE.LAW
  let oth := d.othersOut rs sl i
  let raw := c32.add y oth
  let mine : Bool := d.get I.CE.B_SLOT k = sl.n + 1
  if sl.dest != 0 && (newBlend || (d.is I.CE.B_ON k && lawChg && (start || mine))) then
    let (d1, v) := (d.blendStart k raw (sl.n + 1)).blendStep k raw
    (d1, if d1.is I.CE.B_ON k then c32.sub v oth else y, true)
  else if sl.dest != 0 && d.is I.CE.B_ON k && mine then
    let (d1, v) := d.blendStep k raw
    (d1, if d1.is I.CE.B_ON k then c32.sub v oth else y, true)
  else (d, y, false)

/-- One instance of one slot in one frame (R267). -/
def SlotAcc.run (acc : SlotAcc) (t : Nat) (rs : Runs) (sls : List LoopSlot) (sl : LoopSlot) (i : Nat) : SlotAcc :=
  let d := acc.dev
  let x := sl.at i
  let fb := d.sig sl.kind i sl.fb
  let start := d.starts sl i
  let swapped : Bool := d.is I.CE.SWAPPED && !start
  let st0 := if start then (d.loadInst sl i).begin sl fb else d.loadInst sl i
  let st1 := { st0 with sp := d.slew sl st0.sp (d.spIn sl i) }
  let sp := c64.cvt c32 st1.sp
  let u := if sl.errNeg then c32.sub fb sp else c32.sub sp fb
  let ff := c32.mul (d.get R.CE.PAR_FF_GAIN sl.n) (d.sig sl.kind i sl.ff)
  let (target, hand) := if start then d.startTarget rs sls sl i else (d.get I.CE.OUT x, false)
  let (st2, lim) := if start || swapped then d.preload sl st1 u ff target else (st1, false)
  let raw := d.yRaw sl st2 u ff
  if !c32.finite raw then { acc with dev := d.numericFault t sl i fb start, lim := if swapped && lim then acc.lim ++ [sl.n] else acc.lim }
  else
    let hi := c32.lt (d.yMax sl) raw
    let lo := c32.lt raw (d.yMin sl)
    let y := c32.clamp raw (d.yMin sl) (d.yMax sl)
    let (d1, ya, blending) := d.applied rs sl i y start (start && hand && lim)
    let st3 := d1.updateInst sl st2 u hi lo (c64.sub (c32.cvt c64 ya) (c32.cvt c64 raw))
    if !((st3.sp :: st3.a ++ st3.b).all c64.finite && c32.finite ya) then
      { acc with dev := d.numericFault t sl i fb start, lim := if swapped && lim then acc.lim ++ [sl.n] else acc.lim }
    else
      let d2 := d1.onlyIf (start || swapped) (fun d => d.put I.CE.QUIET 2 x)
      let d3 := d2.plausible sl i fb blending
      let d4 := (d3.saveInst sl i st3).put I.CE.QUIET (d3.get I.CE.QUIET x - 1) x
      let d5 := (((d4.put I.CE.OUT2 (d.get I.CE.OUT x) x).put I.CE.OUT ya x).put I.CE.FB fb x).put I.CE.NE 0 x
      let d5 := (d5.perf 3 4 (sl.n / 8)).perf 3 5 (sl.n / 8) (hi || lo).toNat
      let d6 := d5.onlyIf (i = 0) (fun d => d.slotWords sl st3 ya start hi lo blending)
      ⟨d6, acc.sat || hi || lo, if swapped && lim then acc.lim ++ [sl.n] else acc.lim⟩

/-- Every running slot with STOP_RAMP has a slewed set-point of exactly 0 (R276). -/
def Dev.ramped (d : Dev) (rs : Runs) : Bool :=
  rs.all (fun p => !p.1.stopRamp || p.2.all (fun i => c64.isZero (d.get I.CE.SP (p.1.at i))))

/-- The value of a destination instance in the frame, with a blend that no slot carries (R277, R287). -/
def Dev.destValue (d : Dev) (rs : Runs) (sls : List LoopSlot) (lawChg : Bool) (k : Nat) : Dev :=
  let now := drivers rs k
  let raw := c32.sum (now.map (fun m => d.get I.CE.OUT (m.at (k % 144))))
  let carried : Bool := now.any (fun m => d.get I.CE.B_SLOT k = m.n + 1)
  let lost : Bool := now.isEmpty && !(d.driversPrev sls k).isEmpty
  if d.is I.CE.B_ON k && carried then d.put I.CE.DST raw k
  else if lost || (d.is I.CE.B_ON k && (lawChg || d.is I.CE.B_SLOT k)) then
    let (d1, v) := (d.blendStart k raw 0).blendStep k raw
    d1.put I.CE.DST v k
  else if d.is I.CE.B_ON k then
    let (d1, v) := d.blendStep k raw
    d1.put I.CE.DST v k
  else d.put I.CE.DST raw k

/-- Every destination instance. -/
def Dev.destValues (d : Dev) (rs : Runs) (sls : List LoopSlot) (lawChg : Bool) : Dev :=
  (List.range 11).foldl (fun d k => d.forN (destCount k) (fun d i => d.destValue rs sls lawChg (144 * k + i))) d

/-- Which instances ran, for the next frame (R286). -/
def Dev.markRan (d : Dev) (rs : Runs) : Dev :=
  let d1 := d.slots.foldl (fun d sl => d.forN 144 (fun d i => if d.is I.CE.RAN (sl.at i) then d.put I.CE.RAN 0 (sl.at i) else d)) d
  rs.foldl (fun d p => p.2.foldl (fun d i => d.put I.CE.RAN 1 (p.1.at i)) d) d1

/-- The status bits of every slot before the slots run. -/
def Dev.clearSlotBits (d : Dev) : Dev :=
  d.forN 64 (fun d n =>
    [R.CE.SLOT_RUN, R.CE.SLOT_STARTED, R.CE.SLOT_NUMERR, R.CE.SLOT_BLEND, R.CE.SLOT_SAT_LO, R.CE.SLOT_SAT_HI, R.CE.SLOT_PL_SKIP].foldl
      (fun d f => if d.is f n then d.put f 0 n else d) d)

/-- A limited swap preload: STEP_SLOTS and instance 4 with the lowest such slot (R290). -/
def Dev.swapOutcome (d : Dev) (t : Nat) (lim : List Nat) : Dev :=
  if !d.is I.CE.SWAPPED then d
  else
    let ns := (List.range 64).filter (fun n => lim.contains n)
    let d1 := (d.put R.CE.STEP_SLOTS ns.length).put I.CE.SWAPPED 0
    match ns with | [] => d1 | n :: _ => d1.raise t 7 4 n

/-- Stage 5 with the sums of the destinations: the state after it, and whether a running slot was saturated. -/
def Dev.ceSlots (d : Dev) (t : Nat) (rs : Runs) : Dev × Bool :=
  let sls := d.slots
  let lawChg : Bool := d.get I.CE.F_LAW != d.get R.CE.LAW
  let acc := rs.foldl (fun acc p => p.2.foldl (fun acc i => acc.run t rs sls p.1 i) acc) (⟨d.clearSlotBits, false, []⟩ : SlotAcc)
  let d1 := (acc.dev.destValues rs sls lawChg).markRan rs
  ((d1.swapOutcome t acc.lim).put I.CE.FRESH 0, acc.sat)

/-! Coefficient banks (R288, R289). -/

/-- Exchange the active and shadow banks. -/
def Dev.bankExchange (d : Dev) : Dev :=
  let d1 := d.forN 2304 (fun d i => (d.put R.CE.ACTIVE_BANK (d.get R.CE.SHADOW_BANK i) i).put R.CE.SHADOW_BANK (d.get R.CE.ACTIVE_BANK i) i)
  (((d1.put R.CE.ACT_SRC (d.get R.CE.SHD_SRC)).put R.CE.SHD_SRC 3).bump R.CE.SWAP_CNT).put I.CE.SWAPPED 1

/-- One request: 1 SWAP, 2 FALL (R289). -/
def Dev.bankRequest (d : Dev) (req : Nat) : Dev :=
  match req with
  | 1 => d.bankExchange
  | 2 => ((d.forN 2304 (fun d i => d.put R.CE.SHADOW_BANK (d.get R.CE.FALLBACK_BANK i) i)).put R.CE.SHD_SRC 2).bankExchange
  | _ => d

/-- Step 5 of a boundary: an activation's swap, after which BANK_S is loaded into the shadow bank (its words given), and then the
requests of the applied sets in their order. -/
def Dev.bankStep (d : Dev) (bankS : Nat → Nat) : Dev :=
  let d1 := if !d.is I.CE.ACT_SWAP then d
    else ((d.bankExchange.forN 2304 (fun d i => d.put R.CE.SHADOW_BANK (bankS i) i)).put R.CE.SHD_SRC 1).put I.CE.ACT_SWAP 0
  let due := d1.get I.CE.BANK_DUE
  ((List.range 32).foldl (fun d i => d.bankRequest (due / 4 ^ i % 4)) d1).put I.CE.BANK_DUE 0

/-- The instances of a slot whose count has reached PL_N and is not raised yet (R291). -/
def Dev.plausFail (d : Dev) (t slot : Nat) : Dev :=
  let is := (List.range 144).filter (fun i =>
    d.get R.CE.PAR_PL_N slot ≤ d.get I.CE.PL_CNT (144 * slot + i) && d.is I.CE.PL_CNT (144 * slot + i) && !d.is I.CE.PL_RAISED (144 * slot + i))
  is.foldl (fun d i => ((d.put I.CE.PL_RAISED 1 (144 * slot + i)).bump R.CE.SLOT_PL_FAIL_CNT slot).raise t 7 (128 + slot) i) d

/-- Every slot that predicts, as PLAUS_FAIL judges one. -/
def Dev.plausAll (d : Dev) (t : Nat) : Dev := (d.slots.filter (fun sl => sl.plEn)).foldl (fun d sl => d.plausFail t sl.n) d

/-- PLAUS_FAIL (R291). -/
def execPlausFail (slot : Fin 64) (s : State) : Host.Outcome State Fault Refusal :=
  s.onDev fun d => (d.plausFail s.clk.ns slot).settle s.clk.ns

end Sys2Proof.Machine
end

