-- ==== Sys2Proof/Machine/CtrlBack.lean ====
section
/-! DEFINITION. The end of a control-engine frame (10_control_engine.md): synchronisation criteria, the back end, the cell loss
models, delivery, overruns, and the counts that the mode controller waits for. -/
namespace Sys2Proof.Machine

/-- IMV_D and IMV_Q: the Park transform of the string currents, summed by phase (R269). -/
def Dev.feImv (d : Dev) : Dev :=
  let ph (p : Nat) : Nat := c32.sum ((d.strings.filter (fun s => d.get I.CE.STR_PHASE s = p)).map (fun s => d.get R.CAL.STR_I_STR s))
  let th := d.get I.CE.FE 0
  (d.putFe 0x206 (parkD (ph 0) (ph 1) (ph 2) th)).putFe 0x207 (parkQ (ph 0) (ph 1) (ph 2) th)

/-- The synchronisation criteria of the frame, one bit each (R283). -/
def Dev.syncMet (d : Dev) (sat : Bool) : Nat :=
  let fe (i : Nat) : Nat := d.get I.CE.FE (i - 0x200)
  let c1 : Bool := c32.le (c32.abs (c32.sub (fe 0x210) (d.get R.CE.LV_VBUS_NOM))) (d.get R.CE.SYNC_VBUS)
  let nom := c32.mul 0x3FB504F3 (d.get R.CE.LV_VNOM)
  let c2 : Bool := if d.get R.CE.LV_LAW = 0 then fe 0x212 != 0
    else c32.le (c32.abs (c32.sub (c32.div (hyp (fe 0x20A) (fe 0x20B)) nom) c32.one)) (d.get R.CE.SYNC_VLV)
  let c3 : Bool := d.strings.all (fun s => c32.le (c32.abs (d.get R.CAL.STR_ES s)) (d.get R.CE.SYNC_ES))
  (fe 0x205 != 0).toNat + 2 * c1.toNat + 4 * c2.toNat + 8 * c3.toNat + 16 * (!sat).toNat

/-- The results of the criteria, and the consecutive frames that R150 and R135 count. -/
def Dev.syncCount (d : Dev) (sat : Bool) : Dev :=
  let met := d.syncMet sat
  let ok : Bool := (List.range 5).all (fun i => bitOf met i = 1 || bitOf (d.get R.CE.SYNC_MASK) i = 0)
  let d1 := (d.put R.CE.SYNC_MET met).flag R.MODE.SYNC_OK ok
  let d2 := if d.mode = .sync && ok then d1.bump I.MODE.SYNC_RUN else (d1.put I.MODE.SYNC_RUN 0).put I.MODE.DUE_SYNC_EXIT 0
  if d.mode = .rideThrough && d.get I.CE.F_OUT = 0 then d2.bump I.MODE.RT_RUN else (d2.put I.MODE.RT_RUN 0).put I.MODE.DUE_RT_EXIT 0

/-- The count of frames with every ramped set-point at 0 (R276). -/
def Dev.rampCount (d : Dev) (rs : Runs) : Dev :=
  if d.ramped rs then d.bump I.MODE.RAMP_RUN else ((d.put I.MODE.RAMP_RUN 0).put R.CE.RAMP_DONE 0).put I.MODE.DUE_RAMP 0

/-- The angle at the middle of the frame in which the references act (R278). -/
def midAngle (th om T : Nat) : Nat := c32.add th (c32.mul (c32.mul 0x3FC00000 om) T)

/-- φ of a phase (R278). -/
def phaseOf (p : Nat) : Nat := match p with | 1 => third32 | 2 => twoThird32 | _ => 0

/-- The back end (R277, R278): V_s*, D1, D2, the LV phase references and HB_DUTY. -/
def Dev.backEnd (d : Dev) : Dev :=
  let T := d.frameT c32
  let dst (k : Nat) (i : Nat := 0) : Nat := d.get I.CE.DST (144 * k + i)
  let fe (i : Nat) : Nat := d.get I.CE.FE (i - 0x200)
  let tho := midAngle (fe 0x200) (fe 0x201) T
  let lvo := midAngle (fe 0x208) (fe 0x209) T
  let v0 := if d.get R.CAL.INTER = 1 then d.get R.CAL.INTER_OUT else 0
  let d1 := d.forN 6 (fun d s =>
    let v := if d.strExists s then c32.add (c32.add (invPark (dst 1) (dst 2) (dst 3) (c32.sub tho (phaseOf (d.get I.CE.STR_PHASE s)))) v0) (dst 4 s) else 0
    d.put I.CE.VSTAR v s)
  let d2 := d1.forN 3 (fun d p => d.put I.CE.LV_V (invPark (dst 7) (dst 8) (dst 9) (c32.sub lvo (phaseOf p))) p)
  let d3 := d2.forN 8 (fun d k => d.put I.CE.HB_DUTY (dst 10 k) k)
  d3.forN 144 (fun d c => (d.put R.CE.CELL_D1 (dst 5 c) c).put R.CE.CELL_D2 (dst 6 c) c)

/-! Loss models (R297). -/

/-- The interval of an ascending axis of 8 that holds x, and the place in it from 0 to 1; clamped at the ends. -/
def axisPlace (ax : Nat → Nat) (x : Nat) : Nat × Nat :=
  let i := ((List.range 6).filter (fun i => c32.le (ax (i + 1)) x)).length
  let lo := ax i
  let hi := ax (i + 1)
  (i, c32.clamp (c32.div (c32.sub x lo) (c32.sub hi lo)) 0 c32.one)

def lerp (a b f : Nat) : Nat := c32.add a (c32.mul f (c32.sub b a))

/-- An 8 × 8 table by bilinear interpolation, its axes at words a and a + 8 and its values from word a + 16 of the loss block. -/
def Dev.lossTable (d : Dev) (a i v : Nat) : Nat :=
  let (p, f) := axisPlace (fun k => d.get I.CE.LOSS (a + k)) i
  let (q, g) := axisPlace (fun k => d.get I.CE.LOSS (a + 8 + k)) v
  let w (x y : Nat) : Nat := d.get I.CE.LOSS (a + 16 + 8 * x + y)
  lerp (lerp (w p q) (w p (q + 1)) g) (lerp (w (p + 1) q) (w (p + 1) (q + 1)) g) f

/-- The losses of cell c (R297); a cell in BYPASS switches nothing. -/
def Dev.cellLoss (d : Dev) (c : Nat) : Dev :=
  let ia := c32.abs (d.cellSig c 1)
  let vc := d.cellSig c 0
  let cond := c32.mul (c32.ofInt 2) (c32.add (c32.mul (d.get I.CE.LOSS 0) ia) (c32.mul (d.get I.CE.LOSS 1) (c32.mul ia ia)))
  let nsw := if d.get R.CELL.CELL_STATE c % 16 = 1 then 0 else d.get I.MOD.NSW_LAST c
  let sw := c32.div (c32.mul (c32.ofInt nsw) (d.lossTable 2 ia vc)) (d.frameT c32)
  let dab := if d.get I.MOD.DAB_LAST c = 1 || d.get I.MOD.DAB_LAST c = 2 then d.lossTable 82 (c32.abs (d.cellSig c 2)) vc else 0
  (d.put R.CE.CELL_PLOSS_BR (c32.add cond sw) c).put R.CE.CELL_PLOSS_DAB dab c

def Dev.ceLosses (d : Dev) : Dev := d.forN 144 (fun d c => if d.cellUsed c then d.cellLoss c else d)

/-! Delivery and overrun. -/

/-- The front end's results are committed (R294). -/
def Dev.feCommit (d : Dev) : Dev :=
  let d1 := d.forN 2 (fun d p => (((d.put I.CE.TH (d.get I.CE.F_TH p) p).put I.CE.OM (d.get I.CE.F_OM p) p).put I.CE.X (d.get I.CE.F_X p) p).put I.CE.RUN (d.get I.CE.F_RUN p) p)
  let ix := (d.get I.CE.HIST_IX + 1) % 16384
  let d2 := ((d1.put I.CE.HIST_IX ix).put I.CE.HIST_A (d.get I.CE.F_ALPHA) ix).put I.CE.HIST_B (d.get I.CE.F_BETA) ix
  let d3 := (d2.put R.CE.IN_BAND_RUN (d.get I.CE.F_IN)).put R.CE.OUT_BAND_RUN (d.get I.CE.F_OUT)
  let d4 := d3.onlyIf (d.get I.CE.F_OUT = 0) (fun d => d.put R.CE.GRID_FAULT 0)
  let d5 := [(R.CE.THETA_MV, 0), (R.CE.OMEGA_MV, 1), (R.CE.VP_PU, 4), (R.CE.THETA_LV, 8), (R.CE.OMEGA_LV, 9), (R.CE.LV_VBUS, 16)].foldl
    (fun d p => d.put p.1 (d.get I.CE.FE p.2)) d4
  (((d5.put I.CE.LVLAW_LAST (d.get R.CE.LV_LAW)).put R.CE.LAW_PREV (d.get R.CE.LAW)).put R.CE.LAW (d.get I.CE.F_LAW)).put I.CE.MV_CHG 0

/-- LV_LOCK of the frame; its fall with LV_LAW 0 raises instance 3 (R281, R295). -/
def Dev.lvLockCommit (d : Dev) (t : Nat) : Dev :=
  let new : Bool := d.get I.CE.FE 18 != 0
  let d1 := d.flag R.CE.LV_LOCK new
  if d.is R.CE.LV_LOCK && !new && d.get R.CE.LV_LAW = 0 then d1.raise t 7 3 0 else d1

/-- The compute time of the frame (R267, R295). -/
def Dev.ceTime (d : Dev) (t : Nat) : Dev :=
  let x := min (t - d.get I.CE.START_NS) (2 ^ 19 - 1)
  let old : Bool := d.get R.CE.CE_TIME_DECL < d.get R.CE.CE_TIME_LAST
  let d1 := (d.put R.CE.CE_TIME_LAST x).put R.CE.CE_TIME_MAX (max x (d.get R.CE.CE_TIME_MAX))
  if d.get R.CE.CE_TIME_DECL < x && !old then d1.raise t 7 1 0 true else d1

/-- Stages 1 to 3 are complete: the frame is in progress and pass A of every existing string is done (R267). -/
def Dev.ceReady (d : Dev) : Bool := d.is I.CE.BUSY && d.strings.all (fun s => d.is I.CAL.DONE s)

/-- Stages 5 and 6 and the delivery at TB ns t, and stage 7 (R267, R294, R297). -/
def Dev.ceDeliver (d : Dev) (t : Nat) : Dev :=
  let d0 := (d.mvLockTake t).feImv
  let rs := d0.runsOf
  let (d1, sat) := d0.ceSlots t rs
  let d2 := (((d1.syncCount sat).rampCount rs).backEnd.lvLockCommit t).feCommit
  let d3 := (d2.ceTime t).flag R.CE.BLEND ((List.range 1584).any (fun k => d2.is I.CE.B_ON k))
  let d4 := (((d3.put R.CE.OVR_LAST 0).put R.CE.OVR_RUN 0).put I.CE.OVR_QUIET (d3.get I.CE.OVR_QUIET - 1)).put I.CE.BUSY 0
  (d4.ceLosses.perf 3 2 15).perf 3 6 15 (d4.get R.CE.BLEND)

/-- The CE abandons the frame: every state as it was at its start (R19, R294). -/
def Dev.ceAbandon (d : Dev) (t : Nat) : Dev :=
  if !d.is I.CE.BUSY then d
  else
    let d1 := d.onlyIf (d.is I.CE.MV_CHG) (fun d => (d.flag R.CE.MV_LOCK (!d.is R.CE.MV_LOCK)).put I.CE.MV_CHG 0)
    let d2 := ((((((d1.put I.CE.BUSY 0).perf 3 3 15).bump R.CE.OVR_CNT).bump R.CE.OVR_RUN).put R.CE.OVR_LAST 1).put I.CE.OVR_QUIET 2)
    if 2 ≤ d2.get R.CE.OVR_RUN then d2.raiseState t 7 0 0 else d2

/-- RAMP_DONE (R276, R151): 10 consecutive frames at zero; in STOPPING the ramp is complete. -/
def execRampDone (s : State) : Host.Outcome State Fault Refusal :=
  s.onDev fun d =>
    if 10 ≤ d.get I.MODE.RAMP_RUN then (d.put R.CE.RAMP_DONE 1).onlyIf (d.mode = .stopping) (fun d => d.put I.MODE.DUE_RAMP 1) else d

/-- SYNC_HOLD_REACHED (R150): SYNC is left at the next boundary. -/
def execSyncHoldReached (s : State) : Host.Outcome State Fault Refusal :=
  s.onDev fun d => if d.mode = .sync && d.get R.MODE.SYNC_HOLD ≤ d.get I.MODE.SYNC_RUN then d.put I.MODE.DUE_SYNC_EXIT 1 else d

/-- RT_RECOVER_REACHED (R135): RIDE_THROUGH is left for its return mode at the next boundary. -/
def execRtRecoverReached (s : State) : Host.Outcome State Fault Refusal :=
  s.onDev fun d => if d.mode = .rideThrough && d.get R.MODE.RT_RECOVER ≤ d.get I.MODE.RT_RUN then d.put I.MODE.DUE_RT_EXIT 1 else d

/-! The rules of the control-law sheet (R299). -/

/-- The kind of a signal: 1 scalar, 2 per-string, 3 per-cell, 4 per-half-bridge; 0 when it does not exist (R269). -/
def Dev.sigKind (d : Dev) (idx : Nat) : Nat :=
  if idx ≤ 1 ∨ (0x200 ≤ idx ∧ idx < 0x213) ∨ idx = 0x1A40 ∨ idx = 0x1A41 ∨ (0x2000 ≤ idx ∧ idx < 0x2040) then 1
  else if 0x100 ≤ idx ∧ idx < 0x180 then (if entUsed (d.get R.AFE.ENTRY (idx - 0x100)) then 1 else 0)
  else if 0x1000 ≤ idx ∧ idx < 0x1480 then (if idx % 8 < 6 then 3 else 0)
  else if 0x1800 ≤ idx ∧ idx < 0x1890 then 3
  else if 0x1A00 ≤ idx ∧ idx < 0x1A30 then (if idx % 8 < 5 ∧ d.strExists ((idx - 0x1A00) / 8) then 2 else 0)
  else if 0x3000 ≤ idx ∧ idx < 0x3040 then (d.slot (idx - 0x3000)).kind
  else 0

/-- A slot of kind k may read the signal (R270, R299). -/
def Dev.sigAllowed (d : Dev) (k idx : Nat) : Bool :=
  let sk := d.sigKind idx
  let ref := d.get I.CE.REF
  let side : Bool := !(0x200 ≤ idx ∧ idx < 0x208 ∧ bitOf ref 0 = 0) && !(0x208 ≤ idx ∧ idx < 0x213 ∧ bitOf ref 1 = 0)
  let first : Bool := idx < 0x1008 || idx = 0x1800 || (0x1A00 ≤ idx && idx < 0x1A08) || 0x3000 ≤ idx
  sk != 0 && side && (sk = 1 || (k = 1 && idx < 0x3000 && (sk = 2 || sk = 3)) || ((sk = k || (sk = 2 && k = 3)) && first))

/-- The kind a destination needs (R277); 0 any. -/
def destKind (k : Nat) : Nat :=
  match k with
  | 1 | 2 | 3 | 7 | 8 | 9 => 1
  | 4 => 2
  | 5 | 6 => 3
  | 10 => 4
  | _ => 0

/-- A descriptor breaks a rule of R299. -/
def Dev.slotBad (d : Dev) (n : Nat) : Bool :=
  let sl := d.slot n
  let ref := d.get I.CE.REF
  let w0 := d.get R.CE.SLOT_DESC (4 * n)
  if sl.kind = 0 then (List.range 4).any (fun i => d.is R.CE.SLOT_DESC (4 * n + i))
  else
    sl.nsec < 1 || 4 < sl.nsec || (bitsOf w0 23 16) / 4 ^ sl.nsec != 0 || (sl.kind != 4 && sl.hb != 0) ||
      ([sl.fb, sl.sp, sl.ff, sl.preset].any (fun x => !d.sigAllowed sl.kind x)) ||
      (destKind sl.dest != 0 && destKind sl.dest != sl.kind) ||
      (1 ≤ sl.dest && sl.dest ≤ 4 && bitOf ref 0 = 0) || (7 ≤ sl.dest && sl.dest ≤ 9 && bitOf ref 1 = 0) ||
      (!sl.refLv && bitOf ref 0 = 0 && sl.types.contains secPR)

/-- A destination has more than one slot that a change from law a to law b starts (R299). -/
def twoStarters (sls : List LoopSlot) (k a b : Nat) : Bool := 1 < (sls.filter (fun sl => sl.dest = k && sl.inLaw b && !sl.inLaw a)).length

/-- |a| < 1 + b, exactly. -/
def absBelowOnePlus (a b : Nat) : Bool :=
  let x := c32.ratio (c32.abs a)
  let y := c32.ratio b
  x.1 * y.2 < (y.2 + y.1) * x.2

/-- A bank breaks the coefficient rules of R299 for a present slot. -/
def Dev.bankBad (d : Dev) (f : Fld) (sl : LoopSlot) : Bool :=
  let w (k : Nat) : Nat := d.get f (36 * sl.n + k)
  let sec (j ty : Nat) : Bool :=
    let c (k : Nat) : Nat := w (8 * j + k)
    if ty = secBiquad then !(c32.lt (c32.abs (c 4)) c32.one && absBelowOnePlus (c 3) (c 4))
    else if ty = secLeadlag then !c32.lt (c32.abs (c 2)) c32.one
    else if ty = secPI then !c32.le (c 2) (c 3)
    else !c32.le (c 4) (c 5)
  !c32.lt (w 32) (w 33) || sl.types.zipIdx.any (fun p => sec p.2 p.1)

/-- The front-end inputs name AFE results that are produced, and LV_FSIG a scalar signal (R298). -/
def Dev.feBad (d : Dev) : Bool :=
  (List.range 12).any (fun i => let x := d.get I.CE.FE_IN i; x != 0 && !(0x100 ≤ x && x < 0x180 && d.sigKind x = 1)) ||
    d.sigKind (d.get R.CE.LV_FSIG) != 1

/-- The axes of the loss tables ascend (R298). -/
def Dev.axesBad (d : Dev) : Bool :=
  [2, 10, 82, 90].any (fun a => (List.range 7).any (fun k => !c32.lt (d.get I.CE.LOSS (a + k)) (d.get I.CE.LOSS (a + k + 1))))

/-- The rules of R298 and R299 over the loaded fields: E_RANGE for RT_VLO against RT_VHI and for the loss axes, E_STRUCT 0x05 for
the rest; `banks` are the banks to check. -/
def Dev.ceRules (d : Dev) (banks : List Fld) : List Err :=
  let sls := d.slots
  let laws := [1, 2, 3, 4, 5]
  errIf (!c32.lt (d.get R.CE.RT_VLO) (d.get R.CE.RT_VHI) || d.axesBad) eRange ++
  errIf ((List.range 64).any d.slotBad || d.feBad ||
    (bitOf (d.get I.CE.REF) 0 = 1 && d.strings.any (fun s => 2 < d.get I.CE.STR_PHASE s)) ||
    (List.range 11).any (fun k => k != 0 && laws.any (fun a => laws.any (fun b => twoStarters sls k a b))) ||
    banks.any (fun f => sls.any (fun sl => d.bankBad f sl))) (eStruct 5)

end Sys2Proof.Machine
end

