-- ==== Sys2Proof/Machine/Nvm.lean ====
section
/-! DEFINITION. The NOR flash (16_thermal_lifetime.md): its bytes, the journals, the operations in their order of priority, the
flash hold, and the power-fail record. -/
namespace Sys2Proof.Machine

/-! Regions (R438): bytes of a sector, first sector and sectors of each journal. -/
def sectorBytes : Nat := 65536
def pageBytes : Nat := 256

/-- A journal region: 0 system, 1 event, 2 life; its first flash sector and its sectors. -/
def regionOf (which : Nat) : Nat × Nat :=
  match which with
  | 0 => (256, 16)
  | 1 => (272, 496)
  | _ => (768, 256)

def Nvm.journal (n : Nvm) (which : Nat) : Journal :=
  match which with
  | 0 => n.sys
  | 1 => n.evj
  | _ => n.life

def Nvm.setJournal (n : Nvm) (which : Nat) (j : Journal) : Nvm :=
  match which with
  | 0 => { n with sys := j }
  | 1 => { n with evj := j }
  | _ => { n with life := j }

/-- The flash record replaced. -/
def Dev.setNvm (d : Dev) (n : Nvm) : Dev := { d with nvm := n }

/-! The bytes of the two slots. A byte that nothing has programmed reads 0xFF. -/

/-- n bytes from address a of a canonical cell list that lists nothing below a. -/
def bytesFrom : Nat → Nat → List Host.Cell → List Nat
  | 0, _, _ => []
  | n + 1, a, [] => 255 :: bytesFrom n (a + 1) []
  | n + 1, a, c :: l => if c.1 = a then c.2.toNat :: bytesFrom n (a + 1) l else 255 :: bytesFrom n (a + 1) (c :: l)

/-- The first n bytes of a slot; a byte of a dirty sector is free. -/
def Dev.slotBytes (d : Dev) (slot n : Nat) : List Nat :=
  let base := 8388608 * slot
  let bs := bytesFrom n base (d.nvm.mem.dropWhile (fun c => c.1 < base))
  if d.nvm.dirty.isEmpty then bs
  else bs.zipIdx.map (fun p => if d.nvm.dirty.contains ((base + p.2) / sectorBytes) then Config.dirtyByte d.draws (base + p.2) % 256 else p.1)

/-- Program the byte at an address: NOR cells only clear bits; an erased value is not listed. -/
def program : List Host.Cell → Nat → Byte → List Host.Cell
  | [], a, v => if v = 255 then [] else [(a, v)]
  | c :: l, a, v =>
    if c.1 = a then (c.1, c.2 &&& v) :: l
    else if a < c.1 then (if v = 255 then c :: l else (a, v) :: c :: l)
    else c :: program l a v

/-- Erase a flash sector. -/
def erase (l : List Host.Cell) (sector : Nat) : List Host.Cell := l.filter (fun c => c.1 / sectorBytes != sector)

/-- The canonical form: addresses rising, no byte listed at its erased value. -/
def memWf : List Host.Cell → Bool
  | [] => true
  | [c] => c.2 != 255
  | c :: c' :: l => c.2 != 255 && decide (c.1 < c'.1) && memWf (c' :: l)

/-! Erase counts and dirty sectors. -/

/-- The erase count of a sector. -/
def Nvm.eraseCount (n : Nvm) (sector : Nat) : Nat := ((n.erases.find? (fun p => p.1 = sector)).map (fun p => p.2)).getD 0

/-- One more erase of a sector (R445, instance 22 at 50,000). -/
def Dev.countErase (d : Dev) (t sector : Nat) : Dev :=
  let k := d.nvm.eraseCount sector + 1
  let d1 := d.setNvm { d.nvm with erases := (sector, k) :: d.nvm.erases.filter (fun p => p.1 != sector) }
  if k = 50000 then d1.raise t 2 22 sector else d1

/-- The dirty sectors changed, and their count shown. -/
def Dev.setDirty (d : Dev) (l : List Nat) : Dev := (d.setNvm { d.nvm with dirty := l }).put R.THERM.DIRTY_CNT l.length

/-! Journals (R439). -/

/-- The payload bytes of a record: 64-bit words, but for a slot descriptor, whose digests take 48 bytes each. -/
def payload (typ : Nat) (data : List Nat) : List Nat :=
  if typ = 1 then data.flatMap (fun w => leBytes 48 w) else data.flatMap (fun w => leBytes 8 w)

/-- The flash sectors of its region that a record stands in. -/
def JRec.inSector (r : JRec) (sec : Nat) : Bool := r.pos / sectorBytes ≤ sec && sec * sectorBytes < r.pos + r.len

/-- Where a record of len bytes goes: at the log's end, at the region's start when it does not fit, past a retired sector. -/
def place (first size : Nat) (retired : List Nat) : Nat → Nat → Nat → Nat
  | 0, pos, _ => pos
  | k + 1, pos, len =>
    let p := if size * sectorBytes < pos + len then 0 else pos
    match (List.range size).find? (fun s => retired.contains (first + s) && p < (s + 1) * sectorBytes && s * sectorBytes < p + len) with
    | some s => place first size retired k ((s + 1) * sectorBytes) len
    | none => p

/-- A record is started (MARK 0x7F): the oldest sector is erased where the log runs into it (R439). -/
def Dev.journalStart (d : Dev) (t which typ : Nat) (data : List Nat) : Dev :=
  let j := d.nvm.journal which
  let (first, size) := regionOf which
  let bytes := payload typ data
  let len := if which = 1 then pageBytes else 16 + bytes.length
  let pos := place first size d.nvm.retired (2 * size) j.ptr len
  let full := (List.range size).filter (fun s => pos ≤ s * sectorBytes && s * sectorBytes < pos + len && j.recs.any (fun r => r.inSector s))
  let kept := j.recs.filter (fun r => full.all (fun s => !r.inSector s))
  let rec_ : JRec := ⟨0x7F, typ, (j.seq + 1) % 2 ^ 32, crc32 bytes, pos, len, data⟩
  let d1 := d.setNvm (d.nvm.setJournal which ⟨kept ++ [rec_], pos + len, (j.seq + 1) % 2 ^ 32⟩)
  full.foldl (fun d s => d.countErase t (first + s)) d1

/-- The started record is committed (MARK 0x3F). -/
def Dev.journalCommit (d : Dev) (which : Nat) : Dev :=
  let j := d.nvm.journal which
  d.setNvm (d.nvm.setJournal which { j with recs := j.recs.map (fun r => if r.mark = 0x7F && r.jseq = j.seq then { r with mark := 0x3F } else r) })

/-- The flash sector that holds the started record. -/
def Nvm.startedSector (n : Nvm) (which : Nat) : Nat :=
  let j := n.journal which
  (regionOf which).1 + ((j.recs.find? (fun r => r.jseq = j.seq)).map (fun r => r.pos / sectorBytes)).getD 0

/-- The started record has failed: its sector is retired from the log (R445). -/
def Dev.journalFail (d : Dev) (which : Nat) : Dev :=
  let j := d.nvm.journal which
  let s := d.nvm.startedSector which
  let n := d.nvm.setJournal which { j with recs := j.recs.filter (fun r => r.jseq != j.seq || r.mark != 0x7F) }
  d.setNvm { n with retired := s :: n.retired }

/-- What a committed record of the system journal makes valid (R109, R113, R440, R441). -/
def Dev.applyCommit (d : Dev) (typ : Nat) (data : List Nat) : Dev :=
  let w (i : Nat) : Nat := data.getD i 0
  match typ with
  | 1 =>
    let desc : SlotDesc := ⟨w 1, w 2, w 3, w 4, w 5, w 6, w 7⟩
    d.setNvm (if w 0 = 0 then { d.nvm with descA := desc } else { d.nvm with descB := desc })
  | 2 =>
    let d1 := d.setNvm { d.nvm with pref := w 0 }
    (((d1.put R.REAM.PREF (w 0)).flag R.REAM.SLOT_PREF (w 0 = 1) 0).flag R.REAM.SLOT_PREF (w 0 = 2) 1).onlyIf
      (d.get I.REAM.PREF_DUE = w 0) (fun d => d.put I.REAM.PREF_DUE 0)
  | 3 => d.setNvm { d.nvm with freq := some (w 0) }
  | _ => d.setNvm { d.nvm with dirtyJ := data }

/-! Teasel records (R434 to R436): 64 bins and OP_TIME of each cell, 65 words. -/

/-- The record of the histograms as they stand. -/
def Dev.teaselData (d : Dev) : List Nat :=
  (List.range 144).flatMap (fun c => (List.range 64).map (fun b => d.get I.THERM.BIN_CNT (64 * c + b)) ++ [d.get I.THERM.OP_MS c])

/-- The Teasel window shows the selected slot of the last record. -/
def Dev.teaselShow (d : Dev) : Dev :=
  let w (i : Nat) : Nat := d.nvm.record.getD (65 * d.get R.THERM.TEASEL_SEL + i) 0
  (d.put R.THERM.OP_TIME (w 64 / 1000)).forN 64 (fun d b => (d.put R.THERM.BIN (w b) (2 * b)).put R.THERM.BIN (w b / 2 ^ 32) (2 * b + 1))

/-! Operations (R440). -/

/-- The priority of an operation. -/
def FlashOp.prio : FlashOp → Nat
  | .commit _ _ => 2
  | .events _ => 2
  | .teasel _ _ => 3
  | .erase _ _ => 4
  | .program _ _ => 4
  | .wipe _ => 4

/-- The operation belongs to a REAM_CMD. -/
def FlashOp.ofCmd : FlashOp → Bool
  | .erase _ _ => true
  | .program _ _ => true
  | _ => false

/-- The operation erases a sector of the slots. -/
def FlashOp.erases : FlashOp → Bool
  | .erase _ _ => true
  | .wipe _ => true
  | _ => false

/-- The flash sector an operation works on, for the details of R445. -/
def Nvm.opSector (n : Nvm) : FlashOp → Nat
  | .commit _ _ => n.startedSector 0
  | .events _ => n.startedSector 1
  | .teasel _ _ => n.startedSector 2
  | .erase s k => 128 * s + k
  | .program s p => 128 * s + p / 256
  | .wipe k => k

/-- The waiting operation that comes first, with the others: the lowest priority number, the earliest among equals; a block of
history entries is formed after the commits that wait. -/
def Nvm.firstOp (n : Nvm) (hold : Bool) : Option FlashOp :=
  let ok (op : FlashOp) : Bool := !hold || op.prio ≤ 2
  match n.queue.find? (fun op => op.prio = 2) with
  | some op => some op
  | none =>
    if !n.evq.isEmpty then some (.events (n.evq.take 15))
    else (n.queue.find? (fun op => op.prio = 3 && ok op)).or (n.queue.find? ok)

/-- The flash may work: PLL_S is locked (R92), the journal is recovered (R443), and the module is powered. -/
def Dev.flashOn (d : Dev) : Bool := d.is R.TB.PLL_S_LOCK && d.is I.THERM.JRN_DONE && d.mode != .backup

/-- The next operation is started when none is in progress (R440). -/
def Dev.flashNext (d : Dev) (t : Nat) : Dev :=
  if d.nvm.cur.isSome || !d.flashOn then d
  else
    match d.nvm.firstOp (d.is R.THERM.FLASH_HOLD) with
    | none => d
    | some op =>
      let n := { d.nvm with cur := some op, queue := d.nvm.queue.erase op }
      match op with
      | .commit typ data => (d.setNvm n).journalStart t 0 typ data
      | .events l =>
        let d1 := d.setNvm { n with evq := n.evq.drop l.length }
        ((d1.put R.THERM.EVJ_BACKLOG (n.evq.length - l.length)).journalStart t 1 0x10
          (l.flatMap (fun e => match e.words with | [a, b, c, f] => [a + 2 ^ 32 * b, c + 2 ^ 32 * f] | _ => [])))
      | .teasel 0 data => (d.setNvm n).journalStart t 2 0x20 data
      | _ => d.setNvm n

/-- Put an operation in the queue. -/
def Dev.enqueue (d : Dev) (t : Nat) (op : FlashOp) : Dev := (d.setNvm { d.nvm with queue := d.nvm.queue ++ [op] }).flashNext t

/-- The words of a descriptor record of a slot as its registers show it, with the digests of its checked configuration. -/
def Dev.descWords (d : Dev) (s sd md : Nat) : List Nat :=
  [s, d.get R.REAM.SLOT_STATE s, d.get R.REAM.SLOT_LENGTH s, d.get R.REAM.SLOT_IMAGE_ID s, d.get R.REAM.SLOT_DECL_CLASS s,
    d.get R.REAM.SLOT_SEC_VER s, sd, md]

/-- The slot's state is recorded in its descriptor (R109). -/
def Dev.recordSlot (d : Dev) (t s : Nat) (sd : Nat := 0) (md : Nat := 0) : Dev := d.enqueue t (.commit 1 (d.descWords s sd md))

/-- The running REAM_CMD ends as failed with CMD_FAIL code, and what is left of it is dropped (R112). -/
def Dev.cmdFail (d : Dev) (code : Nat) : Dev :=
  let d1 := d.setNvm { d.nvm with queue := d.nvm.queue.filter (fun op => !op.ofCmd) }
  (((d1.put R.REAM.CMD_BUSY 0).put R.REAM.CMD_STATE 3).put R.REAM.CMD_FAIL code).sumAll R.HIF.SUM_NVM

/-- A dirty sector is recorded in the system journal (R441). -/
def Dev.markDirty (d : Dev) (t sector : Nat) : Dev :=
  let l := if d.nvm.dirty.contains sector then d.nvm.dirty else d.nvm.dirty ++ [sector]
  ((d.setDirty l).raise t 2 19 sector).enqueue t (.commit 4 l)

/-- A page of a PROGRAM is written from REAM_XFER (R111): page p of the slot; the last bytes of a short last page stay erased. -/
def Dev.programPage (d : Dev) (slot p : Nat) : Dev :=
  let off := d.get R.REAM.CMD_OFF
  let n := min pageBytes (off + d.get R.REAM.CMD_LEN - pageBytes * p)
  let mem := (List.range n).foldl (fun m i =>
    let x := pageBytes * p - off + i
    program m (slot * 8388608 + pageBytes * p + i) (BitVec.ofNat 8 (d.get R.REAM.REAM_XFER (x / 4) >>> (8 * (x % 4))))) d.nvm.mem
  ((d.setNvm { d.nvm with mem := mem }).perf 10 1 15).carry 31 n

/-- A sector of the slots is erased; it is no longer dirty. -/
def Dev.eraseSector (d : Dev) (t sector : Nat) : Dev :=
  let d1 := ((d.setNvm { d.nvm with mem := erase d.nvm.mem sector }).countErase t sector).perf 10 2 15
  if d1.nvm.dirty.contains sector then
    let d2 := d1.setDirty (d1.nvm.dirty.filter (fun k => k != sector))
    d2.setNvm { d2.nvm with queue := d2.nvm.queue ++ [.commit 4 d2.nvm.dirty] }
  else d1

/-- The effect of an operation that has ended well. -/
def Dev.opDone (d : Dev) (t : Nat) (written : Dev → Dev) : FlashOp → Dev
  | .commit typ data => (((d.journalCommit 0).perf 10 1 15).carry 31 pageBytes).applyCommit typ data
  | .events _ => ((d.journalCommit 1).perf 10 1 15).carry 31 pageBytes
  | .teasel p data =>
    let d := (d.perf 10 1 15).carry 31 pageBytes
    if p + 1 < 293 then d.setNvm { d.nvm with queue := .teasel (p + 1) data :: d.nvm.queue }
    else
      let d1 := d.journalCommit 2
      written ((d1.setNvm { d1.nvm with record := data }).put R.THERM.TEASEL_JSEQ d1.nvm.life.seq)
  | .erase s k => d.eraseSector t (128 * s + k)
  | .program s p => (if d.nvm.dirty.contains (128 * s + p / 256) then d.eraseSector t (128 * s + p / 256) else d).programPage s p
  | .wipe k => d.eraseSector t k

/-- What an operation that failed leaves (R112, R445): a journal datum goes to another sector of the log, a Teasel record is
given up until the next hour, a REAM_CMD ends. -/
def Dev.opFail (d : Dev) (t code : Nat) (retire : Bool) : FlashOp → Dev
  | .commit typ data =>
    if retire then let d1 := d.journalFail 0; d1.setNvm { d1.nvm with queue := .commit typ data :: d1.nvm.queue } else d
  | .events l =>
    let d1 := if retire then d.journalFail 1 else d
    (d1.setNvm { d1.nvm with evq := l ++ d1.nvm.evq }).put R.THERM.EVJ_BACKLOG (l.length + d1.nvm.evq.length)
  | .teasel _ _ => (if retire then d.journalFail 2 else d).raise t 12 160 0
  | .wipe _ => d
  | _ => d.cmdFail code

/-- An operation of several pages or sectors has yielded to one of a higher priority (R440, R497). -/
def Dev.yielded (d : Dev) (op : FlashOp) : Dev :=
  match d.nvm.cur with
  | some now => d.onlyIf (now.prio < op.prio && d.nvm.queue.any (fun q => q.prio = op.prio)) (fun d => d.perf 10 4 15)
  | none => d

/-- The operation in progress ends (R440): well, or with an error (R445, instance 17); the next one is started. -/
def Dev.flashDone (d : Dev) (t : Nat) (failed : Bool) (written : Dev → Dev) : Dev :=
  match d.nvm.cur with
  | none => d.flashNext t
  | some op =>
    let d1 := d.setNvm { d.nvm with cur := none }
    (if failed then (d1.opFail t 2 true op).raise t 2 17 (d.nvm.opSector op) else d1.opDone t written op).flashNext t |>.yielded op

/-- The operation belongs to the running command. -/
def Dev.cmdOwns (d : Dev) (op : FlashOp) : Bool :=
  if d.get R.REAM.CMD_OP = 4 then op = .commit 2 [d.get I.REAM.CMD_RUN_SLOT + 1] else op.ofCmd

/-- The operation in progress has taken longer than 2 s (R112, R445, instance 16): it is ended, and with it, as failed, a command that it
belongs to. -/
def Dev.flashTimeout (d : Dev) (t : Nat) : Dev :=
  match d.nvm.cur with
  | none => d
  | some op =>
    let d1 := d.setNvm { d.nvm with cur := none }
    ((if d.is R.REAM.CMD_BUSY && d.cmdOwns op then d1.cmdFail 1 else d1.opFail t 1 false op).raise t 2 16 (d.nvm.opSector op)).flashNext t

/-- An erase in progress is suspended and abandoned; its sector is dirty (R441, R442). -/
def Dev.abandonErase (d : Dev) (t : Nat) : Dev :=
  match d.nvm.cur with
  | some op => if op.erases then (d.setNvm { d.nvm with cur := none }).markDirty t (d.nvm.opSector op) else d
  | none => d

/-- The REAM_CMD that runs erases or programs. -/
def Dev.cmdWrites (d : Dev) : Bool := d.is R.REAM.CMD_BUSY && (d.get R.REAM.CMD_OP = 1 || d.get R.REAM.CMD_OP = 2)

/-- FLASH_HOLD is set (R441): a page program completes, an erase is abandoned, a REAM_CMD that writes fails. -/
def Dev.flashHold (d : Dev) (t : Nat) : Dev :=
  if d.is R.THERM.FLASH_HOLD then d
  else ((d.put R.THERM.FLASH_HOLD 1).abandonErase t).onlyIf d.cmdWrites (fun d => d.cmdFail 3)

/-- FLASH_HOLD is cleared (R441): every dirty sector is to be erased again. -/
def Dev.flashRelease (d : Dev) (t : Nat) : Dev :=
  if !d.is R.THERM.FLASH_HOLD then d
  else
    let d1 := d.put R.THERM.FLASH_HOLD 0
    (d1.setNvm { d1.nvm with queue := d1.nvm.queue ++ d1.nvm.dirty.map FlashOp.wipe }).flashNext t

/-- The power-fail record (R442), programmed inside the hold-up; the operation in progress is given up. -/
def Dev.flashPowerFail (d : Dev) (t : Nat) (e : Entry) : Dev :=
  let d1 := d.abandonErase t
  d1.setNvm { d1.nvm with pfail := some e, cur := none }

/-- The slot registers as the descriptors record them (R109). -/
def Dev.showSlots (d : Dev) : Dev :=
  let p := d.nvm.pref
  (d.put R.REAM.PREF p).forN 2 (fun d s =>
    let e := if s = 0 then d.nvm.descA else d.nvm.descB
    let d1 := (((d.put R.REAM.SLOT_STATE e.state s).put R.REAM.SLOT_LENGTH e.length s).put R.REAM.SLOT_IMAGE_ID e.imageId s).put R.REAM.SLOT_DECL_CLASS e.declClass s
    (d1.put R.REAM.SLOT_SEC_VER e.secVer s).flag R.REAM.SLOT_PREF (p = s + 1) s)

/-- What a loss of power or a reset leaves of the flash engine: nothing of its queues; the flash itself stays. -/
def Nvm.restart (n : Nvm) : Nvm := { n with cur := none, queue := [], evq := [], dirty := [], record := [] }

/-- The valid copy of a Teasel record: the committed one with the highest JSEQ whose CRC matches (R439). -/
def Journal.valid (j : Journal) (typ : Nat) : Option JRec :=
  j.recs.foldl (fun b r =>
    if r.mark = 0x3F && r.typ = typ && r.crc = crc32 (payload typ r.data) then
      (match b with | some b' => if b'.jseq < r.jseq then some r else b | none => some r)
    else b) none

/-- The recovery of the journals at step 4 of BOOT (R442, R443, R445, R153): records not committed are ignored and counted, a
committed record that fails its CRC is reported, the power-fail record goes to the event journal, the dirty sectors, the last
Teasel record and the histograms are restored. -/
def Dev.journalRecover (d : Dev) (t : Nat) : Dev :=
  let all := d.nvm.sys.recs ++ d.nvm.evj.recs ++ d.nvm.life.recs
  let k := (all.filter (fun r => r.mark = 0x7F)).length
  let drop (j : Journal) : Journal := { j with recs := j.recs.filter (fun r => r.mark != 0x7F) }
  let d1 := d.setNvm { d.nvm with sys := drop d.nvm.sys, evj := drop d.nvm.evj, life := drop d.nvm.life }
  let d2 := (d1.put R.THERM.JRN_ROLLBACK (min k 65535)).onlyIf (k != 0) (fun d => d.raise t 2 18 (min k 65535))
  let d3 := (all.filter (fun r => r.mark = 0x3F && r.crc != crc32 (payload r.typ r.data))).foldl (fun d r => d.raise t 2 20 r.typ) d2
  let d4 := (d3.setDirty d3.nvm.dirtyJ).put I.THERM.JRN_DONE 1
  let d5 := match d4.nvm.pfail with
    | some e => (d4.setNvm { d4.nvm with pfail := none }).queueEvent e
    | none => d4
  let d6 := match d5.nvm.life.valid 0x20 with
    | some r =>
      ((d5.setNvm { d5.nvm with record := r.data }).put R.THERM.TEASEL_JSEQ r.jseq).forN 144 (fun d c =>
        (d.forN 64 (fun d b => d.put I.THERM.BIN_CNT (r.data.getD (65 * c + b) 0) (64 * c + b))).put I.THERM.OP_MS (r.data.getD (65 * c + 64) 0) c)
    | none => d5
  ((d6.setNvm { d6.nvm with queue := d6.nvm.queue ++ d6.nvm.dirty.map FlashOp.wipe }).teaselShow).flashNext t

end Sys2Proof.Machine
end

