-- ==== Sys2Proof/Machine/Thermal.lean ====
section
/-! DEFINITION. Thermal management and service life (16_thermal_lifetime.md): the housekeeping round, the die model and its
thresholds, the cell networks, Teasel, and the meanings of their commands and of the flash commands. -/
namespace Sys2Proof.Machine

/-! Housekeeping (R424 to R427). Quantity k: TS0 to TS3 are 0 to 3, the supply channels 0x34 to 0x38 are 4 to 8. -/

/-- The channel of a quantity (R331). -/
def hkChannel (k : Nat) : Nat := if k < 4 then 0x3C + k else 0x30 + k

/-- The value of a code: a temperature in °C, or a voltage with the divider of its channel and VREF of 2.5 V (R331). -/
def hkValue (k code : Nat) : Nat :=
  if k < 4 then b32.ofRatio ((code : Int) - 27315) 100
  else b32.ofRatio (5 * (match k with | 4 => 8 | 5 => 2 | 6 => 2 | _ => 1) * code) 131072

/-- The code of a result in its format (R338). -/
def codeOf (fmt v : Nat) : Nat := if fmt = 1 then v / 65536 else v % 65536

/-- A sampling instant, plus 1, is at most 20 ms old (R424). -/
def within20ms (t ns1 : Nat) : Bool := ns1 != 0 && t ≤ ns1 - 1 + 20000000

/-- The reading of quantity k at TB ns t: whether it is fresh, and its code (R424, R425). -/
def Dev.hkReading (d : Dev) (t k : Nat) : Bool × Nat :=
  if d.ream.active.isNone then (within20ms t (d.get I.THERM.INT_NS), d.get I.THERM.INT_CODE k)
  else
    match (List.range 128).find? (fun r => r % 16 < d.get R.AFE.SEQ_NENT (r / 16) && entCh (d.get R.AFE.ENTRY r) = hkChannel k) with
    | some r =>
      (within20ms t (d.get I.AFE.PUB_NS (r / 16)) && !d.is R.AFE.SEQ_FAIL (r / 16), codeOf (entFmt (d.get R.AFE.ENTRY r)) (d.get R.AFE.RESULT r))
    | none => (false, 0)

/-- The register of a supply. -/
def supplyReg (k : Nat) : Fld :=
  match k with
  | 4 => R.THERM.VIN
  | 5 => R.THERM.VBAT
  | 6 => R.THERM.V3P3
  | 7 => R.THERM.V1P8
  | _ => R.THERM.V0P8

/-- A reading taken: the value of a fresh one, the last good value of a stale one (R424). -/
def Dev.hkTake (d : Dev) (t k : Nat) : Dev :=
  let (ok, code) := d.hkReading t k
  if !ok then d.put R.THERM.HK_STALE 1
  else
    let d1 := (d.put I.THERM.CODE code k).put I.THERM.READ 1 k
    if k < 4 then d1.put R.THERM.TSENS (hkValue k code) k else d1.put (supplyReg k) (hkValue k code)

/-- Board sensor b, as signal 0x0100 + BRD_SRC(b) (R424). -/
def Dev.brdTake (d : Dev) (t b : Nat) : Dev :=
  let r := d.get R.THERM.BRD_SRC b
  if 127 < r || d.ream.active.isNone then d
  else if within20ms t (d.get I.AFE.PUB_NS (r / 16)) && !d.is R.AFE.SEQ_FAIL (r / 16) then
    let v := d.get R.AFE.RESULT r
    let raw : Int := if entFmt (d.get R.AFE.ENTRY r) = 2 then toInt 32 v else v
    (d.put R.THERM.BRD_T (c32.add (c32.mul (d.get I.CE.GAIN r) (c32.ofInt raw)) (d.get I.CE.OFS r)) b).put I.THERM.READ 1 (9 + b)
  else d.put R.THERM.HK_STALE 1

/-- The limits of a supply in mV (R427). -/
def supplyLimits (k : Nat) : Nat × Nat :=
  match k with
  | 4 => (10500, 13500)
  | 5 => (2200, 1000000)
  | 6 => (3135, 3465)
  | 7 => (1710, 1890)
  | _ => (760, 840)

/-- A supply that has been read lies outside its limits; the comparison is exact on the code. -/
def Dev.supplyBad (d : Dev) (k : Nat) : Bool :=
  let mv := 2500 * (match k with | 4 => 8 | 5 => 2 | 6 => 2 | _ => 1) * d.get I.THERM.CODE k
  d.is I.THERM.READ k && (mv < (supplyLimits k).1 * 65536 || (supplyLimits k).2 * 65536 < mv)

/-- A board sensor in use that has been read lies outside −50 °C to +150 °C (R427). -/
def Dev.brdBad (d : Dev) (b : Nat) : Bool :=
  let v := d.get R.THERM.BRD_T b
  d.get R.THERM.BRD_SRC b ≤ 127 && d.is I.THERM.READ (9 + b) && (b32.lt v (b32.ofInt (-50)) || b32.lt (b32.ofInt 150) v)

/-- An instance raised while any member of a list has a condition, each with its detail; lowered when none has. -/
def Dev.raiseAny (d : Dev) (t cls inst : Nat) (l : List Nat) (bad : Nat → Bool) (detail : Nat → Nat) : Dev :=
  let hit := l.filter bad
  if hit.isEmpty then d.lower cls inst else hit.foldl (fun d k => d.raise t cls inst (detail k) true) d

/-! The die model (R428 to R430). -/

/-- |a − b| of two finite binary32 values, exactly, as a ratio. -/
def absDiff (a b : Nat) : Nat × Nat :=
  let x := b32.ratio a
  let y := b32.ratio b
  ((x.1 * y.2 - y.1 * x.2).natAbs, x.2 * y.2)

/-- TMODEL of die d. -/
def Dev.dieModelT (d : Dev) (k : Nat) : Nat :=
  (List.range 4).foldl (fun s i => b32.add s (d.get I.THERM.DT (4 * k + i))) (d.get I.THERM.BASE k)

/-- TDIE of every die, TDIE_MAX and the die that gives it (R429): the lowest die among equals. -/
def Dev.dieStatus (d : Dev) : Dev :=
  let d1 := d.forN 4 (fun d k => d.put R.THERM.TDIE (b32.max (d.get I.THERM.TMODEL k) (d.get R.THERM.TSENS k)) k)
  let hot := (List.range 4).foldl (fun h k => if b32.lt (d1.get R.THERM.TDIE h) (d1.get R.THERM.TDIE k) then k else h) 0
  (d1.put R.THERM.HOT_DIE hot).put R.THERM.TDIE_MAX (d1.get R.THERM.TDIE hot)

/-- Die k in a round: its first values, or the comparison with its sensor and the correction of the base (R428, R429, R448). -/
def Dev.dieRound (d : Dev) (t k : Nat) : Dev :=
  let fresh := (d.hkReading t k).1
  let run := if fresh then 0 else min 3 (d.get I.THERM.STALE_RUN k + 1)
  let d0 := d.put I.THERM.STALE_RUN run k
  let ts := d.get R.THERM.TSENS k
  if !d.is I.THERM.SEEDED k then
    if fresh then
      (((d0.put I.THERM.SEEDED 1 k).put I.THERM.BASE ts k).put I.THERM.TMODEL ts k).forN 4 (fun d i => d.put I.THERM.DT 0 (4 * k + i))
    else d0
  else
    let tm := d.get I.THERM.TMODEL k
    let (n, q) := absDiff ts tm
    let far : Bool := 10 * q < n
    let run := if far then min 10 (d.get I.THERM.DIS_RUN k + 1) else 0
    let d1 := d0.put I.THERM.DIS_RUN run k
    let d2 := if run = 10 then d1.raise t 12 (4 + k) (min (n / q) 65535) true else if far then d1 else d1.lower 12 (4 + k)
    if fresh then
      let d3 := d2.put I.THERM.BASE (b32.add (d.get I.THERM.BASE k) (b32.div (b32.sub ts tm) (b32.ofInt 8))) k
      d3.put I.THERM.TMODEL (d3.dieModelT k) k
    else d2

/-- One housekeeping round at TB ns t (R424, R427 to R429). -/
def Dev.hkRound (d : Dev) (t : Nat) : Dev :=
  let late : Bool := d.ream.active.isSome && (List.range 144).any (fun c => d.cellUsed c && d.is I.CELL.EVER c && !within20ms t (d.get I.CELL.BLK_NS c))
  let d1 := ((d.flag R.THERM.HK_STALE late).wrap R.THERM.HK_ROUNDS).forN 9 (fun d k => d.hkTake t k)
  let d2 := ((d1.forN 4 (fun d b => d.brdTake t b)).forN 4 (fun d k => d.dieRound t k)).dieStatus
  let d3 := d2.raiseAny t 12 9 (List.range 4) (fun k => d2.get I.THERM.STALE_RUN k = 3) (fun k => k)
  let d4 := d3.raiseAny t 12 163 [4, 5, 6, 7, 8] d2.supplyBad (fun k => k - 4)
  d4.raiseAny t 12 8 (List.range 4) d2.brdBad (fun b => b)

/-- Sorrel's measurement of SAFE in a round (R92, R392): `cycles` SAFE cycles in 10 ms of TB, 160,000 nominal; instance 7 of the
clock class outside ±5 %, the demand and instance 19 outside ±10 %. -/
def Dev.safeClock (d : Dev) (t cycles : Nat) : Dev :=
  let off : Nat := ((cycles : Int) - 160000).natAbs
  let d1 := if 8000 < off then d.raise t 0 7 0 true else d.lower 0 7
  if 16000 < off then (d1.put I.SAFE.OSC_BAD 1).raise t 10 19 0 true else (d1.put I.SAFE.OSC_BAD 0).lower 10 19

/-- Rounds run from step 7 of BOOT, BACKUP excepted (R424). -/
def Dev.hkRuns (d : Dev) : Bool := d.mode != .backup && (d.get I.MODE.BOOT_STEP = 0 || 7 ≤ d.get I.MODE.BOOT_STEP)

/-- HK_ROUND (R424): the round that falls every 10 ms. -/
def execHkRound (safeCycles : Nat) (s : State) : Host.Outcome State Fault Refusal :=
  s.onDev fun d => if d.hkRuns then ((d.hkRound s.clk.ns).safeClock s.clk.ns safeCycles).settle s.clk.ns else d

/-- HK_SEQUENCE (R425): the internal sequence has run; codes of TS0 to TS3 and of channels 0x34 to 0x38, 16 bits each. -/
def execHkSequence (codes : BitVec 144) (s : State) : Host.Outcome State Fault Refusal :=
  s.onDev fun d =>
    let step := d.get I.MODE.BOOT_STEP
    if d.ream.active.isSome || d.mode = .backup || step = 1 then d
    else (d.forN 9 (fun d k => d.put I.THERM.INT_CODE (bitsOf codes.toNat (16 * k + 15) (16 * k)) k)).put I.THERM.INT_NS (s.clk.ns + 1)

/-! Thresholds (R430, R441). -/

/-- The threshold k in °C: TW, TS_ORDER, TS_HARD. -/
def threshold (k : Nat) : Int := match k with | 0 => 115 | 1 => 125 | _ => 135

/-- The detail of a threshold: the hottest die and TDIE_MAX in whole °C. -/
def Dev.thermDetail (d : Dev) : Nat :=
  let x := b32.ratio (d.get R.THERM.TDIE_MAX)
  256 * d.get R.THERM.HOT_DIE + (max 0 (min 255 (x.1 / x.2))).toNat

/-- The hardware action of TS_ORDER (1) and TS_HARD (2); a standby leaves the pair (R430). -/
def Dev.thermAction (d : Dev) (t k : Nat) : Dev :=
  if k = 0 then d
  else
    let d1 := if d.mode = .mirror then d.put I.PART.LEAVE_DUE 1 else d.put (if k = 1 then I.MODE.DUE_STOP_TS else I.MODE.DUE_SAFE_TS) 1
    d1.flashHold t

/-- Threshold k at a model step. -/
def Dev.thermThreshold (d : Dev) (t k : Nat) : Dev :=
  let on : Bool := bitOf (d.get R.THERM.THR_ACT) k = 1
  let T := d.get R.THERM.TDIE_MAX
  if !on && b32.le (b32.ofInt (threshold k)) T then
    (((d.setBitOf R.THERM.THR_ACT k true).raise t 12 k d.thermDetail true).sumAll R.HIF.SUM_THERM).thermAction t k
  else if on && b32.lt T (b32.ofInt (threshold k - 5)) then (d.setBitOf R.THERM.THR_ACT k false).lower 12 k
  else d

/-- A model step of every die with the mean powers of the millisecond, and the thresholds (R428, R430); FLASH_HOLD is cleared
below TW (R441). -/
def Dev.dieStep (d : Dev) (t : Nat) (p : Nat → Nat) : Dev :=
  let d1 := d.forN 4 (fun d k =>
    if !d.is I.THERM.SEEDED k then d
    else
      let d1 := d.forN 4 (fun d i =>
        let a := Config.exp32 (b32.neg (b32.div (b32.ofRatio 1 1000) (Config.dieModel (8 * k + 4 + i))))
        d.put I.THERM.DT (b32.add (b32.mul a (d.get I.THERM.DT (4 * k + i)))
          (b32.mul (b32.mul (Config.dieModel (8 * k + i)) (b32.sub b32.one a)) (p k))) (4 * k + i))
      d1.put I.THERM.TMODEL (d1.dieModelT k) k)
  let d2 := (List.range 3).foldl (fun d k => d.thermThreshold t k) d1.dieStatus
  if b32.lt (d2.get R.THERM.TDIE_MAX) (b32.ofInt 115) then d2.flashRelease t else d2

/-- DIE_MODEL_STEP (R428): the mean rail powers of the four dies, binary32 in W. -/
def execDieModelStep (p0 p1 p2 p3 : Word) (s : State) : Host.Outcome State Fault Refusal :=
  s.onDev fun d =>
    if d.hkRuns then
      (d.dieStep s.clk.ns (fun k => (match k with | 0 => p0 | 1 => p1 | 2 => p2 | _ => p3).toNat)).settle s.clk.ns
    else d

/-! Cell networks (R432, R433), in the arithmetic of the control engine. -/

/-- The RTH or TAU of node i of a network: bridge 0, DAB 1. -/
def netReg (net i : Nat) (tau : Bool) : Fld :=
  match net, i, tau with
  | 0, 0, false => R.THERM.RTH_BR1
  | 0, 0, true => R.THERM.TAU_BR1
  | 0, _, false => R.THERM.RTH_BR2
  | 0, _, true => R.THERM.TAU_BR2
  | _, 0, false => R.THERM.RTH_DAB1
  | _, 0, true => R.THERM.TAU_DAB1
  | _, _, false => R.THERM.RTH_DAB2
  | _, _, true => R.THERM.TAU_DAB2

/-- A node of a network steps with the losses p. -/
def Dev.cellNode (d : Dev) (c net i p : Nat) : Dev :=
  let k := 4 * c + 2 * net + i
  let a := Config.exp32 (c32.neg (c32.div (d.frameT c32) (d.get (netReg net i true))))
  d.put I.THERM.CELL_DT (c32.add (c32.mul a (d.get I.THERM.CELL_DT k)) (c32.mul (c32.mul (d.get (netReg net i false)) (c32.sub c32.one a)) p)) k

/-- The junction of a network at the end of a step: the heatsink temperature when both RTH are 0. -/
def Dev.junction (d : Dev) (c net base : Nat) : Nat :=
  if c32.isZero (d.get (netReg net 0 false)) && c32.isZero (d.get (netReg net 1 false)) then base
  else c32.add (c32.add base (d.get I.THERM.CELL_DT (4 * c + 2 * net))) (d.get I.THERM.CELL_DT (4 * c + 2 * net + 1))

/-- A junction against TJ_MAX with its hysteresis of 5 °C (R433). -/
def Dev.junctionOn (d : Dev) (c net tj : Nat) : Bool :=
  if d.is I.THERM.TJ_ON (2 * c + net) then c32.le (c32.sub (d.get R.THERM.TJ_MAX) (c32.ofInt 5)) tj else c32.le (d.get R.THERM.TJ_MAX) tj

/-- Cell c at stage 7 (R432, R433, R153). -/
def Dev.cellThermal (d : Dev) (t c : Nat) : Dev :=
  if !d.cellUsed c || !d.is I.CELL.EVER c then d
  else
    let d0 := if d.is I.CELL.FIRST c then (d.forN 4 (fun d i => d.put I.THERM.CELL_DT 0 (4 * c + i))).put I.CELL.FIRST 0 c else d
    let d1 := ((((d0.cellNode c 0 0 (d.get R.CE.CELL_PLOSS_BR c)).cellNode c 0 1 (d.get R.CE.CELL_PLOSS_BR c)).cellNode c 1 0
      (d.get R.CE.CELL_PLOSS_DAB c)).cellNode c 1 1 (d.get R.CE.CELL_PLOSS_DAB c))
    let br := d1.junction c 0 (c32.ofRatio (d.measuredInt c 4) 16)
    let dab := d1.junction c 1 (c32.ofRatio (d.measuredInt c 5) 16)
    let on0 := d1.junctionOn c 0 br
    let on1 := d1.junctionOn c 1 dab
    let d2 := (((d1.put R.THERM.CELL_TJ_BR br c).put R.THERM.CELL_TJ_DAB dab c).flag I.THERM.TJ_ON on0 (2 * c)).flag I.THERM.TJ_ON on1 (2 * c + 1)
    let d3 := if on0 && !d.is I.THERM.TJ_ON (2 * c) then d2.raise t 12 (16 + c) 0 true else d2
    let d4 := if on1 && !d.is I.THERM.TJ_ON (2 * c + 1) then d3.raise t 12 (16 + c) 1 true else d3
    if on0 || on1 then d4 else d4.lower 12 (16 + c)

/-! Teasel (R434 to R437). -/

/-- A ratio of two naturals is at least a number. -/
def ratioGe (x : Nat × Nat) (n d : Nat) : Bool := n * x.2 ≤ x.1 * d

/-- The index of a range in the table of R434; an edge belongs to the higher bin. -/
def rangeBin (a b : Nat) : Nat := ([2, 4, 8, 16, 32, 64, 128].filter (fun e => ratioGe (absDiff a b) e 1)).length

/-- The index of a mean. -/
def meanBin (a b : Nat) : Nat :=
  let x := b32.ratio a
  let y := b32.ratio b
  ([25, 40, 55, 70, 85, 100, 115].filter (fun e : Nat => decide (2 * (e : Int) * (x.2 * y.2) ≤ x.1 * y.2 + y.1 * x.2))).length

/-- Add half-cycles between two reversals to a cell's histogram, saturating. -/
def Dev.countCycle (d : Dev) (c a b n : Nat) : Dev := d.bump I.THERM.BIN_CNT (64 * c + 8 * rangeBin a b + meanBin a b) n

/-- The first of two ranges is at most the second. -/
def rangeLe (a b x y : Nat) : Bool := (absDiff a b).1 * (absDiff x y).2 ≤ (absDiff x y).1 * (absDiff a b).2

/-- The cycles that four-point rainflow closes at the top of a stack, newest reversal first, and what is left. -/
def closeCycles : Nat → List Nat → List (Nat × Nat) → List Nat × List (Nat × Nat)
  | 0, st, cy => (st, cy)
  | k + 1, st, cy =>
    match st with
    | a :: b :: x :: y :: rest =>
      if rangeLe b x x y && rangeLe b x a b then closeCycles k (a :: y :: rest) (cy ++ [(b, x)]) else (st, cy)
    | _ => (st, cy)

/-- A temperature against the reversals of a cell (R434): the new rainflow, and the reversal kept, if any. -/
def Rain.step (r : Rain) (hyst x : Nat) : Rain × Bool :=
  let moved (a : Nat) : Bool := ratioGe (absDiff x a) (b32.ratio hyst).1.toNat (b32.ratio hyst).2
  match r.dir with
  | 0 => if moved r.ext then ({ r with ext := x, dir := if b32.lt r.ext x then 1 else 2 }, false) else (r, false)
  | 1 =>
    if b32.le r.ext x then ({ r with ext := x }, false)
    else if moved r.ext then ({ r with stack := r.ext :: r.stack, ext := x, dir := 2 }, true) else (r, false)
  | _ =>
    if b32.le x r.ext then ({ r with ext := x }, false)
    else if moved r.ext then ({ r with stack := r.ext :: r.stack, ext := x, dir := 1 }, true) else (r, false)

/-- The rainflow of a slot, replaced. -/
def Dev.setRain (d : Dev) (r : Rain) : Dev := { d with rain := r :: d.rain.filter (fun q => q.slot != r.slot) }

/-- Teasel takes the junction of a cell in a frame; its first temperature in a segment starts the stack. -/
def Dev.teaselTake (d : Dev) (c : Nat) : Dev :=
  let x := d.get R.THERM.CELL_TJ_BR c
  match d.rain.find? (fun r => r.slot = c) with
  | none => d.setRain ⟨c, [x], x, 0⟩
  | some r =>
    let (r1, kept) := r.step (d.get R.THERM.TEASEL_HYST) x
    if kept then
      let (st, cy) := closeCycles r1.stack.length r1.stack []
      cy.foldl (fun d p => d.countCycle c p.1 p.2 2) (d.setRain { r1 with stack := st })
    else d.setRain r1

/-- OP_TIME of a cell advances by the frame (R434). -/
def Dev.opTime (d : Dev) (c : Nat) : Dev :=
  let ns := d.get I.THERM.OP_NS c + 2 * d.get R.TB.TF_LAST
  (d.put I.THERM.OP_NS (ns % 1000000) c).bump I.THERM.OP_MS c (ns / 1000000)

/-- Teasel in a frame (R434). -/
def Dev.teaselFrame (d : Dev) : Dev :=
  d.forN 144 (fun d c => if d.role c = roleActive || d.role c = rolePark then (d.teaselTake c).opTime c else d)

/-- The residue of a stack with its last extreme: one half-cycle between neighbours (R434). -/
def halfCycles : List Nat → List (Nat × Nat)
  | a :: b :: l => (a, b) :: halfCycles (b :: l)
  | _ => []

/-- A segment ends: the residue is counted and the stacks are emptied (R435). -/
def Dev.teaselEnd (d : Dev) : Dev :=
  let d1 := d.rain.foldl (fun d r =>
    (halfCycles (if r.dir = 0 then r.stack else r.ext :: r.stack)).foldl (fun d p => d.countCycle r.slot p.1 p.2 1) d) d
  { d1 with rain := [] }

/-- A segment starts with empty stacks (R435). -/
def Dev.teaselStart (d : Dev) : Dev := { d with rain := [] }

/-- A record is to be written (R435); one that still waits gives way to it. -/
def Dev.teaselRecord (d : Dev) (t : Nat) : Dev :=
  let keep (op : FlashOp) : Bool := match op with | .teasel 0 _ => false | _ => true
  (d.setNvm { d.nvm with queue := d.nvm.queue.filter keep }).enqueue t (.teasel 0 d.teaselData)

/-- At entry to IDLE from STOPPING (R435). -/
def Dev.teaselIdle (d : Dev) (t : Nat) : Dev := d.teaselEnd.teaselRecord t

/-- LIFE_USED of a cell from a record, exactly, as a ratio (R436). -/
def Dev.lifeUsed (d : Dev) (c : Nat) : Nat × Nat :=
  (List.range 64).foldl (fun s b =>
    let n := d.nvm.record.getD (65 * c + b) 0
    let L := b32.ratio (d.get R.THERM.LIFE_N b)
    if L.1 ≤ 0 || n = 0 then s else (s.1 * (2 * L.1.toNat) + n * L.2 * s.2, s.2 * (2 * L.1.toNat))) (0, 1)

/-- After a record: LIFE_USED and REMAIN_H of a cell, and instance 161 the first time LIFE_WARN is reached (R436). -/
def Dev.lifeCell (d : Dev) (t c : Nat) : Dev :=
  let (n, q) := d.lifeUsed c
  let ms := d.nvm.record.getD (65 * c + 64) 0
  let rem := if n = 0 then 0xFFFFFFFF else if q ≤ n then 0 else min 0xFFFFFFFF (ms * (q - n) / (3600000 * n))
  let d1 := (d.put R.THERM.CELL_LIFE_USED (b32.ofRatio n q) c).put R.THERM.CELL_REMAIN_H rem c
  let w := b32.ratio (d.get R.THERM.LIFE_WARN)
  if w.1.toNat * q ≤ n * w.2 && !d.is I.THERM.LIFE_HIT c then (d1.put I.THERM.LIFE_HIT 1 c).raise t 12 161 c else d1

/-- What follows a record that has been written (R436): the Teasel window and the life figures. -/
def Dev.recordWritten (t : Nat) (d : Dev) : Dev := d.teaselShow.forN 144 (fun d c => d.lifeCell t c)

/-- TEASEL_HOUR (R435): a record without the residue, in every mode but IDLE in which Teasel runs. -/
def execTeaselHour (s : State) : Host.Outcome State Fault Refusal :=
  s.onDev fun d => if d.mode = .idle || d.mode = .backup || d.mode = .boot then d else (d.teaselRecord s.clk.ns).settle s.clk.ns

/-- The TEASEL_RST write, once accepted (R437). -/
def Dev.teaselRst (d : Dev) : Dev := d.put I.THERM.RST_DUE 1 (d.get R.THERM.TEASEL_SEL)

/-- The clears due at a boundary (R437). -/
def Dev.teaselBoundary (d : Dev) : Dev :=
  d.forN 144 (fun d c =>
    if d.is I.THERM.RST_DUE c then
      (((d.put I.THERM.RST_DUE 0 c).forN 64 (fun d b => d.put I.THERM.BIN_CNT 0 (64 * c + b))).put I.THERM.OP_MS 0 c).put I.THERM.OP_NS 0 c
    else d)

/-- The standby adopts the histogram with the larger OP_TIME, cell by cell (R437). -/
def Dev.teaselAdopt (d : Dev) (record : List Nat) : Dev :=
  d.forN 144 (fun d c =>
    let w (i : Nat) : Nat := record.getD (65 * c + i) 0
    if d.get I.THERM.OP_MS c < w 64 then (d.forN 64 (fun d b => d.put I.THERM.BIN_CNT (w b) (64 * c + b))).put I.THERM.OP_MS (w 64) c else d)

/-! Flash commands (R440 to R444, R112). -/

/-- FLASH_OP_DONE (R440): the operation in progress ends; an unlocked PLL_S suspends it (R92). -/
def execFlashOpDone (failed : Bool) (s : State) : Host.Outcome State Fault Refusal :=
  s.onDev fun d => if d.flashOn then (d.flashDone s.clk.ns failed (Dev.recordWritten s.clk.ns)).settle s.clk.ns else d

/-- FLASH_OP_TIMEOUT (R112, R445). -/
def execFlashOpTimeout (s : State) : Host.Outcome State Fault Refusal :=
  s.onDev fun d => (d.flashTimeout s.clk.ns).settle s.clk.ns

/-- The EVJ_SEL write, once accepted (R444). -/
def Dev.evjSelect (d : Dev) : Dev := (d.put R.THERM.EVJ_STAT 0).put I.THERM.EVJ_WANT 1

/-- The entry that a JSEQ selects, as four words; of a block of several entries the spec does not say which (R444). -/
def Dev.evjEntry (d : Dev) (jseq : Nat) : Option (List Nat) :=
  (d.nvm.evj.recs.find? (fun r => r.mark = 0x3F && r.jseq = jseq)).map (fun r =>
    let k := Config.evjPick jseq % (r.data.length / 2)
    (List.range 4).map (fun i => r.data.getD (2 * k + i / 2) 0 >>> (32 * (i % 2))))

/-- EVJ_LOADED (R444): the entry is loaded, or it is gone or does not exist yet. -/
def execEvjLoaded (s : State) : Host.Outcome State Fault Refusal :=
  s.onDev fun d =>
    if !d.is I.THERM.EVJ_WANT then d
    else
      let d1 := d.put I.THERM.EVJ_WANT 0
      match d.evjEntry (d.get R.THERM.EVJ_SEL) with
      | some ws => (ws.zipIdx.foldl (fun d p => d.put R.THERM.EVJ_ENTRY p.1 p.2) d1).put R.THERM.EVJ_STAT 1
      | none => d1.put R.THERM.EVJ_STAT 2

/-- The rate in force is derived from a time source (R537). -/
def Dev.rateLocked (d : Dev) : Bool :=
  match d.get R.NET.SERVO_MODE with
  | 2 => d.get R.NET.SERVO_STATE = 2
  | 1 => d.get R.NET.SERVO_STATE = 1 && d.get R.NET.RATE_WIN ≤ d.get I.NET.STEP_RUN
  | _ => !d.is R.NET.TIME_SUSPECT

/-- The frequency-offset record is queued (R440). -/
def Dev.freqRecord (d : Dev) (t : Nat) : Dev := d.enqueue t (.commit 3 [d.get R.TB.TB_RATE])

/-- FREQ_OFFSET_WRITE (R440): each hour in which RATE_LOCKED is set. -/
def execFreqOffsetWrite (s : State) : Host.Outcome State Fault Refusal :=
  s.onDev fun d => if d.rateLocked && d.mode != .boot && d.mode != .backup then (d.freqRecord s.clk.ns).settle s.clk.ns else d

/-- The rule of R426 on the loaded afe sheet, with E_STRUCT 0x06: triggered sequencers convert some of TS0 to TS3 and some of the
supply channels. -/
def Dev.thermRules (d : Dev) : List Err :=
  let conv (ch : Nat) : Bool :=
    (List.range 128).any (fun r => r % 16 < d.get R.AFE.SEQ_NENT (r / 16) && d.get R.AFE.SEQ_TRIG_SRC (r / 16) != 0 && entCh (d.get R.AFE.ENTRY r) = ch)
  errIf ((List.range 4).all (fun k => !conv (0x3C + k)) || (List.range 5).all (fun k => !conv (0x34 + k))) (eStruct 6)

end Sys2Proof.Machine
end

