-- ==== Sys2Proof/Machine/NetTime.lean ====
section
/-! DEFINITION. Network time (17_grid_network_time.md): the mapping from TB to time of day, the servo, LAN inclusion, the best
master clock algorithm, peer delays, IRIG-B, PPS and UTC, and the meanings of their commands. Offsets are whole ns; a value that
is no whole number of ns is rounded to nearest, ties upwards. -/
namespace Sys2Proof.Machine

/-! The network sheet (R491): fields of the structure part that no register shows, and of the parameter part. -/

def Dev.netSheet (d : Dev) : Option Sheet := d.ream.active.bind (fun im => im.sheets.find? (fun sh => sh.typ = 10))
def Dev.netS (d : Dev) (off len : Nat) : Nat := match d.netSheet with | some sh => bytesAt sh.strc.data off len | none => 0
def Dev.netP (d : Dev) (off len : Nat) : Nat := match d.netSheet with | some sh => bytesAt sh.par.data off len | none => 0

/-- RED (R449): 0 single, 1 PRP, 2 HSR. -/
def Dev.red (d : Dev) : Nat := bitsOf (d.netS 0 1) 3 2
/-- TIME_PRI and TIME_CHK (R472): 0 PTP, 1 IRIG-B, 2 PPS_IN, 3 none. -/
def Dev.timePri (d : Dev) : Nat := bitsOf (d.netS 1 1) 1 0
def Dev.timeChk (d : Dev) : Nat := bitsOf (d.netS 1 1) 3 2
def Dev.ptpDomain (d : Dev) : Nat := d.netS 3 1

/-- Port p is used under the active Ream (R449). -/
def Dev.portUsed (d : Dev) (p : Nat) : Bool := d.netSheet.isSome && (p = 0 || d.red != 0)

/-- Port p is used, up, not fenced and clocked (R92, R493). -/
def Dev.portUp (d : Dev) (p : Nat) : Bool :=
  d.portUsed p && bitOf (d.get R.NET.LINK) p = 1 && !d.fenced (170 + p) && d.is R.TB.PLL_N_LOCK

/-- The LAN record of port p. -/
def Dev.lan (d : Dev) (p : Nat) : Lan := (d.net.lans[p]?).getD ⟨[], [], [], [], none, none⟩
def Dev.setLan (d : Dev) (p : Nat) (l : Lan) : Dev := { d with net := { d.net with lans := setAt d.net.lans p l } }
def Dev.setNet (d : Dev) (n : Net) : Dev := { d with net := n }

/-! The mapping (R82, R83). -/

def Dev.todSec (d : Dev) : Nat := d.get R.TB.TOD_SEC_LO + 2 ^ 32 * d.get R.TB.TOD_SEC_HI

/-- The pair of the mapping set together (R82). -/
def Dev.setTod (d : Dev) (sec ref : Int) : Dev :=
  let s := ofInt 64 sec
  (((d.put R.TB.TOD_SEC_LO s).put R.TB.TOD_SEC_HI (s / 2 ^ 32)).put R.TB.TOD_REF_NS32 (ofInt 32 ref)).putInt I.NET.REF_NS ref

/-- Time of day in ns at TB ns x. -/
def Dev.tod (d : Dev) (x : Int) : Int := (d.todSec : Int) * 1000000000 + x - d.getInt I.NET.REF_NS

/-- Time of day in q at TB q x. -/
def Dev.todQ (d : Dev) (x : Int) : Int := 4 * ((d.todSec : Int) * 1000000000 - d.getInt I.NET.REF_NS) + x

/-- A phase correction of D ns applied to the mapping (R83). -/
def Dev.todStep (d : Dev) (D : Int) : Dev :=
  d.setTod ((d.todSec : Int) + D / 1000000000) (d.getInt I.NET.REF_NS - D % 1000000000)

/-- The pair names the second in progress at TB ns t (R82). -/
def Dev.todRefresh (d : Dev) (t : Nat) : Dev :=
  let n := ((t : Int) - d.getInt I.NET.REF_NS) / 1000000000
  if n ≤ 0 then d else d.setTod ((d.todSec : Int) + n) (d.getInt I.NET.REF_NS + n * 1000000000)

/-- TOD_REFRESH (R82). -/
def execTodRefresh (s : State) : Host.Outcome State Fault Refusal :=
  s.onDev fun d => if d.mode = .backup then d else d.todRefresh s.clk.ns

/-! TIME_SUSPECT (R465). -/

def Dev.suspectSet (d : Dev) (t : Nat) : Dev :=
  if d.is R.NET.TIME_SUSPECT then d
  else ((d.put R.NET.TIME_SUSPECT 1).raise t 13 6 0 true).onlyIf (bitOf (d.get R.NET.PPS_OUT_CTL) 0 = 1) (fun d => d.put I.NET.PPS_OUT 0)

/-- What keeps TIME_SUSPECT set at once. -/
def Dev.suspectBad (d : Dev) : Bool :=
  (if d.get R.NET.SERVO_MODE = 0 then d.get R.NET.SERVO_STATE != 1 else d.get R.NET.SERVO_STATE != 2) ||
    (d.timePri = 0 && !d.is R.NET.GM_TRACE) || d.is R.NET.XCHK_BAD

/-- TIME_SUSPECT as it now stands (R465, R466). -/
def Dev.suspect (d : Dev) (t : Nat) : Dev :=
  if d.suspectBad then d.suspectSet t
  else if d.is R.NET.TIME_SUSPECT && d.get R.NET.LOCK_N ≤ d.get I.NET.LOCK_RUN then (d.put R.NET.TIME_SUSPECT 0).lower 13 6
  else d

/-! The servo (R460 to R466). -/

/-- A rate correction in ppb as TB_RATE, held at ±500 ppm, where it raises clock instance 9 (R80, R462). -/
def Dev.setRate (d : Dev) (t ppb : Nat) : Dev :=
  let lim := b64.ofInt 500000
  let x := b64.clamp ppb (b64.neg lim) lim
  let atLim : Bool := b64.le lim (b64.abs x)
  let d1 := (d.putInt R.TB.TB_RATE (b64.toIntAway (b64.mul (b64.ofInt 256) x))).flag R.TB.RATE_LIM atLim
  let d2 := d1.putInt R.TB.ROOT_DEV (-(b64.toIntAway x))
  if atLim then d2.raise t 0 9 0 true else d2.lower 0 9

/-- The rate correction in force, in ppb. -/
def Dev.rateNow (d : Dev) : Nat := b64.ofRatio (d.getInt R.TB.TB_RATE) 256

/-- The least-squares slope in ns per s of values newest first, one a second. -/
def slopeOf (l : List Int) : Nat :=
  let n : Int := l.length
  let num := l.zipIdx.foldl (fun (s : Int) p => s + (n - 1 - 2 * (p.2 : Int)) * p.1) 0
  let den := l.zipIdx.foldl (fun (s : Int) p => s + (n - 1 - 2 * (p.2 : Int)) ^ 2) 0
  b64.ofRatio (2 * num) den.toNat

/-- A state of the servo. -/
def Dev.servoState (d : Dev) (st : Nat) : Dev :=
  ((d.put R.NET.SERVO_STATE st).put I.NET.OVER_RUN 0).onlyIf (st != d.get R.NET.SERVO_STATE) (fun d => d.put I.NET.LOCK_RUN 0)

/-- The PI law takes over from the rate in force; with SERVO_MODE 1, and in a standby, STEPRATE takes the place of LOCKED (R461, R466, R490). -/
def Dev.relock (d : Dev) : Dev :=
  let d1 := d.lower 13 8
  if d.get R.NET.SERVO_MODE = 2 && d.mode != .mirror then (d1.put I.NET.SERVO_I d.rateNow).servoState 2 else d1.servoState 1

/-- The inputs since the last step or change of the included set. -/
def Dev.setEvals (d : Dev) (l : List Int) : Dev := d.setNet { d.net with evals := l }

/-- A step of the mapping (R463). -/
def Dev.timeStep (d : Dev) (t : Nat) (e : Int) : Dev :=
  let d1 := ((d.todStep e).bump R.NET.STEP_CNT).raise t 13 7 (min (e.natAbs / 1000) 65535)
  (((d1.lower 13 8).servoState 1).put I.NET.STEP_RUN 0).setEvals []

/-- The rate-only law: the slope of the inputs is added to the rate correction (R464). -/
def Dev.rateOnly (d : Dev) (t : Nat) : Dev :=
  let w := d.get R.NET.RATE_WIN
  if d.net.evals.length < w || d.get R.NET.SERVO_MODE = 0 then d else d.setRate t (b64.add d.rateNow (slopeOf (d.net.evals.take w)))

/-- The PI law (R462): e in µs; the rates of the last 64 intervals are kept for HOLDOVER. -/
def Dev.servoPi (d : Dev) (t : Nat) (e : Int) : Dev :=
  let us := b64.ofRatio e 1000
  let lim := b64.ofInt 500000
  let i := d.get I.NET.SERVO_I
  let r := b64.add (b64.mul (b32.cvt b64 (d.get R.NET.KP)) us) i
  let d1 := (d.put I.NET.SERVO_I (b64.clamp (b64.add i (b64.mul (b32.cvt b64 (d.get R.NET.KI)) us)) (b64.neg lim) lim)).setRate t r
  d1.setNet { d1.net with rates := (d1.rateNow :: d1.net.rates).take 64 }

/-- One servo input at TB ns t (R461, R466). A standby keeps the primary's mapping, so it steps nothing and adjusts only its rate
(R490). -/
def Dev.servoStep (d : Dev) (t : Nat) (e : Int) : Dev :=
  let big : Bool := (d.get R.NET.STEP_THR : Int) < e.natAbs
  let d0 := (d.putInt R.NET.E e).put I.NET.LOCK_RUN (if (e.natAbs : Nat) ≤ d.get R.NET.LOCK_THR then min 65535 (d.get I.NET.LOCK_RUN + 1) else 0)
  let dp := (d0.setEvals ((e :: d0.net.evals).take 256)).put I.NET.STEP_RUN (min 256 (d0.get I.NET.STEP_RUN + 1))
  let st := d.get R.NET.SERVO_STATE
  let d1 :=
    if d.mode = .mirror then (dp.onlyIf (1 < st && !(st = 4 && d.is R.TB.HOLDOVER)) Dev.relock).rateOnly t
    else match if st = 2 && d.get R.NET.SERVO_MODE != 2 then 1 else st with
    | 0 => d0.timeStep t e
    | 4 => if d.is R.TB.HOLDOVER then d0 else if big then d0.timeStep t e else d0.relock
    | 3 => dp.relock
    | 2 =>
      if big && d.get I.NET.OVER_RUN = 2 then d0.timeStep t e
      else (dp.put I.NET.OVER_RUN (if big then d.get I.NET.OVER_RUN + 1 else 0)).servoPi t e
    | _ =>
      if big then d0.timeStep t e
      else
        let d2 := (dp.servoState 1).rateOnly t
        if d.get R.NET.SERVO_MODE = 2 && d.get R.NET.RATE_WIN ≤ d2.get I.NET.STEP_RUN then d2.relock else d2
  d1.suspect t

/-- The mean of a list of binary64 rates. -/
def meanRate (l : List Nat) : Nat := b64.div (b64.sum l) (b64.ofInt (l.length : Nat))

/-- HOLDOVER is entered (R461, R464): the mean rate of the last 64 intervals of LOCKED is held. -/
def Dev.holdover (d : Dev) (t : Nat) : Dev :=
  if d.get R.NET.SERVO_STATE = 0 || d.get R.NET.SERVO_STATE = 4 then d
  else
    let d1 := (((d.servoState 4).bump R.NET.HOLD_CNT).raise t 13 8 0 true).put R.TB.ROOT_DEV 0
    (if d.get R.NET.SERVO_MODE = 0 || d.net.rates.isEmpty then d1 else d1.setRate t (meanRate d.net.rates)).suspect t

/-! Inclusion of LANs (R467 to R471). -/

/-- The mean of a list of integers, to nearest. -/
def meanInt (l : List Int) : Int := nearestUp (l.foldl (· + ·) 0) l.length

def Dev.lanExcl (d : Dev) (p : Nat) : Bool := bitOf (d.get R.NET.LAN_EXCL) p = 1
def Dev.lanIncl (d : Dev) (p : Nat) : Bool := bitOf (d.get R.NET.LAN_INCL) p = 1

/-- A path-delay step on LAN p excludes it (R467). -/
def Dev.pathStep (d : Dev) (t p : Nat) (m : Int) : Dev :=
  let l := d.lan p
  let diff := (m - meanInt l.accepted).natAbs
  if d.lanExcl p || l.accepted.isEmpty || diff ≤ d.get R.NET.PD_STEP_THR then d
  else ((d.setBitOf R.NET.LAN_EXCL p true).setLan p { l with settle := [] }).raise t 13 (4 + p) (min (diff / 1000) 65535) true

/-- LAN p is readmitted with a reference path delay (R470, R471); RATEHOLD ends. -/
def Dev.readmit (d : Dev) (p : Nat) (ref : Int) : Dev :=
  let d1 := ((d.setBitOf R.NET.LAN_EXCL p false).setLan p { d.lan p with accepted := [ref], settle := [] }).lower 13 (4 + p)
  if d.get R.NET.SERVO_STATE = 3 then d1.relock else d1

/-- An interval of an excluded LAN towards its readmission (R470). -/
def Dev.settleLan (d : Dev) (p : Nat) (e : Int) : Dev :=
  let half := d.get R.NET.PD_STEP_THR / 2
  let m := d.getInt R.NET.MPD p
  let ok : Bool := (d.getInt R.NET.OFS p - d.getInt R.NET.COR p - e).natAbs ≤ half
  let n := d.get R.NET.PD_SETTLE
  let w := ((m, ok) :: (d.lan p).settle).take n
  let mean := meanInt (w.map (fun x => x.1))
  if w.length = n && w.all (fun x => x.2 && (x.1 - mean).natAbs ≤ half) then d.readmit p mean else d.setLan p { d.lan p with settle := w }

/-- A LAN_RESET of LAN p takes effect (R471). -/
def Dev.resetLan (d : Dev) (p : Nat) (e : Int) (none_ : Bool) : Dev :=
  let o := d.getInt R.NET.OFS p
  ((d.put I.NET.RST_DUE 0 p).putInt R.NET.COR (if none_ then o else o - e) p).readmit p (d.getInt R.NET.MPD p)

/-- RATEHOLD: the slopes of the excluded LANs' own offsets (R464, R469). -/
def Dev.rateHold (d : Dev) (t : Nat) (got : List Nat) : Dev :=
  let d1 := if d.get R.NET.SERVO_STATE ≤ 2 then d.servoState 3 else d
  if d1.get R.NET.SERVO_STATE != 3 then d1
  else
    let d2 := got.foldl (fun d p => d.setLan p { d.lan p with trail := (d.getInt R.NET.OFS p :: (d.lan p).trail).take 256 }) d1
    let w := d.get R.NET.RATE_WIN
    let sl := (got.filter (fun p => w ≤ (d2.lan p).trail.length)).map (fun p => slopeOf ((d2.lan p).trail.take w))
    (if sl.isEmpty || d.get R.NET.SERVO_MODE = 0 then d2 else d2.setRate t (b64.add d2.rateNow (meanRate sl))).suspect t

/-- The servo interval closes with the offsets delivered in it (R460, R467 to R471). -/
def Dev.closeInterval (d : Dev) (t : Nat) : Dev :=
  let got := [0, 1].filter (fun p => d.is I.NET.GOT p)
  if got.isEmpty then d
  else
    let use := got.filter (fun p => !d.lanExcl p)
    let old := [0, 1].filter d.lanIncl
    let d1 := (if use != [] && use.length < old.length && use.all old.contains then
        use.foldl (fun d q => d.putInt R.NET.COR (d.getInt I.NET.LAST_O q - d.getInt I.NET.LAST_E) q) d
      else d).put R.NET.LAN_INCL (use.foldl (fun v p => v + 2 ^ p) 0)
    let d2 := if use = old then d1 else got.foldl (fun d p => d.setLan p { d.lan p with trail := [] }) (d1.setEvals [])
    let e := if use.isEmpty then 0 else meanInt (use.map (fun p => d2.getInt R.NET.OFS p - d2.getInt R.NET.COR p))
    let d3 := if use.isEmpty then d2.rateHold t got
      else
        let d3 := use.foldl (fun d p => d.setLan p { d.lan p with accepted := (d.getInt R.NET.MPD p :: (d.lan p).accepted).take 16 }) d2
        ((got.foldl (fun d p => d.putInt I.NET.LAST_O (d.getInt R.NET.OFS p) p) d3).putInt I.NET.LAST_E e).servoStep t e
    let d4 := [0, 1].foldl (fun d p =>
      if !got.contains p then d.setLan p { d.lan p with settle := [] }
      else if d.is I.NET.RST_DUE p then d.resetLan p e use.isEmpty else if d.lanExcl p then d.settleLan p e else d) d3
    d4.forN 2 (fun d p => d.put I.NET.GOT 0 p)

/-! Status and summary (R495). -/

/-- What a change of sets TIME in HIF_SUMMARY. -/
def Dev.timeSig (d : Dev) : List Nat :=
  [R.NET.SERVO_STATE, R.NET.TIME_SUSPECT, R.NET.GM_TRACE, R.NET.GM_ID_LO, R.NET.GM_ID_HI].map (fun f => d.get f)

/-- What a change of sets NET. -/
def Dev.netSig (d : Dev) : List Nat :=
  [d.get R.NET.LINK, d.get R.NET.LAN_INCL, d.get R.NET.LAN_EXCL, d.get R.NET.FENCED] ++ (List.range 16).map (fun q => d.get R.NET.SVS_STATE q) ++
    (List.range 32).map (fun s => d.get R.NET.GS_STATE s)

/-- FENCED, and UTC_OFF of R477. -/
def Dev.netStatus (d : Dev) : Dev :=
  let best := d.net.masters.find? (fun m => m.gm = d.get R.NET.GM_ID_LO + 2 ^ 32 * d.get R.NET.GM_ID_HI)
  let utc := match best with | some m => if d.timePri = 0 && d.is R.NET.UTC_VALID then m.utc else d.get R.NET.TAI_UTC | none => d.get R.NET.TAI_UTC
  (d.put R.NET.FENCED ((d.fenced 170).toNat + 2 * (d.fenced 171).toNat)).put R.NET.UTC_OFF utc

/-- An operation of the network with what its changes show. -/
def Dev.netDo (d : Dev) (t : Nat) (g : Dev → Dev) : Dev :=
  let d1 := (g d).netStatus
  let d2 := if d1.timeSig = d.timeSig then d1 else d1.sumAll R.HIF.SUM_TIME
  (if d2.netSig = d.netSig then d2 else d2.sumAll R.HIF.SUM_NET).settle t

/-! PTP (R456 to R459). -/

/-- The grandmaster selected; 0 none. -/
def Dev.gmId (d : Dev) : Nat := d.get R.NET.GM_ID_LO + 2 ^ 32 * d.get R.NET.GM_ID_HI

/-- A message of the domain with an accepted minor version, on a port in use (R456). -/
def Dev.ptpTakes (d : Dev) (p domain minor : Nat) : Bool := d.portUp p && domain = d.ptpDomain && minor ≤ 1

/-- An offset of LAN p (R458): in 2^-16 ns, then to ns. -/
def Dev.ptpOffset (d : Dev) (p : Nat) (m : SyncMsg) : Int :=
  let rx : Int := (m.rxQ.toNat : Int) + 4 * toInt 16 (d.netP (0x22 + 4 * p) 2)
  nearestUp (d.todQ rx * 16384 - ((m.t1 : Int) + d.get R.NET.PORT_LINK_DLY p) * 65536 - m.corr.toInt) 65536

/-- A Sync received on LAN p: its offset and path delay, the check source's difference, exclusion, and the end of the interval
once every LAN expected has delivered. -/
def Dev.syncTake (d : Dev) (t p : Nat) (m : SyncMsg) : Dev :=
  let d0 := if d.is I.NET.GOT p then d.closeInterval t else d
  let o := d0.ptpOffset p m
  let mpd := (d0.get R.NET.PORT_LINK_DLY p : Int) + nearestUp m.corr.toInt 65536
  let d1 := (d0.putInt R.NET.OFS o p).putInt R.NET.MPD mpd p
  let d2 := (d1.put I.NET.LAN_NS (t + 1) p).onlyIf (d.timeChk = 0) (fun d => (d.put I.NET.CHK_GOT 1).putInt I.NET.CHK_OFS o)
  if d.timePri != 0 then d2
  else
    let d3 := ((d2.put I.NET.OFS_NS (t + 1)).put I.NET.GOT 1 p).pathStep t p mpd
    if [0, 1].all (fun q => d3.is I.NET.GOT q || !(d.lanIncl q || d3.lanExcl q)) then d3.closeInterval t else d3

/-- SYNC_RX (R458): a Sync with its Follow_Up. -/
def execSyncRx (p : Fin 2) (m : SyncMsg) (s : State) : Host.Outcome State Fault Refusal :=
  s.onDev fun d =>
    if d.ptpTakes p m.domain.toNat m.minor.toNat && m.gm.toNat = d.gmId && d.gmId != 0 then d.netDo s.clk.ns (fun d => (d.perf 8 4 p).syncTake s.clk.ns p m) else d

/-- The comparison of two announces by the best master clock algorithm of IEEE 1588: the lower list is the better master. -/
def Master.key (m : Master) : List Nat := [m.prio1, m.cls, m.acc, m.var, m.prio2, m.gm, m.steps, m.port]

/-- A list of numbers lies before another in lexicographic order. -/
def lexLt : List Nat → List Nat → Bool
  | [], _ => false
  | _ :: _, [] => false
  | a :: l, b :: m => a < b || (a = b && lexLt l m)

/-- An announce that still counts at TB ns t: within the announce receipt timeout, and the second within four intervals. -/
def Dev.qualified (d : Dev) (t : Nat) (m : Master) : Bool :=
  t ≤ m.at_ + d.get R.NET.ANN_RX_TO * 1000000000 && (match m.prev with | some q => m.at_ ≤ q + 4000000000 | none => false)

/-- The best of the announces that count. -/
def Dev.bestMaster (d : Dev) (t : Nat) : Option Master :=
  (d.net.masters.filter (d.qualified t)).foldl (fun b m => match b with | some b' => if lexLt m.key b'.key then some m else b | none => some m) none

/-- What is reported of the selected grandmaster (R456, R459, R477). -/
def Dev.showMaster (d : Dev) (m : Master) : Dev :=
  let d1 := (((d.put R.NET.GM_ID_LO m.gm).put R.NET.GM_ID_HI (m.gm / 2 ^ 32)).put R.NET.GM_CLASS m.cls).put R.NET.GM_ACC m.acc
  let d2 := ((d1.flag R.NET.UTC_VALID m.valid).flag R.NET.LEAP59 m.l59).flag R.NET.LEAP61 m.l61
  (d2.put R.NET.GM_INACC (if d.netS 2 1 = 1 then m.inacc else 0xFFFF)).flag R.NET.GM_TRACE (m.trace && m.cls ≤ d.get R.NET.CLASS_MAX)

/-- The selection (R457): a change from one grandmaster to another raises instance 10; with none left the servo enters HOLDOVER. -/
def Dev.selectMaster (d : Dev) (t : Nat) : Dev :=
  match d.bestMaster t with
  | some m =>
    let d1 := d.showMaster m
    (if d.gmId != 0 && d.gmId != m.gm then d1.raise t 13 10 0 else d1).suspect t
  | none =>
    let d1 := ((((d.put R.NET.GM_ID_LO 0).put R.NET.GM_ID_HI 0).put R.NET.GM_TRACE 0).put R.NET.UTC_VALID 0)
    if d.timePri = 0 then (d1.holdover t).suspect t else d1

/-- ANNOUNCE_RX (R457). -/
def execAnnounceRx (p : Fin 2) (m : AnnounceMsg) (s : State) : Host.Outcome State Fault Refusal :=
  s.onDev fun d =>
    if !d.ptpTakes p m.domain.toNat m.minor.toNat then d
    else d.netDo s.clk.ns (fun d =>
      let old := d.net.masters.find? (fun x => x.port = p.val && x.gm = m.gm.toNat)
      let r : Master := ⟨p, m.gm.toNat, m.prio1.toNat, m.cls.toNat, m.acc.toNat, m.var.toNat, m.prio2.toNat, m.steps.toNat, m.utc.toNat,
        m.valid, m.leap59, m.leap61, m.trace, m.inacc.toNat, s.clk.ns, old.map (fun x => x.at_)⟩
      let d1 := d.setNet { d.net with masters := r :: d.net.masters.filter (fun x => !(x.port = p.val && x.gm = m.gm.toNat)) }
      d1.selectMaster s.clk.ns)

/-- ANNOUNCE_TIMEOUT (R457): no announce of the selected grandmaster on any LAN. -/
def execAnnounceTimeout (s : State) : Host.Outcome State Fault Refusal :=
  s.onDev fun d =>
    if d.gmId = 0 then d
    else d.netDo s.clk.ns (fun d =>
      ((d.setNet { d.net with masters := d.net.masters.filter (fun m => m.gm != d.gmId) }).raise s.clk.ns 13 9 0).selectMaster s.clk.ns)

/-! Peer delay and transmit timestamps (R454 to R456). -/

/-- A frame of `bytes` bytes is sent on port p (R497, R501). -/
def Dev.netSent (d : Dev) (p bytes : Nat) : Dev := (d.perf 8 2 p).carry (24 + 2 * p) bytes

/-- A frame is sent on every port in use; a length that the spec does not give is free. -/
def Dev.netSend (d : Dev) (o : Out) (bytes : Nat := 0) : Dev :=
  let n := if bytes = 0 then Config.wireBytes d.draws else bytes
  (d.send o).draw.forN 2 (fun d p => if d.portUp p then d.netSent p n else d)

/-- A PTP message is sent on port p. -/
def Dev.ptpSend (d : Dev) (p : Nat) (o : Out) (event : Bool) : Dev :=
  ((d.send o).draw.netSent p (Config.wireBytes d.draws)).perf 8 4 p event.toNat

/-- An event message is sent on port p at q: its timestamp is queued, or dropped and its exchange abandoned (R455). -/
def Dev.sendEvent (d : Dev) (t p typ seq : Nat) (q : Int) : Dev :=
  let l := d.lan p
  if l.tsq.length < 16 then (d.setLan p { l with tsq := l.tsq ++ [⟨seq, typ, q⟩] }).put R.NET.TSQ_FILL (l.tsq.length + 1) p
  else
    let d1 := ((d.bump R.NET.TSQ_DROP p).put I.NET.TSQ_OVF 1 p).raise t 13 (14 + p) 0
    if typ = 2 then d1.setLan p { l with req := none, resp := none } else d1

/-- The protocol engine reads the queue of port p in order (R455): an own request gets its t1, an answer its Follow_Up. -/
def Dev.readStamps (d : Dev) (p : Nat) : Dev :=
  let d1 := (d.lan p).tsq.foldl (fun d x =>
    if x.typ = 2 then d.setLan p { d.lan p with req := some (x.seq, x.q), resp := none } else d.ptpSend p (.pdelayFollowUp p x.seq x.q) false) d
  (d1.setLan p { d1.lan p with tsq := [] }).put R.NET.TSQ_FILL 0 p

/-- The present instant in q of TB. -/
def Clock.q (c : Clock) : Int := 4 * (c.ns : Int) + c.frac / 2 ^ 30

/-- The transmit timestamp of port p, with LAT_TX (R454). -/
def Dev.txStamp (d : Dev) (c : Clock) (p : Nat) : Int := c.q + 4 * toInt 16 (d.netP (0x20 + 4 * p) 2)

/-- PDELAY_REQ_SEND (R456): a Pdelay_Req on every port in use. -/
def execPdelayReqSend (s : State) : Host.Outcome State Fault Refusal :=
  s.onDev fun d => d.netDo s.clk.ns (fun d => d.forN 2 (fun d p =>
    if !d.portUp p then d
    else
      let seq := (d.get I.NET.TXSEQ p + 1) % 65536
      ((d.put I.NET.TXSEQ seq p).ptpSend p (.pdelayReq p seq) true).sendEvent s.clk.ns p 2 seq (d.txStamp s.clk p)))

/-- PDELAY_REQ_RX (R456): answered two-step. -/
def execPdelayReqRx (p : Fin 2) (seq : BitVec 16) (s : State) : Host.Outcome State Fault Refusal :=
  s.onDev fun d =>
    if !d.portUp p then d
    else d.netDo s.clk.ns (fun d => ((d.perf 8 4 p).ptpSend p (.pdelayResp p seq.toNat) true).sendEvent s.clk.ns p 3 seq.toNat (d.txStamp s.clk p))

/-- TSQ_OVERFLOW (R455): an event message is sent on port p, an own Pdelay_Req or an answer; with 16 timestamps unread it is
dropped and its exchange abandoned. -/
def execTsqOverflow (p : Fin 2) (own : Bool) (seq : BitVec 16) (s : State) : Host.Outcome State Fault Refusal :=
  s.onDev fun d =>
    if !d.portUp p then d
    else d.netDo s.clk.ns (fun d => d.sendEvent s.clk.ns p (if own then 2 else 3) seq.toNat (d.txStamp s.clk p))

/-- The peer link delay of an exchange in ns: half of t4 − t1 less the turnaround, in 2^-16 ns; never below 0. -/
def linkDelay (t1 t4 turn : Int) : Nat := (nearestUp ((t4 - t1) * 16384 - turn) 131072).toNat

/-- PDELAY_RESP_RX (R456): the peer link delay is updated when the answer is complete. -/
def execPdelayRespRx (p : Fin 2) (m : PdelayMsg) (s : State) : Host.Outcome State Fault Refusal :=
  s.onDev fun d =>
    if !d.portUp p then d
    else d.netDo s.clk.ns (fun d =>
      let d1 := d.readStamps p
      let l := d1.lan p
      match l.req with
      | none => d1
      | some (seq, t1) =>
        if m.seq.toNat != seq then d1
        else
          let rx : Int := (m.rxQ.toNat : Int) + 4 * toInt 16 (d.netP (0x22 + 4 * p.val) 2)
          let stamp : Int := (m.stamp : Int) * 65536
          match m.kind, l.resp with
          | .oneStep, _ => (d1.put R.NET.PORT_LINK_DLY (linkDelay t1 rx m.corr.toInt) p).setLan p { l with req := none, resp := none }
          | .twoStep, _ => d1.setLan p { l with resp := some (seq, rx, stamp - m.corr.toInt) }
          | .followUp, some (_, t4, t2) =>
            (d1.put R.NET.PORT_LINK_DLY (linkDelay t1 t4 (stamp + m.corr.toInt - t2)) p).setLan p { l with req := none, resp := none }
          | .followUp, none => d1)

/-- The LAN_RESET write, once accepted, and its rejection (R471). -/
def Dev.lanReset (d : Dev) (mask : Nat) : Dev := d.forN 2 (fun d p => if bitOf mask p = 1 then d.put I.NET.RST_DUE 1 p else d)
def Dev.lanResetErrs (d : Dev) (t mask : Nat) : List Err :=
  errIf ([0, 1].any (fun p => bitOf mask p = 1 && (d.get I.NET.LAN_NS p = 0 || d.get I.NET.LAN_NS p - 1 + 2000000000 < t))) (eBusy 3)

/-! IRIG-B, PPS and the cross-check (R472 to R477). -/

/-- Days from 1 January 1970 to 1 January of year y. -/
def daysTo (y : Nat) : Nat := 365 * (y - 1970) + ((y - 1) / 4 - 492) - ((y - 1) / 100 - 19) + ((y - 1) / 400 - 4)

/-- The year of a day counted from 1 January 1970. -/
def yearOf (days : Nat) : Nat :=
  let y0 := 1970 + days / 366
  y0 + ((List.range 4).filter (fun k => daysTo (y0 + k + 1) ≤ days)).length

/-- The TAI second of an IRIG-B label (R473): the year from BCD_YEAR under B004, otherwise from the mapping. -/
def Dev.irigTai (d : Dev) (m : IrigFrame) : Nat :=
  let off := d.get R.NET.TAI_UTC
  let y := if bitOf (d.netS 1 1) 4 = 1 then 2000 + m.year.toNat else yearOf ((nearestUp (d.todQ m.edgeQ.toNat) 4000000000).toNat / 86400)
  (daysTo y + (m.day.toNat - 1)) * 86400 + m.second.toNat + off

/-- An offset of a single source in ns: the time of day of the source less the mapping's (R472). -/
def Dev.sourceOffset (d : Dev) (sec : Nat) (edgeQ : Int) : Int := nearestUp (4000000000 * (sec : Int) - d.todQ edgeQ) 4

/-- An offset of source k (1 IRIG-B, 2 PPS_IN) as primary or as check. -/
def Dev.sourceTake (d : Dev) (t k : Nat) (o : Int) : Dev :=
  let d1 := if d.timeChk = k then (d.put I.NET.CHK_GOT 1).putInt I.NET.CHK_OFS o else d
  if d.timePri = k then (d1.put I.NET.OFS_NS (t + 1)).servoStep t o else d1

/-- IRIG_FRAME_RX (R473). -/
def execIrigFrameRx (m : IrigFrame) (s : State) : Host.Outcome State Fault Refusal :=
  s.onDev fun d =>
    if d.netSheet.isNone then d
    else if m.bad then d.netDo s.clk.ns (fun d => d.raise s.clk.ns 13 12 0)
    else d.netDo s.clk.ns (fun d =>
      let ieee : Bool := bitOf (d.netS 1 1) 5 = 1
      let sec := d.irigTai m
      let d1 := d.setNet { d.net with irig := some (sec, m.edgeQ.toNat) }
      let d2 := d1.onlyIf (ieee && d.timePri = 1) (fun d => (d.flag R.NET.LEAP61 (m.leap && !m.leapNeg)).flag R.NET.LEAP59 (m.leap && m.leapNeg))
      if ieee && m.quality != 0 && !Config.irigUse m.quality.toNat then d2 else d2.sourceTake s.clk.ns 1 (d2.sourceOffset sec m.edgeQ.toNat))

/-- PPS_IN_EDGE (R474): labelled by the IRIG-B frame of the same second, or by the mapping's nearest second. -/
def execPpsInEdge (edgeQ : BitVec 66) (s : State) : Host.Outcome State Fault Refusal :=
  s.onDev fun d =>
    if d.netSheet.isNone then d
    else d.netDo s.clk.ns (fun d =>
      let near := (nearestUp (d.todQ edgeQ.toNat) 4000000000).toNat
      let sec := match d.net.irig with
        | some (sec, e) => if ((edgeQ.toNat : Int) - e).natAbs < 2000000000 then sec else near
        | none => near
      (d.lower 13 13).sourceTake s.clk.ns 2 (d.sourceOffset sec edgeQ.toNat))

/-- PPS_IN_MISSING (R474): present until the next edge. -/
def execPpsInMissing (s : State) : Host.Outcome State Fault Refusal :=
  s.onDev fun d => if d.netSheet.isNone then d else d.netDo s.clk.ns (fun d => d.raise s.clk.ns 13 13 0 true)

/-- XCHK_SECOND (R475): a second without an edge of the check source is not consecutive to the seconds around it. -/
def execXchkSecond (s : State) : Host.Outcome State Fault Refusal :=
  s.onDev fun d =>
    if d.netSheet.isNone || d.timeChk = 3 then d
    else d.netDo s.clk.ns (fun d =>
      let got : Bool := d.is I.NET.CHK_GOT
      let far : Bool := d.get R.NET.XCHK_THR < (d.getInt I.NET.CHK_OFS).natAbs
      let bad := if got && far then min 3 (d.get I.NET.CHK_BAD + 1) else 0
      let ok := if got && !far then min 10 (d.get I.NET.CHK_OK + 1) else 0
      let d1 := ((d.put I.NET.CHK_BAD bad).put I.NET.CHK_OK ok).put I.NET.CHK_GOT 0
      if bad = 3 && !d.is R.NET.XCHK_BAD then ((d1.put R.NET.XCHK_BAD 1).raise s.clk.ns 13 11 0 true).suspect s.clk.ns
      else if ok = 10 && d.is R.NET.XCHK_BAD then ((d1.put R.NET.XCHK_BAD 0).lower 13 11).suspect s.clk.ns
      else d1)

/-- A source delivers offsets: one within the announce receipt timeout. -/
def Dev.sourceLive (d : Dev) (t : Nat) : Bool :=
  d.timePri != 3 && d.get I.NET.OFS_NS != 0 && t ≤ d.get I.NET.OFS_NS - 1 + d.get R.NET.ANN_RX_TO * 1000000000

/-- The TOD_SET_GO write, once accepted, and its rejection (R477). -/
def Dev.todSetGo (d : Dev) : Dev := (d.put I.NET.SET_DUE 1).put I.NET.SET_SEC (d.get R.NET.TOD_SET_LO + 2 ^ 32 * d.get R.NET.TOD_SET_HI)
def Dev.todSetErrs (d : Dev) (t : Nat) : List Err := errIf (d.sourceLive t) (eBusy 3)

/-- The start of a second of the mapping: a TOD_SET that waits is applied (R477). -/
def Dev.secondStart (d : Dev) (t : Nat) : Dev :=
  let d1 := d.todRefresh t
  if !d1.is I.NET.SET_DUE then d1
  else
    let D : Int := ((d1.get I.NET.SET_SEC : Int) - d1.todSec) * 1000000000
    (((((d1.todStep D).put I.NET.SET_DUE 0).bump R.NET.STEP_CNT).raise t 13 7 (min (D.natAbs / 1000) 65535)).put I.NET.STEP_RUN 0).setEvals []

/-- PPS_OUT_PULSE (R476): held low while squelched. -/
def execPpsOutPulse (s : State) : Host.Outcome State Fault Refusal :=
  s.onDev fun d =>
    if d.mode = .backup then d
    else d.netDo s.clk.ns (fun d =>
      let d1 := d.secondStart s.clk.ns
      d1.flag I.NET.PPS_OUT (d.netSheet.isSome && !(bitOf (d.get R.NET.PPS_OUT_CTL) 0 = 1 && d.is R.NET.TIME_SUSPECT)))

/-- PPS_OUT_WIDTH_END (R476). -/
def execPpsOutWidthEnd (s : State) : Host.Outcome State Fault Refusal :=
  s.onDev fun d => d.put I.NET.PPS_OUT 0

/-- The time engine at a boundary at TB ns t: timestamps are read, and the servo enters HOLDOVER when no offset came within the
announce receipt timeout or the reference is lost (R455, R461). -/
def Dev.timeBoundary (d : Dev) (t : Nat) : Dev :=
  if d.netSheet.isNone then d
  else
    let d1 := d.forN 2 (fun d p => if (d.lan p).tsq.isEmpty then d else d.readStamps p)
    if d1.is R.TB.HOLDOVER || !d1.sourceLive t then d1.holdover t else d1

end Sys2Proof.Machine
end

