-- ==== Sys2Proof/Machine/NetPub.lean ====
section
/-! DEFINITION. The station network (17_grid_network_time.md): frames and redundancy, sampled values published and subscribed,
GOOSE, and the rules of the network sheet. -/
namespace Sys2Proof.Machine

/-! Ports, links and redundancy (R449 to R453). -/

def ethPtp : Nat := 0x88F7
def ethOf : List Nat := [0x88F7, 0x88BA, 0x88B8, 0x88FB]

/-- MAC_PUB, and a source address of this module: MAC_OWN, or MAC_PUB while it publishes (R453). -/
def Dev.macPub (d : Dev) : Nat := d.netS 0x0C 6
def Dev.ownSource (d : Dev) (src : Nat) : Bool := src = Config.macOwn || (d.is R.NET.PUBLISHING && src = d.macPub)

/-- The discard table at TB ns t: entries older than 400 ms are forgotten (R451). -/
def Dev.heardNow (d : Dev) (t : Nat) : List Heard := d.net.heard.filter (fun h => t ≤ h.at_ + 400000000)

/-- A tagged frame against the discard table: whether it is a duplicate, and the table with it; a full table passes it and raises
instance 80 (R451). PTP messages and frames without a tag are never duplicates. -/
def Dev.dedup (d : Dev) (t : Nat) (f : NetFrame) : Dev × Bool :=
  match f.tag with
  | none => (d, false)
  | some (seq, _) =>
    if f.eth.toNat = ethPtp then (d, false)
    else
      let l := d.heardNow t
      if l.any (fun h => h.src = f.src.toNat && h.seq = seq.toNat) then (d.setNet { d.net with heard := l }, true)
      else if l.length < 256 then (d.setNet { d.net with heard := l ++ [⟨f.src.toNat, seq.toNat, t⟩] }, false)
      else ((d.setNet { d.net with heard := l }).raise t 13 80 0, false)

/-- A frame that passed its check sequence: the LAN identifier, the discard table, forwarding under HSR, the EtherType filter. -/
def Dev.netFrame (d : Dev) (t p : Nat) (f : NetFrame) : Dev :=
  let tagged : Bool := match f.tag with | some (_, lan) => d.red = 1 && lan.toNat != 10 + p | none => false
  let d1 := d.onlyIf tagged (fun d => d.bump R.NET.PORT_WRONG_LAN p)
  let (d2, dup) := if d.red = 0 then (d1, false) else d1.dedup t f
  if dup then (d2.bump R.NET.PORT_DUP_CNT p).perf 8 3 p
  else
    let seq := match f.tag with | some (s, _) => s.toNat | none => 0
    let fwd : Bool := d.red = 2 && d.portUp (1 - p) && !f.own && !d.ownSource f.src.toNat
    let d3 := d2.onlyIf fwd (fun d => ((d.wrap R.NET.PORT_FWD_CNT p).perf 8 8 p).send (.netForward (1 - p) f.eth.toNat f.src.toNat seq) |>.netSent (1 - p) f.bytes.toNat)
    if ethOf.contains f.eth.toNat then d3 else d3.bump R.NET.PORT_OTHER_CNT p

/-- NET_FRAME_RX (R450 to R452): a frame arrives at port p. -/
def execNetFrameRx (p : Fin 2) (f : NetFrame) (s : State) : Host.Outcome State Fault Refusal :=
  s.onDev fun d =>
    if !d.portUp p then d
    else d.netDo s.clk.ns (fun d =>
      let d1 := ((d.wrap R.NET.PORT_RX_CNT p).perf 8 1 p).carry (25 + 2 * p) f.bytes.toNat
      if f.good then d1.netFrame s.clk.ns p f else ((d1.bump R.NET.PORT_CRC_CNT p).bump I.NET.WIN_ERR p).perf 8 7 p)

/-- A LAN that was included delivers nothing any more: the set shrinks, and the remaining LAN is re-anchored (R468). -/
def Dev.lanDown (d : Dev) (p : Nat) : Dev :=
  if !d.lanIncl p then d
  else
    let left := [0, 1].filter (fun q => q != p && d.lanIncl q)
    let d1 := left.foldl (fun d q => d.putInt R.NET.COR (d.getInt I.NET.LAST_O q - d.getInt I.NET.LAST_E) q) d
    ((d1.setBitOf R.NET.LAN_INCL p false).put I.NET.GOT 0 p).setEvals []

/-- NET_LINK_CHANGE (R493): the link of port p goes down or comes up. -/
def execNetLinkChange (p : Fin 2) (up : Bool) (s : State) : Host.Outcome State Fault Refusal :=
  s.onDev fun d =>
    if (bitOf (d.get R.NET.LINK) p = 1) = up then d
    else d.netDo s.clk.ns (fun d =>
      let d1 := d.setBitOf R.NET.LINK p up
      if up then d1.lower 13 p else (if d.portUsed p then d1.raise s.clk.ns 13 p 0 true else d1).lanDown p)

/-- SUPERVISION_SEND (R451): under PRP. -/
def execSupervisionSend (s : State) : Host.Outcome State Fault Refusal :=
  s.onDev fun d => if d.red = 1 && (d.portUp 0 || d.portUp 1) then d.netSend .supervision else d

/-- The receive errors of a NET port in the window that ends, above ERR_THR (R493); the next window starts at 0. -/
def Dev.netErrWindow (d : Dev) (t p : Nat) : Dev :=
  let d1 := if d.portUsed p && d.get R.NET.ERR_THR < d.get I.NET.WIN_ERR p then d.raise t 13 (2 + p) (d.get I.NET.WIN_ERR p) else d
  d1.put I.NET.WIN_ERR 0 p

/-- LINK_ERR_WINDOW (R185, R493): the end of a 1 s window of a ring port, a Gen1 link or a NET port. -/
def execLinkErrWindow (port : ErrPort) (s : State) : Host.Outcome State Fault Refusal :=
  s.onDev fun d =>
    match port with
    | .ring r .e => (d.errWindow s.clk.ns r (2 * r)).settle s.clk.ns
    | .ring r .w => (d.errWindow s.clk.ns r (2 * r + 1)).settle s.clk.ns
    | .gen1 n => (d.errWindow s.clk.ns (6 + n) (12 + n)).settle s.clk.ns
    | .net p => d.netDo s.clk.ns (fun d => d.netErrWindow s.clk.ns p)

/-! Publishing (R478). -/

/-- The module publishes: under an active Ream, from IDLE to SAFE but not in MIRROR, and of a pair only the primary. -/
def Dev.publishes (d : Dev) : Bool :=
  d.netSheet.isSome && d.inMode [.idle, .test, .precharge, .sync, .run, .degraded, .rideThrough, .stopping, .safe] &&
    (d.get R.PART.STRAP = 0 || d.is R.PART.PRIMARY)

/-! Sampled values (R479 to R484). -/

def Dev.svUsed (d : Dev) (n : Nat) : Bool := n < d.netS 5 1
def Dev.svF (d : Dev) (n off len : Nat) : Nat := d.netS (0x20 + 0x100 * n + off) len
def svHz (code : Nat) : Nat := if code = 1 then 14400 else 4800
def Dev.svRate (d : Dev) (n : Nat) : Nat := svHz (d.svF n 3 1)
def Dev.svNch (d : Dev) (n : Nat) : Nat := d.svF n 5 1
def Dev.svSig (d : Dev) (n c : Nat) : Nat := d.svF n (0x60 + 8 * c) 2

/-- The samples waiting of stream n. -/
def Dev.svWait (d : Dev) (n : Nat) : List SvSample := (d.net.sv[n]?).getD []
def Dev.setSv (d : Dev) (n : Nat) (l : List SvSample) : Dev := d.setNet { d.net with sv := setAt d.net.sv n l }

/-- The instant of a sample as a number of 1 / rate ns of TB. -/
def SvSample.instant (x : SvSample) (rate : Nat) : Int := x.base * rate + (x.cnt : Int) * 1000000000

/-- INT32 of value × SCALE in 1 mA or 10 mV, saturated, and whether it saturated; an infinite value takes the end of its sign. -/
def svInt (num : Int) (den : Nat) : Nat × Bool :=
  let v := nearestAway num den
  let lim : Int := 2147483647
  if lim < v then (0x7FFFFFFF, true) else if v < -lim then (0x80000001, true) else (ofInt 32 v, false)

/-- The quality of a channel (R483) in the Quality of IEC 61850-7-3: validity in bits 1 and 0, overflow 2, failure 6, oldData 7,
test 11, derived 13. -/
def svQuality (stale fail wide test derived : Bool) : Nat :=
  (if stale || fail then 1 else if wide then 3 else 0) + wide.toNat * 4 + fail.toNat * 64 + stale.toNat * 128 + test.toNat * 2048 +
    derived.toNat * 8192

/-- An AFE result or a raw cell quantity, and so not derived (R483). -/
def svDirect (sig : Nat) : Bool := (0x100 ≤ sig && sig < 0x180) || (0x1000 ≤ sig && sig < 0x1480)

/-- Interpolation between source samples a and b at an instant in 1 / rate ns; b alone when its instant is a's (R480). -/
def svBetween (a b : SrcSample) (inst : Int) (rate : Nat) : Int × Nat :=
  let (n0, d0) := b32.ratio a.val
  let (n1, d1) := b32.ratio b.val
  let w : Int := inst - (a.at_ : Int) * rate
  let span : Int := ((b.at_ : Int) - a.at_) * rate
  if span ≤ 0 then (n1, d1) else (n0 * d1 * (span - w) + n1 * d0 * w, d0 * d1 * span.toNat)

/-- The channel value and quality of a sample from its bracketing source samples (R480, R483). -/
def Dev.svChannel (d : Dev) (n c : Nat) (a b : SrcSample) (inst : Int) : Nat × Nat :=
  let (num, den) := svBetween a b inst (d.svRate n)
  let (sn, sd) := b32.ratio (d.svF n (0x64 + 8 * c) 4)
  let unit : Int := if d.svF n (0x62 + 8 * c) 1 = 1 then 100 else 1000
  let (v, sat) := if b32.finite a.val && b32.finite b.val then svInt (num * sn * unit) (den * sd)
    else (if (if b32.finite b.val then a.val else b.val) / b32.signBit % 2 = 1 then (0x80000001, true) else (0x7FFFFFFF, true))
  (v, svQuality (a.bad = 1 || b.bad = 1) (a.bad = 2 || b.bad = 2) (a.clip || b.clip || sat) (d.mode = .test) (!svDirect (d.svSig n c)))

/-- A sample of stream n with the channels of one signal filled whose instant lies at or before TB ns `upto`, between a and b. -/
def Dev.svFill (d : Dev) (n sig : Nat) (a b : SrcSample) (upto : Nat) (x : SvSample) : SvSample :=
  let inst := x.instant (d.svRate n)
  { x with vals := x.vals.zipIdx.map (fun p =>
      if p.1.isNone && d.svSig n p.2 = sig && inst ≤ (upto : Int) * d.svRate n then some (d.svChannel n p.2 a b inst) else p.1) }

/-- The signals that the published streams use. -/
def Dev.svSigs (d : Dev) : List Nat :=
  ((List.range 8).flatMap (fun n => if d.svUsed n then (List.range (d.svNch n)).map (d.svSig n) else [])).eraseDups

/-- A source sample of a signal, standing for every instant up to `upto`: it fills the waiting samples that it and the one before
it bracket, and is kept. -/
def Dev.svFeed (d : Dev) (b : SrcSample) (upto : Nat) : Dev :=
  let a := (d.net.src.find? (fun x => x.sig = b.sig)).getD b
  let d1 := d.forN 8 (fun d n => if d.svUsed n then d.setSv n ((d.svWait n).map (d.svFill n b.sig a b upto)) else d)
  let keep := (d1.net.src.filter (fun x => x.sig = b.sig)).take 1
  d1.setNet { d1.net with src := b :: keep ++ d1.net.src.filter (fun x => x.sig != b.sig) }

/-- The source samples of a published AFE run (R480): each result at the sampling instant of its step. -/
def Dev.svFeedRun (d : Dev) (n : Nat) : Dev :=
  let fail : Bool := d.is R.AFE.SEQ_FAIL n
  let sigs := d.svSigs
  (d.seqSteps n).zipIdx.foldl (fun (p : Dev × Nat) st =>
    (st.1.foldl (fun (q : Dev × Nat) e =>
      let r := 16 * n + q.2
      let v := q.1.get R.AFE.RESULT r
      let raw : Int := if entFmt e = 2 then toInt 32 v else v
      let x : SrcSample := ⟨0x100 + r, q.1.get I.AFE.STEP_NS (16 * n + st.2), c32.add (c32.mul (q.1.get I.CE.GAIN r) (c32.ofInt raw)) (q.1.get I.CE.OFS r),
        if fail then 2 else 0, bitOf (q.1.get R.AFE.SEQ_CLIP n) q.2 = 1⟩
      (if sigs.contains (0x100 + r) then q.1.svFeed x x.at_ else q.1, q.2 + 1)) p)) (d, 0) |>.1

/-- The source samples of a delivered CE frame (R480): the cells and the other signals at the boundary of the measurement set; a
stale one keeps its own instant. A frame-triggered run that is missing leaves its last results stale (R339). -/
def Dev.svFeedFrame (d : Dev) : Dev :=
  let b := d.get I.TB.BND_NS
  d.svSigs.foldl (fun d sig =>
    let last := d.net.src.find? (fun x => x.sig = sig)
    let stale := d.sigStale 1 0 sig
    if 0x100 ≤ sig && sig < 0x180 then
      match last with
      | some x => if stale && x.at_ < b then d.svFeed { x with bad := max x.bad 1 } b else d
      | none => d
    else
      let at_ := if stale then (match last with | some x => x.at_ | none => b) else b
      d.svFeed ⟨sig, at_, d.sig 1 0 sig, if stale then 1 else 0, false⟩ b) d

/-- SV_SAMPLE_DUE (R479, R482): the latest sample number whose instant has come falls due, unless it, or a later one, has. -/
def execSvSampleDue (n : Fin 8) (s : State) : Host.Outcome State Fault Refusal :=
  s.onDev fun d =>
    if !d.is R.NET.SVP_ACTIVE n then d
    else
      let tod := d.tod s.clk.ns
      let sec := (tod / 1000000000).toNat
      let cnt := ((tod % 1000000000) * d.svRate n / 1000000000).toNat
      let last := d.get I.NET.SV_SEC n
      if sec + 1 < last || (sec + 1 = last && cnt ≤ d.get I.NET.SV_CNT n) then d
      else
        let base : Int := (s.clk.ns : Int) - tod % 1000000000
        let x : SvSample := ⟨base, cnt, List.replicate (d.svNch n) none⟩
        let two (sig : Nat) := d.net.src.filter (fun y => y.sig = sig)
        let x := (d.svSigs).foldl (fun x sig =>
          match two sig with
          | b :: a :: _ => d.svFill n sig a b b.at_ x
          | [b] => d.svFill n sig b b b.at_ x
          | [] => x) x
        (((d.put I.NET.SV_SEC (sec + 1) n).put I.NET.SV_CNT cnt n).setSv n (d.svWait n ++ [x]))

/-- smpSynch (R483). -/
def Dev.smpSynch (d : Dev) (n : Nat) : Nat :=
  if d.is R.NET.TIME_SUSPECT then 0 else if d.svF n 2 1 = 0 then 1 else if d.is R.NET.GM_TRACE then 2 else 1

/-- The length of a BER element with n content bytes. -/
def berLen (n : Nat) : Nat := n + (if n < 128 then 2 else if n < 256 then 3 else 4)

/-- The bytes of one sampled-value frame of stream n on the line, with preamble and gap (R484, R492). -/
def Dev.svBytes (d : Dev) (n : Nat) : Nat :=
  let idLen := ((leBytes 64 (d.svF n 0x20 64)).takeWhile (· != 0)).length
  let asdu := berLen (berLen idLen + berLen 2 + berLen 4 + berLen 1 + (if d.svF n 2 1 = 1 then berLen 2 + berLen 2 else 0) + berLen (8 * d.svNch n))
  let k := d.svF n 4 1
  let apdu := berLen (berLen 1 + berLen (k * asdu))
  let vlan := if d.netS 0x0A 2 = 0 then 0 else 4
  14 + vlan + 8 + apdu + 4 + (if d.red = 0 then 0 else 6) + 20

/-- SV_SEND (R481, R484): the oldest NOASDU samples of the stream, once every channel of each has its value. -/
def execSvSend (n : Fin 8) (s : State) : Host.Outcome State Fault Refusal :=
  s.onDev fun d =>
    let k := d.svF n 4 1
    let group := (d.svWait n).take k
    if !d.is R.NET.SVP_ACTIVE n || k = 0 || group.length < k || group.any (fun x => x.vals.any Option.isNone) then d
    else
      let asdus : List Asdu := group.map (fun x => ⟨x.cnt, d.smpSynch n, x.vals.filterMap id⟩)
      let late : Bool := match group.getLast? with
        | some x => (4 * (d.get R.TB.TF_LAST : Int) + 20000) * d.svRate n + x.instant (d.svRate n) < (s.clk.ns : Int) * d.svRate n
        | none => false
      let d1 := (((d.setSv n ((d.svWait n).drop k)).netSend (.sv n asdus) (d.svBytes n - 20) |>.perf 8 5 15).wrap R.NET.SVP_SENT n).put R.NET.SVP_SMPCNT ((group.getLast?.map (·.cnt)).getD 0) n
      if late then ((d1.bump R.NET.SVP_LATE_CNT n).raise s.clk.ns 13 (64 + n) 0).settle s.clk.ns else d1

/-! Subscribed sampled values (R485). -/

def Dev.subUsed (d : Dev) (q : Nat) : Bool := q < d.netS 6 1
def Dev.subF (d : Dev) (q off len : Nat) : Nat := d.netS (0x820 + 0x80 * q + off) len

/-- A message for subscription q. -/
def Dev.svSub (d : Dev) (t q : Nat) (m : SvMsg) : Dev :=
  if !d.subUsed q || m.appid.toNat != d.subF q 0 2 then d
  else
    let rate : Bool := match m.smpRate with | some r => r.toNat = svHz (d.subF q 3 1) | none => true
    if m.confRev.toNat != d.subF q 16 4 || !rate || m.noAsdu.toNat != d.subF q 4 1 then
      (d.put R.NET.SVS_STATE 3 q).raise t 13 (48 + q) 0
    else if m.svid.toNat != d.subF q 0x20 64 || (d.subF q 8 6 != 0 && m.src.toNat != d.subF q 8 6) then d
    else
      let d1 := ((d.put R.NET.SVS_STATE 1 q).put R.NET.SVS_SMPCNT m.smpCnt.toNat q).lower 13 (16 + q)
      match m.chans[d.subF q 5 1]? with
      | some v => d1.put R.NET.SVS_VALUE (b32.mul (b32.ofInt v.toInt) (d.subF q 0x18 4)) q
      | none => d1

/-- SV_RX (R485). -/
def execSvRx (m : SvMsg) (s : State) : Host.Outcome State Fault Refusal :=
  s.onDev fun d =>
    if !(d.portUp 0 || d.portUp 1) then d else d.netDo s.clk.ns (fun d => d.forN 16 (fun d q => d.svSub s.clk.ns q m))

/-- SV_SUB_LOSS (R485): the subscription is lost until a valid message arrives. -/
def execSvSubLoss (q : Fin 16) (s : State) : Host.Outcome State Fault Refusal :=
  s.onDev fun d =>
    if !d.subUsed q || d.get R.NET.SVS_STATE q = 2 then d
    else d.netDo s.clk.ns (fun d => ((d.put R.NET.SVS_STATE 2 q).bump R.NET.SVS_LOST_CNT q).raise s.clk.ns 13 (16 + q) 0 true)

/-- The comparison of subscription q with CMP_SIG at a boundary (R485). -/
def Dev.svCompare (d : Dev) (t q : Nat) : Dev :=
  let sig := d.subF q 20 2
  if !d.subUsed q || sig = 0 || d.get R.NET.SVS_STATE q != 1 then (d.put I.NET.SUB_RUN 0 q).lower 13 (32 + q)
  else
    let diff := b32.abs (b32.sub (d.get R.NET.SVS_VALUE q) (d.sig 1 0 sig))
    if !b32.lt (d.get R.NET.SUB_DIFF_THR) diff then (d.put I.NET.SUB_RUN 0 q).lower 13 (32 + q)
    else
      let run := d.get I.NET.SUB_RUN q + 1
      let d1 := d.put I.NET.SUB_RUN (min run 65535) q
      if run = d.get R.NET.SUB_DIFF_N then (d1.bump R.NET.SVS_DIFF_CNT q).raise t 13 (32 + q) 0 true else d1

/-! GOOSE subscriptions (R486 to R488). -/

def Dev.gsUsed (d : Dev) (s : Nat) : Bool := s < d.netS 7 1
def Dev.gsF (d : Dev) (s off len : Nat) : Nat := d.netS (0x1020 + 0xC0 * s + off) len

/-- The BOOLEAN that TRIG_MEMBER names. -/
def gooseMember (m : GooseMsg) (i : Nat) : Option Bool := (m.members[i]?).getD none

/-- An accepted message whose stNum is new (R487). -/
def Dev.gooseTake (d : Dev) (t s : Nat) (st : Nat) (on : Bool) : Dev :=
  let d1 := (d.put R.NET.GS_STNUM st s).put I.NET.GS_EVER 1 s
  if on then
    let lat := min (Config.gooseTime d.draws) 150000
    (((d1.draw.put R.NET.GS_LAT_LAST (min lat 65535) s).put R.NET.GS_TRIG 1 s).bump R.NET.GS_TRIG_CNT s).raise t 14 s (min st 65535) true
  else (d1.put R.NET.GS_TRIG 0 s).lower 14 s

/-- A message for subscription s. -/
def Dev.gooseSub (d : Dev) (t s : Nat) (m : GooseMsg) : Dev :=
  if !d.gsUsed s || m.appid.toNat != d.gsF s 0 2 || m.gocbRef.toNat != d.gsF s 0x20 64 then d
  else
    let last := min (d.get R.NET.GS_STNUM s) 65535
    let srcOk : Bool := d.gsF s 8 6 = 0 || m.src.toNat = d.gsF s 8 6
    let same : Bool := m.datSet.toNat = d.gsF s 0x60 64 && m.goID.toNat = d.gsF s 0xA0 32 && m.confRev.toNat = d.gsF s 16 4 && srcOk &&
      m.entries.toNat = d.gsF s 4 1 && !m.ndsCom
    match gooseMember m (d.gsF s 2 1) with
    | none => (d.put R.NET.GS_STATE 3 s).raise t 14 (64 + s) last
    | some v =>
      if !same then (d.put R.NET.GS_STATE 3 s).raise t 14 (64 + s) last
      else if m.test && bitOf (d.gsF s 3 1) 1 = 0 && d.mode != .test then (d.put R.NET.GS_STATE 4 s).raise t 14 (96 + s) last
      else
        let d1 := ((d.put R.NET.GS_STATE 1 s).perf 8 6 15).lower 14 (32 + s)
        if d.is I.NET.GS_EVER s && m.stNum.toNat = d.get R.NET.GS_STNUM s then d1
        else d1.gooseTake t s m.stNum.toNat (v == (bitOf (d.gsF s 3 1) 0 == 1))

/-- GOOSE_RX (R486, R487). -/
def execGooseRx (m : GooseMsg) (s : State) : Host.Outcome State Fault Refusal :=
  s.onDev fun d =>
    if !(d.portUp 0 || d.portUp 1) then d else d.netDo s.clk.ns (fun d => d.forN 32 (fun d q => d.gooseSub s.clk.ns q m))

/-- GOOSE_TAL_EXPIRY (R488): the trigger instance keeps its presence. -/
def execGooseTalExpiry (s : Fin 32) (st : State) : Host.Outcome State Fault Refusal :=
  st.onDev fun d =>
    if !d.gsUsed s || !d.is I.NET.GS_EVER s || d.get R.NET.GS_STATE s = 2 then d
    else d.netDo st.clk.ns (fun d =>
      ((d.put R.NET.GS_STATE 2 s).bump R.NET.GS_LOST_CNT s).raise st.clk.ns 14 (32 + s) (min (d.get R.NET.GS_STNUM s) 65535) true)

/-! GOOSE datasets (R489). -/

def Dev.gpUsed (d : Dev) (g : Nat) : Bool := g < d.netS 8 1
def Dev.gpF (d : Dev) (g off len : Nat) : Nat := d.netS (0x2820 + 0x100 * g + off) len

/-- Bit i of SF_STAT. -/
def Dev.sfStatBit (d : Dev) (i : Nat) : Bool :=
  match [R.SAFE.SPB_DEM, R.SAFE.SMT_DEM, R.SAFE.SPB_Y, R.SAFE.SPB_S, R.SAFE.SMT_Y, R.SAFE.SMT_S, R.SAFE.OUT_CMD, R.SAFE.OUT_RB, R.SAFE.PERMIT_SOP,
      R.SAFE.PERMIT_SOM, R.SAFE.YSUP_OK, R.SAFE.XCHK_FAIL, R.SAFE.CFG_OK].find? (fun f => f.lo ≤ i && i ≤ f.hi) with
  | some f => bitOf (d.get f) (i - f.lo) = 1
  | none => false

/-- A member is TRUE (R489). -/
def Dev.memberOf (d : Dev) (code : Nat) : Bool :=
  let arg := code % 4096
  match code / 4096 with
  | 1 => bitOf (d.get R.NET.HGB_LO + 2 ^ 32 * d.get R.NET.HGB_HI) arg = 1
  | 2 => d.active.any (fun a => a.cls = arg / 256 && a.inst = arg % 256)
  | 3 => d.mode.code = arg
  | 4 => d.sfStatBit arg
  | 5 => d.is R.PART.PRIMARY
  | 6 => d.is R.NET.TIME_SUSPECT
  | 7 => d.active.any (fun a => arg ≤ a.react)
  | _ => false

def Dev.membersOf (d : Dev) (g : Nat) : List Bool := (List.range (d.gpF g 2 1)).map (fun i => d.memberOf (d.gpF g (0xA0 + 2 * i) 2))

/-- The t field of a message sent at TB ns t: UTC as R477 derives it, with its TimeQuality (R489). -/
def Dev.gooseTime (d : Dev) (t : Nat) : GooseTime :=
  ⟨d.tod t - d.getInt R.NET.UTC_OFF * 1000000000, d.is R.NET.TIME_SUSPECT, d.get R.NET.SERVO_STATE = 0, if d.get R.NET.SERVO_STATE = 2 then 20 else 31⟩

/-- The Quality after each member of dataset g: with QUAL, good or test (R489). -/
def Dev.gooseQuality (d : Dev) (g : Nat) : Option Nat :=
  if bitOf (d.gpF g 3 1) 0 = 1 then some (svQuality false false false (d.mode = .test) false) else none

/-- A message of dataset g is sent at TB ns t with an interval to the next one in ms. -/
def Dev.gooseSend (d : Dev) (t g st sq interval : Nat) (mem : List Bool) : Dev :=
  let d1 := (((d.put R.NET.GP_STNUM st g).put I.NET.GP_SQ sq g).put R.NET.GP_SQNUM (min sq 65535) g).put R.NET.GP_INTERVAL interval g
  (d1.setNet { d1.net with goose := setAt d1.net.goose g mem }).netSend (.goose g st sq (2 * interval) (d.mode = .test) mem (d.gooseTime t) (d.gooseQuality g))

/-- The datasets at a boundary. -/
def Dev.goosePublish (d : Dev) (t g : Nat) : Dev :=
  let mem := d.membersOf g
  let tmin := d.get R.NET.T_MIN
  if !d.is I.NET.GP_ON g then (d.put I.NET.GP_ON 1 g).gooseSend t g 1 0 tmin mem
  else if (d.net.goose[g]?).getD [] = mem then d
  else d.gooseSend t g (if d.get R.NET.GP_STNUM g = 2 ^ 32 - 1 then 1 else d.get R.NET.GP_STNUM g + 1) 0 tmin mem

/-- GOOSE_RETRANSMIT (R489). -/
def execGooseRetransmit (g : Fin 8) (s : State) : Host.Outcome State Fault Refusal :=
  s.onDev fun d =>
    if !d.is I.NET.GP_ON g then d
    else d.gooseSend s.clk.ns g (d.get R.NET.GP_STNUM g) ((d.get I.NET.GP_SQ g + 1) % 2 ^ 32) (min (2 * d.get R.NET.GP_INTERVAL g) (d.get R.NET.T0))
      ((d.net.goose[g]?).getD [])

/-- The network at the boundary at TB ns t: the time engine, LANs whose port is not usable, publishing, the comparisons and the
datasets. -/
def Dev.netBoundary (d : Dev) (t : Nat) : Dev :=
  d.netDo t (fun d =>
    let d1 := (d.timeBoundary t).forN 2 (fun d p => if d.portUp p then d else d.lanDown p)
    let on := d1.publishes
    let d2 := (d1.flag R.NET.PUBLISHING on).forN 8 (fun d n =>
      let act : Bool := on && d.svUsed n
      (d.flag R.NET.SVP_ACTIVE act n).onlyIf (!act) (fun d => d.setSv n []))
    let d3 := d2.forN 16 (fun d q => d.svCompare t q)
    d3.forN 8 (fun d g => if on && d.gpUsed g then d.goosePublish t g else d.put I.NET.GP_ON 0 g))

/-! The rules of the network sheet (R491, R492). -/

/-- A byte string of `len` bytes that is ASCII, NUL-padded, with at least one NUL and at least one character. -/
def idOk (v len : Nat) : Bool :=
  let bs := leBytes len v
  let n := (bs.takeWhile (· != 0)).length
  0 < n && n < len && (bs.drop n).all (· = 0) && bs.all (· < 128)

/-- Half the line rate carries the sampled values: frames per second are RATE / NOASDU. -/
def Dev.svLoadBad (d : Dev) : Bool :=
  let line := if bitsOf (d.netS 0 1) 1 0 < 2 then 1000000000 else 100000000
  let den := 840
  let bits := (List.range 8).foldl (fun v n => if d.svUsed n then v + d.svBytes n * 8 * d.svRate n * (den / max 1 (d.svF n 4 1)) else v) 0
  line / 2 * den < bits

def Dev.svPubBad (d : Dev) (n : Nat) : Bool :=
  if !d.svUsed n then d.netS (0x20 + 0x100 * n) 256 != 0
  else
    let nch := d.svNch n
    let fmt := d.svF n 2 1
    let kind (c : Nat) := d.svF n (0x62 + 8 * c) 1
    !idOk (d.svF n 0x20 64) 64 || 1 < fmt || 1 < d.svF n 3 1 || d.svF n 4 1 = 0 || 8 < d.svF n 4 1 || nch = 0 || 16 < nch ||
      (fmt = 0 && (nch != 8 || [0, 1, 2, 3].any (fun c => kind c != 0) || [4, 5, 6, 7].any (fun c => kind c != 1))) ||
      (List.range 16).any (fun c => if c < nch then 1 < kind c || !d.sigAllowed 1 (d.svSig n c) || !b32.finite (d.svF n (0x64 + 8 * c) 4)
        else d.svF n (0x60 + 8 * c) 8 != 0)

def Dev.svSubBad (d : Dev) (q : Nat) : Bool :=
  if !d.subUsed q then d.netS (0x820 + 0x80 * q) 128 != 0
  else
    let cmp := d.subF q 20 2
    !idOk (d.subF q 0x20 64) 64 || 1 < d.subF q 2 1 || 1 < d.subF q 3 1 || d.subF q 4 1 = 0 || 8 < d.subF q 4 1 || 15 < d.subF q 5 1 ||
      (cmp != 0 && !d.sigAllowed 1 cmp) || !b32.finite (d.subF q 0x18 4)

def Dev.gsBad (d : Dev) (s : Nat) : Bool :=
  if !d.gsUsed s then d.netS (0x1020 + 0xC0 * s) 192 != 0
  else !idOk (d.gsF s 0x20 64) 64 || !idOk (d.gsF s 0x60 64) 64 || !idOk (d.gsF s 0xA0 32) 32 || 63 < d.gsF s 2 1 || 3 < d.gsF s 3 1 ||
    d.gsF s 4 1 = 0 || 64 < d.gsF s 4 1

def Dev.gpBad (d : Dev) (g : Nat) : Bool :=
  if !d.gpUsed g then d.netS (0x2820 + 0x100 * g) 256 != 0
  else !idOk (d.gpF g 0x20 64) 64 || !idOk (d.gpF g 0x60 64) 64 || !idOk (d.gpF g 0xE0 32) 32 || d.gpF g 2 1 = 0 || 32 < d.gpF g 2 1 || 1 < d.gpF g 3 1

/-- What R492 refuses; the parts that a staged set can change are the registers of the parameter part. -/
def Dev.netRules (d : Dev) : List Err :=
  let mode := d.netS 0 1
  let src := d.netS 1 1
  let heads : Bool := 2 < bitsOf mode 3 2 || 15 < mode || 63 < src || 1 < d.netS 2 1 || 1 < d.netS 4 1 || 8 < d.netS 5 1 || 16 < d.netS 6 1 ||
    32 < d.netS 7 1 || 8 < d.netS 8 1 || 7 < d.netS 9 1 || 4095 < d.netS 10 2 || d.netS 0x12 14 != 0
  let chk : Bool := d.timeChk = d.timePri && d.timeChk != 3
  let par : Bool := d.get R.NET.T0 < d.get R.NET.T_MIN || d.get R.NET.STEP_THR ≤ d.get R.NET.LOCK_THR
  errIf (heads || chk || par || d.svLoadBad || (List.range 8).any d.svPubBad || (List.range 16).any d.svSubBad || (List.range 32).any d.gsBad ||
    (List.range 8).any d.gpBad) (eStruct 0x0A)

end Sys2Proof.Machine
end

