-- ==== Sys2Proof/Machine/Windows.lean ====
section
/-! DEFINITION. The BAR0 windows and the words in them (02_host_access.md, 19_register_map_index.md). -/
namespace Sys2Proof.Machine

/-! Windows and words (R7, R9, R10, R42). -/

/-- The windows of BAR0: directory index, first address, size (R42). -/
def windows : List (Nat × Nat × Nat) :=
  [(0, 0x000000, 0x10000), (1, 0x010000, 0x10000), (2, 0x020000, 0x20000), (3, 0x040000, 0x10000), (4, 0x050000, 0x10000)] ++
  [(5, 0x060000, 0x20000), (6, 0x080000, 0x20000), (7, 0x0A0000, 0x20000), (8, 0x0C0000, 0x10000), (9, 0x0D0000, 0x10000)] ++
  [(10, 0x0E0000, 0x20000), (11, 0x100000, 0x10000), (12, 0x110000, 0x10000), (13, 0x120000, 0x10000), (14, 0x130000, 0x10000)] ++
  [(15, 0x140000, 0x10000), (16, 0x150000, 0x10000), (17, 0x160000, 0x10000), (18, 0x170000, 0x10000)]

/-! Directory indices of the windows. -/
def wHif : Nat := 0
def wSnap : Nat := 1
def wStage : Nat := 2
def wTb : Nat := 3
def wReam : Nat := 4
def wMode : Nat := 5
def wFelt : Nat := 6
def wCell : Nat := 7
def wMod : Nat := 8
def wCal : Nat := 9
def wCe : Nat := 10
def wLvd : Nat := 11
def wAfe : Nat := 12
def wFlt : Nat := 13
def wSafe : Nat := 14
def wPart : Nat := 15
def wTherm : Nat := 16
def wNet : Nat := 17
def wPerf : Nat := 18

/-- The window of a BAR0 address, and the offset in it. -/
def winOf (a : Nat) : Option (Nat × Nat) :=
  (windows.find? (fun w => w.2.1 ≤ a && a < w.2.1 + w.2.2)).map (fun w => (w.1, a - w.2.1))

/-- The BAR0 address of an offset in a window. -/
def winAddr (w off : Nat) : Nat := (((windows.find? (fun x => x.1 = w)).map (fun x => x.2.1)).getD 0) + off

/-- The element of a field at a word of its window; a field kept per source (HIF, SNAP) gives the source's own. -/
def Fld.elem (f : Fld) (src off : Nat) : Option Nat :=
  if f.n1 != 1 && f.s1 = 0 then (if off = f.off then some src else none)
  else if off < f.off then none
  else
    let r := off - f.off
    let i := if f.n1 = 1 then 0 else r / f.s1
    let r1 := if f.n1 = 1 then r else r % f.s1
    let j := if f.n2 = 1 then 0 else r1 / f.s2
    let r2 := if f.n2 = 1 then r1 else r1 % f.s2
    if i < f.n1 && j < f.n2 && r2 = 0 then some (i * f.n2 + j) else none

/-- The fields of the derived view that is not shown have no place in the window (R501, R502). -/
def hiddenView (lanes : Bool) (f : Fld) : Bool :=
  if lanes then [R.PERF.BYTES.id, R.PERF.UTIL.id].contains f.id
  else [R.PERF.LANE_DISCARDED.id, R.PERF.LANE_USEFUL.id, R.PERF.LANE_INPUT_WAIT.id, R.PERF.LANE_OUTPUT_WAIT.id, R.PERF.LANE_NARROW.id].contains f.id

/-- The fields, with their elements, of a word of a window; none where no register stands. -/
def Store.word (r : Store) (w off src : Nat) : List (Fld × Nat) :=
  (winFields w).filterMap (fun f => if hiddenView (r.field R.PERF.VIEW 0 = 1) f then none else (f.elem src off).map (fun i => (f, i)))

/-- A word as it reads: WO fields and reserved bits read 0 (R9, R10). -/
def Store.readWord (r : Store) (w off src : Nat) : Nat :=
  (r.word w off src).foldl (fun v p => if p.1.acc = .wo then v else v + r.field p.1 p.2 * 2 ^ p.1.lo) 0

end Sys2Proof.Machine
end

