-- ==== Sys2Proof/Machine/Partner.lean ====
section
/-! DEFINITION. The partner lane (15_partner_redundancy.md): heartbeats and paths, beats, the mirror list and its frames, in sync and
ready, alignment, handover messages, the rules of the mirror sheet, and the meanings of their commands. -/
namespace Sys2Proof.Machine

/-! Status (R402, R415, R423). -/

/-- The modes in which a module is primary (R400). -/
def primaryModes : List Mode := [.test, .precharge, .sync, .run, .degraded, .rideThrough, .stopping, .safe]

/-- The active image digest as one number; 0 with no image. -/
def Dev.ownDigest (d : Dev) : Nat := match d.ream.active with | some im => im.imageDigest | none => 0

/-- ALIGN_ERR lies within 8 q. -/
def Dev.alignOk (d : Dev) : Bool := (d.getInt R.PART.ALIGN_ERR).natAbs ≤ 8

/-- READY, NOT_READY, PRIMARY, SYNC_TIME and the release of the gate pads; ROLE in every summary when the role changes. -/
def Dev.partStatus (d : Dev) (t : Nat) : Dev :=
  let stby : Bool := d.mode = .mirror
  let prim := d.inMode primaryModes
  let insync := d.is R.PART.IN_SYNC
  let stop := d.reactAtLeast 5
  let ready := stby && insync && !stop
  let why := (!insync).toNat + 2 * stop.toNat + 4 * (decide (d.get I.PART.BEAT_DIGEST ≠ d.ownDigest)).toNat + 8 * (!d.alignOk).toNat +
    16 * (!d.is R.PART.PL_OK).toNat + 32 * (!d.is R.PART.WIRE_OK).toNat
  let chg : Bool := prim != d.is R.PART.PRIMARY || ready != d.is R.PART.READY || insync != d.is I.PART.SHOWN_SYNC
  let d1 := (((d.flag R.PART.PRIMARY prim).flag R.PART.READY ready).put R.PART.NOT_READY (if stby then why else 0)).flag I.PART.SHOWN_SYNC insync
  let d2 := (d1.put R.PART.SYNC_TIME (if d.is I.PART.SYNC_NS then min ((t - d.get I.PART.SYNC_NS) / 1000000) (2 ^ 32 - 1) else 0)).flag I.PART.HIZ (d.strapped && !prim)
  if chg then d2.sumAll R.HIF.SUM_ROLE else d2

/-- IN_SYNC is cleared, with instance 8 whose detail is the bit of the cause in R415's list: 0 a mirror frame lost, 1 a path lost,
2 alignment, 3 a forwarded set failed. What the loss of a path leaves is kept for R406. -/
def Dev.syncClear (d : Dev) (t cause : Nat) : Dev :=
  let d1 := if cause = 1 then (if d.is R.PART.IN_SYNC then d.put I.PART.SYNC_LIVE 1 else d) else d.put I.PART.SYNC_LIVE 0
  if d.is R.PART.IN_SYNC then (((d1.put R.PART.IN_SYNC 0).put R.PART.READY 0).raise t 11 8 (2 ^ cause)).partStatus t else d1

/-- An operation of the partner lane with what it changes. -/
def Dev.partDo (d : Dev) (t : Nat) (g : Dev → Dev) : Dev := if !d.strapped then d else ((g d).partStatus t).settle t

/-! Heartbeats and paths (R404 to R406). -/

/-- HB_OUT_TOGGLE (R404): held low where the square wave is not sent. -/
def execHbOutToggle (s : State) : Host.Outcome State Fault Refusal :=
  s.onDev fun d =>
    let on : Bool := d.strapped && d.mode != .backup && !d.is I.MODE.IN_RESET && d.is R.TB.PLL_T_LOCK && (d.mode != .boot || 2 < d.get I.MODE.BOOT_STEP)
    d.flag I.PART.HB_OUT (on && !d.is I.PART.HB_OUT)

/-- A path has returned: its instance and instance 2 are lowered; the other, still lost, raises its own. -/
def Dev.pathBack (d : Dev) (t : Nat) (wire : Bool) : Dev :=
  let both : Bool := d.active.any (fun a => a.cls = 11 && a.inst = 2)
  let d1 := ((d.lower 11 (if wire then 1 else 0)).lower 11 2)
  let other := d.is (if wire then R.PART.PL_OK else R.PART.WIRE_OK)
  if other then d1.put I.PART.SYNC_LIVE 0 else if both then d1.raise t 11 (if wire then 0 else 1) 0 true else d1

/-- HB_IN_EDGE (R405): the fourth consecutive spacing of 50 µs ± 10 % returns the wire path. -/
def execHbInEdge (s : State) : Host.Outcome State Fault Refusal :=
  s.onDev fun d => d.partDo s.clk.ns (fun d =>
    let t := s.clk.ns
    let gap := t + 1 - d.get I.PART.LAST_EDGE
    let good : Bool := d.get I.PART.LAST_EDGE != 0 && 45000 ≤ gap && gap ≤ 55000
    let run := if good then min 4 (d.get I.PART.EDGE_RUN + 1) else 0
    let d1 := (d.put I.PART.LAST_EDGE (t + 1)).put I.PART.EDGE_RUN run
    if d.is R.PART.WIRE_OK || run < 4 then d1 else (d1.put R.PART.WIRE_OK 1).pathBack t true)

/-- The standby could take over but for the paths (R406, R415). -/
def Dev.wasReady (d : Dev) : Bool := (d.is R.PART.IN_SYNC || d.is I.PART.SYNC_LIVE) && !d.reactAtLeast 5

/-- Both paths are lost (R406). -/
def Dev.bothLost (d : Dev) (t : Nat) : Dev :=
  let d0 := (d.lower 11 0).lower 11 1
  if d.mode != .mirror then d0.raise t 11 2 0 true
  else
    let posting : Bool := [Mode.precharge, .sync, .run, .degraded, .rideThrough, .stopping].contains (Mode.ofCode (d.get R.PART.PARTNER_MODE))
    if d.wasReady && posting then ((d0.put I.PART.TAKEOVER_DUE 1).put I.PART.TO_BND 0).raise t 11 2 1 true
    else
      let why := (!(d.is R.PART.IN_SYNC || d.is I.PART.SYNC_LIVE)).toNat + 2 * (d.reactAtLeast 5).toNat + 4 * (!posting).toNat
      (d0.put I.PART.LEAVE_DUE 1).raise t 11 3 why

/-- A path is lost: alone it raises its instance, with the other R406 acts. -/
def Dev.pathLost (d : Dev) (t : Nat) (wire : Bool) : Dev :=
  let d1 := d.syncClear t 1
  if d.is (if wire then R.PART.PL_OK else R.PART.WIRE_OK) then d1.raise t 11 (if wire then 1 else 0) 0 true else d1.bothLost t

/-- WIRE_PATH_LOST (R405). -/
def execWirePathLost (s : State) : Host.Outcome State Fault Refusal :=
  s.onDev fun d =>
    if !d.is R.PART.WIRE_OK then d
    else d.partDo s.clk.ns (fun d => ((d.put R.PART.WIRE_OK 0).put I.PART.EDGE_RUN 0).pathLost s.clk.ns true)

/-- PL_PATH_LOST (R405). -/
def execPlPathLost (s : State) : Host.Outcome State Fault Refusal :=
  s.onDev fun d =>
    if !d.is R.PART.PL_OK then d
    else d.partDo s.clk.ns (fun d => (((d.put R.PART.PL_OK 0).put I.PART.BEAT_RUN 0).put I.PART.BEAT_OK 0).pathLost s.clk.ns false)

/-- A standby whose image comes to differ from the primary's leaves MIRROR (R410). -/
def Dev.digestCheck (d : Dev) (t : Nat) : Dev :=
  if d.mode = .mirror && d.get I.PART.BEAT_DIGEST != d.ownDigest && !d.is I.PART.LEAVE_DUE then (d.put I.PART.LEAVE_DUE 1).raise t 11 10 0 else d

/-- The offset of element i of a field in its window. -/
def Fld.place (f : Fld) (i : Nat) : Nat := f.off + i / f.n2 * f.s1 + i % f.n2 * f.s2

/-- The words of a window that hold staged parameters, each once; the two request words hold none. -/
def paramWords (w : Nat) : List Nat :=
  let fs := (winFields w).filter (fun f => f.acc = .rw && !f.direct && f.id != R.CE.BANK_REQ.id && f.id != R.MODE.TARGET.id)
  fs.flatMap (fun f => ((List.range f.count).map f.place).filter (fun o => !fs.any (fun g => g.id < f.id && (g.elem 0 o).isSome)))

/-- Every staged parameter in force, as items (R410). -/
def Dev.paramItems (d : Dev) : List (Nat × Nat) :=
  (List.range 19).flatMap (fun w => (paramWords w).map (fun o => (winAddr w o, d.regs.readWord w o 0)))

/-- The primary sends its parameters and its last Teasel record when the beat shows that its partner has entered MIRROR (R410, R437). -/
def Dev.transferSend (d : Dev) : Dev := if d.inMode primaryModes then d.send (.transfer d.paramItems d.nvm.record) else d

/-- A valid beat (R404, R405, R407). -/
def Dev.beatTake (d : Dev) (t : Nat) (b : Beat) : Dev :=
  let next : Bool := b.frame.toNat = (d.get I.PART.BEAT_FRAME + 1) % 2 ^ 32
  let run := if next then min 3 (d.get I.PART.BEAT_RUN + 1) else 1
  let d1 := (((d.put R.PART.PARTNER_MODE b.mode.toNat).put R.PART.PARTNER_EPOCH b.epoch.toNat).flag R.PART.PARTNER_PRIMARY b.primary).put I.PART.BEAT_FRAME b.frame.toNat
  let d2 := (((d1.put I.PART.BEAT_STRAP b.strap.toNat).flag I.PART.BEAT_READY b.ready).flag I.PART.BEAT_INSYNC b.inSync).flag I.PART.BEAT_INHIBIT b.inhibit
  let d3 := (((d2.put I.PART.BEAT_PERMITS b.permits.toNat).put I.PART.BEAT_REACT b.react.toNat).put I.PART.BEAT_DIGEST b.digest.toNat).put I.PART.BEAT_MAJOR b.major.toNat
  let d4 := (d3.put I.PART.BEAT_RUN run).onlyIf (d.mode = .mirror && b.primary && !d.lastFrame 1) (fun d => d.put R.FELT.OWN_EPOCH b.epoch.toNat)
  let d5 := if b.strap.toNat = d.get R.PART.STRAP then d4.raise t 11 11 0 true else d4.lower 11 11
  let d6 := if d.is R.PART.PL_OK || run < 3 then d5 else (d5.put R.PART.PL_OK 1).pathBack t false
  let joins : Bool := b.mode.toNat = Mode.mirror.code && d.get R.PART.PARTNER_MODE != Mode.mirror.code
  ((d6.flag I.PART.BEAT_OK (d6.is R.PART.PL_OK)).onlyIf joins Dev.transferSend).digestCheck t

/-- BEAT_RX (R405). -/
def execBeatRx (beat : Beat) (s : State) : Host.Outcome State Fault Refusal :=
  s.onDev fun d => d.partDo s.clk.ns (fun d => if beat.valid then d.beatTake s.clk.ns beat else (d.bump R.PART.PL_ERR).put I.PART.BEAT_RUN 0)

/-- The beat of a boundary (R404). -/
def Dev.beatOut (d : Dev) : Dev :=
  if !d.strapped || d.mode = .backup then d
  else (d.perf 7 1 15).send (.beat [d.get R.TB.FRAME_NO_LIVE, d.mode.code, d.get R.FELT.OWN_EPOCH, d.get R.PART.STRAP, d.get R.PART.PRIMARY, d.get R.PART.READY,
    d.get R.PART.IN_SYNC, d.get R.SAFE.PERMIT_SOP + 2 * d.get R.SAFE.PERMIT_SOM, d.get R.FLT.REACT_MAX, d.ownDigest])

/-! Alignment (R411). -/

/-- PARTNER_MARKER_RX (R411): the primary's marker of the boundary that begins `frame`, sent at `tb` of the primary's TB, arrives
`offset` q after this module's last boundary; the lane's round trip is `rtt` q. The first one in MIRROR ends the frame in
progress. -/
def execPartnerMarkerRx (frame : Word) (tb : Word) (offset : BitVec 32) (rtt : BitVec 24) (s : State) : Host.Outcome State Fault Refusal :=
  s.onDev fun d => d.partDo s.clk.ns (fun d =>
    let err := offset.toInt - (rtt.toNat / 2 : Nat)
    let d1 := d.put R.PART.PL_RTT rtt.toNat
    if d.mode != .mirror then d1
    else
      let d2 := (d1.putInt R.PART.ALIGN_ERR err).putInt I.PART.SKEW ((d.get I.TB.BND_NS : Int) + err / 4 - tb.toNat)
      if d.is I.TB.ALIGN_NOW then ((d2.put I.TB.ALIGN_NOW 0).put I.TB.LEN s.clk.sub).put I.TB.NO_NEXT (frame.toNat + 1)
      else if d2.alignOk then d2
      else if d.is R.PART.IN_SYNC then (d2.raise s.clk.ns 11 9 (min err.natAbs 65535)).syncClear s.clk.ns 2 else d2.put I.PART.SYNC_LIVE 0)

/-- The tbc by which the next frame of a standby is longer (R411). -/
def Dev.mirrorTrim (d : Dev) : Int := max (-4) (min 4 (d.getInt R.PART.ALIGN_ERR / 8))

/-! The mirror list (R413, R414, R421). -/

def itemIndex (w : Nat) : Nat := bitsOf w 7 0
def itemSec (w : Nat) : Nat := bitsOf w 9 8
def itemSlot (w : Nat) : Nat := bitsOf w 15 10
def itemKind (w : Nat) : Nat := bitsOf w 19 16
def itemRate (w : Nat) : Nat := bitsOf w 21 20

/-- D of a rate (R413). -/
def rateDiv (r : Nat) : Nat := match r with | 0 => 1 | 1 => 16 | _ => 256

/-- The bytes of an item of a kind (R414). -/
def itemBytes (k : Nat) : Nat := if k ≤ 5 || k = 13 then 8 else if k ≤ 11 then (if k = 6 || k = 7 then 24 else 4) else 24

/-- The items due in a frame, by number and word. -/
def Dev.dueItems (d : Dev) (frame : Nat) : List (Nat × Nat) :=
  ((List.range (d.get R.PART.ITEM_COUNT)).map (fun i => (i, d.get I.PART.ITEM i))).filter (fun p => (frame + p.1) % rateDiv (itemRate p.2) = 0)

/-- The place of an instance of a slot, and of a section of it. -/
def itemAt (w : Nat) : Nat := 144 * itemSlot w + itemIndex w

/-- A PLL with the angle that starts the next frame. -/
def Dev.pllItem (d : Dev) (p : Nat) : Nat := d.get I.CE.TH p + 2 ^ 64 * d.get I.CE.OM p + 2 ^ 128 * d.get I.CE.X p

/-- The ms left in the window of a unit; 0 with none open. -/
def Dev.winLeftMs (d : Dev) (t u : Nat) : Nat :=
  let w := d.get I.FLT.WIN_NS u
  if w = 0 then 0 else (w - 1 + windowNs - t) / 1000000

/-- The value of an item (R414), little-endian, at TB ns t. -/
def Dev.itemValue (d : Dev) (t w : Nat) : Nat :=
  let k := itemAt w
  let i := itemIndex w
  match itemKind w with
  | 1 => d.get I.CE.SA (4 * k + itemSec w)
  | 2 => d.get I.CE.SB (4 * k + itemSec w)
  | 3 => d.get I.CE.SA (4 * k + itemSec w) + 2 ^ 32 * d.get I.CE.SB (4 * k + itemSec w)
  | 4 => d.get I.CE.SP k
  | 5 =>
    let sl := d.slot (itemSlot w)
    d.get I.CE.OUT k + 2 ^ 32 * d.get I.CE.B_D (sl.destAt i)
  | 6 => d.pllItem 0
  | 7 => d.pllItem 1
  | 8 => d.get R.CAL.SLOT_TEN_LEFT i + 2 ^ 12 * d.get R.CAL.SLOT_ASSIGN i
  | 9 => if i = 6 then d.get R.CAL.INTER_OUT else d.get R.CAL.STR_VMEANF i
  | 10 => if i = 6 then d.get R.LVD.LV_POS else d.get R.MOD.STR_CAR_POS i
  | 11 =>
    let ms := if d.role i = rolePark then min ((t - d.get I.MOD.PARK_NS i) / 1000000) 65535 else 0
    d.get R.MOD.SLOT_ROLE i + 2 ^ 8 * d.get R.MOD.SLOT_IN_BAND i + 2 ^ 16 * ms
  | 12 => d.get R.TB.TB_RATE + 2 ^ 32 * d.get I.NET.SERVO_I + 2 ^ 96 * (d.todSec % 2 ^ 64) + 2 ^ 160 * d.get R.TB.TOD_REF_NS32
  | 13 => d.get R.FLT.UNIT_RECOV_CNT i % 256 + 2 ^ 8 * d.get R.FLT.UNIT_REACT i + 2 ^ 12 * d.get R.FLT.UNIT_LOCKED i + 2 ^ 32 * d.winLeftMs t i
  | 14 => d.get I.SNAP.SEQ + 2 ^ 64 * d.get R.TB.FRAME_NO_LIVE + 2 ^ 96 * d.get R.FELT.OWN_EPOCH + 2 ^ 112 * d.mode.code +
      2 ^ 128 * d.get R.MODE.MODE_FRAMES + 2 ^ 160 * d.get I.STAGE.LAST_TXN
  | _ => 0

/-- The mapping that a KIND 12 item gives, translated to this module's TB through the common boundary; the servo goes on from it, and
needs no first step (R490). -/
def Dev.mapItem (d : Dev) (t v : Nat) : Dev :=
  let ref32 := (bitsOf v 191 160 + d.get I.PART.SKEW) % 2 ^ 32
  let d1 := (d.put I.NET.SERVO_I (bitsOf v 95 32)).setTod (bitsOf v 159 96) ((t : Int) - ((t + 2 ^ 32 - ref32) % 2 ^ 32 : Nat))
  d1.onlyIf (d.get R.NET.SERVO_STATE = 0) (fun d => (d.servoState 1).sumAll R.HIF.SUM_TIME)

/-- An item applied by a standby in place of its own value (R413, R414), at TB ns t. -/
def Dev.itemApply (d : Dev) (t w v : Nat) : Dev :=
  let k := itemAt w
  let i := itemIndex w
  let pll (p : Nat) : Dev := ((d.put I.CE.TH v p).put I.CE.OM (v / 2 ^ 64) p).put I.CE.X (v / 2 ^ 128) p
  match itemKind w with
  | 1 => d.put I.CE.SA v (4 * k + itemSec w)
  | 2 => d.put I.CE.SB v (4 * k + itemSec w)
  | 3 => (d.put I.CE.SA (v % 2 ^ 32) (4 * k + itemSec w)).put I.CE.SB (v / 2 ^ 32) (4 * k + itemSec w)
  | 4 => d.put I.CE.SP v k
  | 5 => (d.put I.CE.OUT v k).put I.CE.B_D (v / 2 ^ 32) ((d.slot (itemSlot w)).destAt i)
  | 6 => pll 0
  | 7 => pll 1
  | 8 => (d.put R.CAL.SLOT_TEN_LEFT (bitsOf v 9 0) i).put R.CAL.SLOT_ASSIGN (bitsOf v 13 12) i
  | 9 => if i = 6 then d.put R.CAL.INTER_OUT v else (d.put R.CAL.STR_VMEANF v i).put I.CAL.VF_SET 1 i
  | 10 => if i = 6 then d.put R.LVD.LV_POS v else d.put R.MOD.STR_CAR_POS v i
  | 11 => ((d.setRole i (bitsOf v 2 0)).put R.MOD.SLOT_IN_BAND (bitsOf v 15 8) i).put I.MOD.PARK_NS (t - 1000000 * bitsOf v 31 16) i
  | 12 => d.mapItem t v
  | 13 =>
    let left := bitsOf v 63 32
    (((d.put R.FLT.UNIT_RECOV_CNT (bitsOf v 7 0) i).put I.PART.MU_REACT (bitsOf v 11 8) i).put R.FLT.UNIT_LOCKED (bitsOf v 12 12) i).put I.FLT.WIN_NS
      (if left = 0 then 0 else t + 1 + 1000000 * left - windowNs) i
  | 14 => ((((d.put I.PART.M_SNAPSEQ v).put I.PART.M_FRAME (bitsOf v 95 64)).put I.PART.M_MODEFRAMES (bitsOf v 159 128)).put I.STAGE.LAST_TXN (bitsOf v 175 160))
  | _ => d

/-- The states of the LV leg groups, two bits each (R420). -/
def Dev.legWord (d : Dev) : Nat := (List.range 8).foldl (fun v g => v + 4 ^ g * d.get I.LVD.GRP_ST g) 0

/-- The primary's mirror frame at the end of stage 6 (R413); that of frame H−2 carries the leg states (R420). -/
def Dev.mirrorSend (d : Dev) (t : Nat) : Dev :=
  if !d.strapped || !d.is R.PART.PRIMARY || d.get R.PART.ITEM_COUNT = 0 then d
  else
    let f := d.get R.TB.FRAME_NO_LIVE
    let due := d.dueItems f
    let legs := if d.get I.PART.HAND = 2 && (f + 2) % 2 ^ 32 = d.get I.PART.H_FRAME then d.legWord else 0
    let bytes := (due.map (fun p => itemBytes (itemKind p.2))).foldl (· + ·) 0
    ((d.perf 7 2 15).perf 7 4 15 ((bytes + 15) / 16)).send (.mirrorFrame f (due.map (fun p => d.itemValue t p.2)) legs)

/-- A mirror frame is discarded (R413, R415). -/
def Dev.mirrorLost (d : Dev) (t : Nat) : Dev :=
  let run := min 255 (d.get I.PART.LOST_RUN + 1)
  let d1 := ((d.bump R.PART.MIRROR_LOST).put I.PART.LOST_AGO 0).put I.PART.LOST_RUN run
  (if d.is I.PART.LOST_NOW then d1 else (d1.put I.PART.LOST_NOW 1).raise t 11 7 run).syncClear t 0

/-- MIRROR_FRAME_RX (R413): kept for the start of the next frame, or discarded when its CRC fails, when it has not the items due
in its frame, or when it comes too late. -/
def execMirrorFrameRx (frame : Word) (crcOk : Bool) (items : List Nat) (legs : BitVec 16) (s : State) : Host.Outcome State Fault Refusal :=
  s.onDev fun d =>
    if d.mode != .mirror then d
    else d.partDo s.clk.ns (fun d =>
      let f := d.get R.TB.FRAME_NO_LIVE
      let timely : Bool := frame.toNat = f || ((frame.toNat + 1) % 2 ^ 32 = f && !d.is I.CE.STARTED)
      if crcOk && timely && items.length = (d.dueItems frame.toNat).length then { d with mirrorIn := some ⟨frame.toNat, items, legs.toNat⟩ }
      else (d.onlyIf (!crcOk) (fun d => d.bump R.PART.PL_ERR)).mirrorLost s.clk.ns)

/-- The mirror frame of the frame before is applied at the start of stage 1 at TB ns t (R413); its absence in frame H−1 raises
instance 6 (R420). -/
def Dev.mirrorApply (d : Dev) (t : Nat) : Dev :=
  if d.mode != .mirror then { d with mirrorIn := none }
  else
    let f := d.get R.TB.FRAME_NO_LIVE
    match d.mirrorIn with
    | some m =>
      if (m.frame + 1) % 2 ^ 32 != f then d
      else
        let due := (d.dueItems m.frame).zip m.items
        let d1 := due.foldl (fun d p => (d.itemApply t p.1.2 p.2).setBitOf I.PART.APPLIED p.1.1 true) d
        let d2 := if d.lastFrame 1 then d1.forN 8 (fun d g => d.put I.LVD.GRP_ST (m.legs / 4 ^ g % 4) g) else d1
        { ((d2.perf 7 3 15).put I.PART.LOST_NOW 0).put I.PART.LOST_RUN 0 with mirrorIn := none }
    | none => if d.lastFrame 1 then d.raise t 11 6 0 else d

/-- MIRROR_TRANSFER_RX (R410, R437): the primary's staged parameters wait for the next boundary; its Teasel record is adopted. -/
def execMirrorTransferRx (items : List (Nat × Nat)) (record : List Nat) (s : State) : Host.Outcome State Fault Refusal :=
  s.onDev fun d => if d.mode != .mirror then d else { d.teaselAdopt record with forwards := d.forwards ++ [⟨0, items, true⟩] }

/-- FORWARDED_SET_RX (R66): a set that the primary has applied waits for the next boundary. -/
def execForwardedSetRx (txn : BitVec 16) (items : List (Nat × Nat)) (s : State) : Host.Outcome State Fault Refusal :=
  s.onDev fun d => if d.mode != .mirror then d else { d with forwards := d.forwards ++ [⟨txn.toNat, items, false⟩] }

/-! In sync at a boundary (R415). -/

def Dev.syncHolds (d : Dev) : Bool :=
  d.get I.PART.APPLIED = 2 ^ d.get R.PART.ITEM_COUNT - 1 && d.is I.PART.XFER_DONE && d.alignOk && d.get I.PART.LOST_AGO = 256 &&
    d.is R.PART.WIRE_OK && d.is R.PART.PL_OK

/-- The partner's state at the boundary at TB ns t. -/
def Dev.partBoundary (d : Dev) (t : Nat) : Dev :=
  if !d.strapped then d.partStatus t
  else if d.mode != .mirror then d.partStatus t
  else
    let d1 := d.put I.PART.LOST_AGO (min 256 (d.get I.PART.LOST_AGO + 1))
    let d2 := if !d1.is R.PART.IN_SYNC && d1.syncHolds then ((d1.put R.PART.IN_SYNC 1).put I.PART.SYNC_NS t).put I.PART.SYNC_LIVE 0 else d1
    d2.partStatus t

/-- What entry to MIRROR sets (R410, R411, R415). -/
def Dev.mirrorEnter (d : Dev) : Dev :=
  let d1 := (((d.put I.PART.APPLIED 0).put I.PART.XFER_DONE 0).put I.PART.LOST_AGO 256).put I.PART.LOST_NOW 0
  { (((d1.put I.PART.LOST_RUN 0).put I.TB.ALIGN_NOW 1).put I.PART.SYNC_LIVE 0).put R.PART.IN_SYNC 0 with mirrorIn := none, forwards := [] }

/-! Takeback and handover messages (R419, R420). -/

/-- The partner's beat shows it fit to hand over, or this module's own state does. -/
def fitMode (code react : Nat) : Bool := (code = Mode.run.code || code = Mode.degraded.code) && react < 5

def Dev.noInhibit (d : Dev) : Bool := !d.is R.PART.TB_INHIBIT && !d.is I.PART.BEAT_INHIBIT

/-- The handover boundary is fixed by a confirmation sent in frame k: it begins frame k + 4 (R420). -/
def Dev.handFix (d : Dev) (hand k : Nat) (yielded : Bool) : Dev :=
  (((d.put I.PART.HAND hand).put I.PART.H_FRAME (k + 4)).flag I.PART.H_YIELD yielded).put R.PART.HANDOVER_PEND 1

/-- The primary confirms a handover in the frame in progress. -/
def Dev.handConfirm (d : Dev) (yielded : Bool) : Dev :=
  (d.handFix 2 (d.get R.TB.FRAME_NO_LIVE) yielded).send (.takebackConfirm (d.get R.TB.FRAME_NO_LIVE) yielded)

/-- TAKEBACK_REQUEST (R419): the preferred standby requests takeback, at most once a second; a primary that receives the request
confirms it when the conditions hold on its side too. -/
def execTakebackRequest (s : State) : Host.Outcome State Fault Refusal :=
  s.onDev fun d =>
    let t := s.clk.ns
    let hold := d.get R.PART.TAKEBACK_HOLD
    if !d.strapped || d.get I.PART.HAND != 0 || !d.noInhibit then d
    else if d.mode = .mirror then
      if d.get R.PART.STRAP = 1 && hold != 0 && d.is R.PART.IN_SYNC && d.get I.PART.SYNC_NS + 1000000000 * hold ≤ t && d.is I.PART.BEAT_OK &&
          fitMode (d.get R.PART.PARTNER_MODE) (d.get I.PART.BEAT_REACT) && (d.get I.PART.TB_REQ_NS = 0 || d.get I.PART.TB_REQ_NS - 1 + 1000000000 ≤ t)
      then (d.put I.PART.TB_REQ_NS (t + 1)).send .takebackRequest else d
    else if d.is R.PART.PRIMARY && d.get R.PART.STRAP = 2 && d.is I.PART.BEAT_OK && d.is I.PART.BEAT_INSYNC && hold != 0 &&
        fitMode d.mode.code (d.get R.FLT.REACT_MAX) && !d.is R.REAM.SWAP_PEND then d.handConfirm false
    else d

/-- TAKEBACK_CONFIRM (R420): the primary's confirmation, sent in `frame`, arrives at the standby. -/
def execTakebackConfirm (frame : Word) (yielded : Bool) (s : State) : Host.Outcome State Fault Refusal :=
  s.onDev fun d => if d.mode != .mirror || d.get I.PART.HAND != 0 then d else d.handFix 1 frame.toNat yielded

/-- The write of PART_CTL.YIELD, once accepted, and its rejection (R419): it requests the same handover, which the primary makes under
the same conditions but for the straps and TAKEBACK_HOLD, and otherwise refuses. -/
def Dev.yieldFits (d : Dev) : Bool := d.noInhibit && d.get R.FLT.REACT_MAX < 5 && !d.is R.REAM.SWAP_PEND
def Dev.yieldGo (d : Dev) : Dev := if d.get I.PART.HAND != 0 || !d.yieldFits then d else d.handConfirm true
def Dev.yieldErrs (d : Dev) : List Err :=
  errIf (!(d.strapped && (d.mode = .run || d.mode = .degraded) && d.is I.PART.BEAT_OK && d.is I.PART.BEAT_READY)) (eMode d)

/-- The write of PART_CTL.LEAVE, once accepted, and its rejection (the table of the PART window, +0x000C). -/
def Dev.leaveGo (d : Dev) : Dev := d.put I.PART.LEAVE_DUE 1
def Dev.leaveErrs (d : Dev) : List Err := errIf (d.mode != .mirror) (eMode d)

/-! The rules of the mirror sheet and of the straps (R400, R418, R421). -/

/-- A section of a slot and the types an item of its kind names: 1 PI, 2 PR, 0 BIQUAD, 3 LEADLAG. -/
def Dev.secIs (d : Dev) (w : Nat) (tys : List Nat) : Bool :=
  let sl := d.slot (itemSlot w)
  itemSec w < sl.nsec && tys.contains (sl.types.getD (itemSec w) 9)

/-- The instance exists for the kind of the slot. -/
def Dev.instIs (d : Dev) (w : Nat) : Bool :=
  let i := itemIndex w
  match (d.slot (itemSlot w)).kind with
  | 1 => i = 0
  | 2 => i < 6 && d.strExists i
  | 3 => i < 144 && d.cellUsed i
  | 4 => i < 8 && bitOf (d.slot (itemSlot w)).hb i = 1
  | _ => false

/-- An item names nothing that the image provides. -/
def Dev.itemBad (d : Dev) (w : Nat) : Bool :=
  let i := itemIndex w
  let none_ : Bool := itemSlot w != 0 || itemSec w != 0
  2 < itemRate w || bitsOf w 31 22 != 0 ||
    !(match itemKind w with
      | 1 => d.instIs w && d.secIs w [secPI, secPR]
      | 2 => d.instIs w && d.secIs w [secPR]
      | 3 => d.instIs w && itemSec w < (d.slot (itemSlot w)).nsec && !d.secIs w [secPI, secPR]
      | 4 | 5 => d.instIs w && itemSec w = 0
      | 8 | 11 => !none_ && i < 144 && d.cellUsed i
      | 9 | 10 => !none_ && (i = 6 || (i < 6 && d.strExists i))
      | 13 => !none_ && i < 173
      | 6 | 7 | 12 | 14 => !none_ && i = 0
      | _ => false)

/-- The mirror bytes of 256 frames (R421). -/
def Dev.mirrorLoad (d : Dev) : Nat :=
  (List.range (d.get R.PART.ITEM_COUNT)).foldl (fun v i => let w := d.get I.PART.ITEM i; v + itemBytes (itemKind w) * (256 / rateDiv (itemRate w))) 0

/-- MIRROR_BYTES: the average per frame; the spec does not say how a fraction is rounded. -/
def Dev.mirrorBytes (d : Dev) : Nat := d.mirrorLoad / 256 + (if d.mirrorLoad % 256 != 0 && Config.mirrorRoundUp d.mirrorLoad then 1 else 0)

/-- What R400, R418 and R421 refuse. -/
def Dev.partRules (d : Dev) : List Err :=
  let n := d.get R.PART.ITEM_COUNT
  let ws := (List.range n).map (fun i => d.get I.PART.ITEM i)
  let keys := ws.map (fun w => w % 2 ^ 20)
  let strap := d.get R.PART.STRAP
  let pair := d.is R.FELT.PAIR
  let items : Bool := n = 0 || 1024 < n || ws.any d.itemBad || (ws.filter (fun w => itemKind w = 14)).length != 1 ||
    ws.any (fun w => itemKind w = 14 && itemRate w != 0) || decide (¬ keys.Nodup) || 15 * 2 * d.get R.TB.TF * 256 < 100 * d.mirrorLoad
  errIf (strap = 3 || pair != (strap != 0)) (eStruct 2) ++
    errIf (items || (pair && (d.get R.PART.HB_TIMEOUT * 2 * d.get R.TB.TF < 60000 || d.get R.FELT.CELL_LINK_TIMEOUT < d.get R.PART.HB_TIMEOUT + 2)))
      (eStruct 9)

end Sys2Proof.Machine
end

