-- ==== Sys2Proof/Machine/Timebase.lean ====
section
/-! DEFINITION. The timebase accumulator and the Deckle (03_clocks_timebase.md): advancing TB, the ideal grid, the length of each
frame, the start of the Deckle, and the status of the clock domains. -/
namespace Sys2Proof.Machine

/-! TB (R77, R78). -/

/-- TB in 2^-32 ns. -/
def Clock.acc (c : Clock) : Nat := c.ns * 2 ^ 32 + c.frac

/-- TB after n TB cycles at an increment in 2^-32 ns; CYC64 counts them while PLL_T is locked (R77, R496). -/
def Clock.run (c : Clock) (n : Nat) (inc : Int) : Clock :=
  let a := c.acc + n * inc.toNat
  ⟨a / 2 ^ 32, a % 2 ^ 32, c.sub, c.cyc + n⟩

/-- The increment in force. -/
def Dev.tbIncNow (d : Dev) : Int := tbInc (d.getInt I.TB.RATE_TAKEN)

/-- The TB cycles left of the frame in progress. -/
def State.cyclesLeft (s : State) : Nat := s.dev.get I.TB.LEN - s.clk.sub

/-- One TB cycle (R77): it counts in the frame while the Deckle runs, and CYC64 counts it while PLL_T is locked. In BACKUP, and
before PLL_T has locked, TB does not run. -/
def State.tick (s : State) : State :=
  if !s.dev.is R.TB.PLL_T_LOCK then s
  else
    let c := s.clk.run 1 s.dev.tbIncNow
    { s with clk := { c with sub := if s.dev.is R.TB.DECKLE_RUN then c.sub + 1 else c.sub } }

/-! The Deckle (R84 to R91, R411, R535). -/

/-- The Tf of the active Ream, or 25,000 tbc when none is active (R85). -/
def Dev.startTf (d : Dev) : Nat := if d.is I.TB.TF_REAM then d.get I.TB.TF_REAM else 25000

/-- TF_OVR (R87). -/
def Dev.deckleCtl (d : Dev) : Dev := d.flag R.TB.TF_OVR (d.is I.TB.TF_REAM && d.get R.TB.TF != d.get I.TB.TF_REAM)

/-- TB of the last boundary in 2^-32 ns. -/
def Dev.bndAcc (d : Dev) : Nat := d.get I.TB.BND_NS * 2 ^ 32 + d.get I.TB.BND_FRAC

/-- GRID_ERR (R88, R91): the last boundary less the nearest point of the ideal grid, in q; of two equally near points the earlier
one counts. -/
def Dev.gridErr (d : Dev) : Int :=
  if !d.is R.TB.ALIGN_EN then 0
  else
    let p : Int := 8 * d.get R.TB.TF
    let e := ((d.bndAcc / 2 ^ 30 : Nat) - 4 * d.getInt I.NET.REF_NS) % p
    if 2 * e ≤ p then e else e - p

/-- The tbc from the last boundary to the first ideal grid point at least Tf / 2 after it (R89). -/
def Dev.gridLen (d : Dev) : Nat :=
  let p : Int := d.get R.TB.TF * 2 ^ 33
  let ref : Int := d.getInt I.NET.REF_NS * 2 ^ 32
  let x : Int := d.bndAcc
  let need := x + d.get R.TB.TF * 2 ^ 32
  let g := ref + (need - ref + p - 1) / p * p
  ((g - x + d.tbIncNow - 1) / d.tbIncNow).toNat

/-- The modes in which R88 corrects the grid and R535 fixes lengths ahead. -/
def Dev.frameSync (d : Dev) : Bool := d.inMode [.precharge, .sync, .run, .degraded, .rideThrough, .stopping]

/-- The tbc by which the frame after the next is shortened, from the projected error in q (R88). -/
def slewTbc (slew : Nat) (proj : Int) : Int :=
  let k : Int := if slew = 0 then 0 else if 8 * slew ≤ proj.natAbs then slew else ((proj.natAbs + 3) / 8 : Nat)
  if proj < 0 then -k else k

/-- The boundary at which TB is `c` ends the frame in progress: its instant, the rate taken there, TF_LAST and GRID_ERR (R79, R88,
R90). TF_LAST holds the Tf with which the Deckle starts at its first boundary. -/
def Dev.deckleLatch (d : Dev) (c : Clock) : Dev :=
  let last := if d.is I.TB.FIRST then d.startTf else d.get I.TB.LEN
  let d1 := ((d.put I.TB.BND_NS c.ns).put I.TB.BND_FRAC c.frac).put I.TB.RATE_TAKEN (d.get R.TB.TB_RATE)
  let d2 := d1.put R.TB.TF_LAST (min last (2 ^ 18 - 1))
  d2.putInt R.TB.GRID_ERR d2.gridErr

/-- FRAME_NO of the frame that begins (R84): 0 for the first after the Deckle started, and the primary's number where a standby
takes it (R411). -/
def Dev.deckleNumber (d : Dev) : Dev :=
  let n := if d.is I.TB.NO_NEXT then d.get I.TB.NO_NEXT - 1 else if d.is I.TB.STARTED then d.get R.TB.FRAME_NO_LIVE + 1 else 0
  (((d.put R.TB.FRAME_NO_LIVE n).put I.TB.STARTED 1).put I.TB.FIRST 0).put I.TB.NO_NEXT 0

/-- The lengths that the boundary decides (R85, R87 to R89, R411, R535): of the frame that begins, and, in the frame-synchronous
modes, of the one after it. After an activation the frame that begins keeps the Tf before it. -/
def Dev.deckleFix (d : Dev) : Dev :=
  let tf := d.get R.TB.TF
  if d.is I.TB.TF_PEND then ((d.put I.TB.LEN (d.get I.TB.NEXT_LEN)).put I.TB.NEXT_LEN 0).put I.TB.TF_PEND 0
  else if d.mode = .mirror then (d.put I.TB.LEN ((tf : Int) + d.mirrorTrim).toNat).put I.TB.NEXT_LEN 0
  else if d.frameSync then
    let len := if d.is I.TB.NEXT_LEN then d.get I.TB.NEXT_LEN else tf
    let proj := d.getInt R.TB.GRID_ERR + 8 * ((len : Int) - tf)
    let cut := if d.is R.TB.ALIGN_EN then slewTbc (d.get R.TB.ALIGN_SLEW) proj else 0
    (d.put I.TB.LEN len).put I.TB.NEXT_LEN ((tf : Int) - cut).toNat
  else if d.is R.TB.ALIGN_EN then
    let n := d.gridLen
    ((d.put I.TB.LEN n).put I.TB.NEXT_LEN 0).bump R.TB.DECKLE_IRREG 0 (if n = tf then 0 else 1)
  else (d.put I.TB.LEN tf).put I.TB.NEXT_LEN 0

/-- The Deckle starts at TB `c`, with its first boundary one tbc later, and with the Tf of the active Ream (R85, R94). -/
def Dev.deckleStart (d : Dev) (c : Clock) : Dev :=
  let d1 := (((d.put R.TB.DECKLE_RUN 1).put I.TB.FIRST 1).put I.TB.LEN 1).put I.TB.NEXT_LEN 0
  (((d1.put I.TB.BND_NS c.ns).put I.TB.BND_FRAC c.frac).put R.TB.TF d.startTf).deckleCtl

/-- PLL_T is locked, and the Deckle does not run yet. -/
def Dev.mayStart (d : Dev) : Bool := d.is R.TB.PLL_T_LOCK && !d.is R.TB.DECKLE_RUN && d.mode != .backup && !d.is I.MODE.IN_RESET

/-- The Deckle started where it may be. -/
def State.startDeckle (s : State) : State :=
  if s.dev.mayStart then { s with clk := { s.clk with sub := 0 }, dev := s.dev.deckleStart s.clk } else s

/-- DECKLE_START (R85). -/
def execDeckleStart (s : State) : Host.Outcome State Fault Refusal := .next s.startDeckle

/-! Clock domains (R73, R92). -/

/-- DOMAIN_OK: one bit a domain in the row order of R73. -/
def Dev.clkStat (d : Dev) : Dev :=
  let t := d.is R.TB.PLL_T_LOCK
  let n := d.is R.TB.PLL_N_LOCK
  let p := d.is R.TB.PLL_S_LOCK
  let safe := !d.active.any (fun a => a.cls = 0 && a.inst = 7 && a.held)
  let bits := [d.is R.TB.ROOT_OK, t, t, t, t, t, t, n, n, p, p, p, d.is I.TB.KA_TRUST, safe]
  d.put R.TB.DOMAIN_OK (bits.foldr (fun b v => b.toNat + 2 * v) 0)

end Sys2Proof.Machine
end

