-- ==== Sys2Proof/Machine/Mode.lean ====
section
/-! DEFINITION. The mode controller (05_modes_startup.md): what a mode entry does, the transitions of R135 in the order of R136, mode
requests, the precharge phases, takeover and handover, and the limit commands. -/
namespace Sys2Proof.Machine

/-! Entering a mode. -/

/-- What waits for a transition of the mode in force. -/
def dueFlds : List Fld :=
  [I.MODE.DUE_SYNC, I.MODE.DUE_SYNC_EXIT, I.MODE.DUE_RT_EXIT, I.MODE.DUE_RAMP, I.MODE.DUE_LIMIT, I.MODE.DUE_STOP,
    I.MODE.DUE_STOP_TS, I.MODE.DUE_SAFE, I.MODE.DUE_SAFE_TS, I.MODE.SYNC_RUN, I.MODE.RT_RUN, I.MODE.TEST_BLOCK]

/-- The MODE window at a transition (R139): causes are 0 power-up, 1 host request, 2 sequence complete, 3 reaction, 4 time limit,
5 thermal, 6 partner, 7 grid monitor. -/
def Dev.modeSet (d : Dev) (m : Mode) (cause : Nat) : Dev :=
  let d1 := dueFlds.foldl (fun d f => d.put f 0) d
  let d2 := (((d1.put R.MODE.PREV (d.get R.MODE.STATE)).put R.MODE.STATE m.code).put R.MODE.ENTRY_CAUSE cause).put R.MODE.MODE_FRAMES 1
  (((d2.bump R.MODE.TRANS_CNT).put R.MODE.RET_MODE 0).put R.MODE.PRE_PHASE 0).sumAll R.HIF.SUM_MODE

/-- OWN_EPOCH of a strapped module on entering PRECHARGE or TEST (R407): by R179, and higher than the partner's. -/
def Dev.pairEpoch (d : Dev) : Dev :=
  if !d.strapped then d
  else
    let m := d.topEcho ((List.range 144).filter d.cellUsed)
    let own := if m = 0 then 1 else nextEpoch m
    let p := d.get R.PART.PARTNER_EPOCH
    d.put R.FELT.OWN_EPOCH (if p = 0 || higher own p then own else nextEpoch p)

/-- Entry to or exit from TEST restarts the SIG_OK pulse (R374). -/
def Dev.sigTest (d : Dev) : Dev :=
  let st := d.get R.FLT.SIGOK_STATE
  if st = sigHold || st = sigAlive then (d.put R.FLT.ALIVE 0).sigPulseStart else d

/-- Plausibility supervision is suppressed for PLAUS_WARMUP frames (R153). -/
def Dev.warmStart (d : Dev) : Dev := (d.put I.MODE.WARM_LEFT (d.get R.CE.PLAUS_WARMUP)).flag R.MODE.PLAUS_WARM (d.is R.CE.PLAUS_WARMUP)

/-- The action of R135 on entering a mode. -/
def Dev.entryAction (d : Dev) (t : Nat) (old m : Mode) : Dev :=
  match m with
  | .test => (d.pairEpoch).sigTest
  | .precharge => (((d.pairEpoch.calFresh).warmStart).put I.CE.FRESH 1).put R.MODE.PRE_PHASE 1
  | .sync => d.carrierZero
  | .rideThrough => d.put R.MODE.RET_MODE old.code
  | .stopping => d.freqRecord t
  | .idle => if old = .stopping then d.teaselIdle t else if old = .safe then d.sigRecover.tripEnd else d
  | .safe => if d.is I.FLT.TRIP_ON then d else d.tripIssue t 0
  | .mirror => d.mirrorEnter
  | _ => d

/-- A transition at TB ns t. -/
def Dev.enterMode (d : Dev) (t : Nat) (m : Mode) (cause : Nat) : Dev :=
  let old := d.mode
  let d1 := ((d.modeSet m cause).entryAction t old m).onlyIf (old = .test && m != .test) (fun d => d.sigTest)
  (d1.partStatus t).safePermits

/-! Mode requests (R138, R139, R148, R152, R180, R407, R409, R431). -/

/-- A linked cell: mapped, on a link that posts. -/
def Dev.linked (d : Dev) : List Nat := (List.range 144).filter (fun c => d.cellUsed c && d.linkUp c)

/-- Every linked cell reports a capacitor voltage below TEST_VMAX (R148). -/
def Dev.testSafe (d : Dev) : Bool := d.linked.all (fun c => d.is I.CELL.EVER c && d.vcap c < 20 * d.get R.MODE.TEST_VMAX)

/-- The partner conditions of a request for MIRROR (R409), its image apart. -/
def Dev.mirrorOk (d : Dev) : Bool :=
  d.strapped && d.get I.PART.BEAT_STRAP != d.get R.PART.STRAP && d.is R.PART.WIRE_OK && d.is R.PART.PL_OK && d.is I.PART.BEAT_OK &&
    d.get R.PART.PARTNER_MODE != Mode.boot.code && d.get R.PART.PARTNER_MODE != Mode.mirror.code && d.get I.PART.BEAT_MAJOR = d.get R.HIF.MAJOR

/-- The request changes nothing: its mode is in force, or RUN is on its way (R138). -/
def Dev.reqHolds (d : Dev) (target : Nat) : Bool :=
  target = d.mode.code || (target = Mode.run.code && d.inMode [.precharge, .sync, .degraded])

/-- The table of R135 allows the target from the mode in force. -/
def Dev.reqAllowed (d : Dev) (target : Nat) : Bool :=
  d.reqHolds target ||
    match Mode.ofCode target with
    | .idle => d.mode = .test || d.mode = .safe
    | .test => d.mode = .idle && d.testSafe && d.get R.THERM.THR_ACT = 0
    | .mirror => d.mode = .idle && d.mirrorOk
    | .run => d.mode = .idle && d.get R.THERM.THR_ACT = 0
    | .stopping => d.inMode [.precharge, .sync, .run, .degraded, .rideThrough]
    | .safe => d.inMode [.boot, .idle, .test, .precharge, .sync, .run, .degraded, .rideThrough, .stopping]
    | _ => false

/-- A channel demands a safe state, the demand of R540 left aside. -/
def Dev.demandNow (d : Dev) : Bool := d.anyDemand || (d.ream.active.isSome && (List.range 4).any (fun k => d.demanded (k / 2) (k % 2)))

/-- The safety outputs' feedback confirms the de-energised state (R152): no contact waits, none has a latched fault, and every used
contact reads its contactor open. -/
def Dev.feedbackOff (d : Dev) : Bool :=
  (List.range 8).all (fun k => bitOf (d.fbCfg (k / 4) (k % 4)) 0 = 0 ||
    (!d.is I.SAFE.FB_WAIT k && !d.is I.SAFE.FBL k && !d.contactorClosed (k / 4) (k % 4)))

/-- The rejections of a mode request (R138); `pf1` says that PF1 made it. -/
def Dev.modeErrs (d : Dev) (pf1 : Bool) (target : Nat) : List Err :=
  let run := target = Mode.run.code
  let test := target = Mode.test.code
  let known : Bool := [2, 3, 4, 7, 10, 11].contains target
  let other := !d.reqHolds target
  errIf (pf1 && target != 10 && target != 11) (ePriv 1) ++ errIf (target = 0) eZero ++ errIf (target != 0 && !known) eRange ++
    errIf (known && !d.reqAllowed target) (eMode d) ++
    errIf (known && target != 2 && d.ream.active.isNone) (eStruct 0xFF) ++
    errIf (other && (run || target = 4) && d.is R.TB.TF_OVR) (eStruct 1) ++
    errIf (other && target = 4 && d.get I.PART.BEAT_DIGEST != d.ownDigest) (eStruct 0xFE) ++
    errIf (run && d.mode = .idle && d.reactAtLeast 5) (eLocked 2) ++
    errIf (other && (run || test) && ((d.is R.FELT.SUPERSEDED && !d.strapped) || (d.strapped && d.is I.PART.BEAT_OK && d.is R.PART.PARTNER_PRIMARY)))
      (eLocked 1) ++
    errIf ((run || test) && d.demandNow) (eLocked 0) ++
    errIf (target = 2 && d.mode = .safe && d.reactAtLeast 6) (eLocked 2) ++
    errIf (target = 2 && d.mode = .safe && !d.reactAtLeast 6 && (d.demandNow || !d.feedbackOff)) (eLocked 0)

/-- The outcome of a request (R139). -/
def Dev.reqOutcome (d : Dev) (e : Option Err) : Dev :=
  match e with
  | none => (d.put R.MODE.REQ_CODE 0).put R.MODE.REQ_DETAIL 0
  | some e => (d.put R.MODE.REQ_CODE e.code).put R.MODE.REQ_DETAIL e.detail

/-- A validated request waits for step 3 of the next boundary; 0 stands for none. -/
def Dev.reqTake (d : Dev) (target : Nat) : Dev := d.put I.MODE.REQ_PEND target

/-! The precharge phases (R149). -/

/-- The first n of a list of slots by falling capacitor voltage, the lower position before a higher one of the same voltage. -/
def Dev.highest (d : Dev) (n : Nat) (l : List Nat) : List Nat := (sortBy (fun c => 65535 - d.vcap c) l).take n

/-- The cell phase is complete for string s. -/
def Dev.cellsReady (d : Dev) (s : Nat) : Bool :=
  let park := (d.strSlots s).filter (fun c => d.role c = rolePark)
  let n := d.get R.MOD.STR_NEEDED s
  let vs := (d.highest n park).map d.vcap
  let nom := d.get R.MOD.STR_VCELL_NOM s
  let lo := vs.foldl min 65535
  n ≤ park.length && vs.all (fun v => d.get R.MODE.PRE_CELL_MIN * nom ≤ 1000 * v) && 1000 * (maxOf vs - lo) ≤ d.get R.MODE.PRE_SPREAD * nom

/-- The bus has reached PRE_LV_MIN of nominal; both products are exact in binary64. -/
def Dev.busReady (d : Dev) : Bool :=
  b64.le (b64.mul (b64.ofInt (d.get R.MODE.PRE_LV_MIN)) (b32.cvt b64 (d.get R.CE.LV_VBUS_NOM))) (b64.mul (b64.ofInt 1000) (b32.cvt b64 (d.get R.CE.LV_VBUS)))

/-- The LV phase judged on what the frame in progress has delivered. -/
def Dev.precharge (d : Dev) : Dev :=
  if d.mode = .precharge && d.get R.MODE.PRE_PHASE = 2 then d.flag I.MODE.DUE_SYNC d.busReady else d

/-- The end of the cell phase, judged at a boundary on what the cells reported in the frame that ends (R30, R149). DEDUCED. -/
def Dev.cellPhase (d : Dev) : Dev :=
  if d.mode = .precharge && d.get R.MODE.PRE_PHASE = 1 && d.strings.all d.cellsReady then d.put R.MODE.PRE_PHASE 2 else d

/-! Partner transitions (R406 to R408, R417, R420). -/

/-- The mode, the counts and the numbers that a new primary continues (R67, R417), at step 3 of a boundary. -/
def Dev.becomePrimary (d : Dev) : Dev :=
  let f := d.get R.TB.FRAME_NO_LIVE
  let ago := (f + 2 ^ 32 - d.get I.PART.M_FRAME) % 2 ^ 32
  let frames := min (d.get I.PART.M_MODEFRAMES + ago) (2 ^ 32 - 1)
  let d1 := d.modeSet (Mode.ofCode (d.get R.PART.PARTNER_MODE)) 6
  let d2 := (d1.put R.MODE.MODE_FRAMES frames).put I.SNAP.SEQ (d.get I.PART.M_SNAPSEQ + ago)
  let d3 := d2.onlyIf (d2.mode = .rideThrough) (fun d => d.put R.MODE.RET_MODE (if d.anyFence then Mode.degraded.code else Mode.run.code))
  let d4 := ((d3.put R.PART.LAST_ROLE_FRAME f).put I.FELT.STOPPED 0).put R.FELT.SUPERSEDED 0
  (((d4.put R.PART.IN_SYNC 0).put I.PART.SYNC_LIVE 0).put I.PART.TAKEOVER_DUE 0).put I.PART.LEAVE_DUE 0

/-- The mirrored reactions stay in force (R414), as instances 80 + u of the partner class, and recover under R364. -/
def Dev.holdMirrored (d : Dev) (t : Nat) : Dev :=
  (d.forN 173 (fun d u =>
    let r := d.get I.PART.MU_REACT u
    if r < 2 then d
    else
      let k := if r = 4 then max 1 (Config.mirrorDerate d.draws % 256) else 0
      ((d.setActive (d.active ++ [⟨11, 80 + u, 0, r, k, [u], 0, true, false, none, false, false, false⟩])).reactNow t r).draw)).fltStatus

/-- Every ring that relays moves to a state (R417, R420). -/
def Dev.relayTo (d : Dev) (st : Nat) : Dev :=
  d.forN 6 (fun d r => if d.get R.FELT.RING_STATE r = ringRelay && d.is I.FELT.RING_EN r then d.ringTo r st else d)

/-- The takeover (R417). -/
def Dev.takeover (d : Dev) (t : Nat) : Dev :=
  let d1 := (((d.becomePrimary).put R.FELT.OWN_EPOCH (nextEpoch (d.get R.PART.PARTNER_EPOCH))).relayTo ringSingle).holdMirrored t
  let d2 := (((d1.put I.CE.OVR_QUIET 2).put R.PART.LV_WAIT 1).put I.PART.LVW_FRAMES 0).put I.PART.TO_WAIT 1
  ((d2.bump R.PART.TAKEOVER_CNT).partStatus t).safePermits

/-- The module that takes at H (R420): its epoch is already the one of frame H−1. -/
def Dev.handTake (d : Dev) (t : Nat) : Dev :=
  let d1 := (((d.becomePrimary.relayTo ringReady).holdMirrored t).put I.PART.HAND 0).put R.PART.HANDOVER_PEND 0
  (((d1.bump R.PART.HANDOVER_CNT).partStatus t).raise t 11 5 (d.get I.PART.H_YIELD)).safePermits

/-- The module that yields at H (R420): MIRROR with the new epoch, every ring relayed; what waits in the stage is rejected (R68).
The Decks are aligned already. -/
def Dev.handYield (d : Dev) (t : Nat) : Dev :=
  let d1 := (((d.modeSet .mirror 6).mirrorEnter).put I.TB.ALIGN_NOW 0).put R.FELT.OWN_EPOCH (nextEpoch (d.get R.FELT.OWN_EPOCH))
  let d2 := d1.forN 6 (fun d r => if d.get R.FELT.RING_STATE r = ringDown then d else d.ringTo r ringRelay)
  let d3 := (((d2.put I.PART.HAND 0).put R.PART.HANDOVER_PEND 0).put I.PART.REJ_SETS 1).put R.PART.LAST_ROLE_FRAME (d.get R.TB.FRAME_NO_LIVE)
  ((d3.bump R.PART.HANDOVER_CNT).partStatus t).safePermits

/-- A superseded module in a pair (R408): IDLE, with its rings in RELAY; its waiting sets are rejected (R68). -/
def Dev.yieldIdle (d : Dev) (t : Nat) : Dev :=
  let d1 := (((d.put I.PART.YIELD_DUE 0).put I.FELT.STOPPED 0).put R.FELT.SUPERSEDED 0).put I.PART.REJ_SETS 1
  (d1.enterMode t .idle 6).put R.PART.LAST_ROLE_FRAME (d.get R.TB.FRAME_NO_LIVE)

/-- MIRROR left for IDLE (R406, R410). -/
def Dev.leaveMirror (d : Dev) (t : Nat) : Dev :=
  let d1 := ((((d.put I.PART.LEAVE_DUE 0).put I.PART.TAKEOVER_DUE 0).put R.PART.IN_SYNC 0).put I.PART.SYNC_LIVE 0).put I.TB.ALIGN_NOW 0
  { d1.enterMode t .idle 6 with mirrorIn := none, forwards := [] }

/-! Step 3 of a boundary (R134 to R137). -/

/-- A transition that is due. -/
inductive Move
  | to (m : Mode) (cause : Nat)
  | takeover
  | handTake
  | handYield
  | yieldIdle
  | leave
  deriving DecidableEq, Repr

/-- The first of a list of conditions that holds. -/
def firstDue : List (Bool × Move) → Option Move
  | [] => none
  | (c, m) :: l => if c then some m else firstDue l

/-- A string has fewer usable cells than it needs (R135, R219). -/
def Dev.shortString (d : Dev) : Bool :=
  d.inMode [.sync, .run, .degraded, .rideThrough] && d.strings.any (fun s => d.get R.MOD.STR_USABLE s < d.get R.MOD.STR_NEEDED s)

/-- The frame that begins is that of the handover boundary. -/
def Dev.atHandover (d : Dev) (hand : Nat) : Bool := d.get I.PART.HAND = hand && d.get R.TB.FRAME_NO_LIVE = d.get I.PART.H_FRAME

/-- RUN, or DEGRADED when a fence is in force. -/
def Dev.runMode (d : Dev) : Mode := if d.anyFence then .degraded else .run

/-- The automatic transitions due, in the order of R136; a handover that was confirmed gives way to SAFE alone. -/
def Dev.autoDue (d : Dev) : List (Bool × Move) :=
  let start := d.inMode [.precharge, .sync, .run, .degraded, .rideThrough]
  let powered := start || d.inMode [.boot, .idle, .test, .stopping]
  [ (powered && (d.reactAtLeast 7 || d.is I.MODE.DUE_SAFE || d.anyDemand), .to .safe 3),
    (powered && d.is I.MODE.DUE_SAFE_TS, .to .safe 5),
    (d.mode = .stopping && d.is I.MODE.DUE_LIMIT, .to .safe 4),
    (d.mode = .mirror && d.atHandover 1, .handTake),
    (d.mode != .mirror && d.atHandover 2, .handYield),
    (start && (d.reactAtLeast 5 || d.is I.MODE.DUE_STOP), .to .stopping 3),
    (start && d.is I.MODE.DUE_STOP_TS, .to .stopping 5),
    (start && d.is I.MODE.DUE_LIMIT, .to .stopping 4),
    (d.shortString, .to .stopping 3) ]

/-- The automatic transitions below a request for STOPPING. -/
def Dev.autoLow (d : Dev) : List (Bool × Move) :=
  let grid : Bool := d.is R.CE.GRID_FAULT
  [ (d.inMode [.run, .degraded] && grid, .to .rideThrough 7),
    (d.mode = .run && d.anyFence, .to .degraded 3),
    (d.mode = .degraded && !d.anyFence, .to .run 3),
    (d.mode = .boot && d.is I.MODE.BOOT_DONE, .to .idle 2),
    (d.mode = .mirror && d.is I.PART.TAKEOVER_DUE, .takeover),
    (d.mode = .mirror && d.is I.PART.LEAVE_DUE, .leave),
    (d.is I.PART.YIELD_DUE && !d.inMode [.boot, .mirror], .yieldIdle),
    (d.is I.FELT.IDLE_DUE && !d.inMode [.boot, .idle], .to .idle 3),
    (d.mode = .precharge && d.is I.MODE.DUE_SYNC, .to .sync 2),
    (d.mode = .sync && (d.is I.MODE.DUE_SYNC_EXIT || (d.is R.MODE.SYNC_HOLD && d.get R.MODE.SYNC_HOLD ≤ d.get I.MODE.SYNC_RUN)), .to d.runMode 2),
    (d.mode = .rideThrough && (d.is I.MODE.DUE_RT_EXIT || (d.is R.MODE.RT_RECOVER && d.get R.MODE.RT_RECOVER ≤ d.get I.MODE.RT_RUN)), .to d.runMode 7),
    (d.mode = .test && d.reactAtLeast 5, .to .idle 3),
    (d.mode = .stopping && (d.is I.MODE.DUE_RAMP || 10 ≤ d.get I.MODE.RAMP_RUN), .to .idle 2) ]

/-- The transition that a request that is still allowed asks for. -/
def Dev.reqMove (target : Nat) : Move := if target = Mode.run.code then .to .precharge 1 else .to (Mode.ofCode target) 1

/-- The transition taken, and whether it is the request's. -/
def Dev.nextMove (d : Dev) (target : Nat) (ok : Bool) : Option (Move × Bool) :=
  let req (l : List Nat) : List (Bool × Move × Bool) := [(ok && l.contains target, Dev.reqMove target, true)]
  let auto (l : List (Bool × Move)) : List (Bool × Move × Bool) := l.map (fun p => (p.1, p.2, false))
  let all := auto (d.autoDue.take 3) ++ req [11] ++ auto (d.autoDue.drop 3) ++ req [10] ++ auto d.autoLow ++ req [2, 3, 4, 7]
  (all.find? (fun p => p.1)).map (fun p => p.2)

/-- Take a transition. -/
def Dev.takeMove (d : Dev) (t : Nat) (m : Move) : Dev :=
  match m with
  | .to m cause => (d.enterMode t m cause).onlyIf (m = .idle) (fun d => d.put I.FELT.IDLE_DUE 0)
  | .takeover => d.takeover t
  | .handTake => d.handTake t
  | .handYield => d.handYield t
  | .yieldIdle => d.yieldIdle t
  | .leave => d.leaveMirror t

/-- What a boundary without a transition counts: MODE_FRAMES, and the return mode of RIDE_THROUGH under its fences (R151). -/
def Dev.modeStays (d : Dev) : Dev :=
  (d.bump R.MODE.MODE_FRAMES).onlyIf (d.mode = .rideThrough) (fun d => d.put R.MODE.RET_MODE d.runMode.code)

/-- The frames of PLAUS_WARMUP left (R153). -/
def Dev.warmCount (d : Dev) : Dev :=
  let n := d.get I.MODE.WARM_LEFT - 1
  (d.put I.MODE.WARM_LEFT n).flag R.MODE.PLAUS_WARM (n != 0)

/-- The LV port's wait after a takeover (R417): it ends at the first boundary after a whole frame with every gate monitor off. -/
def Dev.lvWait (d : Dev) (t : Nat) : Dev :=
  let on := (List.range 16).any (fun ch => d.gateOn ch)
  let d1 := d.flag I.LVD.GM_SEEN on
  if !d.is R.PART.LV_WAIT then d1
  else if d.is I.LVD.GM_SEEN then d1.bump I.PART.LVW_FRAMES
  else
    let n := d.get I.PART.LVW_FRAMES
    let d2 := d1.put R.PART.LV_WAIT 0
    if n = 0 then d2 else d2.raise t 11 13 n

/-- Step 3 of the boundary at TB ns t: the waiting request is judged again, one transition is taken, and the outcome is recorded. -/
def Dev.stepThree (d : Dev) (t : Nat) : Dev :=
  let d0 := (d.warmCount.lvWait t).onlyIf (d.is I.PART.TAKEOVER_DUE || d.is I.PART.TO_WAIT) (fun d => d.bump I.PART.TO_BND)
  let d0 := if d0.shortString then d0.raiseState t 3 5 0 else d0
  let target := d0.get I.MODE.REQ_PEND
  let err := if target = 0 then none else firstErr (d0.modeErrs false target)
  let ok : Bool := target != 0 && err.isNone && !d0.reqHolds target
  let d1 := (d0.put I.MODE.REQ_PEND 0).cellPhase
  let move := d1.nextMove target ok
  let d2 := match move with
    | some (m, _) => d1.takeMove t m
    | none => d1.modeStays
  let d3 :=
    if target = 0 then d2
    else
      match err, move with
      | some e, _ => d2.reqOutcome (some e)
      | none, some (_, true) => d2.reqOutcome none
      | none, _ => if d2.reqHolds target then d2.reqOutcome none else d2.reqOutcome (some (eMode d2))
  d3.safePermits

/-! Time limits (R133, R149, R151, R154). -/

/-- A limit of the mode in force is reached: its instance, and the transition at the next boundary. -/
def Dev.modeLimit (d : Dev) (t : Nat) (m : Mode) (inst : Nat) : Dev :=
  if d.mode = m && !d.is I.MODE.DUE_LIMIT then ((d.put I.MODE.DUE_LIMIT 1).raise t 3 inst 0).settle t else d

/-- PRECHARGE_LIMIT (R154): 30 s in PRECHARGE. -/
def execPrechargeLimit (s : State) : Host.Outcome State Fault Refusal := s.onDev fun d => d.modeLimit s.clk.ns .precharge 0

/-- SYNC_LIMIT (R154): 10 s in SYNC. -/
def execSyncLimit (s : State) : Host.Outcome State Fault Refusal := s.onDev fun d => d.modeLimit s.clk.ns .sync 1

/-- RT_MAX_EXPIRY (R154). -/
def execRtMaxExpiry (s : State) : Host.Outcome State Fault Refusal := s.onDev fun d => d.modeLimit s.clk.ns .rideThrough 3

/-- STOP_MAX_EXPIRY (R154). -/
def execStopMaxExpiry (s : State) : Host.Outcome State Fault Refusal := s.onDev fun d => d.modeLimit s.clk.ns .stopping 2

end Sys2Proof.Machine
end

