-- ==== Sys2Proof/Machine/SafetyChan.lean ====
section
/-! DEFINITION. The commands of the safety channels (14_safety_channels.md): inputs, discrepancies, feedback contacts, readback,
cross-check, Yarrow's supply and parameters, Sorrel's self-test. -/
namespace Sys2Proof.Machine

/-- A discrepancy fault of a pair in a channel (R388); Sorrel's counts only where Yarrow has missed it. -/
def Dev.discrepancy (d : Dev) (t ch i : Nat) : Dev :=
  let k := 4 * ch + i
  let count : Bool := ch = 0 || !d.is I.SAFE.LATCH i
  let d1 := (d.put I.SAFE.LATCH 1 k).put I.SAFE.ARM 0 k
  if count then (d1.bump R.SAFE.PAIR_DISC_CNT i).raise t 10 (4 + i) (d.get I.SAFE.DIS_FIRST k) true else d1

/-- A disagreement of n SAFE cycles has ended (R388): a near miss of Yarrow's below the discrepancy time. -/
def Dev.disagreeEnd (d : Dev) (t ch i n : Nat) : Dev :=
  let d1 := d.put I.SAFE.DIS_ON 0 (4 * ch + i)
  if ch = 1 then d1
  else
    let d2 := d1.put R.SAFE.PAIR_LAST_DISAG n i
    if n < d.discN ch i then (d2.bump R.SAFE.PAIR_NEAR_CNT i).raise t 10 (8 + i) (min (n / 16000) 255) else d2

/-- New filtered levels of a pair in a channel (R387, R388); n is the length in SAFE cycles of a disagreement that ends. -/
def Dev.pairChange (d : Dev) (t ch i : Nat) (a b : Bool) (n : Nat) : Dev :=
  let k := 4 * ch + i
  let a0 := d.pairIn ch i 0
  let b0 := d.pairIn ch i 1
  let was : Bool := d.pairDemand 0 i || d.pairDemand 1 i
  let d1 := (d.flag I.SAFE.IN a (2 * k)).flag I.SAFE.IN b (2 * k + 1)
  let started : Bool := a0 = b0 && a != b
  let ended : Bool := a0 != b0 && a = b
  let d2 := d1.onlyIf started (fun d => (d.put I.SAFE.DIS_ON 1 k).put I.SAFE.DIS_FIRST (if a != a0 then 1 else 2) k)
  let late : Bool := ended && d.discN ch i ≤ n && d.is I.SAFE.DIS_ON k
  let d3 := d2.onlyIf late (fun d => d.discrepancy t ch i)
  let d4 := d3.onlyIf ended (fun d => d.disagreeEnd t ch i n)
  let d5 := d4.onlyIf (a && b) (fun d => d.put I.SAFE.ARM 1 k)
  let clears : Bool := !a && !b && d.is I.SAFE.LATCH k && d.is I.SAFE.ARM k && !late
  let d6 := d5.onlyIf clears (fun d => (d.put I.SAFE.LATCH 0 k).put I.SAFE.ARM 0 k)
  if (a || b) && !was then d6.raise t 10 i (if a && b then 3 else if a then 1 else 2) else d6

/-- SAFETY_INPUT_FILTERED (R387, R388): the filtered levels of a used pair after this evaluation of a channel; true is the demand
level. -/
def execSafetyInputFiltered (ch : Channel) (pair : Fin 4) (a b : Bool) (dis : BitVec 32) (s : State) : Host.Outcome State Fault Refusal :=
  s.onDev fun d => if d.pairUsed (chanIx ch) pair then (d.pairChange s.clk.ns (chanIx ch) pair a b dis.toNat).settle s.clk.ns else d

/-- DISCREPANCY_FAULT (R388): a running disagreement reaches N cycles. -/
def execDiscrepancyFault (ch : Channel) (pair : Fin 4) (s : State) : Host.Outcome State Fault Refusal :=
  s.onDev fun d =>
    let k := 4 * chanIx ch + pair
    if d.is I.SAFE.DIS_ON k && d.pairUsed (chanIx ch) pair then ((d.discrepancy s.clk.ns (chanIx ch) pair).put I.SAFE.DIS_ON 0 k).settle s.clk.ns else d

/-- A channel latches a feedback fault (R390). -/
def Dev.feedbackFault (d : Dev) (t ch f detail : Nat) : Dev :=
  ((((d.put I.SAFE.FBL 1 (4 * ch + f)).put I.SAFE.FB_WAIT 0 (4 * ch + f)).bump R.SAFE.FB_FLT_CNT f).raise t 10 (12 + f) detail true).settle t

/-- FEEDBACK_TIMEOUT (R390): a contact under supervision has not confirmed within FB_TIMEOUT. -/
def execFeedbackTimeout (ch : Channel) (fb : Fin 4) (s : State) : Host.Outcome State Fault Refusal :=
  s.onDev fun d =>
    let c := chanIx ch
    if d.is I.SAFE.FB_WAIT (4 * c + fb) then
      d.feedbackFault s.clk.ns c fb (d.is I.SAFE.CS (2 * c + bitOf (d.fbCfg c fb) 1)).toNat
    else d

/-- FEEDBACK_CHANGE (R390): a contact changes while its command is unchanged. -/
def execFeedbackChange (ch : Channel) (fb : Fin 4) (closed : Bool) (s : State) : Host.Outcome State Fault Refusal :=
  s.onDev fun d =>
    let c := chanIx ch
    let d1 := d.setBitOf R.SAFE.FB_LEVEL fb closed
    if bitOf (d.fbCfg c fb) 0 = 1 && !d.is I.SAFE.FB_WAIT (4 * c + fb) then d1.feedbackFault s.clk.ns c fb 2 else d1

/-- FEEDBACK_CONFIRMED (R390): the contact takes the commanded state within FB_TIMEOUT. -/
def execFeedbackConfirmed (ch : Channel) (fb : Fin 4) (s : State) : Host.Outcome State Fault Refusal :=
  s.onDev fun d =>
    let c := chanIx ch
    let k := 4 * c + fb
    if d.is I.SAFE.FB_WAIT k then
      let cs := d.is I.SAFE.CS (2 * c + bitOf (d.fbCfg c fb) 1)
      ((d.setBitOf R.SAFE.FB_LEVEL fb (cs != (bitOf (d.fbCfg c fb) 2 = 1))).put I.SAFE.FB_WAIT 0 k).put R.SAFE.FB_CONF_T
        (min ((s.clk.ns - d.get I.SAFE.FB_T0 k) / 1000000) 65535) fb
    else d

/-- A write of SF_FB_CLR names a used contact that disagrees with the command of a channel (R390). -/
def Dev.fbClrErrs (d : Dev) (mask : Nat) : List Err :=
  errIf ((List.range 8).any (fun k =>
    let c := k / 4
    let f := k % 4
    bitOf mask f = 1 && bitOf (d.fbCfg c f) 0 = 1 && d.contactorClosed c f != d.is I.SAFE.CS (2 * c + bitOf (d.fbCfg c f) 1))) (eLocked 0)

/-- The feedback latches that a write of SF_FB_CLR clears. -/
def Dev.fbClear (d : Dev) (t mask : Nat) : Dev :=
  ((List.range 8).foldl (fun d k => if bitOf mask (k % 4) = 1 then d.put I.SAFE.FBL 0 k else d) d).settle t

/-- A write of SF_HOST_DEM (R397): a newly set bit raises instance 22 with the bits written. -/
def Dev.hostDemand (d : Dev) (t v : Nat) : Dev :=
  let old := d.get R.SAFE.SF_HOST_DEM
  let d1 := d.put R.SAFE.SF_HOST_DEM v
  (if (List.range 2).any (fun b => bitOf v b = 1 && bitOf old b = 0) then d1.raise t 10 22 v else d1).settle t

/-- OUTPUT_READBACK_FAULT (R391): a channel sees an output's pad differ from its command for more than 1 ms; it latches a demand of
that output's function. -/
def execOutputReadbackFault (ch : Channel) (out : Fin 4) (s : State) : Host.Outcome State Fault Refusal :=
  s.onDev fun d =>
    let lvl : Bool := bitOf (d.get R.SAFE.OUT_CMD) out = 1
    let d1 := if bitOf (d.get I.SAFE.RB_STUCK) out = 1 then d else (d.setBitOf I.SAFE.RB_STUCK out true).setBitOf R.SAFE.OUT_RB out (!lvl)
    ((d1.put I.SAFE.RBL 1 (2 * chanIx ch + out / 2)).raise s.clk.ns 10 16 out true).settle s.clk.ns

/-- SAFETY_EXCHANGE (R392, R390): each channel takes the other half's commands. -/
def execSafetyExchange (s : State) : Host.Outcome State Fault Refusal :=
  s.onDev fun d =>
    let cmd := d.get R.SAFE.OUT_CMD
    ((List.range 4).foldl (fun d k => d.put I.SAFE.XCMD (bitOf cmd (2 * (k % 2) + (1 - k / 2))) k) d).settle s.clk.ns

/-- EXCHANGE_TIMEOUT (R392): a channel has received no exchange for 5 ms. -/
def execExchangeTimeout (ch : Channel) (s : State) : Host.Outcome State Fault Refusal :=
  s.onDev fun d => ((d.put I.SAFE.XCHK 1 (chanIx ch)).raise s.clk.ns 10 17 1 true).settle s.clk.ns

/-- CROSSCHECK_DISAGREE (R392): the channels have disagreed for more than 10 ms on a demand that both evaluate. -/
def execCrosscheckDisagree (ch : Channel) (s : State) : Host.Outcome State Fault Refusal :=
  s.onDev fun d =>
    if d.commonDemand 0 0 != d.commonDemand 1 0 || d.commonDemand 0 1 != d.commonDemand 1 1 then
      ((d.put I.SAFE.XCHK 1 (chanIx ch)).raise s.clk.ns 10 17 0 true).settle s.clk.ns
    else d

/-- YARROW_SUPPLY_FAULT (R392): Yarrow's supply is outside limits; its line is low and SOPA and SOMA de-energised. -/
def execYarrowSupplyFault (s : State) : Host.Outcome State Fault Refusal :=
  s.onDev fun d => (((d.put I.SAFE.YSUP_BAD 1).put R.SAFE.YSUP_OK 0).raise s.clk.ns 10 18 0 true).settle s.clk.ns

/-- YARROW_SUPPLY_RETURN (R392): the supply is back within limits; instance 18 and the block end. -/
def execYarrowSupplyReturn (s : State) : Host.Outcome State Fault Refusal :=
  s.onDev fun d => if d.is I.SAFE.YSUP_BAD then (((d.put I.SAFE.YSUP_BAD 0).put R.SAFE.YSUP_OK 1).lower 10 18).settle s.clk.ns else d

/-- The bytes +off to +off + n of a 40-byte parameter block. -/
def parAt (p off n : Nat) : Nat := bytesAt p off n

/-- Yarrow takes written parameters into force (R394, R396). -/
def Dev.yarrowTake (d : Dev) (p : Nat) : Dev :=
  let d1 := d.forN 4 (fun d i =>
    ((d.put I.SAFE.Y_SI_CFG (parAt p (4 * i) 4) i).put I.SAFE.Y_DISC_T (parAt p (16 + 2 * i) 2) i).put I.SAFE.Y_FB_CFG (parAt p (24 + i) 1) i)
  (d1.put I.SAFE.Y_FB_TIMEOUT (parAt p 28 2)).put R.SAFE.CFG_OK 1

/-- The safety sheet that is being taken into force: of the pending activation at BOOT or of class 2, else of the active image. -/
def Dev.safetySheet (d : Dev) : Option Sheet :=
  let pick (i : Option Image) : Option Sheet := i.bind (fun i => i.sheets.find? (fun s => s.typ = 11))
  if d.is R.REAM.SWAP_PEND && (d.is I.REAM.SWAP_BOOT || d.get I.REAM.SWAP_CLASS = 2) then
    pick (if d.get R.REAM.SWAP_SLOT = 0 then d.ream.checkedA else d.ream.checkedB)
  else pick d.ream.active

/-- YARROW_CONFIG (R396): Sorrel has written 40 bytes of parameters, as Yarrow received them; Yarrow's CRC over them must equal
SF_CRC of the sheet. -/
def execYarrowConfig (params : BitVec 320) (s : State) : Host.Outcome State Fault Refusal :=
  s.onDev fun d =>
    match d.safetySheet with
    | none => d
    | some sh =>
      let crc := crc32c (leBytes 40 params.toNat)
      let d1 := d.put R.SAFE.YCFG_CRC crc
      (if crc = bytesAt sh.strc.data 0x28 4 then (d1.yarrowTake params.toNat).lower 10 21
        else (d1.put R.SAFE.CFG_OK 0).raise s.clk.ns 10 21 0 true).settle s.clk.ns

/-- Step 5 of BOOT (R391 to R393): readback and cross-check latches are released; a failed self-test keeps Sorrel's demands and raises
instance 20 with Lomham's diagnostic value. -/
def Dev.selfTest (d : Dev) (t : Nat) (passed : Bool) (diag : Nat) : Dev :=
  let d1 := ((d.fill I.SAFE.RBL 0).put I.SAFE.RB_STUCK 0).flag I.SAFE.STF (!passed)
  (if passed then (d1.fill I.SAFE.XCHK 0).lower 10 20 else d1.raise t 10 20 diag true).settle t

end Sys2Proof.Machine
end

