-- ==== Sys2Proof/Machine/Boot.lean ====
section
/-! DEFINITION. Power-up, BOOT, keep-alive retention, power fail and reset (05_modes_startup.md), and the loss and the return of the
clocks (03_clocks_timebase.md). -/
namespace Sys2Proof.Machine

/-! Retention (R143). -/

/-- The 60 bytes that RET_CRC covers. -/
def Retention.bytes (r : Retention) : List Nat :=
  leBytes 4 r.tbRate ++ leBytes 4 r.stateWord ++ leBytes 8 r.backupKa ++ leBytes 8 r.todAtLoss ++ leBytes 4 0 ++ r.user.flatMap (leBytes 4)

/-- Retention after a write: RET_CRC is computed again. -/
def Dev.retain (d : Dev) (r : Retention) : Dev := { d with ret := { r with crc := crc32 r.bytes } }

/-- KA_CNT at TB ns t (R143), modulo 2^48. -/
def Dev.kaCount (d : Dev) (t : Nat) : Nat := (d.ret.kaCnt + Config.kaCycles (t - d.get I.TB.KA_NS)) % 2 ^ 48

/-- The keep-alive count taken up to TB ns t, with its registers. -/
def Dev.kaTake (d : Dev) (t : Nat) : Dev :=
  let n := d.kaCount t
  (({ d with ret := { d.ret with kaCnt := n } }.put I.TB.KA_NS t).put R.MODE.KA_CNT_LO n).put R.MODE.KA_CNT_HI (n / 2 ^ 32)

/-- STATE_WORD as it stands: last mode, RATE_LOCKED, LAST_CAUSE and BOOT_CNT. -/
def Dev.stateWord (d : Dev) : Nat :=
  d.mode.code + 16 * d.rateLocked.toNat + 2 ^ 8 * d.get R.MODE.LAST_CAUSE + 2 ^ 16 * d.get R.MODE.BOOT_CNT

/-- TB_RATE and RATE_LOCKED written to retention. -/
def Dev.retainRate (d : Dev) : Dev := d.retain { d.ret with tbRate := d.get R.TB.TB_RATE, stateWord := d.stateWord }

/-- RETENTION_WRITE (R143): once a second in every mode from IDLE onwards. -/
def execRetentionWrite (s : State) : Host.Outcome State Fault Refusal :=
  s.onDev fun d => if d.mode = .backup || d.mode = .boot then d else (d.kaTake s.clk.ns).retainRate

/-- A host write of RET_USERi goes to retention at once. -/
def Dev.retainUser (d : Dev) (i v : Nat) : Dev := (d.put R.MODE.RET_USER v i).retain { d.ret with user := setAt d.ret.user i v }

/-- Step 3 of BOOT at TB ns t: retention is checked, the fields kept in it are loaded, LAST_CAUSE and BOOT_CNT are updated; invalid
retention is cleared and raises instance 9. -/
def Dev.bootRetention (d : Dev) (t : Nat) : Dev :=
  let ok : Bool := d.ret.crc = crc32 d.ret.bytes && !d.is I.MODE.VBAT_BAD
  let r : Retention := if ok then d.ret else ⟨0, 0, 0, 0, [0, 0, 0, 0, 0, 0, 0, 0], 0, 0⟩
  let cause := if d.is I.MODE.CAUSE then d.get I.MODE.CAUSE else if ok then 2 else 1
  let cnt := min 65535 (bitsOf r.stateWord 31 16 + 1)
  let d1 := d.retain { r with stateWord := r.stateWord % 2 ^ 8 + 2 ^ 8 * cause + 2 ^ 16 * cnt }
  let d2 := (((d1.put R.TB.TB_RATE r.tbRate).put R.MODE.LAST_CAUSE cause).put R.MODE.BOOT_CNT cnt).flag R.MODE.RET_VALID ok
  let d3 := (d2.put R.MODE.BACKUP_KA_LO r.backupKa).put R.MODE.BACKUP_KA_HI (r.backupKa / 2 ^ 32)
  let d4 := d3.forN 8 (fun d i => d.put R.MODE.RET_USER (r.user.getD i 0) i)
  let d5 := (d4.put I.MODE.VBAT_BAD 0).put I.MODE.CAUSE 0
  if ok then d5 else d5.raise t 3 9 0

/-! What a reset keeps (R146). -/

/-- The fields that nRESET leaves alone, with how many of their elements: the clocks and the keep-alive domain, the reset pin's state
machine, the levels of pins, and Yarrow. -/
def keptFlds : List (Fld × Nat) :=
  [(R.TB.PLL_T_LOCK, 1), (R.TB.PLL_N_LOCK, 1), (R.TB.PLL_S_LOCK, 1), (R.TB.ROOT_OK, 1), (R.TB.HOLDOVER, 1), (R.TB.TB_RATE, 1),
    (I.TB.RATE_TAKEN, 1), (I.TB.HOLD_NS, 1), (I.TB.KA_TRUST, 1), (I.TB.KA_NS, 1),
    (R.MODE.NRST_MASKED, 1), (R.MODE.RST_STUCK, 1), (R.MODE.LAST_CAUSE, 1), (R.MODE.BOOT_CNT, 1), (R.MODE.KA_CNT_LO, 1), (R.MODE.KA_CNT_HI, 1),
    (R.MODE.BACKUP_KA_LO, 1), (R.MODE.BACKUP_KA_HI, 1), (R.MODE.RET_USER, 8), (I.MODE.NRST, 1), (I.MODE.TAP, 1), (R.PART.STRAP, 1)] ++
  [(R.LVD.DRV_EN_PIN, 1), (R.LVD.HB_VLP_OK, 8), (R.LVD.HB_VLN_OK, 8), (R.LVD.HB_BST_OK, 8), (I.LVD.BST_SEEN, 8)] ++
  [(I.SAFE.IN, 16), (I.SAFE.DIS_ON, 4), (I.SAFE.DIS_FIRST, 4), (I.SAFE.LATCH, 4), (I.SAFE.ARM, 4), (I.SAFE.FBL, 4), (I.SAFE.FB_WAIT, 4),
    (I.SAFE.FB_T0, 4), (I.SAFE.CS, 2), (I.SAFE.XCMD, 2), (I.SAFE.RBL, 2), (I.SAFE.RB_STUCK, 1), (I.SAFE.XCHK, 1), (I.SAFE.YSUP_BAD, 1),
    (I.SAFE.REAL, 2), (I.SAFE.Y_SI_CFG, 4), (I.SAFE.Y_DISC_T, 4), (I.SAFE.Y_FB_CFG, 4), (I.SAFE.Y_FB_TIMEOUT, 1)] ++
  [(R.SAFE.CFG_OK, 1), (R.SAFE.YSUP_OK, 1), (R.SAFE.SPB_Y, 1), (R.SAFE.SMT_Y, 1), (R.SAFE.FB_LEVEL, 1), (R.SAFE.YCFG_CRC, 1), (R.SAFE.LAST_Y_T, 1)]

/-- The first n elements of a field as another module state had them. -/
def Dev.keep (d : Dev) (old : Dev) (f : Fld) (n : Nat) : Dev := d.forN n (fun d i => d.put f (old.get f i) i)

/-- Every block in reset but the keep-alive domain, Yarrow, the PLLs and the timebase (R146); the flash stays. -/
def Dev.restart (d : Dev) : Dev :=
  (keptFlds.foldl (fun (e : Dev) p => e.keep d p.1 p.2) { Dev.reset with nvm := d.nvm.restart, ret := d.ret, draws := d.draws }).showSlots.forN 8 (fun d k => d.hbStatus k)

/-- The boot sequence from step 2 with a cause; step 1 counts as complete (R146, R374). -/
def Dev.bootAgain (d : Dev) (cause : Nat) : Dev :=
  (((d.put I.MODE.IN_RESET 0).put I.MODE.BOOT_STEP 2).put I.MODE.CAUSE cause).sigPulseStart

/-- TB as a reset leaves it: it keeps counting (R78), CYC64 is cleared (R496). -/
def Clock.afterReset (c : Clock) : Clock := { c with sub := 0, cyc := 0 }

/-- NRESET_ASSERT (R146, R147). -/
def execNresetAssert (s : State) : Host.Outcome State Fault Refusal :=
  .next (if s.dev.mode = .backup || s.dev.is I.MODE.NRST then s
    else { s with clk := s.clk.afterReset, dev := ((s.dev.restart.put I.MODE.NRST 1).put I.MODE.IN_RESET 1).settle s.clk.ns })

/-- NRESET_RELEASE (R147): before 30 s. -/
def execNresetRelease (s : State) : Host.Outcome State Fault Refusal :=
  s.onDev fun d => if d.get I.MODE.NRST = 1 then ((d.put I.MODE.NRST 0).bootAgain 3).settle s.clk.ns else d

/-- NRESET_STUCK (R147): nRESET was low for 30 s. -/
def execNresetStuck (s : State) : Host.Outcome State Fault Refusal :=
  s.onDev fun d =>
    if d.get I.MODE.NRST = 1 then
      let d1 := (((d.put I.MODE.NRST 2).bootAgain 4).put R.MODE.NRST_MASKED 1).put R.MODE.RST_STUCK 1
      ((d1.sumAll R.HIF.SUM_RST_STUCK).raise s.clk.ns 3 4 0).settle s.clk.ns
    else d

/-- NRESET_UNMASK (R147): nRESET was high for 10 ms. -/
def execNresetUnmask (s : State) : Host.Outcome State Fault Refusal :=
  s.onDev fun d => if d.get I.MODE.NRST = 2 then (d.put I.MODE.NRST 0).put R.MODE.NRST_MASKED 0 else d

/-- The supervisor runs: the module is powered and not in reset. -/
def Dev.supervised (d : Dev) : Bool := d.mode != .backup && !d.is I.MODE.IN_RESET

/-- WATCHDOG_HALF (R355). -/
def execWatchdogHalf (s : State) : Host.Outcome State Fault Refusal :=
  s.onDev fun d => if d.supervised then (d.raise s.clk.ns 15 6 0).settle s.clk.ns else d

/-- WATCHDOG_RESET (R146, R154). -/
def execWatchdogReset (s : State) : Host.Outcome State Fault Refusal :=
  .next (if s.dev.supervised then
      { s with clk := s.clk.afterReset, dev := ((s.dev.restart.bootAgain 5).raise s.clk.ns 3 10 0).settle s.clk.ns }
    else s)

/-! Power (R140, R142, R144). -/

/-- VIN_ON (R140): the module leaves BACKUP. `vbatOk` says that VBAT stayed at 2.0 V or above, `kaCycles` how many KA cycles went by
since VIN was lost. TB, and with it CYC64, starts at 0. -/
def execVinOn (vbatOk : Bool) (kaCycles : Nat) (s : State) : Host.Outcome State Fault Refusal :=
  .next (if s.dev.mode != .backup then s
    else
      let d := s.dev
      let n := (d.ret.kaCnt + kaCycles) % 2 ^ 48
      let d1 : Dev := { Dev.reset with nvm := d.nvm, ret := { d.ret with kaCnt := n }, draws := d.draws }
      let d2 := ((d1.showSlots.put R.PART.STRAP (d.get R.PART.STRAP)).flag I.MODE.VBAT_BAD (!vbatOk)).keep d R.LVD.DRV_EN_PIN 1
      { s with clk := ⟨0, 0, 0, 0⟩, dev := (d2.put R.MODE.KA_CNT_LO n).put R.MODE.KA_CNT_HI (n / 2 ^ 32) })

/-- A partner in MIRROR would take the cells over. -/
def Dev.partnerMirrors (d : Dev) : Bool := d.strapped && d.is I.PART.BEAT_OK && d.get R.PART.PARTNER_MODE = Mode.mirror.code

/-- Retention at power fail (R143, R144): BACKUP_KA, and TOD_SEC where the rate is derived from a time source. -/
def Dev.retainLoss (d : Dev) (t : Nat) : Dev :=
  let d1 := (d.kaTake t).retainRate
  d1.retain { d1.ret with backupKa := d1.ret.kaCnt, todAtLoss := if d1.rateLocked then d1.todSec % 2 ^ 64 else 0 }

/-- The power-fail sequence (R144) at TB ns t, as far as it runs before the rails fall. -/
def Dev.powerFail (d : Dev) (t : Nat) : Dev :=
  let d1 := (d.put I.LVD.POWER_FAIL 1).settle t
  let d2 := if d1.partnerMirrors then d1.put I.FELT.STOPPED 1 else d1.tripIssue t 3
  let d3 := (d2.raise t 3 6 0).retainLoss t
  d3.flashPowerFail t (d3.record t 3 6 0 (d3.entryOf 3 6).1 0)

/-- BACKUP (R133, R143): only the keep-alive domain and the flash hold anything; the levels of DRV_EN and ROLE_SEL are not the
module's. What the module had sent stays sent. -/
def Dev.backedUp (d : Dev) : Dev :=
  let d1 : Dev := { Dev.reset with nvm := d.nvm.restart, ret := d.ret, draws := d.draws, outbox := d.outbox }
  let d2 := ((d1.keep d R.PART.STRAP 1).keep d R.LVD.DRV_EN_PIN 1).put R.MODE.PREV d.mode.code
  (d2.put R.MODE.STATE Mode.backup.code).put I.MODE.BOOT_STEP 0

/-- POWER_FAIL (R144): VIN below VIN_OFF for 2 µs. -/
def execPowerFail (s : State) : Host.Outcome State Fault Refusal :=
  s.onDev fun d => if d.mode = .backup then d else (d.powerFail s.clk.ns).backedUp

/-! The boot sequence (R140). -/

/-- BOOT is at a step. -/
def Dev.bootAt (d : Dev) (n : Nat) : Bool := d.get I.MODE.BOOT_STEP = n && d.supervised

/-- BOOT_RAILS_UP: step 1 is complete; Yarrow runs and SIG_OK gives its pulse (R374). -/
def execBootRailsUp (s : State) : Host.Outcome State Fault Refusal :=
  s.onDev fun d =>
    if d.bootAt 1 then ((((d.put I.MODE.BOOT_STEP 2).put R.AFE.CONV_OK 15).put R.SAFE.YSUP_OK 1).sigPulseStart).settle s.clk.ns else d

/-- The three PLLs locked on a present ROOT. -/
def Dev.allLocked (d : Dev) : Dev :=
  ((((d.put R.TB.PLL_T_LOCK 1).put R.TB.PLL_N_LOCK 1).put R.TB.PLL_S_LOCK 1).put R.TB.ROOT_OK 1).clkStat

/-- BOOT_PLL_LOCK (R140): steps 2 and 3; the Deckle starts. -/
def execBootPllLock (s : State) : Host.Outcome State Fault Refusal :=
  .next (if s.dev.bootAt 2 then
      State.startDeckle { s with dev := (((s.dev.allLocked.lower 3 8).put I.MODE.BOOT_STEP 4).bootRetention s.clk.ns).settle s.clk.ns }
    else s)

/-- PLL_LOCK_RETRY (R140): lock is tried again; until BOOT_PLL_LOCK or the end of the time nothing else changes. -/
def execPllLockRetry (s : State) : Host.Outcome State Fault Refusal := .next s

/-- PLL_LOCK_TIMEOUT (R140, R154): 1 s after step 1. -/
def execPllLockTimeout (s : State) : Host.Outcome State Fault Refusal :=
  s.onDev fun d => if d.bootAt 2 then (d.raise s.clk.ns 3 8 0 true).settle s.clk.ns else d

/-- JOURNAL_RECOVERED (R443): step 4 ends. -/
def execJournalRecovered (s : State) : Host.Outcome State Fault Refusal :=
  s.onDev fun d => if d.bootAt 4 then ((d.put I.MODE.BOOT_STEP 5).journalRecover s.clk.ns).settle s.clk.ns else d

/-- SORREL_SELF_TEST_DONE (R393): step 5 ends. -/
def execSorrelSelfTestDone (passed : Bool) (diag : BitVec 16) (s : State) : Host.Outcome State Fault Refusal :=
  s.onDev fun d => if d.bootAt 5 then (d.put I.MODE.BOOT_STEP 6).selfTest s.clk.ns passed diag.toNat else d

/-- Step 7 of BOOT at TB ns t (R153): the rate from retention, from flash or 0; the first housekeeping round; recovery counters. -/
def Dev.firstUse (d : Dev) (t : Nat) : Dev :=
  let keep : Bool := d.is R.MODE.RET_VALID && bitOf d.ret.stateWord 4 = 1
  let d1 := if keep then (d.put R.TB.TB_RATE d.ret.tbRate).put R.MODE.RATE_SEED 0 else
    match d.nvm.freq with
    | some r => (d.put R.TB.TB_RATE r).put R.MODE.RATE_SEED 1
    | none => (d.put R.TB.TB_RATE 0).put R.MODE.RATE_SEED 2
  (d1.teaselStart.fltBoot).hkRound t

/-! Loss and return of the clocks (R92 to R94). -/

/-- PLL_T_UNLOCK (R92, R94): no boundary and no posting follows; the LV port is blocked; the mode changes at once, the rings stop, and
the frame in progress is given up. -/
def Dev.pllTLost (d : Dev) (t : Nat) : Dev :=
  let d1 := (((((d.put R.TB.PLL_T_LOCK 0).put R.TB.DECKLE_RUN 0).put I.CE.BUSY 0).put I.CE.STARTED 0).put I.PART.HB_OUT 0).clkStat
  let d2 := (d1.forN 6 (fun d r => d.ringTo r ringDown)).forN 16 (fun d n => d.lfTo n 0)
  let d3 := if d2.inMode [.safe, .boot, .idle] then d2 else d2.enterMode t .idle 3
  d3.raise t 0 3 0 true

def execPllTUnlock (s : State) : Host.Outcome State Fault Refusal :=
  s.onDev fun d => if d.supervised && d.is R.TB.PLL_T_LOCK then (d.pllTLost s.clk.ns).settle s.clk.ns else d

/-- Step 2 of BOOT is past. -/
def Dev.pastLock (d : Dev) : Bool := d.supervised && (d.get I.MODE.BOOT_STEP = 0 || 2 < d.get I.MODE.BOOT_STEP)

/-- PLL_T_RELOCK (R94): the Deckle restarts with the Tf of the active Ream, FRAME_NO continues, and the rings restart from TRAIN. -/
def execPllTRelock (s : State) : Host.Outcome State Fault Refusal :=
  .next (if s.dev.pastLock && !s.dev.is R.TB.PLL_T_LOCK then
      State.startDeckle { s with dev := ((((s.dev.put R.TB.PLL_T_LOCK 1).clkStat).lower 0 3).feltUp).settle s.clk.ns }
    else s)

/-- PLL_S_UNLOCK (R92): no driver is on and no flash operation runs; a relock that CLK_SSC caused counts no fault (R76). -/
def execPllSUnlock (s : State) : Host.Outcome State Fault Refusal :=
  s.onDev fun d =>
    if d.supervised && d.is R.TB.PLL_S_LOCK then
      let d1 := (d.put R.TB.PLL_S_LOCK 0).clkStat
      (if d.is I.TB.SSC_RELOCK then d1 else d1.raise s.clk.ns 0 5 0 true).settle s.clk.ns
    else d

/-- PLL_S_RELOCK (R76, R92). -/
def execPllSRelock (s : State) : Host.Outcome State Fault Refusal :=
  s.onDev fun d =>
    if d.pastLock && !d.is R.TB.PLL_S_LOCK then
      (((((d.put R.TB.PLL_S_LOCK 1).put I.TB.SSC_RELOCK 0).clkStat).lower 0 5).flashNext s.clk.ns).settle s.clk.ns
    else d.put I.TB.SSC_RELOCK 0

/-- ROOT is lost or out of tolerance (R92, R93): the PLLs enter holdover, TB_RATE is held and TIME_SUSPECT set. -/
def Dev.rootBad (d : Dev) (t inst : Nat) : Dev :=
  let d1 := (d.put R.TB.ROOT_OK 0).onlyIf (!d.is R.TB.HOLDOVER) (fun d => (d.put R.TB.HOLDOVER 1).put I.TB.HOLD_NS t)
  (d1.clkStat).netDo t (fun d => (d.suspectSet t).raise t 0 inst 0 true)

/-- ROOT_LOST (R92). -/
def execRootLost (s : State) : Host.Outcome State Fault Refusal :=
  s.onDev fun d => if d.supervised && d.is R.TB.ROOT_OK then d.rootBad s.clk.ns 0 else d

/-- ROOT_FREQ_CHECK (R92): `cycles` of ROOT over 64 KA cycles, 48,828 ± 98 expected. -/
def execRootFreqCheck (cycles : Nat) (s : State) : Host.Outcome State Fault Refusal :=
  s.onDev fun d => if d.supervised && d.is R.TB.ROOT_OK && 98 < ((cycles : Int) - 48828).natAbs then d.rootBad s.clk.ns 1 else d

/-- ROOT_RETURN (R93): ROOT is within tolerance again; the PLLs are steered back. -/
def execRootReturn (s : State) : Host.Outcome State Fault Refusal :=
  s.onDev fun d => if d.supervised then (d.put R.TB.ROOT_OK 1).clkStat else d

/-- LOCK_REGAINED (R93): holdover ends; instances 0, 1 and 2 clear. -/
def execLockRegained (s : State) : Host.Outcome State Fault Refusal :=
  s.onDev fun d =>
    if d.supervised && d.is R.TB.ROOT_OK && d.is R.TB.HOLDOVER then
      (((((d.put R.TB.HOLDOVER 0).lower 0 0).lower 0 1).lower 0 2).clkStat).settle s.clk.ns
    else d

/-- HOLDOVER_TIMEOUT (R92): holdover longer than CLK_HOLD_MAX. -/
def execHoldoverTimeout (s : State) : Host.Outcome State Fault Refusal :=
  s.onDev fun d => if d.supervised && d.is R.TB.HOLDOVER then (d.raise s.clk.ns 0 2 0 true).settle s.clk.ns else d

/-- KA_CHECK (R92): `cycles` of KA over 1 s of TB; outside ±500 ppm of 32,768 the keep-alive counter is marked untrusted. -/
def execKaCheck (cycles : Nat) (s : State) : Host.Outcome State Fault Refusal :=
  s.onDev fun d =>
    if !d.supervised then d
    else if 16 < ((cycles : Int) - 32768).natAbs then (((d.put I.TB.KA_TRUST 0).clkStat).raise s.clk.ns 0 6 0 true).settle s.clk.ns
    else (d.lower 0 6).settle s.clk.ns

/-- FIFO_OVERFLOW (R75, R92): the detail names the FIFO. -/
def execFifoOverflow (fifo : BitVec 16) (s : State) : Host.Outcome State Fault Refusal :=
  s.onDev fun d => if d.supervised then (d.raise s.clk.ns 0 8 fifo.toNat).settle s.clk.ns else d

end Sys2Proof.Machine
end

