-- ==== Sys2Proof/Machine/Perf.lean ====
section
/-! DEFINITION. Performance counters, the Gatherer and random tagging (18_performance_counters.md). -/
namespace Sys2Proof.Machine

/-- The programmable counters of a block (R497). -/
def perfCounters (b : Nat) : Nat := if b = 0 || b = 3 || b = 8 then 8 else 4

/-- The last event code of a block (R497). -/
def perfEvents (b : Nat) : Nat := match b with | 0 => 8 | 1 => 5 | 3 => 8 | 8 => 8 | _ => 4

/-- The bytes per second of a port of the bandwidth view (R501); PCI Express at its trained rate of 250, 500 or 984.6 MB/s a lane. -/
def Dev.lineRate (d : Dev) (p : Nat) : Nat :=
  if p < 24 then 250000000
  else if p < 28 then (if d.is I.PERF.NET_SLOW then 12500000 else 125000000)
  else if p < 30 then
    d.get I.HIF.LINK_LANES * (match d.get I.HIF.LINK_GEN with | 1 => 250000000 | 2 => 500000000 | 3 => 984615384 | _ => 0)
  else 100000000

/-- UTIL of a port that carried `bytes` in a window of `len` tbc (R501). -/
def Dev.util (d : Dev) (p bytes len : Nat) : Nat := b32.round false (bytes * 1000000000) (d.lineRate p * 2 * len) 0

/-- The settings of the window that begins at TB ns t (R499, R500, R503). -/
def Dev.windowStart (d : Dev) (t cyc : Nat) : Dev :=
  let d1 := (((d.put I.PERF.ON 1).put I.PERF.WIN_NS t).put I.PERF.START_CYC cyc).put I.PERF.WIN_MS (d.get R.PERF.GATH_WIN)
  let d2 := (d1.forN 88 (fun d k => d.put I.PERF.SEL (d.get R.PERF.EVSEL k) k)).put R.PERF.VIEW (d.get I.PERF.VIEW_NEXT)
  let d3 := d2.flag I.PERF.ANY ((List.range 88).any (fun k => d2.get I.PERF.SEL k % 256 != 0))
  if d.is I.PERF.TAG_DUE then ((d3.put I.PERF.TAG_DUE 0).put I.PERF.TAG_N (d.get R.PERF.TAG_N)).put I.PERF.LFSR (d.get R.PERF.TAG_SEED) else d3

/-- The end of a window at TB ns t (R498): everything is copied into the gathered bank and cleared. -/
def Dev.gather (d : Dev) (t cyc : Nat) : Dev :=
  let d1 := d.forN 11 (fun d b => (d.forN 8 (fun d i =>
    if perfCounters b ≤ i then d
    else
      let k := 8 * b + i
      let d1 := (d.put R.PERF.GATHERED (d.get I.PERF.CNT k) k).put (if i % 2 = 0 then R.PERF.GSEL_EVEN else R.PERF.GSEL_ODD) (d.get I.PERF.SEL k) (4 * b + i / 2)
      (((d1.setBitOf R.PERF.OVF i (d.is I.PERF.OVF k) b).put I.PERF.CNT 0 k).put I.PERF.OVF 0 k))))
  let len := cyc - d.get I.PERF.START_CYC
  let d2 := if d.is R.PERF.VIEW
    then [R.PERF.LANE_DISCARDED, R.PERF.LANE_USEFUL, R.PERF.LANE_INPUT_WAIT, R.PERF.LANE_OUTPUT_WAIT, R.PERF.LANE_NARROW].zipIdx.foldl
      (fun d p => (d.put p.1 (d.get I.PERF.LANE p.2) 0).put p.1 (d.get I.PERF.LANE p.2 / 2 ^ 32) 1) d1
    else d1.forN 32 (fun d p => (d.put R.PERF.BYTES (min (d.get I.PERF.BYTES p / 16) (2 ^ 32 - 1)) p).put R.PERF.UTIL (d.util p (d.get I.PERF.BYTES p) len) p)
  let d3 := ((d2.fill I.PERF.BYTES 0).fill I.PERF.LANE 0).put R.PERF.WIN_END_LO cyc
  (((d3.put R.PERF.WIN_END_HI (cyc / 2 ^ 32)).wrap R.PERF.WIN_SEQ).windowStart t cyc).sumAll R.HIF.SUM_PERF

/-- The Gatherer at the boundary at TB ns t (R498). -/
def Dev.gatherDue (d : Dev) (t cyc : Nat) : Dev :=
  if d.is I.PERF.ON && d.get I.PERF.WIN_NS + 1000000 * d.get I.PERF.WIN_MS ≤ t then d.gather t cyc else d

/-- GATHER_WINDOW (R498): the window in progress ends. -/
def execGatherWindow (s : State) : Host.Outcome State Fault Refusal :=
  s.onDev fun d => if d.is I.PERF.ON then d.gather s.clk.ns s.clk.cyc else d

/-- One step of the tagging register (R503). -/
def lfsrStep (x : Nat) : Nat := if x % 2 = 1 then (x / 2) ^^^ 0x80200003 else x / 2

/-- n steps. -/
def lfsrRun : Nat → Nat → Nat
  | 0, x => x
  | n + 1, x => lfsrRun n (lfsrStep x)

/-- What a CE frame that ends adds: its operations, its waits and its lane-cycles, all in DISCARDED when it was abandoned; the five
classes sum to 16 times the CE cycles of its span (R497, R502, R503). Without an event selected and without tagging only the lane
classes change. -/
def Dev.perfFrame (d : Dev) (abandoned : Bool) : Dev :=
  if !d.is I.PERF.ON then d
  else
    let k := d.draws
    let ops := Config.ceOps k
    let all := 16 * Config.ceSpan k
    let d1 := (d.draw.perf 3 1 15 ops).perf 3 8 15 (Config.ceWaits k)
    let d2 := if d.get I.PERF.TAG_N = 0 then d1 else d1.put I.PERF.LFSR (lfsrRun ops (d.get I.PERF.LFSR))
    if abandoned then d2.wrap I.PERF.LANE 0 all
    else
      let u := Config.laneShare k 1 % (all + 1)
      let i := Config.laneShare k 2 % (all - u + 1)
      let o := Config.laneShare k 3 % (all - u - i + 1)
      (((d2.wrap I.PERF.LANE 1 u).wrap I.PERF.LANE 2 i).wrap I.PERF.LANE 3 o).wrap I.PERF.LANE 4 (all - u - i - o)

/-- TAG_SAMPLE (R504): a tagged operation completes; its entry is written while tagging is enabled. -/
def execTagSample (x : TagSample) (s : State) : Host.Outcome State Fault Refusal :=
  s.onDev fun d =>
    if d.get I.PERF.TAG_N = 0 then d
    else
      let old := d.get R.PERF.SAMP_HEAD
      let seq := if old = 65535 then 1 else old + 1
      let i := 4 * (seq % 64)
      let w1 := (d.get R.TB.FRAME_NO_LIVE % 65536) * 65536 + x.aband.toNat * 32768 + x.stage.toNat * 4096 + (if x.stage.toNat = 5 then x.slot.toNat else 0xFF)
      let d1 := ((d.put R.PERF.SAMPLE x.issueNs.toNat i).put R.PERF.SAMPLE w1 (i + 1)).put R.PERF.SAMPLE (x.wait.toNat * 65536 + x.exec.toNat) (i + 2)
      let d2 := (d1.put R.PERF.SAMPLE (x.wb.toNat * 65536 + seq) (i + 3)).put R.PERF.SAMP_HEAD seq
      if d.is I.PERF.WRAPPED || 64 ≤ old then (d2.put I.PERF.WRAPPED 1).bump R.PERF.SAMP_LOST else d2

end Sys2Proof.Machine
end

