-- ==== Sys2Proof/Machine/Delivery.lean ====
section
/-! DEFINITION. What the parts of a frame do together: the publication of an AFE run, the start of the control engine, its delivery
and its overrun. -/
namespace Sys2Proof.Machine

/-- SEQ_PUBLISH (R338, R480): every step of the run has converted; `codes` are its entries' codes, 16 bits each. The published
results are source samples of the streams. -/
def execSeqPublish (n : Fin 8) (codes : BitVec 256) (s : State) : Host.Outcome State Fault Refusal :=
  s.onDev fun d =>
    if d.is R.AFE.SEQ_BUSY n && d.get I.AFE.STEP n = (d.seqSteps n).length then
      ((d.publish s.clk.ns n codes.toNat).svFeedRun n).settle s.clk.ns
    else d

/-- CE_FRAME_START (R267, R339, R413): a standby first applies the mirror frame of the frame before. -/
def execCeFrameStart (s : State) : Host.Outcome State Fault Refusal :=
  s.onDev fun d => ((d.mirrorApply s.clk.ns).ceStart s.clk.ns).settle s.clk.ns

/-- What follows the end of stage 6 at TB ns t: the precharge phases, the cell networks and Teasel, the source samples, the mirror
frame and the counts of the frame. -/
def Dev.delivered (d : Dev) (t : Nat) : Dev :=
  let d1 := (d.ceDeliver t).precharge
  let d2 := (d1.forN 144 (fun d c => d.cellThermal t c)).teaselFrame
  ((d2.svFeedFrame).mirrorSend t).perfFrame false

/-- CE_DELIVERY (R267, R294): stages 5 to 7 of the frame in progress. -/
def execCeDelivery (s : State) : Host.Outcome State Fault Refusal :=
  s.onDev fun d => if d.ceReady then (d.delivered s.clk.ns).settle s.clk.ns else d

/-- The frame in progress is abandoned at TB ns t, when it was not delivered (R19, R294). -/
def Dev.overrun (d : Dev) (t : Nat) : Dev := if d.is I.CE.BUSY then (d.ceAbandon t).perfFrame true else d

/-- CE_OVERRUN (R19, R294). -/
def execCeOverrun (s : State) : Host.Outcome State Fault Refusal := s.onDev fun d => (d.overrun s.clk.ns).settle s.clk.ns

end Sys2Proof.Machine
end

