-- ==== Sys2Proof/Machine/HostIf.lean ====
section
/-! DEFINITION. Host access (02_host_access.md): the words as a read shows them, the snapshot banks and their layout, leases,
the results of staged sets, source resets, and the PCI Express link. -/
namespace Sys2Proof.Machine

/-! Words as they read. -/

/-- The registers as a read shows them: those whose value stands elsewhere in the state, or depends on the reader, are filled in
(R13, R78, R143, R428, R490, R496). -/
def Dev.shown (d : Dev) (otp : Otp) (c : Clock) : Dev :=
  let d1 := (d.put R.TB.TB_NS32 c.ns).put R.TB.TIME_SUSPECT (d.get R.NET.TIME_SUSPECT)
  let d2 := (d1.put R.PERF.CYC64_LO c.cyc).put R.PERF.CYC64_HI (c.cyc / 2 ^ 32)
  let d3 := ((d2.put R.REAM.SEC_VER_MIN otp.secVerMin).put R.REAM.KEY_REVOKED otp.revoked).put R.REAM.KEY_PROG otp.keyProg
  let d4 := d3.forN 32 (fun d k => d.put R.THERM.DIE_MODEL (Config.dieModel k) k)
  let d5 := d4.forN 3 (fun d i => (d.put R.HIF.SRC i i).flag R.HIF.STANDBY (d.mode = .mirror) i)
  (d5.put R.MODE.KA_CNT_LO (d.kaCount c.ns)).put R.MODE.KA_CNT_HI (d.kaCount c.ns / 2 ^ 32)

/-! Snapshot banks (R49 to R55). -/

/-- The parts of each window that its snapshot section holds, in address order: first offset and bytes. -/
def sectionParts : Nat → List (Nat × Nat)
  | 2 => [(0x0, 0x20)]
  | 3 => [(0x0, 0x48)]
  | 4 => [(0x0, 0x100)]
  | 5 => [(0x0, 0x80)]
  | 6 => [(0x0, 0x20), (0x100, 0x180), (0x400, 0x100), (0x1000, 0x600)]
  | 7 => [(0x0, 0x2400)]
  | 8 => [(0x0, 0x40), (0x100, 0x180), (0x1000, 0x900)]
  | 9 => [(0x0, 0x50), (0x100, 0x180), (0x1000, 0x900)]
  | 10 => [(0x0, 0x200), (0x800, 0x800), (0xA000, 0x900)]
  | 11 => [(0x0, 0x60), (0x100, 0x200), (0x400, 0x60)]
  | 12 => [(0x0, 0x30), (0x100, 0x300), (0x800, 0x180)]
  | 13 => [(0x0, 0xAB4)]
  | 14 => [(0x0, 0x40), (0x100, 0x40), (0x200, 0x40)]
  | 15 => [(0x0, 0x40)]
  | 16 => [(0x0, 0x100), (0x1000, 0x900)]
  | 17 => [(0x0, 0x100), (0x100, 0x40), (0x200, 0x80), (0x300, 0x100), (0x400, 0x200), (0x600, 0x80)]
  | 18 => [(0x0, 0x100), (0x400, 0x100), (0x800, 0x2C0), (0xC00, 0x400)]
  | _ => []

/-- The length of a section. -/
def sectionLen (w : Nat) : Nat := (sectionParts w).foldl (fun n p => n + p.2) 0

/-- The directory (R53 to R55): the sections lie one after the other from +0x200 in directory order. DESIGN CHOICE. -/
def directory : List (Nat × Nat) :=
  ((List.range 19).foldl (fun (acc : List (Nat × Nat) × Nat) w =>
    let n := sectionLen w
    if n = 0 then (acc.1 ++ [(0, 0)], acc.2) else (acc.1 ++ [(acc.2, n)], acc.2 + n)) ([], 0x200)).1

/-- The window offset at a byte of a section. -/
def partAt : List (Nat × Nat) → Nat → Option Nat
  | [], _ => none
  | (a, n) :: r, p => if p < n then some (a + p) else partAt r (p - n)

/-- The section that holds a byte of the bank: its window and the byte in it. -/
def sectionAt (dir : List (Nat × Nat)) (o : Nat) : Option (Nat × Nat) :=
  (dir.zipIdx.find? (fun p => p.1.1 != 0 && p.1.1 ≤ o && o < p.1.1 + p.1.2)).map (fun p => (p.2, o - p.1.1))

/-- A word of a bank (R53); `perf` says that the reader may see the PERF section (R505). -/
def Bank.word (b : Bank) (perf : Bool) (o : Nat) : Nat :=
  if o = 0 || o = 0x3FFF0 then b.seq % 2 ^ 32
  else if o = 4 || o = 0x3FFF4 then b.seq / 2 ^ 32
  else if o = 0x8 then b.frameNo
  else if o = 0xC then b.tbNs32
  else if o = 0x10 then b.todSec % 2 ^ 32
  else if o = 0x14 then b.todSec / 2 ^ 32
  else if o = 0x18 then b.todRef
  else if o = 0x1C then b.word1C
  else if o = 0x20 then b.tfLast
  else if o = 0x24 then b.lastTxn
  else if 0x100 ≤ o && o < 0x200 then
    (match b.dir[(o - 0x100) / 8]? with
    | some e => if o % 8 = 0 then e.1 else e.2
    | none => 0)
  else
    match sectionAt b.dir o with
    | some (w, p) => if w = wPerf && !perf then 0 else ((partAt (sectionParts w) p).map (fun x => b.regs.readWord w x 0)).getD 0
    | none => 0

/-- Word +0x1C of the header. -/
def Dev.headerWord (d : Dev) : Nat :=
  d.mode.code + 2 ^ 4 * (d.inMode primaryModes).toNat + 2 ^ 5 * d.get R.NET.TIME_SUSPECT + 2 ^ 6 * (decide (d.get R.STAGE.STAGE_STAT_STATE = 2)).toNat +
    2 ^ 7 * (decide (d.get R.REAM.ACTIVE = 2)).toNat + 2 ^ 16 * d.get R.FELT.OWN_EPOCH

/-- FRAME_NO of the frame that ends at the boundary; before FRAME_NO 0 stands 2^32 − 1, so that the frame that begins is one
more (R59). -/
def Dev.endedFrame (d : Dev) : Nat := if d.is I.TB.STARTED then d.get R.TB.FRAME_NO_LIVE else 2 ^ 32 - 1

/-- The next SNAP_SEQ (R49). -/
def Dev.nextSnapSeq (d : Dev) : Nat := (d.get I.SNAP.SEQ + 1) % 2 ^ 64

/-- The bank that a boundary latches (R49, R53). -/
def Dev.bankOf (d : Dev) (otp : Otp) (c : Clock) : Bank where
  seq     := d.nextSnapSeq
  frameNo := d.endedFrame
  tbNs32  := c.ns % 2 ^ 32
  todSec  := d.get R.TB.TOD_SEC_LO + 2 ^ 32 * d.get R.TB.TOD_SEC_HI
  todRef  := d.get R.TB.TOD_REF_NS32
  word1C  := d.headerWord
  tfLast  := d.get R.TB.TF_LAST
  lastTxn := d.get I.STAGE.LAST_TXN
  dir     := directory
  regs    := (d.shown otp c).regs

/-- Some source holds a lease. -/
def Dev.anyLease (d : Dev) : Bool := d.is R.SNAP.HELD 0 || d.is R.SNAP.HELD 1 || d.is R.SNAP.HELD 2

/-- Step 1 of a boundary (R49, R50): the latch goes into the hidden bank, which becomes the visible one when no lease is held. -/
def Dev.snapLatch (d : Dev) (otp : Otp) (c : Clock) : Dev :=
  let b := d.bankOf otp c
  let d1 := d.put I.SNAP.SEQ b.seq
  if d.anyLease then { d1.put R.SNAP.FLIP_HELD 1 with hidden := b }
  else
    let d2 : Dev := { ((d1.put R.SNAP.FLIP_HELD 0).put R.SNAP.SNAP_SEQ_LO b.seq).put R.SNAP.SNAP_SEQ_HI (b.seq / 2 ^ 32) with visible := b, hidden := d.visible }
    d2.sumAll R.HIF.SUM_SNAP_NEW

/-! Leases (R50 to R52). -/

/-- A lease taken (R51); a source that holds one keeps it. -/
def Dev.leaseTake (d : Dev) (src : Source) : Dev := d.put R.SNAP.HELD 1 (srcIx src)

/-- A lease released. -/
def Dev.leaseEnd (d : Dev) (src : Source) : Dev := d.put R.SNAP.HELD 0 (srcIx src)

/-- LEASE_EXPIRY (R52): the lease was held for SNAP_LEASE_MAX. -/
def execLeaseExpiry (src : Source) (s : State) : Host.Outcome State Fault Refusal :=
  s.onDev fun d =>
    if !d.is R.SNAP.HELD (srcIx src) then d
    else
      let d1 := (((d.leaseEnd src).put R.SNAP.EXPIRED 1 (srcIx src)).sumOne R.HIF.SUM_LEASE_EXP src).bump R.SNAP.LEASE_EXP_CNT
      (d1.raise s.clk.ns 1 3 (srcIx src)).settle s.clk.ns

/-! Results of staged sets (R58, R62, R63). -/

/-- A source by its number. -/
def srcOf (n : Nat) : Source := if n = 0 then .pf0 else if n = 1 then .pf1 else .cspi

/-- The owner of the staging area. -/
def Dev.stageOwner (d : Dev) : Source := srcOf (d.get R.STAGE.STAGE_STAT_OWNER)

/-- The set in the staging area ends with a result (R58, R63): NEXT_TXN advances and the area is free. -/
def Dev.stageEnd (d : Dev) (e : Err) (index : Nat) (whole : Bool) : Dev :=
  let d1 := ((d.put R.STAGE.STAGE_RESULT_TXN (d.get R.STAGE.STAGE_STAT_NEXT_TXN)).put R.STAGE.STAGE_RESULT_CODE e.code).put R.STAGE.STAGE_RESULT_DETAIL e.detail
  let d2 := ((d1.put R.STAGE.STAGE_RESULT_IDX_INDEX index).flag R.STAGE.STAGE_RESULT_IDX_WHOLE whole).put R.STAGE.STAGE_RESULT_FRAME (d.get R.TB.FRAME_NO_LIVE)
  ((d2.wrap R.STAGE.STAGE_STAT_NEXT_TXN).put R.STAGE.STAGE_STAT_STATE 0).sumOne R.HIF.SUM_STAGE_DONE d.stageOwner

/-- The set is discarded with E_TIMEOUT (R41, R62). -/
def Dev.stageDiscard (d : Dev) (detail : Nat) : Dev := (d.stageEnd (eTimeout detail) 0 true).sumOne R.HIF.SUM_STAGE_DISCARD d.stageOwner

/-- STAGE_OPEN_TIMEOUT (R62, R354): the set is still open 100 ms after its STAGE_OPEN. -/
def execStageOpenTimeout (s : State) : Host.Outcome State Fault Refusal :=
  s.onDev fun d =>
    if d.get R.STAGE.STAGE_STAT_STATE = 1 then ((d.stageDiscard 1).raise s.clk.ns 1 4 (srcIx d.stageOwner)).settle s.clk.ns else d

/-! Sources and the PCI Express link (R36 to R41, R141, R354, R517). -/

/-- An access of the source can reach the module: it is powered and not in reset, and, for PCI Express, the endpoint is ready (R141)
and PLL_N holds (R92). -/
def Dev.hostUp (d : Dev) (src : Source) : Bool := d.supervised && (src = .cspi || (d.is I.HIF.READY && d.is R.TB.PLL_N_LOCK))

/-- Every defined bit of HIF_SUMMARY. -/
def summaryFlds : List Fld := R.HIF.all.filter (fun f => f.off = 8)

/-- HIF_LAST_ERR and HIF_LAST_ERR_ADDR of a source cleared. -/
def Dev.clearErr (d : Dev) (i : Nat) : Dev :=
  [R.HIF.ERR_VALID, R.HIF.ERR_COUNT, R.HIF.ERR_DETAIL, R.HIF.ERR_CODE, R.HIF.ERR_IMPLICIT, R.HIF.ERR_OFFSET].foldl (fun d f => d.put f 0 i) d

/-- The reset of one source (R41): its lease, its summary, its error record and the staged set it owns. -/
def Dev.sourceReset (d : Dev) (src : Source) : Dev :=
  let d1 := (d.leaseEnd src).clearErr (srcIx src)
  let d2 := d1.onlyIf (d1.is R.STAGE.STAGE_STAT_STATE && d1.stageOwner = src) (fun d => d.stageDiscard 2)
  summaryFlds.foldl (fun d f => d.put f 1 (srcIx src)) d2

/-- The PCI Express link goes down (R41, R354): instance 0, once until it has trained again. -/
def Dev.linkDown (d : Dev) (t : Nat) : Dev :=
  let d1 := ((d.put I.HIF.LINK_GEN 0).put I.HIF.LINK_LANES 0).put I.HIF.LINK_DN 1
  if d.is I.HIF.LINK_DN then d1 else d1.raise t 1 0 0 true

/-- The link of both functions goes down. -/
def Dev.bothDown (d : Dev) (t : Nat) : Dev := ((d.sourceReset .pf0).sourceReset .pf1).linkDown t

/-- SOURCE_RESET (R41). -/
def execSourceReset (fn : Fn) (cause : ResetCause) (s : State) : Host.Outcome State Fault Refusal :=
  s.onDev fun d =>
    if !d.supervised then d
    else
      let d1 := d.sourceReset (fnSrc fn)
      (if cause = .linkDown then d1.linkDown s.clk.ns else d1).settle s.clk.ns

/-- NPERST_ASSERT (R517). -/
def execNperstAssert (s : State) : Host.Outcome State Fault Refusal :=
  s.onDev fun d => if d.supervised then (d.bothDown s.clk.ns).settle s.clk.ns else d

/-- PCIE_LINK_TRAINED (R36, R354): below Gen3 x2 instance 1 holds, with generation and lanes as its detail. -/
def execPcieLinkTrained (gen : BitVec 4) (lanes : BitVec 4) (s : State) : Host.Outcome State Fault Refusal :=
  s.onDev fun d =>
    if !d.supervised then d
    else
      let d1 := (((d.put I.HIF.LINK_GEN gen.toNat).put I.HIF.LINK_LANES lanes.toNat).put I.HIF.LINK_DN 0).lower 1 0
      (if gen.toNat < 3 || lanes.toNat < 2 then d1.raise s.clk.ns 1 1 (16 * gen.toNat + lanes.toNat) true else d1.lower 1 1).settle s.clk.ns

/-- MALFORMED_REQUEST (R354): its detail is the function. -/
def execMalformedRequest (fn : Fn) (s : State) : Host.Outcome State Fault Refusal :=
  s.onDev fun d => if d.hostUp (fnSrc fn) then (d.raise s.clk.ns 1 5 (srcIx (fnSrc fn))).settle s.clk.ns else d

/-- PCIE_READY (R141). -/
def execPcieReady (s : State) : Host.Outcome State Fault Refusal :=
  s.onDev fun d => if d.supervised then d.put I.HIF.READY 1 else d

/-- A Completer Abort returned to a function (R38, R354), with what its HIF_LAST_ERR records. -/
def Dev.completerAbort (d : Dev) (t : Nat) (fn : Fn) (e : Err) (off : Nat) : Dev :=
  ((d.reject (fnSrc fn) e off).respond (fnSrc fn) [] true).raise t 1 2 (srcIx (fnSrc fn))

/-- INTERCONNECT_TIMEOUT (R38, R355): the block addressed gives no answer for 10 µs. -/
def execInterconnectTimeout (fn : Fn) (off : BitVec 22) (s : State) : Host.Outcome State Fault Refusal :=
  s.onDev fun d =>
    match winOf off.toNat with
    | none => d
    | some (w, _) => if d.hostUp (fnSrc fn) then ((d.raise s.clk.ns 15 5 w).completerAbort s.clk.ns fn (eInternal w) off.toNat).settle s.clk.ns else d

/-- COMPLETION_TIMEOUT (R38): 50 ms after the receipt of a read that nothing ended. -/
def execCompletionTimeout (fn : Fn) (off : BitVec 22) (s : State) : Host.Outcome State Fault Refusal :=
  s.onDev fun d => if d.hostUp (fnSrc fn) then (d.completerAbort s.clk.ns fn (eTimeout 3) off.toNat).settle s.clk.ns else d

/-- PLL_N_UNLOCK (R92): the NET ports and the PCI Express link are held down. -/
def execPllNUnlock (s : State) : Host.Outcome State Fault Refusal :=
  s.onDev fun d =>
    if d.supervised && d.is R.TB.PLL_N_LOCK then
      let t := s.clk.ns
      let d1 := ((d.put R.TB.PLL_N_LOCK 0).clkStat).raise t 0 4 0 true
      let d2 := d1.netDo t (fun d => d.forN 2 (fun d p =>
        if bitOf (d.get R.NET.LINK) p = 0 then d
        else
          let e := d.setBitOf R.NET.LINK p false
          (if e.portUsed p then e.raise t 13 p 0 true else e).lanDown p))
      (d2.bothDown t).settle t
    else d

/-- PLL_N_RELOCK (R92): the links that were held down may come up again. -/
def execPllNRelock (s : State) : Host.Outcome State Fault Refusal :=
  s.onDev fun d =>
    if d.pastLock && !d.is R.TB.PLL_N_LOCK then (((d.put R.TB.PLL_N_LOCK 1).clkStat).lower 0 4).settle s.clk.ns else d

/-! Reads of the visible bank (R39, R40, R505). -/

/-- Bytes carried by the PCI Express port, in one direction (R501). -/
def Dev.carryPcie (d : Dev) (src : Source) (port n : Nat) : Dev := if src = .cspi then d else d.carry port n

/-- The errors of a BAR2 read of `len` bytes (R40). -/
def bar2Errs (off len : Nat) : List Err :=
  let head := off % 4
  let tail := (off + len) % 4
  let mask := if head != 0 then (2 ^ min (4 - head) len - 1) * 2 ^ head else 2 ^ tail - 1
  errIf (head != 0 || tail != 0 || len = 0) (eAlign mask) ++ errIf (512 < len || 2 ^ 18 < off + len) eRange

/-- BAR2_READ (R40): a rejected read returns zero data. -/
def execBar2Read (fn : Fn) (off : Nat) (len : Nat) (s : State) : Host.Outcome State Fault Refusal :=
  s.onDev fun d =>
    if !d.hostUp (fnSrc fn) then d
    else
      let n := (off % 4 + len + 3) / 4
      match firstErr (bar2Errs off len) with
      | some e => (d.reject (fnSrc fn) e off).respond (fnSrc fn) (List.replicate n 0)
      | none =>
        let perf : Bool := fn = .pf0 || d.is R.PERF.PERF_USER_EN
        let d1 := (d.perf 9 3 (srcIx (fnSrc fn)) ((len + 15) / 16)).carryPcie (fnSrc fn) 28 len
        d1.respond (fnSrc fn) ((List.range n).map (fun i => d.visible.word perf (off + 4 * i)))

/-- BAR2_WRITE (R40, R44, R46): outside PF1's rights, and outside what BAR2 accepts. -/
def execBar2Write (fn : Fn) (off : BitVec 18) (s : State) : Host.Outcome State Fault Refusal :=
  s.onDev fun d => if d.hostUp (fnSrc fn) then d.reject (fnSrc fn) (if fn = .pf1 then ePriv 1 else eRange) off.toNat else d

end Sys2Proof.Machine
end

