-- ==== Sys2Proof/Machine/SheetMap.lean ====
section
/-! DEFINITION. The layouts of the sheets of a Ream (R104 and the sheet tables of the block chapters): one row for each field, with
the part it lies in, where it stands, the range its table gives, and the register field that takes it at an activation (R97). -/
namespace Sys2Proof.Machine

/-- A field of a sheet: element (i, j), i below n1 and j below n2, stands at byte off + s1 i + s2 j of the part (0 structure, 1 map,
2 parameter), in bits hi to lo of the little-endian number there. `cover` says that the row names bits of the layout; a row
without it only loads a register. -/
structure SheetFld where
  part  : Nat
  off   : Nat
  n1    : Nat
  s1    : Nat
  n2    : Nat
  s2    : Nat
  hi    : Nat
  lo    : Nat
  cover : Bool
  rng   : Rng
  dst   : Option Fld

/-- The topology sheet (R188). -/
def topologySheet : List SheetFld :=
  [
  ⟨0, 0x0, 1, 0, 1, 0, 31, 0, true, (.nat 10000 200000 false), none⟩,  -- TF
  ⟨0, 0x4, 1, 0, 1, 0, 5, 0, true, .any, none⟩,  -- STRING_MASK
  ⟨0, 0x5, 1, 0, 1, 0, 7, 0, true, (.nat 0 1 false), none⟩,  -- CONN
  ⟨0, 0x6, 1, 0, 1, 0, 5, 0, true, .any, none⟩,  -- HOT_MASK
  ⟨0, 0x8, 6, 4, 1, 0, 7, 0, true, (.nat 0 48 false), none⟩,  -- CELLS
  ⟨0, 0x9, 6, 4, 1, 0, 7, 0, true, (.nat 0 48 false), (some R.MOD.STR_NEEDED)⟩,  -- NEEDED
  ⟨1, 0x0, 144, 4, 1, 0, 31, 31, true, .any, (some I.CELL.USED)⟩,  -- USED
  ⟨1, 0x0, 144, 4, 1, 0, 30, 28, true, (.nat 0 5 false), (some I.CELL.STRING)⟩,  -- STRING
  ⟨1, 0x0, 144, 4, 1, 0, 27, 22, true, (.nat 0 47 false), (some I.CELL.POS)⟩,  -- POSITION
  ⟨1, 0x0, 144, 4, 1, 0, 21, 20, true, (.nat 0 2 false), (some R.CELL.LINK_KIND)⟩,  -- LINK_KIND
  ⟨1, 0x0, 144, 4, 1, 0, 19, 16, true, .any, (some R.CELL.LINK)⟩,  -- LINK
  ⟨1, 0x0, 144, 4, 1, 0, 15, 10, true, .any, (some R.CELL.HOP)⟩,  -- HOP
  ⟨2, 0x0, 1, 0, 1, 0, 0, 0, true, .any, (some R.TB.ALIGN_EN)⟩,  -- ALIGN_EN
  ⟨2, 0x0, 1, 0, 1, 0, 3, 1, true, (.nat 0 4 false), (some R.TB.ALIGN_SLEW)⟩  -- ALIGN_SLEW
  ]

/-- The felt sheet (R189). -/
def feltSheet : List SheetFld :=
  [
  ⟨0, 0x0, 1, 0, 1, 0, 5, 0, true, .any, none⟩,  -- RING_MASK
  ⟨0, 0x1, 1, 0, 1, 0, 5, 0, true, .any, none⟩,  -- OPEN_MASK
  ⟨0, 0x2, 1, 0, 1, 0, 15, 0, true, .any, none⟩,  -- LF_MASK
  ⟨0, 0x4, 1, 0, 1, 0, 0, 0, true, .any, (some R.FELT.PAIR)⟩,  -- PAIR
  ⟨1, 0x0, 6, 200, 50, 4, 15, 0, true, .any, (some I.FELT.DECL_E)⟩,  -- DECL_E
  ⟨1, 0x2, 6, 200, 50, 4, 15, 0, true, .any, (some I.FELT.DECL_W)⟩,  -- DECL_W
  ⟨1, 0x4b0, 16, 2, 1, 0, 15, 0, true, .any, (some I.FELT.LF_LAT)⟩,  -- LF_LAT
  ⟨2, 0x0, 1, 0, 1, 0, 7, 0, true, (.nat 2 15 false), (some R.FELT.CELL_LINK_TIMEOUT)⟩,  -- CELL_LINK_TIMEOUT
  ⟨2, 0x1, 1, 0, 1, 0, 7, 0, true, (.nat 4 255 false), (some R.FELT.CAL_SETTLE)⟩,  -- CAL_SETTLE
  ⟨2, 0x2, 1, 0, 1, 0, 7, 0, true, (.nat 2 64 false), (some R.FELT.ASYM_THR)⟩,  -- ASYM_THR
  ⟨2, 0x3, 1, 0, 1, 0, 7, 0, true, (.nat 4 255 false), (some R.FELT.SEG_STEP_THR)⟩,  -- SEG_STEP_THR
  ⟨2, 0x4, 1, 0, 1, 0, 15, 0, true, (.nat 4 4000 false), (some R.FELT.LAT_TOL)⟩,  -- LAT_TOL
  ⟨2, 0x6, 1, 0, 1, 0, 15, 0, true, (.nat 1 65535 false), (some R.FELT.ERR_THR)⟩  -- ERR_THR
  ]

/-- The modulation sheet (R241). -/
def modulationSheet : List SheetFld :=
  [
  ⟨0, 0x0, 6, 1, 1, 0, 7, 0, true, (.nat 0 1 false), (some R.MOD.STR_METHOD)⟩,  -- METHOD
  ⟨0, 0x6, 1, 0, 1, 0, 7, 0, true, (.nat 0 2 false), (some I.MOD.DAB_METHOD)⟩,  -- DAB_METHOD
  ⟨2, 0x0, 6, 4, 1, 0, 31, 0, true, .any, (some R.MOD.STR_CAR_PER)⟩,  -- CAR_PER
  ⟨2, 0x18, 1, 0, 1, 0, 31, 0, true, .any, (some R.MOD.DAB_PER)⟩,  -- DAB_PER
  ⟨2, 0x1c, 1, 0, 1, 0, 15, 0, true, (.nat 40 16000 false), (some R.MOD.DT_CELL)⟩,  -- DT_CELL
  ⟨2, 0x1e, 1, 0, 1, 0, 15, 0, true, (.nat 400 65535 false), (some R.MOD.MIN_PULSE)⟩,  -- MIN_PULSE
  ⟨2, 0x20, 1, 0, 1, 0, 15, 0, true, (.nat 0 10000 false), (some R.MOD.BYP_ALT)⟩,  -- BYP_ALT
  ⟨2, 0x22, 1, 0, 1, 0, 15, 0, true, (.nat 0 60000 false), (some R.MOD.BYP_MECH_DELAY)⟩,  -- BYP_MECH_DELAY
  ⟨2, 0x24, 1, 0, 1, 0, 15, 0, true, (.nat 10 1000 false), (some R.MOD.MECH_OPEN_MAX)⟩,  -- MECH_OPEN_MAX
  ⟨2, 0x26, 1, 0, 1, 0, 0, 0, true, .any, (some R.MOD.MECH_EN)⟩,  -- MECH_EN
  ⟨2, 0x27, 1, 0, 1, 0, 7, 0, true, (.nat 1 255 false), (some R.MOD.RET_SETTLE)⟩,  -- RET_SETTLE
  ⟨2, 0x28, 1, 0, 1, 0, 15, 0, true, (.nat 1 200 false), (some R.MOD.RET_BAND)⟩,  -- RET_BAND
  ⟨2, 0x2a, 1, 0, 1, 0, 15, 0, true, (.nat 10 60000 false), (some R.MOD.RET_TIMEOUT)⟩,  -- RET_TIMEOUT
  ⟨2, 0x2c, 1, 0, 1, 0, 15, 0, true, (.nat 16384 32768 false), (some R.MOD.M_MAX)⟩,  -- M_MAX
  ⟨2, 0x2e, 1, 0, 1, 0, 15, 0, true, .any, (some R.MOD.VCAP_OVP)⟩,  -- VCAP_OVP
  ⟨2, 0x30, 1, 0, 1, 0, 19, 0, true, (.nat 1 262143 false), (some R.MOD.D1_MAX)⟩,  -- D1_MAX
  ⟨2, 0x34, 1, 0, 1, 0, 15, 0, true, .any, (some R.MOD.T_MAX)⟩,  -- T_MAX
  ⟨2, 0x38, 6, 2, 1, 0, 15, 0, true, (.nat 0 65534 false), (some R.MOD.STR_VCELL_NOM)⟩  -- VCELL_NOM
  ]

/-- The calender sheet (R261). -/
def calenderSheet : List SheetFld :=
  [
  ⟨0, 0x0, 1, 0, 1, 0, 7, 0, true, (.nat 0 2 false), (some R.CAL.INTER)⟩,  -- INTER
  ⟨2, 0x0, 1, 0, 1, 0, 15, 0, true, (.nat 1 1000 false), (some R.CAL.TENURE)⟩,  -- TENURE
  ⟨2, 0x2, 1, 0, 1, 0, 15, 0, true, (.nat 1 200 false), (some R.CAL.TEN_BAND)⟩,  -- TEN_BAND
  ⟨2, 0x4, 1, 0, 1, 0, 31, 0, true, (.f32 0x0 0x41200000 false), (some R.CAL.K_BAL)⟩,  -- K_BAL
  ⟨2, 0x8, 1, 0, 1, 0, 31, 0, true, (.f32 0x0 0x3e800000 false), (some R.CAL.DELTA_MAX)⟩,  -- DELTA_MAX
  ⟨2, 0xc, 1, 0, 1, 0, 31, 0, true, (.f32 0x0 0x447a0000 false), (some R.CAL.I_DB)⟩,  -- I_DB
  ⟨2, 0x10, 1, 0, 1, 0, 31, 0, true, (.f32 0x0 0x47c35000 false), (some R.CAL.ZS_GAIN)⟩,  -- ZS_GAIN
  ⟨2, 0x14, 1, 0, 1, 0, 31, 0, true, (.f32 0x3dcccccd 0x461c4000 false), (some R.CAL.ZS_IFLOOR)⟩,  -- ZS_IFLOOR
  ⟨2, 0x18, 1, 0, 1, 0, 31, 0, true, (.f32 0x0 0x47435000 false), (some R.CAL.ZS_MAX)⟩,  -- ZS_MAX
  ⟨2, 0x1c, 1, 0, 1, 0, 31, 0, true, (.f32 0x0 0x47c35000 false), (some R.CAL.CC_GAIN)⟩,  -- CC_GAIN
  ⟨2, 0x20, 1, 0, 1, 0, 31, 0, true, (.f32 0x3f800000 0x47c35000 false), (some R.CAL.CC_VFLOOR)⟩,  -- CC_VFLOOR
  ⟨2, 0x24, 1, 0, 1, 0, 31, 0, true, (.f32 0x0 0x459c4000 false), (some R.CAL.CC_MAX)⟩,  -- CC_MAX
  ⟨2, 0x28, 1, 0, 1, 0, 31, 0, true, (.f32 0x37800000 0x3f800000 false), (some R.CAL.VM_FILT)⟩,  -- VM_FILT
  ⟨2, 0x2c, 1, 0, 1, 0, 15, 0, true, (.nat 1 500 false), (some R.CAL.SPREAD_MAX)⟩,  -- SPREAD_MAX
  ⟨2, 0x2e, 1, 0, 1, 0, 15, 0, true, (.nat 1 65535 false), (some R.CAL.SPREAD_FRAMES)⟩  -- SPREAD_FRAMES
  ]

/-- The control-law sheet (R298). -/
def controlLawSheet : List SheetFld :=
  [
  ⟨0, 0x0, 1, 0, 1, 0, 31, 0, true, (.nat 1 380000 false), (some R.CE.CE_TIME_DECL)⟩,  -- CE_TIME_DECL
  ⟨0, 0x4, 1, 0, 1, 0, 1, 0, true, .any, (some I.CE.REF)⟩,  -- REF
  ⟨0, 0x8, 12, 2, 1, 0, 15, 0, true, .any, (some I.CE.FE_IN)⟩,  -- FE_IN
  ⟨0, 0x20, 6, 1, 1, 0, 7, 0, true, (.oneOf [0, 1, 2, 255]), (some I.CE.STR_PHASE)⟩,  -- STR_PHASE
  ⟨0, 0x28, 64, 16, 1, 0, 7, 0, true, (.nat 0 4 false), none⟩,  -- KIND
  ⟨0, 0x28, 64, 16, 1, 0, 10, 8, true, (.nat 0 4 false), none⟩,  -- NSEC
  ⟨0, 0x28, 64, 16, 1, 0, 14, 11, true, .any, none⟩,  -- FLAGS
  ⟨0, 0x28, 64, 16, 1, 0, 23, 16, true, .any, none⟩,  -- SEC_TYPES
  ⟨0, 0x28, 64, 16, 1, 0, 28, 24, true, .any, none⟩,  -- LAW_MASK
  ⟨0, 0x2c, 64, 16, 1, 0, 15, 0, true, .any, none⟩,  -- FB_SIG
  ⟨0, 0x2c, 64, 16, 1, 0, 31, 16, true, .any, none⟩,  -- SP_SIG
  ⟨0, 0x30, 64, 16, 1, 0, 15, 0, true, .any, none⟩,  -- FF_SIG
  ⟨0, 0x30, 64, 16, 1, 0, 31, 16, true, .any, none⟩,  -- PRESET_SIG
  ⟨0, 0x34, 64, 16, 1, 0, 7, 0, true, (.nat 0 10 false), none⟩,  -- DEST
  ⟨0, 0x34, 64, 16, 1, 0, 23, 16, true, .any, none⟩,  -- HB_MASK
  ⟨0, 0x28, 256, 4, 1, 0, 31, 0, false, .any, (some R.CE.SLOT_DESC)⟩,  -- DESC
  ⟨2, 0x0, 64, 144, 34, 4, 31, 0, true, (.f32 0xff7fffff 0x7f7fffff false), none⟩,  -- BANK_A_C
  ⟨2, 0x88, 64, 144, 1, 0, 31, 0, true, (.f32 0xff7fffff 0x7f7fffff false), none⟩,  -- BANK_A_KB
  ⟨2, 0x2400, 64, 144, 34, 4, 31, 0, true, (.f32 0xff7fffff 0x7f7fffff false), none⟩,  -- BANK_S_C
  ⟨2, 0x2488, 64, 144, 1, 0, 31, 0, true, (.f32 0xff7fffff 0x7f7fffff false), none⟩,  -- BANK_S_KB
  ⟨2, 0x4800, 64, 144, 34, 4, 31, 0, true, (.f32 0xff7fffff 0x7f7fffff false), none⟩,  -- BANK_F_C
  ⟨2, 0x4888, 64, 144, 1, 0, 31, 0, true, (.f32 0xff7fffff 0x7f7fffff false), none⟩,  -- BANK_F_KB
  ⟨2, 0x6c00, 64, 40, 1, 0, 31, 0, true, (.f32 0x358637bd 0x5368d4a5 false), (some R.CE.PAR_SLEW_UP)⟩,  -- SLEW_UP
  ⟨2, 0x6c04, 64, 40, 1, 0, 31, 0, true, (.f32 0x358637bd 0x5368d4a5 false), (some R.CE.PAR_SLEW_DN)⟩,  -- SLEW_DN
  ⟨2, 0x6c08, 64, 40, 1, 0, 31, 0, true, (.f32 0xff7fffff 0x7f7fffff false), (some R.CE.PAR_FF_GAIN)⟩,  -- FF_GAIN
  ⟨2, 0x6c0c, 64, 40, 1, 0, 31, 0, true, (.f32 0xff7fffff 0x7f7fffff false), (some R.CE.PAR_PRESET_K)⟩,  -- PRESET_K
  ⟨2, 0x6c10, 64, 40, 1, 0, 31, 0, true, (.f32 0xff7fffff 0x7f7fffff false), (some R.CE.PAR_PL_A)⟩,  -- PL_A
  ⟨2, 0x6c14, 64, 40, 1, 0, 31, 0, true, (.f32 0xff7fffff 0x7f7fffff false), (some R.CE.PAR_PL_B)⟩,  -- PL_B
  ⟨2, 0x6c18, 64, 40, 1, 0, 31, 0, true, (.f32 0xff7fffff 0x7f7fffff false), (some R.CE.PAR_PL_C)⟩,  -- PL_C
  ⟨2, 0x6c1c, 64, 40, 1, 0, 31, 0, true, (.f32 0x1 0x7f7fffff false), (some R.CE.PAR_PL_THR)⟩,  -- PL_THR
  ⟨2, 0x6c20, 64, 40, 1, 0, 15, 0, true, (.nat 1 65535 false), (some R.CE.PAR_PL_N)⟩,  -- PL_N
  ⟨2, 0x6c22, 64, 40, 1, 0, 7, 0, true, (.nat 0 1 false), (some R.CE.PAR_AW)⟩,  -- AW
  ⟨2, 0x7600, 128, 8, 1, 0, 31, 0, true, (.f32 0xff7fffff 0x7f7fffff false), (some I.CE.GAIN)⟩,  -- GAIN
  ⟨2, 0x7604, 128, 8, 1, 0, 31, 0, true, (.f32 0xff7fffff 0x7f7fffff false), (some I.CE.OFS)⟩,  -- OFS
  ⟨2, 0x7a00, 1, 0, 1, 0, 31, 0, true, (.f32 0x42340000 0x42820000 false), (some R.CE.FNOM)⟩,  -- FNOM
  ⟨2, 0x7a04, 1, 0, 1, 0, 31, 0, true, (.f32 0x447a0000 0x47c35000 false), (some R.CE.VMV_NOM)⟩,  -- VMV_NOM
  ⟨2, 0x7a08, 1, 0, 1, 0, 31, 0, true, (.f32 0x0 0x461c4000 false), (some R.CE.PLL_KP)⟩,  -- PLL_KP
  ⟨2, 0x7a0c, 1, 0, 1, 0, 31, 0, true, (.f32 0x0 0x49742400 false), (some R.CE.PLL_KI)⟩,  -- PLL_KI
  ⟨2, 0x7a10, 1, 0, 1, 0, 31, 0, true, (.f32 0x3dcccccd 0x41200000 false), (some R.CE.PLL_DFMAX)⟩,  -- PLL_DFMAX
  ⟨2, 0x7a14, 1, 0, 1, 0, 31, 0, true, (.f32 0x3a83126f 0x3f800000 false), (some R.CE.PLL_LOCK_THR)⟩  -- PLL_LOCK_THR
  ] ++
  [
  ⟨2, 0x7a1c, 1, 0, 1, 0, 31, 0, true, (.f32 0x42340000 0x42820000 false), (some R.CE.LV_FNOM)⟩,  -- LV_FNOM
  ⟨2, 0x7a20, 1, 0, 1, 0, 31, 0, true, (.f32 0x42480000 0x447a0000 false), (some R.CE.LV_VNOM)⟩,  -- LV_VNOM
  ⟨2, 0x7a24, 1, 0, 1, 0, 31, 0, true, (.f32 0x42c80000 0x44bb8000 false), (some R.CE.LV_VBUS_NOM)⟩,  -- LV_VBUS_NOM
  ⟨2, 0x7a28, 1, 0, 1, 0, 31, 0, true, (.f32 0x0 0x3f800000 false), (some R.CE.RT_VLO)⟩,  -- RT_VLO
  ⟨2, 0x7a2c, 1, 0, 1, 0, 31, 0, true, (.f32 0x0 0x40000000 false), (some R.CE.RT_VHI)⟩,  -- RT_VHI
  ⟨2, 0x7a30, 1, 0, 1, 0, 31, 0, true, (.f32 0x3c23d70a 0x41200000 false), (some R.CE.RT_DF)⟩,  -- RT_DF
  ⟨2, 0x7a34, 1, 0, 1, 0, 31, 0, true, (.f32 0x1 0x7f7fffff false), (some R.CE.SYNC_VBUS)⟩,  -- SYNC_VBUS
  ⟨2, 0x7a38, 1, 0, 1, 0, 31, 0, true, (.f32 0x1 0x7f7fffff false), (some R.CE.SYNC_VLV)⟩,  -- SYNC_VLV
  ⟨2, 0x7a3c, 1, 0, 1, 0, 31, 0, true, (.f32 0x1 0x7f7fffff false), (some R.CE.SYNC_ES)⟩,  -- SYNC_ES
  ⟨2, 0x7a18, 1, 0, 1, 0, 15, 0, true, (.nat 1 65535 false), (some R.CE.PLL_LOCK_N)⟩,  -- PLL_LOCK_N
  ⟨2, 0x7a1a, 1, 0, 1, 0, 15, 0, true, .any, (some R.CE.LV_FSIG)⟩,  -- LV_FSIG
  ⟨2, 0x7a40, 1, 0, 1, 0, 7, 0, true, (.nat 0 1 false), (some R.CE.LV_LAW)⟩,  -- LV_LAW
  ⟨2, 0x7a41, 1, 0, 1, 0, 7, 0, true, (.nat 1 255 false), (some R.CE.GM_DET)⟩,  -- GM_DET
  ⟨2, 0x7a42, 1, 0, 1, 0, 4, 0, true, .any, (some R.CE.SYNC_MASK)⟩,  -- SYNC_MASK
  ⟨2, 0x7a44, 1, 0, 1, 0, 15, 0, true, (.nat 1 10000 false), (some R.CE.HANDOVER_T)⟩,  -- HANDOVER_T
  ⟨2, 0x7a46, 1, 0, 1, 0, 15, 0, true, .any, (some R.CE.PLAUS_WARMUP)⟩,  -- PLAUS_WARMUP
  ⟨2, 0x7a48, 1, 0, 1, 0, 15, 0, true, (.nat 500 1000 false), (some R.MODE.PRE_CELL_MIN)⟩,  -- PRE_CELL_MIN
  ⟨2, 0x7a4a, 1, 0, 1, 0, 15, 0, true, (.nat 500 1000 false), (some R.MODE.PRE_LV_MIN)⟩,  -- PRE_LV_MIN
  ⟨2, 0x7a4c, 1, 0, 1, 0, 15, 0, true, (.nat 1 200 false), (some R.MODE.PRE_SPREAD)⟩,  -- PRE_SPREAD
  ⟨2, 0x7a4e, 1, 0, 1, 0, 15, 0, true, (.nat 1 65535 false), (some R.MODE.SYNC_HOLD)⟩,  -- SYNC_HOLD
  ⟨2, 0x7a50, 1, 0, 1, 0, 15, 0, true, (.nat 10 10000 false), (some R.MODE.RT_MAX)⟩,  -- RT_MAX
  ⟨2, 0x7a52, 1, 0, 1, 0, 15, 0, true, (.nat 1 65535 false), (some R.MODE.RT_RECOVER)⟩,  -- RT_RECOVER
  ⟨2, 0x7a54, 1, 0, 1, 0, 15, 0, true, (.nat 10 10000 false), (some R.MODE.STOP_MAX)⟩,  -- STOP_MAX
  ⟨2, 0x7a56, 1, 0, 1, 0, 15, 0, true, (.nat 10 200 false), (some R.MODE.TEST_VMAX)⟩,  -- TEST_VMAX
  ⟨2, 0x7a80, 2, 4, 1, 0, 31, 0, true, (.f32 0xff7fffff 0x7f7fffff false), none⟩,  -- LOSS1
  ⟨2, 0x7a88, 160, 4, 1, 0, 31, 0, true, (.f32 0x0 0x7f7fffff false), none⟩,  -- LOSS2
  ⟨2, 0x7a80, 162, 4, 1, 0, 31, 0, false, .any, (some I.CE.LOSS)⟩  -- LOSS
  ]

/-- The afe sheet (R348). -/
def afeSheet : List SheetFld :=
  [
  ⟨0, 0x0, 128, 4, 1, 0, 7, 0, true, .any, none⟩,  -- CH
  ⟨0, 0x0, 128, 4, 1, 0, 9, 8, true, .any, none⟩,  -- ADC
  ⟨0, 0x0, 128, 4, 1, 0, 10, 10, true, .any, none⟩,  -- LINK
  ⟨0, 0x0, 128, 4, 1, 0, 12, 11, true, (.nat 0 2 false), none⟩,  -- FMT
  ⟨0, 0x0, 128, 4, 1, 0, 15, 15, true, .any, none⟩,  -- USED
  ⟨0, 0x0, 128, 4, 1, 0, 31, 0, false, .any, (some R.AFE.ENTRY)⟩,  -- ENTRY
  ⟨0, 0x200, 8, 4, 1, 0, 3, 0, true, .any, (some R.AFE.SEQ_NENT)⟩,  -- NENT
  ⟨0, 0x200, 8, 4, 1, 0, 6, 4, true, .any, (some R.AFE.SEQ_TRIG_SRC)⟩,  -- TRIG_SRC
  ⟨0, 0x200, 8, 4, 1, 0, 7, 7, true, .any, (some R.AFE.SEQ_QUEUE1)⟩,  -- QUEUE1
  ⟨0, 0x200, 8, 4, 1, 0, 10, 8, true, (.nat 0 5 false), (some R.AFE.SEQ_FSYNC_RING)⟩,  -- FSYNC_RING
  ⟨0, 0x200, 8, 4, 1, 0, 11, 11, true, .any, (some R.AFE.SEQ_FSYNC_PORT)⟩,  -- FSYNC_PORT
  ⟨0, 0x220, 24, 1, 1, 0, 1, 0, true, .any, (some R.AFE.WC_WMODE)⟩,  -- WMODE
  ⟨0, 0x220, 24, 1, 1, 0, 2, 2, true, .any, (some R.AFE.WC_ROLE)⟩,  -- ROLE
  ⟨2, 0x0, 8, 4, 1, 0, 15, 0, true, .any, (some R.AFE.SEQ_DLY)⟩,  -- DLY
  ⟨2, 0x20, 24, 8, 1, 0, 15, 0, true, (.nat 0 1023 false), (some R.AFE.WC_TH_LO)⟩,  -- TH_LO
  ⟨2, 0x22, 24, 8, 1, 0, 15, 0, true, (.nat 0 1023 false), (some R.AFE.WC_TH_HI)⟩,  -- TH_HI
  ⟨2, 0x24, 24, 8, 1, 0, 7, 0, true, (.nat 0 15 false), (some R.AFE.WC_FILT)⟩,  -- FILT
  ⟨2, 0x25, 24, 8, 1, 0, 7, 0, true, (.nat 0 15 false), (some R.AFE.WC_HYST)⟩,  -- HYST
  ⟨2, 0x26, 24, 8, 1, 0, 7, 0, true, (.nat 0 1 false), (some R.AFE.WC_CLR)⟩,  -- CLR
  ⟨2, 0xe0, 2, 8, 1, 0, 31, 0, true, (.nat0 100 16777215), (some R.AFE.GT_PERIOD)⟩,  -- GT_PERIOD
  ⟨2, 0xe4, 2, 8, 1, 0, 31, 0, true, (.nat 0 16777214 false), (some R.AFE.GT_PHASE)⟩,  -- GT_PHASE
  ⟨2, 0xf0, 1, 0, 1, 0, 15, 0, true, (.nat 16 4096 false), (some R.AFE.DAC_TOL)⟩  -- DAC_TOL
  ]

/-- The lv-drive sheet (R325). -/
def lvDriveSheet : List SheetFld :=
  [
  ⟨0, 0x0, 8, 4, 1, 0, 1, 0, true, (.nat 0 2 false), none⟩,  -- ROLE
  ⟨0, 0x0, 8, 4, 1, 0, 3, 2, true, .any, none⟩,  -- LEG_POS
  ⟨0, 0x0, 8, 4, 1, 0, 5, 4, true, .any, none⟩,  -- SHORT_GRP
  ⟨0, 0x0, 8, 4, 1, 0, 7, 6, true, .any, none⟩,  -- EN
  ⟨0, 0x0, 8, 4, 1, 0, 7, 0, true, .any, (some R.LVD.HB_CFG)⟩,  -- HB_CFG
  ⟨0, 0x20, 1, 0, 1, 0, 3, 0, true, .any, (some I.LVD.SAFE_STATE)⟩,  -- SAFE_STATE
  ⟨0, 0x24, 24, 1, 1, 0, 7, 0, true, .any, (some R.LVD.TRIP_MAP)⟩,  -- TRIP_MAP
  ⟨2, 0x0, 16, 8, 1, 0, 7, 0, true, (.nat 0 31 false), (some R.LVD.CH_TON_SRC)⟩,  -- TON_SRC
  ⟨2, 0x1, 16, 8, 1, 0, 7, 0, true, (.nat 0 31 false), (some R.LVD.CH_TOFF_SNK)⟩,  -- TOFF_SNK
  ⟨2, 0x2, 16, 8, 1, 0, 7, 0, true, (.nat 0 31 false), (some R.LVD.CH_SOFT_SNK)⟩,  -- SOFT_SNK
  ⟨2, 0x3, 16, 8, 1, 0, 7, 0, true, (.nat 2 255 false), (some R.LVD.CH_SC1_LVL)⟩,  -- SC1_LVL
  ⟨2, 0x4, 16, 8, 1, 0, 7, 0, true, (.nat 2 255 false), (some R.LVD.CH_SC2_LVL)⟩,  -- SC2_LVL
  ⟨2, 0x6, 16, 8, 1, 0, 15, 0, true, (.nat 100 2000 false), (some R.LVD.CH_BLANK)⟩,  -- BLANK
  ⟨2, 0x80, 8, 2, 1, 0, 15, 0, true, (.nat 80 40000 false), (some R.LVD.HB_DT_LV)⟩,  -- DT_LV
  ⟨2, 0x90, 1, 0, 1, 0, 15, 0, true, (.nat 80 4000 false), (some R.LVD.DT_MIN)⟩,  -- DT_MIN
  ⟨2, 0x92, 1, 0, 1, 0, 15, 0, true, (.nat 80 65535 false), (some R.LVD.LV_MIN_PULSE)⟩,  -- LV_MIN_PULSE
  ⟨2, 0x94, 1, 0, 1, 0, 31, 0, true, (.nat 10240000 1024000000 false), (some R.LVD.LV_CAR_PER)⟩,  -- LV_CAR_PER
  ⟨2, 0x98, 1, 0, 1, 0, 15, 0, true, (.nat 1 10000 false), (some R.LVD.RETRY_WAIT)⟩,  -- RETRY_WAIT
  ⟨2, 0x9a, 1, 0, 1, 0, 7, 0, true, (.nat 0 7 false), (some R.LVD.RETRY_MAX)⟩,  -- RETRY_MAX
  ⟨2, 0x9b, 1, 0, 1, 0, 0, 0, true, .any, (some R.LVD.LEGACY_CLR)⟩,  -- LEGACY_CLR
  ⟨2, 0x9c, 1, 0, 1, 0, 15, 0, true, (.nat 32768 65535 false), (some R.LVD.DUTY_MAX)⟩  -- DUTY_MAX
  ]

/-- The reaction sheet (R377). -/
def reactionSheet : List SheetFld :=
  [
  ⟨2, 0x0, 4096, 2, 1, 0, 3, 0, true, (.nat 0 8 false), (some R.FLT.RT_CODE)⟩,  -- CODE
  ⟨2, 0x1, 4096, 2, 1, 0, 7, 0, true, .any, (some R.FLT.RT_DERATE_K)⟩,  -- DERATE_K
  ⟨2, 0x2000, 16, 4, 1, 0, 31, 0, true, (.nat 0 600000 false), (some R.FLT.QUIET_T)⟩,  -- QUIET_T
  ⟨2, 0x2040, 1, 0, 1, 0, 7, 0, true, .any, (some R.FLT.MAX_RECOV)⟩,  -- MAX_RECOV
  ⟨2, 0x2041, 1, 0, 1, 0, 7, 0, true, (.nat 1 8 false), (some R.FLT.FIRST_MIN)⟩  -- FIRST_MIN
  ]

/-- The mirror sheet (R421). `n` is its ITEM_COUNT. -/
def mirrorSheet (n : Nat) : List SheetFld :=
  [
  ⟨0, 0x0, 1, 0, 1, 0, 15, 0, true, (.nat 1 1024 false), (some R.PART.ITEM_COUNT)⟩,  -- ITEM_COUNT
  ⟨0, 0x4, n, 4, 1, 0, 7, 0, true, .any, none⟩,  -- INDEX
  ⟨0, 0x4, n, 4, 1, 0, 9, 8, true, .any, none⟩,  -- SEC
  ⟨0, 0x4, n, 4, 1, 0, 15, 10, true, .any, none⟩,  -- SLOT
  ⟨0, 0x4, n, 4, 1, 0, 19, 16, true, .any, none⟩,  -- KIND
  ⟨0, 0x4, n, 4, 1, 0, 21, 20, true, (.nat 0 2 false), none⟩,  -- RATE
  ⟨2, 0x0, 1, 0, 1, 0, 7, 0, true, (.nat 2 13 false), (some R.PART.HB_TIMEOUT)⟩,  -- HB_TIMEOUT
  ⟨2, 0x2, 1, 0, 1, 0, 15, 0, true, (.nat 0 3600 false), (some R.PART.TAKEBACK_HOLD)⟩  -- TAKEBACK_HOLD
  ]

/-- The network sheet (R491). -/
def networkSheet : List SheetFld :=
  [
  ⟨0, 0x0, 1, 0, 1, 0, 1, 0, true, .any, none⟩,  -- PHY
  ⟨0, 0x0, 1, 0, 1, 0, 3, 2, true, (.nat 0 2 false), none⟩,  -- RED
  ⟨0, 0x1, 1, 0, 1, 0, 1, 0, true, .any, none⟩,  -- TIME_PRI
  ⟨0, 0x1, 1, 0, 1, 0, 3, 2, true, .any, none⟩,  -- TIME_CHK
  ⟨0, 0x1, 1, 0, 1, 0, 4, 4, true, .any, none⟩,  -- IRIG_B004
  ⟨0, 0x1, 1, 0, 1, 0, 5, 5, true, .any, none⟩,  -- IRIG_1344
  ⟨0, 0x2, 1, 0, 1, 0, 7, 0, true, (.nat 0 1 false), none⟩,  -- PTP_PROFILE
  ⟨0, 0x3, 1, 0, 1, 0, 7, 0, true, .any, none⟩,  -- PTP_DOMAIN
  ⟨0, 0x4, 1, 0, 1, 0, 7, 0, true, (.nat 0 1 false), none⟩,  -- PTP_MINOR
  ⟨0, 0x5, 1, 0, 1, 0, 7, 0, true, (.nat 0 8 false), none⟩,  -- N_SVPUB
  ⟨0, 0x6, 1, 0, 1, 0, 7, 0, true, (.nat 0 16 false), none⟩,  -- N_SVSUB
  ⟨0, 0x7, 1, 0, 1, 0, 7, 0, true, (.nat 0 32 false), none⟩,  -- N_GSUB
  ⟨0, 0x8, 1, 0, 1, 0, 7, 0, true, (.nat 0 8 false), none⟩,  -- N_GPUB
  ⟨0, 0x9, 1, 0, 1, 0, 2, 0, true, .any, none⟩,  -- VLAN_PRIO
  ⟨0, 0xa, 1, 0, 1, 0, 11, 0, true, .any, none⟩,  -- VLAN_ID
  ⟨0, 0xc, 1, 0, 1, 0, 47, 0, true, .any, none⟩,  -- MAC_PUB
  ⟨0, 0x20, 8, 256, 1, 0, 15, 0, true, .any, none⟩,  -- SVP_APPID
  ⟨0, 0x22, 8, 256, 1, 0, 7, 0, true, (.nat 0 1 false), none⟩,  -- SVP_FMT
  ⟨0, 0x23, 8, 256, 1, 0, 7, 0, true, (.nat 0 1 false), none⟩,  -- SVP_RATE
  ⟨0, 0x24, 8, 256, 1, 0, 7, 0, true, (.nat 0 8 false), none⟩,  -- SVP_NOASDU
  ⟨0, 0x25, 8, 256, 1, 0, 7, 0, true, (.nat 0 16 false), none⟩,  -- SVP_NCH
  ⟨0, 0x28, 8, 256, 1, 0, 47, 0, true, .any, none⟩,  -- SVP_DST_MAC
  ⟨0, 0x30, 8, 256, 1, 0, 31, 0, true, .any, none⟩,  -- SVP_CONFREV
  ⟨0, 0x40, 8, 256, 1, 0, 511, 0, true, .any, none⟩,  -- SVP_SVID
  ⟨0, 0x80, 8, 256, 16, 8, 15, 0, true, .any, none⟩,  -- SVP_SIG
  ⟨0, 0x82, 8, 256, 16, 8, 7, 0, true, (.nat 0 1 false), none⟩,  -- SVP_KIND
  ⟨0, 0x84, 8, 256, 16, 8, 31, 0, true, (.f32 0xff7fffff 0x7f7fffff false), none⟩,  -- SVP_SCALE
  ⟨0, 0x820, 16, 128, 1, 0, 15, 0, true, .any, none⟩,  -- SVS_APPID
  ⟨0, 0x822, 16, 128, 1, 0, 7, 0, true, (.nat 0 1 false), none⟩,  -- SVS_FMT
  ⟨0, 0x823, 16, 128, 1, 0, 7, 0, true, (.nat 0 1 false), none⟩,  -- SVS_RATE
  ⟨0, 0x824, 16, 128, 1, 0, 7, 0, true, (.nat 0 8 false), none⟩,  -- SVS_NOASDU
  ⟨0, 0x825, 16, 128, 1, 0, 7, 0, true, (.nat 0 15 false), none⟩,  -- SVS_CH
  ⟨0, 0x828, 16, 128, 1, 0, 47, 0, true, .any, none⟩,  -- SVS_SRC_MAC
  ⟨0, 0x830, 16, 128, 1, 0, 31, 0, true, .any, none⟩,  -- SVS_CONFREV
  ⟨0, 0x834, 16, 128, 1, 0, 15, 0, true, .any, none⟩,  -- SVS_CMP_SIG
  ⟨0, 0x838, 16, 128, 1, 0, 31, 0, true, (.f32 0xff7fffff 0x7f7fffff false), none⟩,  -- SVS_SCALE
  ⟨0, 0x840, 16, 128, 1, 0, 511, 0, true, .any, none⟩,  -- SVS_SVID
  ⟨0, 0x1020, 32, 192, 1, 0, 15, 0, true, .any, none⟩,  -- GS_APPID
  ⟨0, 0x1022, 32, 192, 1, 0, 7, 0, true, (.nat 0 63 false), none⟩,  -- GS_TRIG_MEMBER
  ⟨0, 0x1024, 32, 192, 1, 0, 7, 0, true, (.nat 0 64 false), none⟩  -- GS_NDSMEM
  ] ++
  [
  ⟨0, 0x1028, 32, 192, 1, 0, 47, 0, true, .any, none⟩,  -- GS_SRC_MAC
  ⟨0, 0x1030, 32, 192, 1, 0, 31, 0, true, .any, none⟩,  -- GS_CONFREV
  ⟨0, 0x1040, 32, 192, 1, 0, 511, 0, true, .any, none⟩,  -- GS_GOCBREF
  ⟨0, 0x1080, 32, 192, 1, 0, 511, 0, true, .any, none⟩,  -- GS_DATSET
  ⟨0, 0x10c0, 32, 192, 1, 0, 255, 0, true, .any, none⟩,  -- GS_GOID
  ⟨0, 0x1023, 32, 192, 1, 0, 1, 0, true, .any, none⟩,  -- GS_FLAGS
  ⟨0, 0x2820, 8, 256, 1, 0, 15, 0, true, .any, none⟩,  -- GP_APPID
  ⟨0, 0x2822, 8, 256, 1, 0, 7, 0, true, (.nat 0 32 false), none⟩,  -- GP_NMEM
  ⟨0, 0x2828, 8, 256, 1, 0, 47, 0, true, .any, none⟩,  -- GP_DST_MAC
  ⟨0, 0x2830, 8, 256, 1, 0, 31, 0, true, .any, none⟩,  -- GP_CONFREV
  ⟨0, 0x2840, 8, 256, 1, 0, 511, 0, true, .any, none⟩,  -- GP_GOCBREF
  ⟨0, 0x2880, 8, 256, 1, 0, 511, 0, true, .any, none⟩,  -- GP_DATSET
  ⟨0, 0x2900, 8, 256, 1, 0, 255, 0, true, .any, none⟩,  -- GP_GOID
  ⟨0, 0x2823, 8, 256, 1, 0, 0, 0, true, .any, none⟩,  -- GP_FLAGS
  ⟨0, 0x28c0, 8, 256, 32, 2, 15, 0, true, .any, none⟩,  -- GP_MEMBER
  ⟨2, 0x0, 1, 0, 1, 0, 31, 0, true, (.nat 10 1000000 false), (some R.NET.PD_STEP_THR)⟩,  -- PD_STEP_THR
  ⟨2, 0x4, 1, 0, 1, 0, 31, 0, true, (.nat 100 100000000 false), (some R.NET.STEP_THR)⟩,  -- STEP_THR
  ⟨2, 0x8, 1, 0, 1, 0, 31, 0, true, (.f32 0x0 0x447a0000 false), (some R.NET.KP)⟩,  -- KP
  ⟨2, 0xc, 1, 0, 1, 0, 31, 0, true, (.f32 0x0 0x447a0000 false), (some R.NET.KI)⟩,  -- KI
  ⟨2, 0x10, 1, 0, 1, 0, 31, 0, true, (.nat 1 1000000 false), (some R.NET.LOCK_THR)⟩,  -- LOCK_THR
  ⟨2, 0x14, 1, 0, 1, 0, 15, 0, true, (.nat 1 1000 false), (some R.NET.LOCK_N)⟩,  -- LOCK_N
  ⟨2, 0x16, 1, 0, 1, 0, 15, 0, true, (.nat 2 1000 false), (some R.NET.PD_SETTLE)⟩,  -- PD_SETTLE
  ⟨2, 0x18, 1, 0, 1, 0, 15, 0, true, (.nat 4 256 false), (some R.NET.RATE_WIN)⟩,  -- RATE_WIN
  ⟨2, 0x1a, 1, 0, 1, 0, 7, 0, true, (.nat 6 255 false), (some R.NET.CLASS_MAX)⟩,  -- CLASS_MAX
  ⟨2, 0x1b, 1, 0, 1, 0, 7, 0, true, (.nat 0 2 false), (some R.NET.SERVO_MODE)⟩,  -- SERVO_MODE
  ⟨2, 0x1c, 1, 0, 1, 0, 31, 0, true, (.nat 10 10000000 false), (some R.NET.XCHK_THR)⟩,  -- XCHK_THR
  ⟨2, 0x28, 1, 0, 1, 0, 15, 0, true, (.nat 1 1000 false), (some R.NET.T_MIN)⟩,  -- T_MIN
  ⟨2, 0x2a, 1, 0, 1, 0, 15, 0, true, (.nat 100 60000 false), (some R.NET.T0)⟩,  -- T0
  ⟨2, 0x2c, 1, 0, 1, 0, 31, 0, true, (.f32 0x1 0x7f7fffff false), (some R.NET.SUB_DIFF_THR)⟩,  -- SUB_DIFF_THR
  ⟨2, 0x30, 1, 0, 1, 0, 15, 0, true, (.nat 1 65535 false), (some R.NET.SUB_DIFF_N)⟩,  -- SUB_DIFF_N
  ⟨2, 0x32, 1, 0, 1, 0, 7, 0, true, (.nat 2 10 false), (some R.NET.ANN_RX_TO)⟩,  -- ANN_RX_TO
  ⟨2, 0x33, 1, 0, 1, 0, 7, 0, true, (.nat 2 181 false), (some R.NET.PPS_OUT_CTL)⟩,  -- PPS_OUT_CTL
  ⟨2, 0x34, 1, 0, 1, 0, 15, 0, true, (.nat 0 100 false), (some R.NET.TAI_UTC)⟩,  -- TAI_UTC
  ⟨2, 0x36, 1, 0, 1, 0, 15, 0, true, (.nat 1 65535 false), (some R.NET.ERR_THR)⟩,  -- ERR_THR
  ⟨2, 0x20, 4, 2, 1, 0, 15, 0, true, (.int (-2000) 2000), none⟩  -- LAT
  ]

/-- The safety sheet (R394). -/
def safetySheet : List SheetFld :=
  [
  ⟨0, 0x0, 4, 4, 1, 0, 31, 0, true, .any, (some R.SAFE.PAIR_SI_CFG)⟩,  -- SI_CFG
  ⟨0, 0x10, 4, 2, 1, 0, 15, 0, true, .any, (some R.SAFE.PAIR_DISC_T)⟩,  -- DISC_T
  ⟨0, 0x18, 4, 1, 1, 0, 7, 0, true, .any, (some R.SAFE.FB_CFG)⟩,  -- FB_CFG
  ⟨0, 0x1c, 1, 0, 1, 0, 15, 0, true, .any, (some R.SAFE.FB_TIMEOUT)⟩,  -- FB_TIMEOUT
  ⟨0, 0x20, 1, 0, 1, 0, 31, 0, true, .any, (some R.SAFE.SF_ID)⟩,  -- SF_ID
  ⟨0, 0x28, 1, 0, 1, 0, 31, 0, true, .any, (some R.SAFE.SF_CRC)⟩  -- SF_CRC
  ]

/-- The fields of a sheet type; `n` is the ITEM_COUNT of a mirror sheet. -/
def sheetFields (typ n : Nat) : List SheetFld :=
  match typ with
  | 1 => topologySheet
  | 2 => feltSheet
  | 3 => modulationSheet
  | 4 => calenderSheet
  | 5 => controlLawSheet
  | 6 => afeSheet
  | 7 => lvDriveSheet
  | 8 => reactionSheet
  | 9 => mirrorSheet n
  | 10 => networkSheet
  | 11 => safetySheet
  | _ => []

/-- The length of each part of a sheet type (R103). -/
def sheetLengths (typ n : Nat) : Nat × Nat × Nat :=
  match typ with
  | 1 => (32, 576, 4)
  | 2 => (8, 1232, 8)
  | 3 => (8, 0, 68)
  | 4 => (4, 0, 48)
  | 5 => (1064, 0, 32008)
  | 6 => (576, 0, 256)
  | 7 => (64, 0, 160)
  | 8 => (0, 0, 8264)
  | 9 => (4 + 4 * n, 0, 4)
  | 10 => (12320, 0, 64)
  | 11 => (44, 0, 0)
  | _ => (0, 0, 0)

end Sys2Proof.Machine
end

