-- ==== Sys2Proof/Machine/ReamRules.lean ====
section
/-! DEFINITION. What a Ream sets (R97) and the rules it must meet (steps 10 to 12 of R114): the ranges of fields, the registers loaded
from the sheets and those computed from them, and the rules over more than one field. -/
namespace Sys2Proof.Machine

/-! Ranges (R11). -/

/-- The errors of a value of w bits against the range of its field. -/
def Rng.errs (r : Rng) (w v : Nat) : List Err :=
  let bad (zero ok : Bool) : List Err := if ok then [] else if zero && v = 0 then [eZero] else [eRange]
  let f32 (lo hi : Nat) : Bool := b32.finite v && b32.le lo v && b32.le v hi
  match r with
  | .any => []
  | .nat lo hi z => bad z (lo ≤ v && v ≤ hi)
  | .int lo hi => bad false (lo ≤ toInt w v && toInt w v ≤ hi)
  | .nat0 lo hi => bad false (v = 0 || (lo ≤ v && v ≤ hi))
  | .oneOf l => bad false (l.contains v)
  | .f32 lo hi z => bad z (f32 lo hi)
  | .f32z lo hi => bad false (v = 0 || f32 lo hi)

/-! Fields of a sheet. -/

/-- A part of a sheet. -/
def Sheet.part (sh : Sheet) (k : Nat) : SheetPart := match k with | 0 => sh.strc | 1 => sh.map | _ => sh.par

/-- ITEM_COUNT of a mirror sheet (R421). -/
def Sheet.items (sh : Sheet) : Nat := bytesAt sh.strc.data 0 2

/-- The byte of its part at which element (i, j) of a field stands. -/
def SheetFld.at (f : SheetFld) (i j : Nat) : Nat := f.off + f.s1 * i + f.s2 * j

/-- Element (i, j) of a field of a part. -/
def SheetFld.read (f : SheetFld) (data i j : Nat) : Nat := bitsOf (data >>> (8 * f.at i j)) f.hi f.lo

/-- The elements of a field. -/
def SheetFld.elems (f : SheetFld) : List (Nat × Nat) := (List.range f.n1).flatMap (fun i => (List.range f.n2).map (fun j => (i, j)))

/-- A sheet of a type in a Ream. -/
def Image.sheet (im : Image) (typ : Nat) : Option Sheet := im.sheets.find? (fun sh => sh.typ = typ)

/-- `len` bytes at a byte of the structure part or of the parameter part of a sheet. -/
def Image.strc (im : Image) (typ off len : Nat) : Nat := ((im.sheet typ).map (fun sh => bytesAt sh.strc.data off len)).getD 0
def Image.par (im : Image) (typ off len : Nat) : Nat := ((im.sheet typ).map (fun sh => bytesAt sh.par.data off len)).getD 0

/-! Registers from sheets (R97). -/

/-- Every register that a sheet gives takes its value. -/
def Dev.loadSheet (d : Dev) (sh : Sheet) : Dev :=
  (sheetFields sh.typ sh.items).foldl (fun d f =>
    match f.dst with
    | none => d
    | some r => f.elems.foldl (fun d e => d.put r (f.read (sh.part f.part).data e.1 e.2) (e.1 * f.n2 + e.2)) d) d

/-- The mapped cells of a ring. -/
def Dev.ringCells (d : Dev) (r : Nat) : Nat :=
  ((List.range 144).filter (fun c => d.cellUsed c && d.get R.CELL.LINK_KIND c = 1 && d.get R.CELL.LINK c = r)).length

/-- The declared latency of segment s of a ring, summed over the first n segments. -/
def Dev.declSum (d : Dev) (f : Fld) (r n : Nat) : Nat := sumNat ((List.range n).map (fun s => d.get f (50 * r + s)))

/-- The declared L1 of a ring in q (R190); 0 for a ring that is not enabled. -/
def Dev.ringL1 (d : Dev) (r : Nat) : Nat :=
  let n := d.get I.FELT.NCELLS r
  if !d.is I.FELT.RING_EN r then 0
  else if d.is R.FELT.RING_OPEN r then d.declSum I.FELT.DECL_E r n + d.declSum I.FELT.DECL_W r n + 512 * n
  else
    let k := if d.is R.FELT.PAIR then n + 2 else n + 1
    max (d.declSum I.FELT.DECL_E r k) (d.declSum I.FELT.DECL_W r k) + 256 * n + (if d.is R.FELT.PAIR then 256 else 0)

/-- The declared L1 of a Gen1 link in q (R183); 0 for a link that is not enabled. -/
def Dev.lfL1 (d : Dev) (n : Nat) : Nat := if d.is I.FELT.LF_EN n then d.get I.FELT.LF_LAT n + 1600 else 0

/-- UP_CUT in q (R163, R183). -/
def Dev.ringCut (d : Dev) (r : Nat) : Nat := if d.is I.FELT.RING_EN r then 2000 + d.ringL1 r + 768 * d.get I.FELT.NCELLS r else 0
def Dev.lfCut (d : Dev) (n : Nat) : Nat := if d.is I.FELT.LF_EN n then 15680 + d.get I.FELT.LF_LAT n else 0

/-- The declared L1 of the slowest ring, in q (R164). -/
def Dev.l1Rings (d : Dev) : Nat := maxOf ((List.range 6).map d.ringL1)

/-- The topology and the links of a Ream (R188 to R190). -/
def Dev.loadLinks (d : Dev) (im : Image) : Dev :=
  let bit (typ off len i : Nat) : Bool := bitOf (im.strc typ off len) i = 1
  let d1 := ((d.put I.MOD.STR_MASK (im.strc 1 4 1)).put I.MOD.CONN (im.strc 1 5 1)).forN 6 (fun d s =>
    (d.put I.MOD.STR_CELLS (im.strc 1 (8 + 4 * s) 1) s).flag R.MOD.STR_HOT (bit 1 6 1 s) s)
  let d2 := d1.forN 6 (fun d r =>
    ((d.put I.FELT.NCELLS (d.ringCells r) r).flag I.FELT.RING_EN (bit 2 0 1 r) r).flag R.FELT.RING_OPEN (bit 2 1 1 r) r)
  let d3 := d2.forN 16 (fun d n =>
    (d.flag I.FELT.LF_EN (bit 2 2 2 n) n).flag R.FELT.LF_USED ((List.range 144).any (fun c => d.cellUsed c && d.cellLink c = some (6 + n))) n)
  let d4 := d3.forN 6 (fun d r => (d.put R.FELT.RING_L1_DECL (d.ringL1 r) r).put R.FELT.RING_UP_CUT ((d.ringCut r + 3) / 4) r)
  d4.put I.TB.L1_MAX (max d4.l1Rings (maxOf ((List.range 16).map d4.lfL1)))

/-- The registers of a Ream that are computed from more than one of its fields. -/
def Dev.loadDerived (d : Dev) (im : Image) : Dev :=
  let tf := im.strc 1 0 4
  let d1 := (d.loadLinks im).forN 8 (fun d n => d.put R.AFE.SEQ_NSTEP (stepsOf (d.seqEntries n)).length n)
  let d2 := d1.put R.AFE.SEQ_USED ((List.range 8).foldl (fun v n => if d1.get R.AFE.SEQ_NENT n != 0 then v + 2 ^ n else v) 0)
  let d3 := (d2.put R.TB.TF tf).put I.TB.TF_REAM tf
  let d4 := d3.forN (im.strc 9 0 2) (fun d i => d.put I.PART.ITEM (im.strc 9 (4 + 4 * i) 4) i)
  (d4.put R.PART.MIRROR_BYTES d4.mirrorBytes).put I.PERF.NET_SLOW (if 2 ≤ bitsOf (im.strc 10 0 1) 1 0 then 1 else 0)

/-- Word k of a coefficient bank as the control-law sheet holds it (R288, R298). -/
def Dev.loadBank (d : Dev) (im : Image) (f : Fld) (base : Nat) : Dev :=
  match im.sheet 5 with
  | none => d
  | some sh => d.forN 2304 (fun d k => d.put f (bytesAt sh.par.data (base + 4 * k) 4) k)

/-- Every register of a Ream but the coefficient banks; the image counts as the active one (R97). -/
def Dev.loadImage (d : Dev) (im : Image) : Dev :=
  (im.sheets.foldl Dev.loadSheet { d with ream := { d.ream with active := some im } }).loadDerived im

/-! Rules over more than one field. -/

/-- The string map of the topology sheet (R188, R190). -/
def Dev.stringBad (d : Dev) (s : Nat) : Bool :=
  let n := d.get I.MOD.STR_CELLS s
  let need := d.get R.MOD.STR_NEEDED s
  let ps := ((List.range 144).filter (fun c => d.cellUsed c && d.get I.CELL.STRING c = s)).map (fun c => d.get I.CELL.POS c)
  (if d.strExists s then n = 0 || need = 0 || n < need else n != 0 || need != 0) ||
    ps.length != n || (List.range n).any (fun p => !ps.contains p)

/-- The hops of a ring are 0 to N − 1, and N is at most 48 (R190). -/
def Dev.ringBad (d : Dev) (r : Nat) : Bool :=
  let n := d.get I.FELT.NCELLS r
  d.is I.FELT.RING_EN r && (48 < n || (List.range n).any (fun h => (d.slotAt r h).isNone))

/-- The link of a mapped slot is enabled (R190). -/
def Dev.linkOff (d : Dev) (c : Nat) : Bool :=
  d.cellUsed c && (match d.cellLink c with
    | none => true
    | some ix => if d.get R.CELL.LINK_KIND c = 1 then !(ix < 6 && d.is I.FELT.RING_EN ix) else !d.is I.FELT.LF_EN (ix - 6))

/-- Some cell is on a Gen1 link. -/
def Dev.hasGen1 (d : Dev) : Bool := (List.range 144).any (fun c => d.cellUsed c && d.get R.CELL.LINK_KIND c = 2)

/-- A slot that is not mapped has a field that is not zero (R188). -/
def Dev.unusedSlot (d : Dev) (c : Nat) : Bool :=
  !d.cellUsed c && (d.is I.CELL.STRING c || d.is I.CELL.POS c || d.is R.CELL.LINK_KIND c || d.is R.CELL.LINK c || d.is R.CELL.HOP c)

/-- The rules of topology and felt (R161, R164, R184, R188, R190). -/
def Dev.linkRules (d : Dev) : List Err :=
  let tf := d.get R.TB.TF
  let ce := 4 * d.get R.CE.CE_TIME_DECL
  let cuts := (List.range 6).map d.ringCut ++ (List.range 16).map d.lfCut
  let gen1 (n : Nat) : Nat := (d.slotsOn (6 + n)).length
  errIf ((List.range 6).any d.stringBad || (List.range 6).any d.ringBad || (List.range 144).any (fun c => d.linkOff c || d.unusedSlot c) ||
      (List.range 16).any (fun n => 1 < gen1 n)) (eStruct 1) ++
    errIf ((List.range 6).any (fun r => (d.is I.FELT.RING_EN r && d.get I.FELT.NCELLS r = 0) ||
        (d.is R.FELT.RING_OPEN r && d.is R.FELT.PAIR) || 170 * tf < 32000 * d.get I.FELT.NCELLS r) ||
      (d.is R.FELT.PAIR && d.hasGen1) || 38000 < d.get I.TB.L1_MAX || cuts.any (fun c => d.l1Rings + ce < c)) (eStruct 2)

/-- The rules of Tf (R20, R86). -/
def Dev.tfErrs (d : Dev) (tf : Nat) : List Err :=
  errIf (d.is R.TB.ALIGN_EN && 500000000 % tf != 0) eRange ++ errIf (d.hasGen1 && tf < 25000) (eStruct 1) ++
    errIf (8 * tf < 2 * d.get I.TB.L1_MAX + 4 * d.get R.CE.CE_TIME_DECL + 8000) (eStruct 2)

/-- The rule of R262. -/
def Dev.calRules (d : Dev) : List Err :=
  let inter := d.get R.CAL.INTER
  let delta : Bool := d.is I.MOD.CONN
  errIf ((inter = 1 && delta) || (inter = 2 && !delta)) (eStruct 4)

/-- The rules of R326; a DT_LV below DT_MIN is out of its range (R311). -/
def Dev.lvRules (d : Dev) : List Err :=
  let hbs := List.range 8
  let en (k : Nat) : Nat := bitsOf (d.get R.LVD.HB_CFG k) 7 6
  let same (k j : Nat) : Bool := d.shortGrp k = d.shortGrp j && en k = en j && d.get R.LVD.HB_DT_LV k = d.get R.LVD.HB_DT_LV j
  let hb : Bool := hbs.any (fun k => d.hbUsed k && (en k = 0 || !same k (d.legGroup k) || (d.activeShort (d.shortGrp k) && en k < 2)))
  let legs : Bool := bitOf (d.get I.CE.REF) 1 = 1 && (List.range 4).any (fun p => hbs.all (fun k => d.hbRole k != 1 || d.hbLegPos k != p))
  let masks : Bool := d.slots.any (fun sl => sl.kind = 4 && hbs.any (fun k => bitOf sl.hb k = 1 && d.hbRole k != 2))
  let chans : Bool := (List.range 16).any (fun c => d.get R.LVD.CH_SC2_LVL c ≤ d.get R.LVD.CH_SC1_LVL c || d.get R.LVD.CH_TOFF_SNK c < d.get R.LVD.CH_SOFT_SNK c)
  let per := d.get R.LVD.LV_CAR_PER
  let pulse := d.get R.LVD.LV_MIN_PULSE
  let times : Bool := 7 * per < 2048 * d.get R.TB.TF || hbs.any (fun k => pulse < d.get R.LVD.HB_DT_LV k) || per < 1024 * pulse
  let trips : Bool := (List.range 24).any (fun w =>
    let m := d.get R.LVD.TRIP_MAP w
    (m != 0 && (!d.is R.AFE.WC_ROLE w || d.get R.AFE.WC_WMODE w = 0)) || hbs.any (fun k => bitOf m k = 1 && !d.hbUsed k))
  errIf (hbs.any (fun k => d.get R.LVD.HB_DT_LV k < d.get R.LVD.DT_MIN)) eRange ++
    errIf (hb || legs || masks || chans || times || trips) (eStruct 7)

/-- The rules of R377 and R378. -/
def Dev.fltRules (d : Dev) : List Err :=
  let ix := List.range 4096
  errIf (ix.any (fun i => (d.get R.FLT.RT_CODE i = 4) != (d.is R.FLT.RT_DERATE_K i))) eRange ++
    errIf (ix.any (fun i => d.get R.FLT.RT_CODE i = 3 && !fenceable (i / 256) (i % 256))) (eStruct 8)

/-- Every rule, over a module whose registers hold the Ream: each block's own, and those of `banks` of coefficients. -/
def Dev.reamRules (d : Dev) (banks : List Fld) : List Err :=
  d.linkRules ++ d.tfErrs (d.get R.TB.TF) ++ d.modRules ++ d.calRules ++ d.ceRules banks ++ d.afeRules ++ d.thermRules ++ d.lvRules ++ d.fltRules ++
    d.partRules ++ d.netRules

/-- The check of the safety sheet's structure part by Sorrel (R394, R395). -/
def sorrelOk (p : Nat) : Bool :=
  let w (off len : Nat) : Nat := bytesAt p off len
  let pair (i : Nat) : Bool :=
    let c := w (4 * i) 4
    let filt := bitsOf c 15 8
    let tp := bitsOf c 23 16
    let disc := w (0x10 + 2 * i) 2
    if bitOf c 0 = 0 then c = 0 && disc = 0
    else c < 2 ^ 24 && bitsOf c 7 4 = 0 && bitsOf c 3 2 != 0 && 5 ≤ filt && filt ≤ 200 && tp ≤ 10 && tp + 2 ≤ filt && 10 ≤ disc && disc ≤ 2000
  let contact (f : Nat) : Bool := let c := w (0x18 + f) 1; if bitOf c 0 = 0 then c = 0 else c < 8
  let watched (out : Nat) : Bool := (List.range 4).any (fun f => bitsOf (w (0x18 + f) 1) 1 0 = 1 + 2 * out)
  w 0x28 4 = crc32c (leBytes 40 p) && (List.range 4).all pair && (List.range 4).all contact && watched 0 && watched 1 &&
    10 ≤ w 0x1C 2 && w 0x1C 2 ≤ 1000 && w 0x1E 2 = 0 && w 0x24 4 = 0

end Sys2Proof.Machine
end

