-- ==== Sys2Proof/Machine/Sign.lean ====
section
/-! DEFINITION. The signature of a Ream (R106): SHA-384 of FIPS 180-4 over a byte list, and ECDSA verification over P-384 of FIPS
186-4. -/
namespace Sys2Proof.Machine

/-! SHA-384, on 64-bit words. -/

def m64 : Nat := 2 ^ 64

/-- Rotate a 64-bit word right. -/
def rotr (x n : Nat) : Nat := (x >>> n) ||| (x <<< (64 - n)) % m64

def shaS0 (x : Nat) : Nat := rotr x 28 ^^^ rotr x 34 ^^^ rotr x 39
def shaS1 (x : Nat) : Nat := rotr x 14 ^^^ rotr x 18 ^^^ rotr x 41
def shaL0 (x : Nat) : Nat := rotr x 1 ^^^ rotr x 8 ^^^ (x >>> 7)
def shaL1 (x : Nat) : Nat := rotr x 19 ^^^ rotr x 61 ^^^ (x >>> 6)

/-- The round constants. -/
def shaKa : List Nat :=
  [0x428a2f98d728ae22, 0x7137449123ef65cd, 0xb5c0fbcfec4d3b2f, 0xe9b5dba58189dbbc, 0x3956c25bf348b538,
    0x59f111f1b605d019, 0x923f82a4af194f9b, 0xab1c5ed5da6d8118, 0xd807aa98a3030242, 0x12835b0145706fbe,
    0x243185be4ee4b28c, 0x550c7dc3d5ffb4e2, 0x72be5d74f27b896f, 0x80deb1fe3b1696b1, 0x9bdc06a725c71235,
    0xc19bf174cf692694, 0xe49b69c19ef14ad2, 0xefbe4786384f25e3, 0xfc19dc68b8cd5b5, 0x240ca1cc77ac9c65,
    0x2de92c6f592b0275, 0x4a7484aa6ea6e483, 0x5cb0a9dcbd41fbd4, 0x76f988da831153b5, 0x983e5152ee66dfab,
    0xa831c66d2db43210, 0xb00327c898fb213f, 0xbf597fc7beef0ee4, 0xc6e00bf33da88fc2, 0xd5a79147930aa725,
    0x6ca6351e003826f, 0x142929670a0e6e70, 0x27b70a8546d22ffc, 0x2e1b21385c26c926, 0x4d2c6dfc5ac42aed,
    0x53380d139d95b3df, 0x650a73548baf63de, 0x766a0abb3c77b2a8, 0x81c2c92e47edaee6, 0x92722c851482353b]
def shaKb : List Nat :=
  [0xa2bfe8a14cf10364, 0xa81a664bbc423001, 0xc24b8b70d0f89791, 0xc76c51a30654be30, 0xd192e819d6ef5218,
    0xd69906245565a910, 0xf40e35855771202a, 0x106aa07032bbd1b8, 0x19a4c116b8d2d0c8, 0x1e376c085141ab53,
    0x2748774cdf8eeb99, 0x34b0bcb5e19b48a8, 0x391c0cb3c5c95a63, 0x4ed8aa4ae3418acb, 0x5b9cca4f7763e373,
    0x682e6ff3d6b2b8a3, 0x748f82ee5defb2fc, 0x78a5636f43172f60, 0x84c87814a1f0ab72, 0x8cc702081a6439ec,
    0x90befffa23631e28, 0xa4506cebde82bde9, 0xbef9a3f7b2c67915, 0xc67178f2e372532b, 0xca273eceea26619c,
    0xd186b8c721c0c207, 0xeada7dd6cde0eb1e, 0xf57d4f7fee6ed178, 0x6f067aa72176fba, 0xa637dc5a2c898a6,
    0x113f9804bef90dae, 0x1b710b35131c471b, 0x28db77f523047d84, 0x32caab7b40c72493, 0x3c9ebe0a15c9bebc,
    0x431d67c49c100d4c, 0x4cc5d4becb3e42b6, 0x597f299cfc657e2a, 0x5fcb6fab3ad6faec, 0x6c44198c4a475817]

/-- The initial value of SHA-384. -/
def shaIv : List Nat :=
  [0xcbbb9d5dc1059ed8, 0x629a292a367cd507, 0x9159015a3070dd17, 0x152fecd8f70e5939, 0x67332667ffc00b31,
    0x8eb44a8768581511, 0xdb0c2e0d64f98fa7, 0x47b5481dbefa4fa4]

/-- The 80 words of the schedule from the 16 of a block, newest first. -/
def schedule : Nat → List Nat → List Nat
  | 0, w => w
  | n + 1, w => schedule n ((shaL1 (w.getD 1 0) + w.getD 6 0 + shaL0 (w.getD 14 0) + w.getD 15 0) % m64 :: w)

/-- One round with a constant plus schedule word. -/
def shaRound (h : List Nat) (kw : Nat) : List Nat :=
  match h with
  | [a, b, c, d, e, f, g, i] =>
    let t1 := i + shaS1 e + ((e &&& f) ^^^ ((m64 - 1 - e) &&& g)) + kw
    let t2 := shaS0 a + ((a &&& b) ^^^ (a &&& c) ^^^ (b &&& c))
    [(t1 + t2) % m64, a, b, c, (d + t1) % m64, e, f, g]
  | l => l

/-- The 64-bit big-endian words of a byte list. -/
def words64 : Nat → List Nat → List Nat
  | 0, _ => []
  | n + 1, l => beNat (l.take 8) :: words64 n (l.drop 8)

/-- One block of 128 bytes. -/
def shaBlock (h : List Nat) (block : List Nat) : List Nat :=
  let w := (schedule 64 (words64 16 block).reverse).reverse
  let r := ((shaKa ++ shaKb).zipWith (· + ·) w).foldl shaRound h
  h.zipWith (fun x y => (x + y) % m64) r

/-- n blocks. -/
def shaBlocks : Nat → List Nat → List Nat → List Nat
  | 0, h, _ => h
  | n + 1, h, l => shaBlocks n (shaBlock h (l.take 128)) (l.drop 128)

/-- SHA-384 of a byte list, as the number its 48 bytes spell, first byte highest. -/
def sha384 (bs : List Nat) : Nat :=
  let n := bs.length
  let pad := (239 - n % 128) % 128
  let h := shaBlocks ((n + 17 + pad) / 128) shaIv (bs ++ 128 :: List.replicate pad 0 ++ beBytes 16 (8 * n))
  (h.take 6).foldl (fun v x => v * m64 + x) 0

/-! P-384: y² = x³ − 3x + b modulo a prime, points in affine coordinates, none the point at infinity. -/

def ecP : Nat := 2 ^ 384 - 2 ^ 128 - 2 ^ 96 + 2 ^ 32 - 1
def ecB : Nat := 0xb3312fa7e23ee7e4988e056be3f82d19181d9c6efe8141120314088f5013875ac656398d8a2ed19d2a85c8edd3ec2aef
def ecN : Nat := 0xffffffffffffffffffffffffffffffffffffffffffffffffc7634d81f4372ddf581a0db248b0a77aecec196accc52973
def ecG : Nat × Nat :=
  (0xaa87ca22be8b05378eb1c71ef320ad746e1d3b628ba79b9859f741e082542a385502f25dbf55296c3a545e3872760ab7,
    0x3617de4a96262c6f5d9e98bf9292dc29f8f41dbd289a147ce9da3113b5f0b8c00a60b1ce1d7e819d7a431d7c90ea0e5f)

/-- b to the power e modulo m, over k bits of e. -/
def powMod : Nat → Nat → Nat → Nat → Nat
  | 0, _, _, _ => 1
  | k + 1, b, e, m => let h := powMod k b (e / 2) m; (if e % 2 = 1 then h * h % m * b else h * h) % m

/-- The inverse modulo a prime of 384 bits. -/
def invMod (a m : Nat) : Nat := powMod 384 a (m - 2) m

/-- a − b modulo m, for both below m. -/
def subMod (a b m : Nat) : Nat := (a + m - b) % m

/-- The point on the line of slope l through (x1, y1) and a point of abscissa x2. -/
def ecThird (l x1 y1 x2 : Nat) : Nat × Nat :=
  let x := subMod (subMod (l * l % ecP) x1 ecP) x2 ecP
  (x, subMod (l * subMod x1 x ecP % ecP) y1 ecP)

/-- The sum of two points. -/
def ecAdd (a b : Option (Nat × Nat)) : Option (Nat × Nat) :=
  match a, b with
  | none, q => q
  | p, none => p
  | some (x1, y1), some (x2, y2) =>
    if x1 = x2 then
      if y1 != y2 || y1 = 0 then none
      else some (ecThird (subMod (3 * (x1 * x1) % ecP) 3 ecP * invMod (2 * y1 % ecP) ecP % ecP) x1 y1 x2)
    else some (ecThird (subMod y2 y1 ecP * invMod (subMod x2 x1 ecP) ecP % ecP) x1 y1 x2)

/-- k times a point, over n bits of k. -/
def ecMul : Nat → Nat → Option (Nat × Nat) → Option (Nat × Nat)
  | 0, _, _ => none
  | n + 1, k, p => let h := ecMul n (k / 2) p; let q := ecAdd h h; if k % 2 = 1 then ecAdd q p else q

/-- A point of the curve. -/
def onCurve (x y : Nat) : Bool := x < ecP && y < ecP && (y * y + 3 * x) % ecP = (x * x * x + ecB) % ecP

/-- ECDSA over P-384 (R106): the signature (r, s) of a 384-bit digest under the public key (x, y). -/
def ecdsaOk (digest x y r s : Nat) : Bool :=
  if !onCurve x y || r = 0 || s = 0 || ecN ≤ r || ecN ≤ s then false
  else
    let w := invMod s ecN
    match ecAdd (ecMul 384 (digest * w % ecN) (some ecG)) (ecMul 384 (r * w % ecN) (some (x, y))) with
    | none => false
    | some (v, _) => v % ecN = r

end Sys2Proof.Machine
end

