-- ==== Sys2Proof/Machine/ReamImage.lean ====
section
/-! DEFINITION. The image format of a Ream (R99 to R108) and its check, steps 1 to 12 of R114. -/
namespace Sys2Proof.Machine

/-- A failed step: code and detail, and the byte of the image at which the offending field stands. -/
structure Fail where
  err : Err
  off : Option Nat
  deriving DecidableEq, Repr

/-- A failure at a byte when a condition holds. -/
def failIf (c : Bool) (e : Err) (off : Nat) : List Fail := if c then [⟨e, some off⟩] else []

/-- The failure at the lowest byte. -/
def lowestFail : List Fail → Option Fail
  | [] => none
  | f :: l =>
    match lowestFail l with
    | none => some f
    | some g => if g.off.getD 0 < f.off.getD 0 then some g else some f

/-! Step 2. -/

/-- The header sheet (R102); at BOOT the length is the one that the descriptor records. -/
def headerFails (h : Nat) (want : Option Nat) : List Fail :=
  let w (off len : Nat) : Nat := bytesAt h off len
  let n := w 0x18 4
  failIf (w 0x10 4 != 0x4D414552) (eStruct 0) 0x10 ++ failIf (w 0x14 1 != 1) (eStruct 0) 0x14 ++ failIf (w 0x16 2 != 0x1448) (eStruct 0) 0x16 ++
    failIf (8388608 < n || (match want with | some k => n != k | none => false)) (eStruct 0) 0x18 ++ failIf (w 0x1C 1 != 13) (eStruct 0) 0x1C ++
    failIf (R.HIF.MAJOR.reset < w 0x1F 1) (eStruct 0) 0x1F

/-! Step 3. -/

/-- The types of the thirteen sheets in their order (R99). -/
def sheetOrder : List Nat := [0, 1, 2, 3, 4, 5, 6, 7, 8, 9, 10, 11, 15]

/-- The part directory of the sheet at p (R103): offset and length of part k. -/
def dirOff (data p k : Nat) : Nat := bytesAt data (p + 0x10 + 8 * k) 4
def dirLen (data p k : Nat) : Nat := bytesAt data (p + 0x14 + 8 * k) 4

/-- ITEM_COUNT of the sheet at p, when it is a mirror sheet. -/
def itemsAt (data p t : Nat) : Nat := if t = 9 then bytesAt data (p + dirOff data p 0) 2 else 0

/-- The length that part k of a sheet type has. -/
def wantLen (data p t k : Nat) : Nat :=
  let l := sheetLengths t (itemsAt data p t)
  match k with | 0 => l.1 | 1 => l.2.1 | _ => l.2.2

/-- Parts j and k lie over each other. -/
def partsMeet (data p j k : Nat) : Bool :=
  dirLen data p j != 0 && dirLen data p k != 0 && dirOff data p j < dirOff data p k + dirLen data p k && dirOff data p k < dirOff data p j + dirLen data p j

/-- The part directory of the sheet at p of length n. -/
def dirFails (data p t n : Nat) : List Fail :=
  (List.range 3).flatMap (fun k =>
    let o := dirOff data p k
    let l := dirLen data p k
    failIf (o < 0x28 || o % 4 != 0) (eStruct t) (p + 0x10 + 8 * k) ++
      failIf (l % 4 != 0 || n < o + l || l != wantLen data p t k || (List.range k).any (fun j => partsMeet data p j k)) (eStruct t) (p + 0x14 + 8 * k))

/-- The bits of a part that its fields cover. -/
def coverMask (fs : List SheetFld) (k : Nat) : Nat :=
  fs.foldl (fun m f => if f.cover && f.part = k then f.elems.foldl (fun m e => m ||| ((2 ^ (f.hi + 1 - f.lo) - 1) <<< (8 * f.at e.1 e.2 + f.lo))) m else m) 0

/-- Reserved bits set in the parts of the sheet at p; those of the safety sheet are Sorrel's to check (R115). -/
def reservedFails (data p t : Nat) : List Fail :=
  if t = 11 then []
  else
    let fs := sheetFields t (itemsAt data p t)
    (List.range 3).flatMap (fun k =>
      let start := p + dirOff data p k
      let v := bytesAt data start (dirLen data p k)
      let bad := v - (v &&& coverMask fs k)
      failIf (bad != 0) (eStruct t) (start + Nat.log2 (bad ^^^ (bad - 1)) / 8))

/-- What is wrong with the sheet that should stand at p with type t, in an image of `len` bytes, in the order in which it is read. -/
def sheetFail (data len p t : Nat) : Option Fail :=
  let w (off n : Nat) : Nat := bytesAt data (p + off) n
  let n := w 4 4
  let bad (c : Bool) (off : Nat) : List Fail := failIf c (eStruct t) (p + off)
  if len < p + 16 then some ⟨eStruct t, some p⟩
  else
    let head := bad (w 0 1 != t) 0 ++ bad (w 1 1 != 1) 1 ++ bad (w 2 2 != 0) 2 ++
      bad (n % 4 != 0 || n < 16 || len < p + n || (t = 0 && n != 0x100) || (t = 15 && n != 0xD8) || (t != 0 && t != 15 && n < 0x28)) 4 ++ bad (w 12 4 != 0) 12
    match head.head? with
    | some f => some f
    | none =>
      if t = 0 then lowestFail (bad (bitsOf (w 0x24 4) 31 9 != 0 || bitsOf (w 0x24 4) 3 1 != 0) 0x24 ++ bad (w 0xF0 16 != 0) 0xF0)
      else if t = 15 then lowestFail (bad (w 0x11 3 != 0) 0x11 ++ bad (w 0x75 3 != 0) 0x75)
      else match lowestFail (dirFails data p t n) with
        | some f => some f
        | none => lowestFail (reservedFails data p t)

/-- The walk over the sheets from p: type, start and length of each. -/
def walk (data len : Nat) : List Nat → Nat → Except Fail (List (Nat × Nat × Nat))
  | [], p => if p = len then .ok [] else .error ⟨eStruct 15, some p⟩
  | t :: ts, p =>
    match sheetFail data len p t with
    | some f => .error f
    | none =>
      let n := bytesAt data (p + 4) 4
      match walk data len ts (p + n) with
      | .ok l => .ok ((t, p, n) :: l)
      | .error f => .error f

/-! Steps 4 to 9. -/

/-- The CRC of a sheet as it stands in the image (R101). -/
def sheetCrcOk (bs : List Nat) (p n : Nat) : Bool :=
  let b := (bs.drop p).take n
  crc32 (b.take 8 ++ [0, 0, 0, 0] ++ b.drop 12) = leNat ((b.drop 8).take 4)

/-- A digest as the number its 48 bytes spell in image byte order (R99, R105). -/
def digestOf (bs : List Nat) : Nat := leNat (beBytes 48 (sha384 bs))

/-- A part of the sheet at p. -/
def partOf (data p k : Nat) : SheetPart := ⟨dirLen data p k, bytesAt data (p + dirOff data p k) (dirLen data p k)⟩

/-- The eleven sheets with a part directory. -/
def sheetsOf (data : Nat) (l : List (Nat × Nat × Nat)) : List Sheet :=
  (l.filter (fun x => x.1 != 0 && x.1 != 15)).map (fun x => ⟨x.1, 1, partOf data x.2.1 0, partOf data x.2.1 1, partOf data x.2.1 2⟩)

/-- The bytes that the structure (k = 0) or the map digest (k = 1) covers (R108). -/
def digestBytes (l : List Sheet) (k : Nat) : List Nat :=
  l.flatMap (fun sh => [sh.typ, sh.ver] ++ leBytes 4 (sh.part k).len ++ leBytes (sh.part k).len (sh.part k).data)

/-- A key slot is programmed, and its hash is that of the 97 bytes of PUBKEY (R106). -/
def keyFails (otp : Otp) (data sig : Nat) : List Fail :=
  let k := bytesAt data (sig + 0x10) 1
  let key := leBytes 97 (bytesAt data (sig + 0x14) 97)
  failIf (3 < k || bitOf otp.keyProg k = 0) (eAuth 2) (sig + 0x10) ++ failIf (otp.keyHash[k]? != some (digestOf key)) (eAuth 2) (sig + 0x14) ++
    failIf (bitOf otp.revoked k = 1) (eAuth 3) (sig + 0x10)

/-- The signature over the image up to the signature sheet (R106). -/
def signatureOk (bs : List Nat) (data sig : Nat) : Bool :=
  let w (off : Nat) : Nat := beNat (leBytes 48 (bytesAt data (sig + off) 48))
  bytesAt data (sig + 0x14) 1 = 4 && ecdsaOk (sha384 (bs.take sig)) (w 0x15) (w 0x45) (w 0x78) (w 0xA8)

/-- The record of a checked image. -/
def imageOf (data : Nat) (l : List (Nat × Nat × Nat)) (bs : List Nat) (sig : Nat) : Image :=
  let w (off n : Nat) : Nat := bytesAt data off n
  { len := w 0x18 4, imageId := w 0x20 4, compatClass := w 0x1D 1, secVer := w 0x1E 1, hdrFlags := w 0x24 4, keyIndex := w (sig + 0x10) 1,
    structDigest := w 0x30 48, mapDigest := w 0x60 48, baseStruct := w 0x90 48, baseMap := w 0xC0 48, imageDigest := digestOf bs, sheets := sheetsOf data l }

/-! Steps 10 and 11. -/

/-- KB of the present slots in the three banks of the control-law sheet at p (R298); that of an absent slot is only finite (R299). -/
def kbFails (data p : Nat) : List Fail :=
  [0, 0x2400, 0x4800].flatMap fun base => (List.range 64).flatMap fun n =>
    let at_ := p + dirOff data p 2 + base + 144 * n + 0x88
    let v := bytesAt data at_ 4
    failIf (bytesAt data (p + dirOff data p 0 + 0x28 + 16 * n) 1 != 0 && b32.finite v && !(b32.le 0 v && b32.le v 0x49742400)) eRange at_

/-- Every field of a sheet at p against its range. -/
def rangeFails (data p t : Nat) : List Fail :=
  if t = 11 then []
  else
    (sheetFields t (itemsAt data p t)).flatMap (fun f =>
      if f.cover && f.rng != .any then
        let start := p + dirOff data p f.part
        let v := bytesAt data start (dirLen data p f.part)
        f.elems.flatMap (fun e => (f.rng.errs (f.hi + 1 - f.lo) (f.read v e.1 e.2)).map (fun x => ⟨x, some (start + f.at e.1 e.2 + f.lo / 8)⟩))
      else []) ++ (if t = 5 then kbFails data p else [])

/-- The rules of every block over the registers as the image would load them. -/
def Dev.imageRules (d : Dev) (im : Image) : List Err :=
  let d1 := (((d.loadImage im).loadBank im R.CE.ACTIVE_BANK 0).loadBank im R.CE.SHADOW_BANK 0x2400).loadBank im R.CE.FALLBACK_BANK 0x4800
  d1.reamRules [R.CE.ACTIVE_BANK, R.CE.SHADOW_BANK, R.CE.FALLBACK_BANK]

/-- The E_STRUCT of the sheet with the lowest type. -/
def lowestType (l : List Err) : Option Err :=
  l.foldl (fun a e => match a with | some x => if e.detail < x.detail then some e else some x | none => some e) none

/-! The check. -/

/-- Steps 4 to 12 of an image of whole bytes `bs` whose sheets are `l`. -/
def Dev.checkSheets (d : Dev) (otp : Otp) (sorrel : Bool) (bs : List Nat) (data : Nat) (l : List (Nat × Nat × Nat)) : Except Fail Image :=
  let at_ (t : Nat) : Nat × Nat := ((l.find? (fun x => x.1 = t)).map (fun x => x.2)).getD (0, 1)
  let sig := (at_ 15).1
  let im := imageOf data l bs sig
  let free (t : Nat) : Option Nat := some ((at_ t).1 + Config.ruleOffset d.draws % (at_ t).2)
  match l.find? (fun x => !sheetCrcOk bs x.2.1 x.2.2) with
  | some x => .error ⟨eAuth 1, some (x.2.1 + 8)⟩
  | none =>
    let s5 := keyFails otp data sig ++ failIf (!signatureOk bs data sig) (eAuth 4) (sig + 0x78) ++
      failIf (im.secVer < otp.secVerMin || 63 < im.secVer) (eAuth 5) 0x1E ++
      failIf (im.structDigest != digestOf (digestBytes im.sheets 0)) (eAuth 6) 0x30 ++ failIf (im.mapDigest != digestOf (digestBytes im.sheets 1)) (eAuth 6) 0x60
    match s5.head? with
    | some f => .error f
    | none =>
      match lowestFail (failIf (2 < im.compatClass) eRange 0x1D ++ l.flatMap (fun x => if x.1 = 0 || x.1 = 15 then [] else rangeFails data x.2.1 x.1)) with
      | some f => .error f
      | none =>
        let es := d.imageRules im
        match es.find? (fun e => e.code != 4), lowestType (es.filter (fun e => e.code = 4)) with
        | some e, _ => .error ⟨e, some (Config.ruleOffset d.draws % im.len)⟩
        | none, some e => .error ⟨e, free e.detail⟩
        | none, none => if sorrel && !sorrelOk (im.strc 11 0 44) then .error ⟨eAuth 7, free 11⟩ else .ok im

/-- The check of a slot (R114): at BOOT, or for VERIFY, which leaves out step 12 on the ACTIVE slot (R118). -/
def Dev.checkSlot (d : Dev) (otp : Otp) (slot : Nat) (boot : Bool) : Except Fail Image :=
  let st := d.get R.REAM.SLOT_STATE slot
  let h := leNat (d.slotBytes slot 256)
  let n := bytesAt h 0x18 4
  let desc := if slot = 0 then d.nvm.descA else d.nvm.descB
  if !(if boot then st = 3 || st = 4 else st != 0) then .error ⟨eStruct 0, none⟩
  else if n = 0 then .error ⟨eZero, some 0x18⟩
  else
    match (headerFails h (if boot then some desc.length else none)).head? with
    | some f => .error f
    | none =>
      let bs := d.slotBytes slot n
      let data := leNat bs
      match walk data n sheetOrder 0 with
      | .error f => .error f
      | .ok l => d.checkSheets otp (boot || st != 4) bs data l

end Sys2Proof.Machine
end

