-- ==== Sys2Proof/Machine/Ream.lean ====
section
/-! DEFINITION. The Ream at work (04_ream_image.md): the slots and their commands, verification, activation and the live swap, the boot
load and the scrub. -/
namespace Sys2Proof.Machine

/-! Slots (R109). -/

/-- The configuration that the last passing check of a slot built (R536). -/
def Dev.checked (d : Dev) (slot : Nat) : Option Image := if slot = 0 then d.ream.checkedA else d.ream.checkedB

/-- That configuration replaced, or dropped. -/
def Dev.setChecked (d : Dev) (slot : Nat) (im : Option Image) : Dev :=
  { d with ream := if slot = 0 then { d.ream with checkedA := im } else { d.ream with checkedB := im } }

def Dev.slotDesc (d : Dev) (slot : Nat) : SlotDesc := if slot = 0 then d.nvm.descA else d.nvm.descB

def Dev.slotState (d : Dev) (slot : Nat) : Nat := d.get R.REAM.SLOT_STATE slot

/-- The class of digests against an image (R120). -/
def classBy (active : Option Image) (sd md : Nat) : Nat :=
  match active with
  | none => 2
  | some im => if im.structDigest != sd then 2 else if im.mapDigest != md then 1 else 0

/-- The class of a slot as it is shown: of a VERIFIED slot, from its checked configuration or from its descriptor; 3 otherwise. -/
def Dev.slotClass (d : Dev) (slot : Nat) : Nat :=
  if d.slotState slot != 3 then 3
  else match d.checked slot with
    | some im => classBy d.ream.active im.structDigest im.mapDigest
    | none => classBy d.ream.active (d.slotDesc slot).structDig (d.slotDesc slot).mapDig

/-- CLASS of both slots (R120). -/
def Dev.showClass (d : Dev) : Dev := d.forN 2 (fun d s => d.put R.REAM.SLOT_CLASS (d.slotClass s) s)

/-- A state given to a slot, recorded in its descriptor with two digests (R109); the checked configuration goes with VERIFIED and ACTIVE. -/
def Dev.setSlot (d : Dev) (t slot st sd md : Nat) : Dev :=
  let d1 := (d.put R.REAM.SLOT_STATE st slot).onlyIf (st != 3 && st != 4) (fun d => d.setChecked slot none)
  d1.recordSlot t slot sd md

/-- A state given to a slot whose descriptor keeps its digests. -/
def Dev.keepSlot (d : Dev) (t slot st : Nat) : Dev := d.setSlot t slot st (d.slotDesc slot).structDig (d.slotDesc slot).mapDig

/-- REAM_RESULT, its offset and its frame (R114, R125). -/
def Dev.reamResult (d : Dev) (op slot : Nat) (e : Err) (off : Option Nat) : Dev :=
  let d1 := (((d.put R.REAM.RES_OP op).put R.REAM.RES_SLOT slot).put R.REAM.RES_CODE e.code).put R.REAM.RES_DETAIL e.detail
  (((d1.flag R.REAM.RES_OFF_VALID off.isSome).put R.REAM.RES_OFFSET (off.getD 0)).put R.REAM.RESULT_FRAME d1.endedFrame).sumAll R.HIF.SUM_REAM

/-- LAST_CODE and LAST_DETAIL of a slot. -/
def Dev.lastCheck (d : Dev) (slot : Nat) (e : Err) : Dev := (d.put R.REAM.SLOT_LAST_CODE e.code slot).put R.REAM.SLOT_LAST_DETAIL e.detail slot

/-- What a passing check records of an image in its slot's registers. -/
def Dev.showImage (d : Dev) (slot : Nat) (im : Image) : Dev :=
  (((d.put R.REAM.SLOT_LENGTH im.len slot).put R.REAM.SLOT_IMAGE_ID im.imageId slot).put R.REAM.SLOT_DECL_CLASS im.compatClass slot).put
    R.REAM.SLOT_SEC_VER im.secVer slot

/-- `n` bytes of the flash are read by a check (R497, R501). -/
def Dev.flashRead (d : Dev) (n : Nat) : Dev := ((d.perf 10 3 15 ((n + pageBytes - 1) / pageBytes)).carry 30 n).draw

/-! REAM_CMD (R110 to R113). -/

/-- The pages of a slot programmed since its last ERASE, one bit a page. -/
def Dev.pages (d : Dev) (slot : Nat) : Nat := if slot = 0 then d.nvm.pagesA else d.nvm.pagesB
def Dev.setPages (d : Dev) (slot v : Nat) : Dev := d.setNvm (if slot = 0 then { d.nvm with pagesA := v } else { d.nvm with pagesB := v })

/-- The first page and the pages of a PROGRAM. -/
def Dev.programRange (d : Dev) : Nat × Nat := (d.get R.REAM.CMD_OFF / pageBytes, (d.get R.REAM.CMD_LEN + pageBytes - 1) / pageBytes)

/-- The conditions of R111 on a PROGRAM. -/
def Dev.programOk (d : Dev) (slot : Nat) : Bool :=
  let off := d.get R.REAM.CMD_OFF
  let len := d.get R.REAM.CMD_LEN
  let (p, n) := d.programRange
  d.slotState slot = 1 && off % pageBytes = 0 && 4 ≤ len && len ≤ 32768 && len % 4 = 0 && off + len ≤ 8388608 && bitsOf (d.pages slot) (p + n - 1) p = 0

/-- The rejections of a write of REAM_CMD with an OP (R110, R111, R113, R441). -/
def Dev.cmdErrs (d : Dev) (slot op : Nat) : List Err :=
  let writes := op = 1 || op = 2
  let pend : Bool := d.is R.REAM.SLOT_SWAP_PEND slot
  errIf (op = 0 || 4 < op) eRange ++
    errIf (d.is R.REAM.CMD_BUSY || (writes && (d.slotState slot = 4 || d.is R.THERM.FLASH_HOLD)) || (1 ≤ op && op ≤ 3 && pend)) (eBusy 3) ++
    errIf (op = 2 && !d.programOk slot) eRange ++ errIf (op = 4 && d.slotState slot != 3 && d.slotState slot != 4) (eStruct 0)

/-- The running command: CMD_BUSY, CMD_OP and CMD_STATE. -/
def Dev.cmdRun (d : Dev) (slot op : Nat) : Dev :=
  ((((d.put R.REAM.CMD_BUSY 1).put R.REAM.CMD_OP op).put R.REAM.CMD_STATE 1).put R.REAM.CMD_FAIL 0).put I.REAM.CMD_RUN_SLOT slot

/-- Operations put in the queue, and the first of all that wait started. -/
def Dev.enqueueAll (d : Dev) (t : Nat) (l : List FlashOp) : Dev := (d.setNvm { d.nvm with queue := d.nvm.queue ++ l }).flashNext t

/-- A REAM_CMD accepted at TB ns t: ERASE, PROGRAM, VERIFY or SET_PREF. -/
def Dev.cmdStart (d : Dev) (t slot op : Nat) : Dev :=
  let d1 := d.cmdRun slot op
  match op with
  | 1 =>
    let d2 := (((d1.put R.REAM.SLOT_LENGTH 0 slot).put R.REAM.SLOT_IMAGE_ID 0 slot).put R.REAM.SLOT_DECL_CLASS 0 slot).put R.REAM.SLOT_SEC_VER 0 slot
    (((d2.setSlot t slot 1 0 0).setPages slot 0).showClass).enqueueAll t ((List.range 128).map (FlashOp.erase slot))
  | 2 =>
    let (p, n) := d.programRange
    (d1.setPages slot (d1.pages slot ||| (2 ^ n - 1) <<< p)).enqueueAll t ((List.range n).map (fun i => FlashOp.program slot (p + i)))
  | 3 => d1
  | _ => d1.enqueue t (.commit 2 [slot + 1])

/-- An operation that waited runs whole. -/
def Dev.runOp (d : Dev) (t : Nat) (op : FlashOp) : Dev :=
  match op with
  | .commit typ data => (d.journalStart t 0 typ data).opDone t (Dev.recordWritten t) op
  | _ => d.opDone t (Dev.recordWritten t) op

/-- REAM_CMD_DONE of an ERASE, a PROGRAM or a SET_PREF at TB ns t (R109, R112): what is left of it is done, or it fails. -/
def Dev.cmdDone (d : Dev) (t : Nat) (failed : Bool) : Dev :=
  let cur : List FlashOp := match d.nvm.cur with | some op => if d.cmdOwns op then [op] else [] | none => []
  let rest := d.nvm.queue.filter d.cmdOwns
  let d1 := d.setNvm { d.nvm with cur := if cur.isEmpty then d.nvm.cur else none, queue := d.nvm.queue.filter (fun op => !d.cmdOwns op) }
  if failed then (((d1.cmdFail 2).raise t 2 17 (((cur ++ rest).head?.map d.nvm.opSector).getD 0))).flashNext t
  else
    let d2 := rest.foldl (fun d op => d.runOp t op) (cur.foldl (fun d op => d.opDone t (Dev.recordWritten t) op) d1)
    ((((d2.put R.REAM.CMD_BUSY 0).put R.REAM.CMD_STATE 2).put R.REAM.CMD_FAIL 0).sumAll R.HIF.SUM_NVM).flashNext t

/-- REAM_CMD_DONE (R109, R112). -/
def execReamCmdDone (failed : Bool) (s : State) : Host.Outcome State Fault Refusal :=
  s.onDev fun d => if d.is R.REAM.CMD_BUSY && d.get R.REAM.CMD_OP != 3 && d.flashOn then (d.cmdDone s.clk.ns failed).settle s.clk.ns else d

/-! Verification (R109, R114, R118). -/

/-- A VERIFY of a slot ends (R109, R118, R131). -/
def Dev.verifyEnd (d : Dev) (t slot : Nat) (r : Except Fail Image) : Dev :=
  let own := d.slotState slot = 4
  let d1 := d.put R.REAM.CMD_BUSY 0
  match r with
  | .ok im =>
    let d2 := ((d1.put R.REAM.CMD_STATE 2).lastCheck slot ⟨0, 0⟩).onlyIf (!own) (fun d =>
      ((d.showImage slot im).setSlot t slot 3 im.structDigest im.mapDigest).setChecked slot (some im))
    (d2.showClass).reamResult 2 slot ⟨0, 0⟩ none
  | .error f =>
    let d2 := ((d1.put R.REAM.CMD_STATE 3).put R.REAM.CMD_FAIL 4).lastCheck slot f.err
    let d3 := if own then (d2.put R.REAM.SCRUB_ERR 1).raise t 2 5 0
      else d2.onlyIf (d.slotState slot != 0) (fun d => d.keepSlot t slot 5)
    ((d3.showClass).reamResult 2 slot f.err f.off).raise t 2 2 0

/-- A VERIFY runs. -/
def Dev.verifying (d : Dev) : Bool := d.is R.REAM.CMD_BUSY && d.get R.REAM.CMD_OP = 3

/-- VERIFY_DONE (R109, R114, R118): steps 1 to 12 have run on the bytes the slot holds. -/
def execVerifyDone (s : State) : Host.Outcome State Fault Refusal :=
  s.onDev fun d =>
    let slot := d.get I.REAM.CMD_RUN_SLOT
    if d.verifying && d.supervised then
      let r := d.checkSlot s.otp slot false
      ((d.flashRead (bytesAt (leNat (d.slotBytes slot 256)) 0x18 4)).verifyEnd s.clk.ns slot r).settle s.clk.ns
    else d

/-! The order of a swap (R121 to R124, R129, R130, R536). -/

/-- The lowest sheet type whose structure or map part differs; 0 when none does (R121). -/
def firstDiff (a b : Image) : Nat :=
  ((List.range 12).find? (fun t => match a.sheet t, b.sheet t with
    | some x, some y => x.strc != y.strc || x.map != y.map
    | _, _ => false)).getD 0

/-- R121 for a candidate against the active image. -/
def compatErrs (active : Option Image) (im : Image) : List Err :=
  match active with
  | none => []
  | some a =>
    let cls := classBy active im.structDigest im.mapDigest
    if cls = 2 then []
    else errIf (im.baseStruct != a.structDigest || im.baseMap != a.mapDigest) (eStruct 0xFD) ++ errIf (im.compatClass != cls) (eStruct (firstDiff a im))

/-- The table of R122. -/
def swapMode (m : Mode) (cls : Nat) : Bool := m = .idle || (cls < 2 && [Mode.test, .precharge, .sync, .run, .degraded].contains m)

/-- How many frames b lies after a, negative when it lies before, both frame numbers (R84). -/
def framesFrom (a b : Nat) : Int := toInt 32 (framesAhead a b)

/-- The third boundary after the present (R123). -/
def Dev.thirdFrame (d : Dev) : Nat := (d.get R.TB.FRAME_NO_LIVE + 3) % 2 ^ 32

/-- The frames by which a target lies before the third boundary. -/
def Dev.swapLate (d : Dev) (atEn : Bool) : Nat := if atEn then (framesFrom (d.get R.REAM.SWAP_AT) d.thirdFrame).toNat else 0

/-- The rejections of a GO (R121 to R123, R130, R536). -/
def Dev.goErrs (d : Dev) (slot : Nat) (atEn lateOk : Bool) : List Err :=
  let late := d.swapLate atEn
  errIf (d.slotState slot != 3) (eStruct 0) ++ errIf (d.is R.REAM.SWAP_PEND || (d.slotState slot = 3 && (d.checked slot).isNone)) (eBusy 3) ++
    errIf (atEn && 65535 < framesFrom (d.get R.TB.FRAME_NO_LIVE) (d.get R.REAM.SWAP_AT)) eRange ++ errIf (late != 0 && !lateOk) (ePast late) ++
    (match d.checked slot with
      | none => []
      | some im =>
        let cls := classBy d.ream.active im.structDigest im.mapDigest
        compatErrs d.ream.active im ++ errIf (!swapMode d.mode cls) (eMode d) ++ errIf (cls = 2 && d.partnerMirrors) (eStruct 0xFE))

/-- A GO for a VERIFIED slot that no check has read since the last BOOT starts that check as a VERIFY (R536). -/
def Dev.goCheck (d : Dev) (slot : Nat) : Dev :=
  if d.slotState slot = 3 && (d.checked slot).isNone && !d.is R.REAM.CMD_BUSY && !d.is R.REAM.SWAP_PEND then d.cmdRun slot 3 else d

/-- A swap scheduled for a frame under a class. -/
def Dev.swapSet (d : Dev) (slot target cls late : Nat) : Dev :=
  let d1 := (((d.put R.REAM.SWAP_PEND 1).put R.REAM.SLOT_SWAP_PEND 1 slot).put R.REAM.SWAP_SLOT slot).put I.REAM.SWAP_TARGET target
  (((((d1.put I.REAM.SWAP_CLASS cls).put I.REAM.SWAP_LATE (min late 255)).put I.REAM.SWAP_BOOT 0).put I.REAM.SWAP_CONF 1).put I.REAM.SWAP_ORD 0)

/-- No swap is pending any more. -/
def Dev.swapClear (d : Dev) : Dev :=
  (((d.put R.REAM.SWAP_PEND 0).put R.REAM.SLOT_SWAP_PEND 0 0).put R.REAM.SLOT_SWAP_PEND 0 1).put I.REAM.SWAP_BOOT 0

/-- A GO accepted (R122, R123): the third boundary, or SWAP_AT where that lies no earlier; a partner in MIRROR gets the order (R129). -/
def Dev.goStart (d : Dev) (slot : Nat) (atEn : Bool) : Dev :=
  match d.checked slot with
  | none => d
  | some im =>
    let cls := classBy d.ream.active im.structDigest im.mapDigest
    let late := d.swapLate atEn
    let target := if atEn && late = 0 then d.get R.REAM.SWAP_AT else d.thirdFrame
    let d1 := d.swapSet slot target cls late
    if d.partnerMirrors then (d1.put I.REAM.SWAP_CONF 0).send (.swapOrder im.imageDigest target cls) else d1

/-- A CANCEL at TB ns t (R124): it counts until 2 µs before the boundary of the swap. -/
def Dev.swapCancel (d : Dev) (t : Nat) : Dev :=
  let next : Bool := framesFrom (d.get R.TB.FRAME_NO_LIVE) (d.get I.REAM.SWAP_TARGET) ≤ 1
  if !d.is R.REAM.SWAP_PEND || d.is I.REAM.SWAP_BOOT || (next && d.is R.TB.DECKLE_RUN && d.nextNs < t + 2000) then d
  else d.swapClear.reamResult 4 (d.get R.REAM.SWAP_SLOT) ⟨0, 0⟩ none

/-- SWAP_ORDER_RX (R129): a standby confirms an order that it can follow. -/
def execSwapOrderRx (digest : Nat) (target : BitVec 32) (cls : BitVec 2) (s : State) : Host.Outcome State Fault Refusal :=
  s.onDev fun d =>
    let fits (slot : Nat) : Bool := d.slotState slot = 3 && (match d.checked slot with
      | some im => im.imageDigest = digest && classBy d.ream.active im.structDigest im.mapDigest = cls.toNat
      | none => false)
    if d.mode != .mirror || 1 < cls.toNat then d
    else match [0, 1].find? fits with
      | none => d
      | some slot => ((d.swapSet slot target.toNat cls.toNat 0).put I.REAM.SWAP_ORD 1).send (.swapConfirm digest)

/-- SWAP_CONFIRM_RX (R129). -/
def execSwapConfirmRx (s : State) : Host.Outcome State Fault Refusal := s.onDev fun d => if d.is R.REAM.SWAP_PEND then d.put I.REAM.SWAP_CONF 1 else d

/-- The pending swap was not confirmed (R129). -/
def Dev.swapUnconfirmed (d : Dev) : Dev :=
  if d.is R.REAM.SWAP_PEND && !d.is I.REAM.SWAP_CONF then d.swapClear.reamResult 3 (d.get R.REAM.SWAP_SLOT) (eStruct 0xFE) none else d

/-- SWAP_CONFIRM_TIMEOUT (R129): the boundary before the target has come. -/
def execSwapConfirmTimeout (s : State) : Host.Outcome State Fault Refusal := s.onDev Dev.swapUnconfirmed

/-! Activation (R97, R125 to R128). -/

/-- Node parameters that have changed since `old` are written to their cells (R192, R214). -/
def Dev.nodeUpdate (d old : Dev) : Dev :=
  d.forN 144 (fun d c =>
    if !d.cellUsed c || !old.cellUsed c then d
    else match d.cellLink c with
      | none => d
      | some ix =>
        let was := old.nodeParams c
        ((d.nodeParams c).filter (fun p => !was.contains p)).foldl (fun d p => d.ask ix (d.get R.CELL.HOP c) 2 p.1 p.2 c 1) d)

/-- Threshold DACs that have changed since `old` take their new values at the boundary at TB ns t (R347), and a new TENURE cuts the
counts (R259). -/
def Dev.valueUpdate (d old : Dev) (t : Nat) : Dev :=
  let d2 := d.forN 24 (fun d w =>
    let lo := d.get R.AFE.WC_TH_LO w != old.get R.AFE.WC_TH_LO w
    let hi := d.get R.AFE.WC_TH_HI w != old.get R.AFE.WC_TH_HI w
    (d.onlyIf lo (fun d => d.put I.AFE.DAC_NS t (2 * w))).onlyIf hi (fun d => d.put I.AFE.DAC_NS t (2 * w + 1)))
  d2.onlyIf (d.get R.CAL.TENURE != old.get R.CAL.TENURE) Dev.tenureCut

/-- What follows from registers that have changed since `old`, at the boundary at TB ns t. -/
def Dev.follow (d old : Dev) (t : Nat) : Dev := (d.nodeUpdate old).valueUpdate old t

/-- A new Tf is taken at the next boundary: the frame that begins keeps the one before it (R85, R128). -/
def Dev.tfChange (d old : Dev) : Dev :=
  let was := old.get R.TB.TF
  (d.onlyIf (d.get R.TB.TF != was) (fun d => (d.put I.TB.TF_PEND 1).put I.TB.NEXT_LEN was)).deckleCtl

/-- The record of what the network structure shaped starts anew; the time engine and its sources stay (R126, R128). -/
def Dev.netFresh (d : Dev) : Dev :=
  let d1 := d.setNet { d.net with sv := Net.empty.sv, src := [], goose := Net.empty.goose }
  (((((d1.fill I.NET.SV_SEC 0).fill I.NET.SV_CNT 0).fill I.NET.SUB_RUN 0).fill I.NET.GS_EVER 0).fill I.NET.GP_ON 0).fill I.NET.GP_SQ 0

/-- A class-2 activation, or the one of BOOT, at TB ns t (R128, R153): rings and links start again, the control engine, the Calender
and Teasel start from their first-use rules, and slots take the roles a new map gives. -/
def Dev.classTwo (d old : Dev) (t : Nat) : Dev :=
  let d1 := d.forN 144 (fun d c =>
    (((((d.put I.CELL.EVER 0 c).put I.CELL.GOT 0 c).put I.CELL.LOST 0 c).put I.CELL.REMOVE 0 c).put I.CELL.NEXT_POSTED 0 c).put R.MOD.SLOT_ROLE
      (if d.cellUsed c then roleOut else roleUnused) c)
  let d2 := ((d1.fill I.CELL.LAST_M 0).forN 6 (fun d r => d.ringTo r ringDown)).forN 16 (fun d n => d.lfTo n 0)
  let d3 := d2.feltUp
  let d4 := d3.forN 24 (fun d w =>
    d.onlyIf (d.get R.AFE.WC_WMODE w != old.get R.AFE.WC_WMODE w || d.get R.AFE.WC_ROLE w != old.get R.AFE.WC_ROLE w) (fun d => d.wcStart w))
  let d5 := d4.forN 6 (fun d s => d.put I.MOD.CAR_OLD (d.get R.MOD.STR_CAR_PER s) s)
  (((((d5.put I.CE.FRESH 1).warmStart).calFresh).teaselStart).netFresh).put I.FLT.TABLE_ON 1 |>.valueUpdate old t

/-- A class-1 activation: a slot whose map entry changed is bypassed and assigned no carrier (R127). -/
def Dev.classOne (d old : Dev) (t : Nat) : Dev :=
  let flds := [I.CELL.USED, I.CELL.STRING, I.CELL.POS, R.CELL.LINK_KIND, R.CELL.LINK, R.CELL.HOP]
  d.forN 144 (fun d c =>
    if flds.all (fun f => d.get f c = old.get f c) then d
    else
      let d1 := (d.put I.CELL.REMOVE 1 c).put I.CELL.ID_BITS 0 c
      d1.setRole c (if d.cellUsed c then roleOut else roleUnused)) |>.follow old t

/-- A ring whose declared segment latencies change: ASYM_ACTIVE, HOLD and ρ_ref are cleared, and a ring in use passes through
CALIBRATE (R176). -/
def Dev.declChange (d old : Dev) : Dev :=
  d.forN 6 (fun d r =>
    if (List.range 50).all (fun s => d.get I.FELT.DECL_E (r * 50 + s) = old.get I.FELT.DECL_E (r * 50 + s) &&
      d.get I.FELT.DECL_W (r * 50 + s) = old.get I.FELT.DECL_W (r * 50 + s)) then d
    else
      let d1 := (d.asymClear r).put I.FELT.HAS_REF 0 r
      let st := d.get R.FELT.RING_STATE r
      if st = ringReady || st = ringSingle || st = ringCal then d1.ringTo r ringCal else d1)

/-- The three digests of the active image, in words (R132). -/
def Dev.showDigests (d : Dev) (im : Image) : Dev :=
  d.forN 12 (fun d k =>
    ((d.put R.REAM.ACTIVE_STRUCT_DIGEST (bytesAt im.structDigest (4 * k) 4) k).put R.REAM.ACTIVE_MAP_DIGEST (bytesAt im.mapDigest (4 * k) 4) k).put
      R.REAM.ACTIVE_IMAGE_DIGEST (bytesAt im.imageDigest (4 * k) 4) k)

/-- The coefficient banks at an activation (R126, R288): all three at BOOT and in class 2; the shadow and fallback banks in class 0
and 1, with a request for a swap at step 5. -/
def Dev.actBanks (d : Dev) (im : Image) (cls : Nat) : Dev :=
  let d1 := d.loadBank im R.CE.FALLBACK_BANK 0x4800
  if cls = 2 then
    (((d1.loadBank im R.CE.ACTIVE_BANK 0).loadBank im R.CE.SHADOW_BANK 0x2400).put R.CE.ACT_SRC 0).put R.CE.SHD_SRC 1
  else ((d1.loadBank im R.CE.SHADOW_BANK 0).put R.CE.SHD_SRC 0).put I.CE.ACT_SWAP 1

/-- The slots at an activation (R109): the activated one, and the other one, which leaves ACTIVE. -/
def Dev.actSlots (d : Dev) (t slot : Nat) (im : Image) : Dev :=
  let o := 1 - slot
  let d1 := (d.onlyIf (d.slotState o = 4) (fun d => d.keepSlot t o 3)).setSlot t slot 4 im.structDigest im.mapDigest
  (d1.put R.REAM.ACTIVE (slot + 1)).showDigests im

/-- The activated slot is to be recorded as preferred (R113, R116). -/
def Dev.actPref (d : Dev) (t slot : Nat) (boot : Bool) : Dev :=
  if (boot && d.is R.REAM.PREF) || d.get R.REAM.PREF = slot + 1 then d
  else (d.put I.REAM.PREF_DUE (slot + 1)).enqueue t (.commit 2 [slot + 1])

/-- An activation at the boundary at TB ns t (R97, R125). -/
def Dev.activate (d : Dev) (t slot : Nat) (im : Image) (cls : Nat) (boot : Bool) : Dev :=
  let late := d.get I.REAM.SWAP_LATE
  let d1 := (((((((d.swapClear).put R.FELT.SUPERSEDED 0).put I.FELT.STOPPED 0).loadImage im).actBanks im cls).tfChange d).declChange d).put I.PERF.VIEW_NEXT (bitOf im.hdrFlags 8)
  let d2 := if cls = 2 then d1.classTwo d t else d1.classOne d t
  ((((d2.actSlots t slot im).actPref t slot boot).showClass).reamResult (if boot then 1 else 3) slot ⟨0, late⟩ none).netStatus

/-- A swap refused at its boundary (R125, R129): instance 3, or 4 on a standby that had confirmed. -/
def Dev.swapRefuse (d : Dev) (t slot : Nat) (e : Err) : Dev :=
  (d.swapClear.reamResult 3 slot e none).raise t 2 (if d.is I.REAM.SWAP_ORD then 4 else 3) 0

/-- The checks at step 2 of the scheduled boundary: the mode, R121, and feasibility in class 1 (R125). -/
def Dev.swapErrs (d : Dev) (im : Image) : List Err :=
  let cls := classBy d.ream.active im.structDigest im.mapDigest
  let order : Bool := d.is I.REAM.SWAP_ORD && d.mode = .mirror && cls < 2
  errIf (!order && !swapMode d.mode cls) (eMode d) ++ compatErrs d.ream.active im ++ errIf (cls = 2 && d.partnerMirrors) (eStruct 0xFE) ++
    errIf (cls = 1 && ((d.loadImage im).tfErrs (im.strc 1 0 4)).contains (eStruct 2)) (eStruct 2)

/-- The frame that begins is the one of the pending swap, or lies after it. -/
def Dev.swapReached (d : Dev) : Bool :=
  d.is R.REAM.SWAP_PEND && (d.is I.REAM.SWAP_BOOT || framesFrom (d.get R.TB.FRAME_NO_LIVE) (d.get I.REAM.SWAP_TARGET) ≤ 0)

/-- The end of BOOT's activation (R116): FALLBACK with instance 0, and step 8. -/
def Dev.bootActivated (d : Dev) (t slot : Nat) : Dev :=
  let fall : Bool := d.is R.REAM.PREF && d.get R.REAM.PREF != slot + 1
  ((d.flag R.REAM.FALLBACK fall).onlyIf fall (fun d => d.raise t 2 0 0)).put I.MODE.BOOT_DONE 1

/-- Step 2 of the boundary that begins the present frame, at TB ns t: the pending activation, if it is due, and the image to burn
fuses from (R107, R125). -/
def Dev.stepTwo (d : Dev) (t : Nat) : Dev × Option Image :=
  if !d.swapReached then (d, none)
  else
    let slot := d.get R.REAM.SWAP_SLOT
    let boot := d.is I.REAM.SWAP_BOOT
    match d.checked slot with
    | none => (d.swapClear, none)
    | some im =>
      if boot then ((d.activate t slot im 2 true).bootActivated t slot, some im)
      else if !d.is I.REAM.SWAP_CONF then (d.swapUnconfirmed, none)
      else match firstErr (d.swapErrs im) with
        | some e => (d.swapRefuse t slot e, none)
        | none =>
          let cls := classBy d.ream.active im.structDigest im.mapDigest
          (d.activate t slot im cls false, if d.mode = .idle then some im else none)

/-- The fuses after an activation in IDLE or at the end of BOOT (R107): SEC_VER_MIN rises, and the revoke bits that the image marks are
burnt, but for the key slot that signed it. -/
def Otp.burn (o : Otp) (im : Image) : Otp :=
  let rev := bitsOf im.hdrFlags 7 4
  { o with secVerMin := if bitOf im.hdrFlags 0 = 1 then max o.secVerMin (min im.secVer 63) else o.secVerMin,
           revoked := o.revoked ||| (if bitOf rev im.keyIndex = 1 then rev - 2 ^ im.keyIndex else rev) }

/-! BOOT (R116, R117). -/

/-- The slots in the order in which BOOT tries them. -/
def Dev.bootOrder (d : Dev) : List Nat := if d.get R.REAM.PREF = 2 then [1, 0] else [0, 1]

/-- A slot fails its BOOT check. -/
def Dev.bootFail (d : Dev) (t slot : Nat) (f : Fail) : Dev :=
  let st := d.slotState slot
  let d1 := ((d.reamResult 1 slot f.err f.off).lastCheck slot f.err).onlyIf (st = 3 || st = 4) (fun d => d.keepSlot t slot 5)
  d1.showClass

/-- The slots tried in order: the first that passes is to be activated at the next boundary, as step 8; without one, BOOT completes with
no active Ream. -/
def Dev.bootLoad (d : Dev) (otp : Otp) (t : Nat) : List Nat → Dev
  | [] => (d.raise t 2 1 0).put I.MODE.BOOT_DONE 1
  | slot :: l =>
    if bitOf (d.get I.REAM.BOOT_TRIED) slot = 1 then d.bootLoad otp t l
    else
      match d.checkSlot otp slot true with
      | .error f => ((d.flashRead 256).bootFail t slot f).bootLoad otp t l
      | .ok im =>
        let d1 := (((d.flashRead im.len).lastCheck slot ⟨0, 0⟩).showImage slot im).setChecked slot (some im)
        (d1.swapSet slot 0 2 0).put I.REAM.SWAP_BOOT 1

/-- Steps 6 to 8 of BOOT (R116, R140, R153). -/
def Dev.bootFinish (d : Dev) (otp : Otp) (t : Nat) : Dev :=
  ((((d.bootLoad otp t d.bootOrder).put I.MODE.BOOT_STEP 7).firstUse t).put I.MODE.BOOT_STEP 8)

/-- REAM_LOAD_DONE (R116): the checks of step 6 have run. -/
def execReamLoadDone (s : State) : Host.Outcome State Fault Refusal :=
  s.onDev fun d => if d.bootAt 6 then (d.bootFinish s.otp s.clk.ns).settle s.clk.ns else d

/-- REAM_CHECK_TIMEOUT (R114): the check in progress has taken 5 s. -/
def execReamCheckTimeout (s : State) : Host.Outcome State Fault Refusal :=
  s.onDev fun d =>
    let t := s.clk.ns
    if d.bootAt 6 then
      match d.bootOrder.find? (fun k => bitOf (d.get I.REAM.BOOT_TRIED) k = 0) with
      | none => d
      | some k =>
        let d1 := (d.setBitOf I.REAM.BOOT_TRIED k true).bootFail t k ⟨eAuth 8, none⟩
        (if d1.get I.REAM.BOOT_TRIED = 3 then d1.bootFinish s.otp t else d1).settle t
    else if d.verifying && d.supervised then (d.verifyEnd t (d.get I.REAM.CMD_RUN_SLOT) (.error ⟨eAuth 8, none⟩)).settle t
    else d

/-! Scrub and the preferred slot (R113, R119, R131). -/

/-- The CRC of every sheet of the active image still holds in the flash. -/
def Dev.scrubOk (d : Dev) (slot : Nat) (im : Image) : Bool :=
  let bs := d.slotBytes slot im.len
  match walk (leNat bs) im.len sheetOrder 0 with
  | .error _ => false
  | .ok l => l.all (fun x => sheetCrcOk bs x.2.1 x.2.2)

/-- SCRUB (R119): once every 24 h, and at the first housekeeping round after an activation. -/
def execScrub (s : State) : Host.Outcome State Fault Refusal :=
  s.onDev fun d =>
    match d.ream.active, d.get R.REAM.ACTIVE with
    | some im, k + 1 =>
      let d1 := d.flashRead im.len
      if d.scrubOk k im then d1 else ((d1.put R.REAM.SCRUB_ERR 1).raise s.clk.ns 2 5 0).settle s.clk.ns
    | _, _ => d

/-- PREF_RECORD_TIMEOUT (R113, R131): 1 s after an activation its slot is not recorded as preferred. -/
def execPrefRecordTimeout (s : State) : Host.Outcome State Fault Refusal :=
  s.onDev fun d => if d.is I.REAM.PREF_DUE then (d.raise s.clk.ns 2 6 0).settle s.clk.ns else d

end Sys2Proof.Machine
end

