-- ==== Sys2Proof/Machine/HostWrite.lean ====
section
/-! DEFINITION. Host writes and reads of BAR0 registers (00_scope.md R6 to R12, R534; 02_host_access.md R42 to R46): the checks that
every access meets, the checks of each window, and what a write that passes them does. -/
namespace Sys2Proof.Machine

/-! Rights (R44, R45, R505). -/

/-- The fields of a word that a write can change or act on. -/
def writable (ws : List (Fld × Nat)) : List (Fld × Nat) := ws.filter (fun p => p.1.acc != .ro && p.1.acc != .rc)

/-- PF1 may write the word: its own HIF and SNAP registers, the STAGE window, and words whose writable fields are all marked PF1. -/
def pf1Writes (w o : Nat) (ws : List (Fld × Nat)) : Bool :=
  w = wHif || (w = wSnap && o != 0xC) || w = wStage || (!(writable ws).isEmpty && (writable ws).all (fun p => p.1.pf1))

/-- The SK0480 subset as ranges of BAR0: first address and bytes (R45, R71). -/
def subsetRanges : List (Nat × Nat) :=
  [(0x000000, 0x100), (0x060000, 0x100), (0x080400, 0x100), (0x0A0000, 0xC00), (0x100000, 0x10), (0x120000, 0x38), (0x120100, 0x200)] ++
    (List.range 8).map (fun k => (0x100100 + 0x20 * k, 0x10))

/-- A BAR0 address lies in the subset. -/
def inSubset (a : Nat) : Bool := subsetRanges.any (fun r => r.1 ≤ a && a < r.1 + r.2)

/-- A read of the address by the source breaks its rights. -/
def Dev.readPriv (d : Dev) (src : Source) (a : Nat) : List Err :=
  match src with
  | .pf0 => []
  | .pf1 => errIf ((winOf a).any (fun p => p.1 = wPerf) && !d.is R.PERF.PERF_USER_EN) (ePriv 1)
  | .cspi => errIf (!inSubset a) (ePriv 2)

/-- Partial words and addresses that are no multiple of 4 (R6). -/
def alignErrs (a be : Nat) : List Err := errIf (be != 0xF || a % 4 != 0) (eAlign be)

/-! The checks of a word (R9 to R12, R43, R534). -/

/-- Fields at whose every write their own rule acts (R534). -/
def always (f : Fld) : Bool := [R.MODE.TARGET.id, R.CE.BANK_REQ.id, R.THERM.EVJ_SEL.id].contains f.id

/-- The value that a word gives a field. -/
def Fld.of (f : Fld) (val : Nat) : Nat := bitsOf val f.hi f.lo

/-- The write changes the RW field. -/
def Dev.changes (d : Dev) (p : Fld × Nat) (val : Nat) : Bool := always p.1 || p.1.of val != d.get p.1 p.2

/-- The write changes one field of a list. -/
def Dev.changesAny (d : Dev) (fs : List Fld) (i val : Nat) : Bool := fs.any (fun f => d.changes (f, i) val)

/-- The lowest bit that a value sets outside every field of its word (R10). -/
def reservedErrs (ws : List (Fld × Nat)) (val : Nat) : List Err :=
  let used := ws.foldl (fun m p => m ||| (2 ^ p.1.width - 1) <<< p.1.lo) 0
  match (List.range 32).find? (fun b => bitOf val b = 1 && bitOf used b = 0) with
  | some b => [eRange b]
  | none => []

/-- The errors of a direct write in one field (R11, R43). -/
def Dev.fieldErrs (d : Dev) (p : Fld × Nat) (val : Nat) : List Err :=
  if p.1.acc != .rw || !d.changes p val then [] else if p.1.direct then p.1.rng.errs p.1.width (p.1.of val) else [eTxn 5]

/-- A standby accepts no write but those of R65. -/
def Dev.roleErrs (d : Dev) (w o : Nat) : List Err :=
  let ok : Bool := w = wHif || w = wSnap || w = wPart || (w = wReam && ((0x40 ≤ o && o < 0x50) || 0x8000 ≤ o)) ||
    (w = wStage && o = 4 && d.get R.STAGE.STAGE_STAT_STATE = 1)
  errIf (d.mode = .mirror && !ok) (eRole d)

/-- Outside HIF and SNAP no write is accepted before IDLE (R141). -/
def Dev.bootErrs (d : Dev) (w : Nat) : List Err := errIf (d.mode = .boot && w != wHif && w != wSnap) (eMode d)

/-! The STAGE window (R56, R57). -/

/-- The rejections of a write to a register of the STAGE window. A rejection for the owner comes alone: whatever the TXN. -/
def Dev.stageErrs (d : Dev) (src : Source) (o val : Nat) : List Err :=
  let st := d.get R.STAGE.STAGE_STAT_STATE
  let item : Bool := 0x1000 ≤ o
  let txn := val % 65536
  let next := d.get R.STAGE.STAGE_STAT_NEXT_TXN
  if !item && 0xC < o then []
  else if st != 0 && (d.stageOwner != src || o = 0) then [eBusy (srcIx d.stageOwner)]
  else if o = 0 then errIf (txn != next) (eTxn 2)
  else if o = 4 || item then errIf (st != 1) (eTxn 1)
  else if o = 0xC then (if st = 0 then [eTxn 1] else errIf (txn != next) (eTxn 2))
  else []

/-- STAGE_OPEN accepted. -/
def Dev.stageOpen (d : Dev) (src : Source) : Dev :=
  ((d.put R.STAGE.STAGE_STAT_STATE 1).put R.STAGE.STAGE_STAT_OWNER (srcIx src)).put I.STAGE.GEN (d.get I.STAGE.GEN + 1)

/-- The first item below COUNT of which a word was not written since the open (R58). -/
def Dev.missingItem (d : Dev) (count : Nat) : Option Nat :=
  (List.range count).find? (fun i => d.get I.STAGE.GEN_A i != d.get I.STAGE.GEN || d.get I.STAGE.GEN_D i != d.get I.STAGE.GEN)

/-- The first eligible boundary, counted from the present frame: 1, or 2 when the next one is less than 2 µs away (R59). -/
def Dev.eligibleIn (d : Dev) (t : Nat) : Nat := if d.is R.TB.DECKLE_RUN && d.nextNs < t + 2000 then 2 else 1

/-- The frames by which a target comes too late (R60). -/
def Dev.stageLate (d : Dev) (t : Nat) : Nat :=
  ((d.eligibleIn t : Int) - framesFrom (d.get R.TB.FRAME_NO_LIVE) (d.get R.STAGE.STAGE_AT)).toNat

/-- The failures of a commit (R58 to R60), each with its index and whether it concerns no single item. -/
def Dev.commitErrs (d : Dev) (t val : Nat) : List (Err × Nat × Bool) :=
  let count := bitsOf val 28 16
  let atEn : Bool := bitOf val 29 = 1
  let late := d.stageLate t
  let whole (l : List Err) : List (Err × Nat × Bool) := l.map (fun e => (e, 0, true))
  whole (errIf (d.mode = .mirror) (eRole d) ++ errIf (val % 65536 != d.get R.STAGE.STAGE_STAT_NEXT_TXN) (eTxn 2) ++ errIf (count = 0) eZero ++
      errIf (4096 < count) eRange ++ errIf (atEn && 65535 < framesFrom (d.get R.TB.FRAME_NO_LIVE) (d.get R.STAGE.STAGE_AT)) eRange ++
      errIf (atEn && late != 0 && bitOf val 30 = 0) (ePast late)) ++
    (if 4096 < count then [] else match d.missingItem count with | some i => [(eTxn 3, i, false)] | none => [])

/-- The failure of a commit that is reported: the first in the order of R46. -/
def firstFail : List (Err × Nat × Bool) → Option (Err × Nat × Bool)
  | [] => none
  | e :: es => match firstFail es with
    | none => some e
    | some e' => if e'.1.rank < e.1.rank then some e' else some e

/-- STAGE_COMMIT at TB ns t (R58 to R60). -/
def Dev.stageCommit (d : Dev) (t val : Nat) : Dev :=
  match firstFail (d.commitErrs t val) with
  | some (e, i, whole) => d.stageEnd e i whole
  | none =>
    let atEn : Bool := bitOf val 29 = 1
    let late := if atEn then d.stageLate t else 0
    let target := if late = 0 then d.get R.STAGE.STAGE_AT else d.get R.TB.FRAME_NO_LIVE + d.eligibleIn t
    let d1 := (((d.put R.STAGE.STAGE_STAT_STATE 2).put I.STAGE.COUNT (bitsOf val 28 16)).flag I.STAGE.AT_EN atEn).put I.STAGE.TARGET target
    ((d1.put I.STAGE.COMMIT_NS t).put I.STAGE.LATENESS (min late 255))

/-- What an accepted write to the STAGE window does. -/
def Dev.stageAct (d : Dev) (t : Nat) (src : Source) (o val : Nat) : Dev :=
  if o = 0 then d.stageOpen src
  else if o = 4 then d.stageCommit t val
  else if o = 0xC then d.stageEnd ⟨0, 0⟩ 0 false
  else if 0x1000 ≤ o && o < 0x9000 then
    d.put (if o % 8 = 0 then I.STAGE.GEN_A else I.STAGE.GEN_D) (d.get I.STAGE.GEN) ((o - 0x1000) / 8)
  else d

/-! The checks and the effects of single registers. -/

/-- The element of a repeated register group at an offset, and the offset in it. -/
def groupAt (o base stride n : Nat) : Option (Nat × Nat) :=
  if base ≤ o && (o - base) / stride < n then some ((o - base) / stride, (o - base) % stride) else none

/-- A write that starts and stops at once, or starts what cannot run (R240, R324). -/
def Dev.goStopErrs (d : Dev) (val : Nat) (pat : Fld) : List Err :=
  errIf (val % 4 = 3) (eRange 0) ++ errIf (val % 2 = 1 && d.mode != .test) (eMode d) ++ errIf (val % 2 = 1 && d.get pat = 0) eZero

/-- Half-bridges that a test pattern may name (R324). -/
def Dev.lvtMaskBad (d : Dev) (m : Nat) : Bool := m = 0 || (List.range 8).any (fun k => bitOf m k = 1 && !d.hbUsed k)

/-- The checks of TEST_CTL, TEST_M and TEST_D1 (R240), for what a write changes. -/
def Dev.testCtlErrs (d : Dev) (o val : Nat) : List Err :=
  let of_ (f : Fld) (none_ : Nat) : Nat := if d.changes (f, 0) val then f.of val else none_
  if o = 0x30 && d.changesAny [R.MOD.TEST_PAT, R.MOD.TEST_A, R.MOD.TEST_B, R.MOD.TEST_SLOT] 0 val then
    d.testErrs (of_ R.MOD.TEST_SLOT 255) 0 0 (of_ R.MOD.TEST_A 0) (of_ R.MOD.TEST_B 0)
  else if o = 0x34 && d.changes (R.MOD.TEST_M, 0) val then d.testErrs 255 (toInt 16 (val % 65536)) 0 0 0
  else if o = 0x38 && d.changes (R.MOD.TEST_D1, 0) val then d.testErrs 255 0 (toInt 20 (val % 2 ^ 20)) 0 0
  else []

/-- FR_CTL (R176, R180, R181). -/
def Dev.ringCtlErrs (d : Dev) (r val : Nat) : List Err :=
  errIf (val % 2 = 1 && !d.inMode [.idle, .test]) (eMode d) ++ errIf (val % 2 = 1 && d.is R.FELT.SUPERSEDED && !d.strapped) (eLocked 1) ++
    errIf (bitOf val 1 = 1 && !d.asymBack r) (eBusy 3)

/-- CLR_GO of slot c (07_cell_node_contract.md). -/
def Dev.clrErrs (d : Dev) (c val : Nat) : List Err :=
  if val % 2 = 0 then []
  else errIf (val / 65536 = 0) eZero ++ errIf (d.get R.CELL.CLR_RESULT c = 1) (eBusy 3) ++ errIf (!d.cellUsed c) (eStruct 1)

/-- A write that takes ALIVE from 0 to 1 (R375). -/
def Dev.aliveErrs (d : Dev) (val : Nat) : List Err :=
  if bitOf val 1 = 0 || d.is R.FLT.ALIVE then []
  else errIf (d.reactAtLeast 6) (eLocked 2) ++ errIf (d.inMode [.test, .boot] || d.get R.FLT.SIGOK_STATE != sigHold) (eMode d)

/-- A HIST_ACK outside ACK_SEQ to HEAD_SEQ (R369). -/
def Dev.ackErrs (d : Dev) (seq : Nat) : List Err :=
  let a := d.get R.FLT.ACK_SEQ
  errIf (seq != a && (seq = 0 || d.unacked < seqAhead a seq)) eRange

/-- The instance that EVSEL[11:8] names, and the type of the sheet that defines it, where the active Ream does not provide it (R497). -/
def Dev.evselMissing (d : Dev) (b inst : Nat) : Option Nat :=
  match b with
  | 0 => if inst < 6 && d.is I.FELT.RING_EN inst then none else some 2
  | 1 | 2 => if inst < 6 && d.strExists inst then none else some 1
  | 3 => if d.slots.any (fun sl => sl.n / 8 = inst) then none else some 5
  | 4 => if inst < 8 && d.hbUsed inst then none else some 7
  | 5 => if inst < 8 && d.get R.AFE.SEQ_NENT inst != 0 then none else some 6
  | 8 => if inst < 2 && d.portUsed inst then none else some 10
  | _ => none

/-- A changed EVSEL of counter i of block b (R497). -/
def Dev.evselErrs (d : Dev) (b i val : Nat) : List Err :=
  let inst := bitsOf val 11 8
  errIf (perfCounters b ≤ i) eRange ++
    (if val % 4096 = d.get R.PERF.EVSEL (8 * b + i) then []
    else errIf (perfEvents b < val % 256) eRange ++ errIf (inst != 15 && (b = 7 || b = 10 || (b = 9 && 3 ≤ inst))) eRange ++
      (match d.evselMissing b inst with | some typ => errIf (inst != 15) (eStruct typ) | none => []))

/-- The checks that each window adds for a write of `val` at an offset. -/
def Dev.windowErrs (d : Dev) (t : Nat) (src : Source) (w o val : Nat) : List Err :=
  match w with
  | 1 => errIf (o = 0 && val % 4 = 3) (eRange 0)
  | 2 => d.stageErrs src o val
  | 3 => errIf (o = 8 && d.changes (R.TB.TB_RATE, 0) val && d.is R.NET.SERVO_MODE) (eBusy 3)
  | 4 =>
    if o = 0x40 then d.cmdErrs (bitOf val 4) (val % 16)
    else if o = 0x50 then
      errIf (val % 2 = 1 && bitOf val 4 = 1) (eRange 0) ++ (if val % 2 = 1 then d.goErrs (bitOf val 1) (bitOf val 2 = 1) (bitOf val 3 = 1) else [])
    else []
  | 6 => match groupAt o 0x100 0x40 6 with
    | some (r, 0x28) => d.ringCtlErrs r val
    | _ => []
  | 7 => if o % 0x40 = 0x3C then d.clrErrs (o / 0x40) val else []
  | 8 =>
    if o = 0x3C then d.goStopErrs val R.MOD.TEST_PAT
    else match groupAt o 0x1000 0x10 144 with
      | some (c, 8) => d.slotCtlErrs c (val % 2 = 1) (bitOf val 1 = 1)
      | _ => d.testCtlErrs o val
  | 11 =>
    if o = 0x48 then d.goStopErrs val R.LVD.LVT_PAT ++ errIf (val % 2 = 1 && d.lvtMaskBad (d.get R.LVD.LVT_MASK)) (eStruct 7)
    else if o = 0x40 then errIf (d.changes (R.LVD.LVT_MASK, 0) val && d.lvtMaskBad (bitsOf val 15 8)) (eStruct 7)
    else match groupAt o 0x100 0x20 8 with
      | some (k, 0x10) => errIf (val % 2 = 1 && d.softIn k) (eBusy 3) ++ errIf (val % 2 = 1 && !d.hbUsed k) (eStruct 7)
      | _ => []
  | 12 => if o = 0x18 then errIf (val = 0) eZero ++ d.swTrigErrs val else []
  | 13 =>
    if o = 0xC then d.ackErrs (val % 65536)
    else if o = 0x10 then d.aliveErrs val
    else if o = 0x34 then errIf (173 ≤ val % 256 && val % 256 ≤ 254) eRange
    else []
  | 14 => if o = 0x10 then d.fbClrErrs val else []
  | 15 => if o = 0xC then (if bitOf val 1 = 1 then d.yieldErrs else []) ++ (if bitOf val 2 = 1 then d.leaveErrs else []) else []
  | 17 => if o = 0x38 then d.lanResetErrs t val else if o = 0x44 then (if val % 2 = 1 then d.todSetErrs t else []) else []
  | 18 => match groupAt o 0x100 0x40 11 with
    | some (b, r) => if r < 0x20 then d.evselErrs b (r / 4) val else []
    | none => []
  | _ => []

/-- A changed LEVEL or ALIVE (R374, R375): LEVEL drives the pin in HOLD. -/
def Dev.sigWrite (d : Dev) (was : Nat) : Dev :=
  let alive := d.get R.FLT.ALIVE
  let st := d.get R.FLT.SIGOK_STATE
  if alive = 1 && was = 0 then (d.put R.FLT.SIGOK_STATE sigAlive).put R.FLT.SIGOK_PIN 1
  else if alive = 0 && st = sigAlive then (d.put R.FLT.SIGOK_STATE sigHold).put R.FLT.SIGOK_PIN (d.get R.FLT.LEVEL)
  else if st = sigHold then d.put R.FLT.SIGOK_PIN (d.get R.FLT.LEVEL)
  else d

/-- A UNIT_CLR waits for its boundary (R366). -/
def Dev.unitClr (d : Dev) (t u : Nat) : Dev :=
  (if u = 255 then List.range 173 else [u]).foldl (fun d u => (d.put I.FLT.CLR_DUE 1 u).put I.FLT.CLR_NS t u) d

/-- What each window does on an accepted write, its plain fields having been set; `old` is the module before the write. -/
def Dev.windowAct (d old : Dev) (t : Nat) (src : Source) (w o val : Nat) : Dev :=
  match w with
  | 0 => if o = 0xC && bitOf val 24 = 1 then d.clearErr (srcIx src) else d
  | 1 => if o != 0 then d else if val % 2 = 1 then d.leaseTake src else if bitOf val 1 = 1 then d.leaseEnd src else d
  | 2 => d.stageAct t src o val
  | 4 =>
    if o = 0x40 then d.cmdStart t (bitOf val 4) (val % 16)
    else if o != 0x50 then d
    else if val % 2 = 1 then d.goStart (bitOf val 1) (bitOf val 2 = 1)
    else if bitOf val 4 = 1 then d.swapCancel t
    else d
  | 5 => match groupAt o 0x60 4 8 with
    | some (i, _) => if d.get R.MODE.RET_USER i = old.get R.MODE.RET_USER i then d else d.retainUser i val
    | none => d
  | 6 => match groupAt o 0x100 0x40 6 with
    | some (r, 0x28) => (if bitOf val 1 = 1 then d.asymClear r else d).onlyIf (val % 2 = 1) (fun d => d.retrain r)
    | _ => d
  | 7 => if o % 0x40 = 0x3C && val % 2 = 1 then d.clrGo (o / 0x40) (val / 65536) else d
  | 8 =>
    if o = 0x3C then
      if val % 2 = 1 then (d.put I.MOD.TEST_DUE 1).put I.MOD.TEST_NS t else if bitOf val 1 = 1 then d.put I.MOD.TEST_END 1 else d
    else match groupAt o 0x1000 0x10 144 with
      | some (c, 8) => if val % 2 = 1 then d.outReq t c else if bitOf val 1 = 1 then d.retReq t c else d
      | _ => d
  | 11 =>
    if o = 0x48 then
      if val % 2 = 1 then (d.put I.LVD.LVT_DUE 1).put I.LVD.LVT_NS t else if bitOf val 1 = 1 then d.put I.LVD.LVT_END 1 else d
    else match groupAt o 0x100 0x20 8 with
      | some (k, 0x10) => if val % 2 = 1 then (d.put I.LVD.HBC_DUE 1 k).put I.LVD.HBC_NS t k else d
      | _ => d
  | 12 => if o = 0x10 then d.swClear t val else if o = 0x18 then d.swTrigger t val else d
  | 13 =>
    if o = 0xC then d.put R.FLT.ACK_SEQ val
    else if o = 0x10 then d.sigWrite (old.get R.FLT.ALIVE)
    else if o = 0x34 then d.unitClr t (val % 256)
    else d
  | 14 => if o = 0xC then old.hostDemand t (val % 4) else if o = 0x10 then d.fbClear t val else d
  | 15 => if o != 0xC then d else (if bitOf val 1 = 1 then d.yieldGo else d).onlyIf (bitOf val 2 = 1) Dev.leaveGo
  | 16 =>
    if o = 0x2000 then d.teaselShow
    else if o = 0x200C then (if val % 2 = 1 then d.teaselRst else d)
    else if o = 0x3000 then d.evjSelect
    else d
  | 17 => if o = 0x38 then d.lanReset val else if o = 0x44 && val % 2 = 1 then d.todSetGo else d
  | 18 => if (o = 0x20 && d.get R.PERF.TAG_N != old.get R.PERF.TAG_N) || (o = 0x24 && d.get R.PERF.TAG_SEED != old.get R.PERF.TAG_SEED)
      then d.put I.PERF.TAG_DUE 1 else d
  | _ => d

/-! A write of one word. -/

/-- The errors of a write of `val` at a BAR0 address, under the byte enables `be`. -/
def Dev.writeErrs (d : Dev) (t : Nat) (src : Source) (a be val : Nat) : List Err :=
  let rights (ok : Bool) : List Err := match src with
    | .pf0 => []
    | .pf1 => errIf (!ok) (ePriv 1)
    | .cspi => errIf (!inSubset a) (ePriv 2)
  match winOf (a - a % 4) with
  | none => rights false ++ alignErrs a be ++ [eRange]
  | some (w, o) =>
    let ws := d.regs.word w o (srcIx src)
    let head := rights (pf1Writes w o ws) ++ alignErrs a be ++ d.roleErrs w o ++ d.bootErrs w
    if ws.isEmpty then head ++ [eRange]
    else head ++ reservedErrs ws val ++ ws.flatMap (fun p => d.fieldErrs p val) ++ d.windowErrs t src w o val

/-- The plain effect on one field: an RW field takes its value, a W1C field loses the bits written 1, and a 0 written to it is no change
(R534). -/
def Dev.fieldWrite (d : Dev) (p : Fld × Nat) (val : Nat) : Dev :=
  let v := p.1.of val
  match p.1.acc with
  | .rw => if p.1.direct then d.put p.1 v p.2 else d
  | .w1c => if v = 0 then d else d.put p.1 (d.get p.1 p.2 - (d.get p.1 p.2 &&& v)) p.2
  | _ => d

/-- The effect of an accepted write. -/
def Dev.writeAct (d : Dev) (t : Nat) (src : Source) (a val : Nat) : Dev :=
  match winOf a with
  | none => d
  | some (w, o) => ((d.regs.word w o (srcIx src)).foldl (fun d p => d.fieldWrite p val) d).windowAct d t src w o val

/-- A GO that finds its VERIFIED slot unchecked starts the check (R536). -/
def Dev.goUnchecked (d : Dev) (a val : Nat) (e : Err) : Dev :=
  if a = winAddr wReam 0x50 && val % 2 = 1 && e.code = 6 then d.goCheck (bitOf val 1) else d

/-- A write of one word: rejected with its first error, or carried out. -/
def Dev.wordWrite (d : Dev) (t : Nat) (src : Source) (a be val : Nat) : Dev × Option Err :=
  match firstErr (d.writeErrs t src a be val) with
  | some e => ((d.goUnchecked a val e).reject src e a, some e)
  | none => (d.writeAct t src a val, none)

/-! A read of one word (R9, R39, R48). -/

/-- RC fields of a word cleared by the read. -/
def Dev.readClears (d : Dev) (w o src : Nat) : Dev :=
  (d.regs.word w o src).foldl (fun d p => if p.1.acc = .rc then d.put p.1 0 p.2 else d) d

/-- The word at a BAR0 address as a source reads it; 0 where no register stands (R12). -/
def Dev.readValue (d : Dev) (otp : Otp) (c : Clock) (src : Source) (a : Nat) : Nat :=
  match winOf a with
  | none => 0
  | some (w, o) => (d.shown otp c).regs.readWord w o (srcIx src)

/-- A read of one word by PF0 or PF1: a rejected one returns zero data. -/
def Dev.wordRead (d : Dev) (otp : Otp) (c : Clock) (src : Source) (a be : Nat) : Dev :=
  match firstErr (d.readPriv src a ++ alignErrs a be) with
  | some e => (d.reject src e a).respond src [0]
  | none =>
    let v := d.readValue otp c src a
    (match winOf a with | some (w, o) => d.readClears w o (srcIx src) | none => d).respond src [v]

end Sys2Proof.Machine
end

