-- ==== Sys2Proof/Machine/Staging.lean ====
section
/-! DEFINITION. Staged sets at a boundary (02_host_access.md R59 to R68, R71): the checks of each item, the rules over more than one
field, applying a set, and the sets that step 4 takes: the committed one, the CSPI implicit ones, and those the primary forwards. -/
namespace Sys2Proof.Machine

/-! One item (R61). -/

/-- The field changes only through a staged set (R42). -/
def Fld.staged (f : Fld) : Bool := f.acc = .rw && !f.direct

/-- A direct field of the item's word would act (R61): a WO field other than 0, a W1C bit written 1, a direct RW field changed. -/
def Dev.directActs (d : Dev) (p : Fld × Nat) (val : Nat) : Bool :=
  match p.1.acc with
  | .wo | .w1c => p.1.of val != 0
  | .rw => p.1.direct && p.1.of val != d.get p.1 p.2
  | _ => false

/-- The field is one of a list. -/
def Fld.among (f : Fld) (l : List Fld) : Bool := l.any (fun g => g.id = f.id)

/-- The parameters of a loop slot. -/
def parFlds : List Fld :=
  [R.CE.PAR_SLEW_UP, R.CE.PAR_SLEW_DN, R.CE.PAR_FF_GAIN, R.CE.PAR_PRESET_K, R.CE.PAR_PL_A, R.CE.PAR_PL_B, R.CE.PAR_PL_C, R.CE.PAR_PL_THR,
    R.CE.PAR_AW, R.CE.PAR_PL_N]
/-- The parameters of a gate-drive channel. -/
def chFlds : List Fld :=
  [R.LVD.CH_SOFT_SNK, R.LVD.CH_TOFF_SNK, R.LVD.CH_TON_SRC, R.LVD.CH_BLANK, R.LVD.CH_SC2_LVL, R.LVD.CH_SC1_LVL]
/-- The parameters of a window comparator. -/
def wcFlds : List Fld := [R.AFE.WC_TH_HI, R.AFE.WC_TH_LO, R.AFE.WC_HYST, R.AFE.WC_FILT, R.AFE.WC_CLR]

/-- The structure of the active Ream does not provide the field: the type of the sheet that would, 0xFF with no Ream at all (R98). -/
def Dev.lacks (d : Dev) (p : Fld × Nat) : Option Nat :=
  let f := p.1
  let none_ (typ : Nat) (c : Bool) : Option Nat := if c then some typ else none
  if f.kind = .ream && d.ream.active.isNone then some 0xFF
  else if f.among parFlds then none_ 5 ((d.slot p.2).kind = 0)
  else if f.id = R.LVD.HB_DT_LV.id then none_ 7 (!d.hbUsed p.2)
  else if f.among chFlds then none_ 7 (!d.hbUsed (p.2 / 2))
  else if f.id = R.AFE.SEQ_DLY.id then none_ 6 (d.get R.AFE.SEQ_NENT p.2 = 0)
  else if f.among wcFlds then none_ 6 (d.get R.AFE.WC_WMODE p.2 = 0)
  else if f.among [R.MOD.STR_CAR_PER, R.MOD.STR_VCELL_NOM] then none_ 1 (!d.strExists p.2)
  else none

/-- The errors of a word of a bank record beyond that of every coefficient (R10, R298, R299): KB of a present slot from 0 to 10^6, and a
reserved word. -/
def Dev.bankErrs (d : Dev) (k v : Nat) : List Err :=
  if k % 36 = 35 then errIf (v != 0) (eRange (lowestBit v 32))
  else errIf (k % 36 = 34 && (d.slot (k / 36)).kind != 0 && !(b32.le 0 v && b32.le v 0x49742400)) eRange

/-- The errors of a staged field that the item changes (R11, R76, R87, R98). -/
def Dev.stagedErrs (d : Dev) (p : Fld × Nat) (val : Nat) : List Err :=
  if !p.1.staged || !d.changes p val then []
  else
    let v := p.1.of val
    (if p.1.id = R.CE.SHADOW_BANK.id then d.bankErrs p.2 v else []) ++ p.1.rng.errs p.1.width v ++
      (match d.lacks p with | some typ => [eStruct typ] | none => []) ++
      errIf (p.1.among [R.TB.TF, R.TB.SSC_GD, R.TB.SSC_NVM, R.TB.SSC_SYS] && !d.inMode [.idle, .test]) (eMode d)

/-- The errors of a mode request that an item makes (R138). -/
def Dev.reqErrs (d : Dev) (src : Source) (a val : Nat) : List Err :=
  if a = winAddr wMode R.MODE.TARGET.off then d.modeErrs (src = .pf1) (R.MODE.TARGET.of val) else []

/-- The errors of an item with its owner's rights (R61); a set that a standby follows makes no mode request (`req`). -/
def Dev.itemErrs (d : Dev) (src : Source) (req : Bool) (a val : Nat) : List Err :=
  let align := errIf (a % 4 != 0) (eAlign (2 ^ (a % 4)))
  match winOf (a - a % 4) with
  | none => errIf (src = .pf1) (ePriv 1) ++ align ++ [eRange]
  | some (w, o) =>
    let ws := d.regs.word w o (srcIx src)
    let wr := writable ws
    let head := errIf (src = .pf1 && !(!wr.isEmpty && wr.all (fun p => p.1.pf1))) (ePriv 1) ++ align
    if ws.isEmpty then head ++ [eRange]
    else
      let direct := w = wHif || w = wSnap || w = wStage || (!wr.isEmpty && !wr.any (fun p => p.1.staged)) || ws.any (fun p => d.directActs p val)
      head ++ reservedErrs ws val ++ errIf direct (eTxn 6) ++ ws.flatMap (fun p => d.stagedErrs p val) ++ (if req then d.reqErrs src a val else [])

/-- The first item in index order that fails, with its error (R46, R61). -/
def Dev.firstBad (d : Dev) (src : Source) (req : Bool) : List ((Nat × Nat) × Nat) → Option (Err × Nat)
  | [] => none
  | (it, i) :: l => match firstErr (d.itemErrs src req it.1 it.2) with
    | some e => some (e, i)
    | none => d.firstBad src req l

/-- The staged fields of an item's word take their values. -/
def Dev.itemPut (d : Dev) (it : Nat × Nat) : Dev :=
  match winOf it.1 with
  | none => d
  | some (w, o) => (d.regs.word w o 0).foldl (fun d p => if p.1.staged then d.put p.1 (p.1.of it.2) p.2 else d) d

/-! Rules over more than one field (R61, R86, R241, R242, R299, R326, R340, R349, R418, R492). -/

/-- A rule that a change of its fields, of one element where it names one, must meet. -/
structure CrossRule where
  flds : List Fld
  elem : Option Nat
  errs : Dev → List Err

/-- Those of a list of errors with a code. -/
def ofCode (n : Nat) (l : List Err) : List Err := l.filter (fun e => e.code = n)

/-- The rules of a grid timer, of a comparator and of a string, element by element. -/
def elemRules : List CrossRule :=
  (List.range 2).map (fun g => ⟨[R.AFE.GT_PERIOD, R.AFE.GT_PHASE], some g, fun d =>
    errIf (if d.get R.AFE.GT_PERIOD g = 0 then d.get R.AFE.GT_PHASE g != 0 else d.get R.AFE.GT_PERIOD g ≤ d.get R.AFE.GT_PHASE g) eRange⟩) ++
  (List.range 24).map (fun w => ⟨wcFlds, some w, fun d => errIf (d.wcBad w) (eStruct 6)⟩) ++
  (List.range 6).map (fun s => ⟨[R.MOD.STR_VCELL_NOM], some s, fun d => errIf (d.nomBad s) eRange⟩)

/-- The rules of the clock, the modulator, the control engine and the analogue front end. -/
def frameRules : List CrossRule :=
  [⟨[R.TB.TF, R.TB.ALIGN_EN], none, fun d => ofCode 1 (d.tfErrs (d.get R.TB.TF))⟩, ⟨[R.TB.TF], none, fun d => ofCode 4 (d.tfErrs (d.get R.TB.TF))⟩] ++
  [⟨[R.MOD.STR_CAR_PER, R.MOD.DAB_PER, R.MOD.D1_MAX, R.MOD.MIN_PULSE, R.MOD.DT_CELL], none, fun d => ofCode 4 d.modRules⟩] ++
  [⟨[R.CE.RT_VLO, R.CE.RT_VHI], none, fun d => ofCode 1 (d.ceRules [])⟩, ⟨[R.CE.SHADOW_BANK], none, fun d => ofCode 4 (d.ceRules [R.CE.SHADOW_BANK])⟩] ++
  [⟨[R.AFE.SEQ_DLY, R.AFE.GT_PERIOD], none, fun d => ofCode 4 d.afeRules⟩]

/-- The rules of the other blocks. A Reaction Table entry is one word, and both its fields are checked together (R378). -/
def portRules : List CrossRule :=
  [⟨[R.LVD.HB_DT_LV, R.LVD.DT_MIN], none, fun d => ofCode 1 d.lvRules⟩,
    ⟨R.LVD.HB_DT_LV :: R.LVD.LV_CAR_PER :: R.LVD.LV_MIN_PULSE :: chFlds, none, fun d => ofCode 4 d.lvRules⟩] ++
  [⟨[R.PART.HB_TIMEOUT, R.FELT.CELL_LINK_TIMEOUT], none, fun d => d.partRules⟩] ++
  [⟨[R.NET.T0, R.NET.T_MIN], none, fun d => errIf (d.get R.NET.T0 < d.get R.NET.T_MIN) (eStruct 10)⟩,
    ⟨[R.NET.STEP_THR, R.NET.LOCK_THR], none, fun d => errIf (d.get R.NET.STEP_THR ≤ d.get R.NET.LOCK_THR) (eStruct 10)⟩]

/-- The Reaction Table entry of an item as it would stand (R377, R378). -/
def entryErrs (i : Nat) (d : Dev) : List Err :=
  errIf ((d.get R.FLT.RT_CODE i = 4) != (d.is R.FLT.RT_DERATE_K i)) eRange ++
    errIf (d.get R.FLT.RT_CODE i = 3 && !fenceable (i / 256) (i % 256)) (eStruct 8)

/-- The items that prevail over every item of the same word (R61), by index. -/
def prevailing (items : List ((Nat × Nat) × Nat)) : List ((Nat × Nat) × Nat) :=
  items.filter (fun x => !items.any (fun y => x.2 < y.2 && y.1.1 = x.1.1))

/-- The staged fields that an item changes. -/
def Dev.itemChanges (d : Dev) (it : Nat × Nat) : List (Fld × Nat) :=
  match winOf it.1 with
  | none => []
  | some (w, o) => (d.regs.word w o 0).filter (fun p => p.1.staged && d.changes p it.2)

/-- The least index of the items whose changes a rule looks at. -/
def CrossRule.index (r : CrossRule) (chg : List (List (Fld × Nat) × Nat)) : Option Nat :=
  (chg.find? (fun x => x.1.any (fun p => p.1.among r.flds && (r.elem.isNone || r.elem = some p.2)))).map (fun x => x.2)

/-- Of two failures the one of lower index, and of the same index the one that R46 puts first. -/
def earlier (a b : Err × Nat) : Bool := a.2 < b.2 || (a.2 = b.2 && a.1.rank ≤ b.1.rank)

/-- The failure reported of a list. -/
def leastBad : List (Err × Nat) → Option (Err × Nat)
  | [] => none
  | e :: l => match leastBad l with
    | none => some e
    | some f => if earlier e f then some e else some f

/-- What a rule says of a module with every item applied. -/
def CrossRule.check (r : CrossRule) (e : Dev) (chg : List (List (Fld × Nat) × Nat)) : List (Err × Nat) :=
  match r.index chg with
  | none => []
  | some i => (r.errs e).map (fun x => (x, i))

/-- The failures of the rules over more than one field. -/
def Dev.crossBad (d : Dev) (items : List ((Nat × Nat) × Nat)) : Option (Err × Nat) :=
  let chg := (prevailing items).map (fun x => (d.itemChanges x.1, x.2))
  let e := items.foldl (fun e x => e.itemPut x.1) d
  let table := chg.flatMap (fun x => (x.1.filter (fun p => p.1.among [R.FLT.RT_CODE, R.FLT.RT_DERATE_K])).flatMap (fun p =>
    (entryErrs p.2 e).map (fun y => (y, x.2))))
  leastBad ((elemRules ++ frameRules ++ portRules).flatMap (fun r => r.check e chg) ++ table)

/-- The first failure of a set (R61): the items in index order, then the rules over more than one field. -/
def Dev.setBad (d : Dev) (src : Source) (req : Bool) (items : List (Nat × Nat)) : Option (Err × Nat) :=
  let l := items.zipIdx
  match d.firstBad src req l with
  | some e => some e
  | none => d.crossBad l

/-! Applying a set. -/

/-- The last item of a set for a word. -/
def lastFor (a : Nat) (items : List (Nat × Nat)) : Option Nat := (items.reverse.find? (fun it => it.1 = a)).map (fun it => it.2)

/-- A bank request joins those of step 5 of the boundary (R289). -/
def Dev.bankAsk (d : Dev) (v : Nat) : Dev :=
  let due := d.get I.CE.BANK_DUE
  match (List.range 32).find? (fun i => due / 4 ^ i = 0) with
  | some i => d.put I.CE.BANK_DUE (due + v * 4 ^ i)
  | none => d

/-- What the changes of a set bring with them at the boundary at TB ns t: node parameters and thresholds (R192, R347), the frame that
begins (R87), a relock of PLL_S that the spread causes (R76), the origin of the shadow bank. -/
def Dev.setFollow (d old : Dev) (t : Nat) : Dev :=
  let d1 := d.follow old t
  let d2 := d1.onlyIf (d.get R.TB.TF != old.get R.TB.TF) (fun d => ((d.put I.TB.TF_PEND 0).put I.TB.NEXT_LEN 0).deckleCtl)
  let ssc : Bool := [R.TB.SSC_GD, R.TB.SSC_NVM, R.TB.SSC_SYS].any (fun f => d.get f != old.get f)
  let bank : Bool := (List.range 2304).any (fun k => d.get R.CE.SHADOW_BANK k != old.get R.CE.SHADOW_BANK k)
  (d2.onlyIf ssc (fun d => d.put I.TB.SSC_RELOCK 1)).onlyIf bank (fun d => d.put R.CE.SHD_SRC 3)

/-- The requests that a set carries: of a bank swap (R289), and of a mode (R139). -/
def Dev.setRequests (d : Dev) (req : Bool) (items : List (Nat × Nat)) : Dev :=
  let d1 := match lastFor (winAddr wCe R.CE.BANK_REQ.off) items with
    | some v => d.bankAsk (R.CE.BANK_REQ.of v)
    | none => d
  match lastFor (winAddr wMode R.MODE.TARGET.off) items with
  | some v => if req then d1.reqTake (R.MODE.TARGET.of v) else d1
  | none => d1

/-- A set applied whole at the boundary at TB ns t. -/
def Dev.setApply (d : Dev) (t : Nat) (req : Bool) (items : List (Nat × Nat)) : Dev :=
  ((items.foldl Dev.itemPut d).setFollow d t).setRequests req items

/-- A set that fails at its mode request has its outcome in MODE_STAT (R139). -/
def Dev.reqFailed (d : Dev) (src : Source) (items : List (Nat × Nat)) (e : Err) (i : Nat) : Dev :=
  match items[i]? with
  | some it => if (d.reqErrs src it.1 it.2).contains e then d.reqOutcome (some e) else d
  | none => d

/-- The primary forwards a set that it applies to a partner in MIRROR (R66). -/
def Dev.forward (d : Dev) (txn : Nat) (items : List (Nat × Nat)) : Dev :=
  if d.mode != .mirror && d.partnerMirrors then d.send (.forwardSet txn items) else d

/-! The sets of step 4 (R64). -/

/-- The items of the staging area below COUNT. -/
def Dev.stageItems (d : Dev) : List (Nat × Nat) :=
  (List.range (d.get I.STAGE.COUNT)).map (fun i => (d.get R.STAGE.ITEM_ADDR i, d.get R.STAGE.ITEM_DATA i))

/-- The committed set is due at the boundary at TB ns t that begins the present frame (R59, R60). -/
def Dev.stageDue (d : Dev) (t : Nat) : Bool :=
  d.get R.STAGE.STAGE_STAT_STATE = 2 &&
    (if d.is I.STAGE.AT_EN then framesFrom (d.get R.TB.FRAME_NO_LIVE) (d.get I.STAGE.TARGET) ≤ 0 else d.get I.STAGE.COMMIT_NS + 2000 ≤ t)

/-- The committed set (R59 to R61, R63): a standby accepts none (R65). -/
def Dev.stageBoundary (d : Dev) (t : Nat) : Dev :=
  if !d.stageDue t then d
  else
    let items := d.stageItems
    let src := d.stageOwner
    if d.mode = .mirror then d.stageEnd (eRole d) 0 true
    else match d.setBad src true items with
      | some (e, i) => (d.reqFailed src items e i).stageEnd e i false
      | none =>
        let txn := d.get R.STAGE.STAGE_STAT_NEXT_TXN
        (((d.setApply t true items).put I.STAGE.LAST_TXN txn).forward txn items).stageEnd ⟨0, d.get I.STAGE.LATENESS⟩ 0 false

/-- An implicit set (R71): a rejection is recorded with IMPLICIT, at the address of its item. -/
def Dev.implicitSet (d : Dev) (t : Nat) (s : ImplicitSet) : Dev :=
  let addr (i : Nat) : Nat := ((s.items[i]?).map (fun it => it.1)).getD 0
  if d.mode = .mirror then d.reject .cspi (eRole d) (addr 0) true
  else match d.setBad .cspi true s.items with
    | some (e, i) => (d.reqFailed .cspi s.items e i).reject .cspi e (addr i) true
    | none => (d.setApply t true s.items).forward (d.get I.STAGE.LAST_TXN) s.items

/-- The implicit sets whose transactions ended at least 2 µs before, in order; the others go on waiting. -/
def Dev.implicitBoundary (d : Dev) (t : Nat) : Dev :=
  let d1 := { d with implicit := d.implicit.filter (fun s => t < s.endNs + 2000) }
  (d.implicit.filter (fun s => s.endNs + 2000 ≤ t)).foldl (fun d s => d.implicitSet t s) d1

/-- A set that the primary applied (R66), or the transfer of R410: one that fails costs IN_SYNC, with instance 12 (R415). -/
def Dev.followSet (d : Dev) (t : Nat) (s : Forwarded) : Dev :=
  match d.setBad .pf0 false s.items with
  | some (e, _) => (d.raise t 11 12 e.code).syncClear t 3
  | none =>
    let d1 := d.setApply t false s.items
    if s.whole then d1.put I.PART.XFER_DONE 1 else d1.put I.STAGE.LAST_TXN s.txn

/-- The sets that a standby follows, in the order in which they arrived. -/
def Dev.followBoundary (d : Dev) (t : Nat) : Dev :=
  let d1 := { d with forwards := [] }
  if d.mode = .mirror then d.forwards.foldl (fun d s => d.followSet t s) d1 else d1

/-- A module that has yielded rejects every set that waits (R68). -/
def Dev.yieldSets (d : Dev) : Dev :=
  if !d.is I.PART.REJ_SETS then d
  else
    let d1 := d.onlyIf (d.get R.STAGE.STAGE_STAT_STATE = 2) (fun d => d.stageEnd (eRole d) 0 true)
    let d2 := d1.implicit.foldl (fun d s => d.reject .cspi (eRole d) ((s.items.head?.map (fun it => it.1)).getD 0) true) d1
    { d2.put I.PART.REJ_SETS 0 with implicit := [] }

/-- Step 4 of the boundary at TB ns t (R29, R64). -/
def Dev.stepFour (d : Dev) (t : Nat) : Dev := (((d.yieldSets).stageBoundary t).implicitBoundary t).followBoundary t

end Sys2Proof.Machine
end

