-- ==== Sys2Proof/Machine/Boundary.lean ====
section
/-! DEFINITION. The frame boundary (01_architecture.md R29, R30): what ends with a frame, the six steps, and what begins with the
next one. -/
namespace Sys2Proof.Machine

/-- TB as the frame in progress ends: the cycles left of it have been counted (R77, R84). -/
def State.boundaryClock (s : State) : Clock := { s.clk.run s.cyclesLeft s.dev.tbIncNow with sub := 0 }

/-- The length in tbc of the frame that ends: no frame ends at the first boundary after the Deckle started, where the Tf with which
it starts stands for it (R90). -/
def Dev.lastLen (d : Dev) : Nat := if d.is I.TB.FIRST then d.startTf else d.get I.TB.LEN

/-- What ends with the frame, at the boundary at which TB is `c`: the edges and links of the frame, a control engine that has not
delivered, counts that have reached their limit, the feasibility rule, the Gatherer's window and the keep-alive count. -/
def Dev.frameEnds (d : Dev) (c : Clock) : Dev :=
  let d0 := ((d.lvFinish.overrun c.ns).gridTake).plausAll c.ns
  let d1 := ((d0.forN 6 (fun d s => d.spreadAlarm c.ns s)).feltEnds c.ns).feasCheck c.ns d.lastLen
  (((d1.gatherDue c.ns c.cyc).kaTake c.ns).clkStat).deckleLatch c

/-- The frame that begins has its number, the carriers stand at its boundary (R223), and a module that takes the cells at the next
one has the epoch with which it posts (R420). -/
def Dev.frameNumbers (d : Dev) (len : Nat) : Dev :=
  let d1 := (d.carriers len).deckleNumber
  if d1.lastFrame 1 then d1.put R.FELT.OWN_EPOCH (nextEpoch (d1.get R.FELT.OWN_EPOCH)) else d1

/-- The boundary before the target of a swap cancels it when no confirmation has arrived (R129). -/
def Dev.confirmDue (d : Dev) : Dev :=
  if framesFrom (d.get R.TB.FRAME_NO_LIVE) (d.get I.REAM.SWAP_TARGET) ≤ 1 then d.swapUnconfirmed else d

/-- Whether the state that an instance reports as its condition still holds (R353); none for a condition that is an event, or whose end
the block itself reports. -/
def Dev.lasts (d : Dev) (cls inst : Nat) : Option Bool :=
  match cls with
  | 3 =>
    if inst = 5 then some d.shortString
    else if inst = 7 then
      some (d.mode = .test && (List.range 144).any (fun c => d.is I.CELL.EVER c && 20 * d.get R.MODE.TEST_VMAX ≤ d.measured c 0))
    else none
  | 4 =>
    if inst = 160 then some (d.is R.FELT.FEAS_FAIL)
    else if inst < 96 && inst % 16 = 8 then some (d.latOver (inst / 16) && d.linkPosts (inst / 16))
    else if inst < 96 && inst % 16 = 9 then some (38000 < d.get I.FELT.L1_MEAS (inst / 16) && d.linkPosts (inst / 16))
    else if 96 ≤ inst && inst < 160 && inst % 4 = 3 then some (d.latOver (6 + (inst - 96) / 4) && d.linkPosts (6 + (inst - 96) / 4))
    else none
  | 6 =>
    if 20 ≤ inst && inst < 26 then some (bitOf (d.get R.MOD.LAW_ON) (inst - 20) = 1 && d.vsumRaw (inst - 20) = 0)
    else if 56 ≤ inst && inst < 62 then some (bitOf (d.get R.CAL.NO_CUR) (inst - 56) = 1 && d.is I.CAL.POSTS (inst - 56))
    else none
  | 7 =>
    if inst = 0 then some (2 ≤ d.get R.CE.OVR_RUN)
    else if inst = 1 then some (d.get R.CE.CE_TIME_DECL < d.get R.CE.CE_TIME_LAST)
    else if 64 ≤ inst && inst < 128 then
      some (d.is R.CE.SLOT_RUN (inst - 64) && (List.range 144).any (fun i => d.is I.CE.NE (144 * (inst - 64) + i)))
    else none
  | 8 => if 136 ≤ inst && inst < 160 then some (bitOf (d.get R.AFE.WC_LATCH) (inst - 136) = 1 && d.get R.LVD.TRIP_MAP (inst - 136) != 0) else none
  | 9 =>
    if inst < 24 then some (bitOf (d.get R.AFE.WC_LATCH) inst = 1)
    else if 32 ≤ inst && inst < 56 then some (bitOf (d.get R.AFE.WC_DACERR) (inst - 32) = 1)
    else none
  | 10 =>
    if 4 ≤ inst && inst < 8 then some (d.is I.SAFE.LATCH (inst - 4) || d.is I.SAFE.LATCH inst)
    else if 12 ≤ inst && inst < 16 then some (d.is I.SAFE.FBL (inst - 12) || d.is I.SAFE.FBL (inst - 8))
    else if inst = 16 then some ((List.range 4).any (fun k => d.is I.SAFE.RBL k))
    else if inst = 17 then some ((List.range 2).any (fun k => d.is I.SAFE.XCHK k))
    else none
  | _ => none

/-- The instances whose state has ended in the frame that ends are no longer held present. -/
def Dev.statesEnd (d : Dev) : Dev := d.setActive (d.active.map (fun a => { a with held := a.held && (d.lasts a.cls a.inst).getD true }))

/-- The comparators' clears of the boundary, and the recoveries between steps 2 and 3 (R343, R364 to R366). -/
def Dev.recoveries (d : Dev) (t : Nat) : Dev := ((((d.wcBoundary t).statesEnd.startQuiet t).unitClrDue t).recoverDue t).windows t

/-- Step 3, and the end of BOOT with it (R140): performance windows begin (R498). -/
def Dev.stepThreeBoot (d : Dev) (t cyc : Nat) : Dev :=
  if d.is I.MODE.BOOT_DONE then (((d.stepThree t).put I.MODE.BOOT_STEP 0).put I.MODE.BOOT_DONE 0).windowStart t cyc else d.stepThree t

/-- BANK_S of the active image (R126): words of its control-law sheet. -/
def Dev.bankS (d : Dev) (k : Nat) : Nat := match d.ream.active with | some im => im.par 5 (0x2400 + 4 * k) 4 | none => 0

/-- Steps 3 to 6 at the boundary at TB ns t, and the lengths that follow them. A mode that a takeover or a handover continues is not
entered anew. -/
def Dev.laterSteps (d : Dev) (t cyc : Nat) : Dev :=
  let old := d.mode
  let d3 := d.stepThreeBoot t cyc
  let entry : Bool := d3.mode != old && !(old = .mirror && d3.mode != .idle)
  let d4 := (d3.stepFour t).deckleFix
  (d4.bankStep d4.bankS).stepSix t entry

/-- What the frame begins with: the analogue front end, the LV port, the links and what they send, the
partner, the network and the flash. -/
def Dev.frameBegins (d : Dev) (t : Nat) : Dev :=
  let d1 := (((d.carrierScale.testBoundary t).afeBoundary t).lvRetries t).lvClears t
  let d2 := (((d1.lvtBoundary t).lvRelease t).lvStart).lvtDrive
  let d3 := ((((d2.fixPosts.put I.MOD.BUILT 0).put I.CE.STARTED 0).feltUp).markers).tripFrame.mgtDrain
  (((((d3.beatOut.partBoundary t).teaselBoundary).netBoundary t).flashNext t).endQuiet t).settle t

/-- FRAME_BOUNDARY (R29, R84): TB runs to the end of the frame in progress; without a running Deckle there is no boundary. -/
def execFrameBoundary (s : State) : Host.Outcome State Fault Refusal :=
  .next (if !s.dev.is R.TB.DECKLE_RUN then s
    else
      let c := s.boundaryClock
      let t := c.ns
      let len := s.dev.lastLen
      let ended := { s.dev with outbox := [] }.frameEnds c
      let (d2, burnt) := ((ended.snapLatch s.otp c).frameNumbers len).stepTwo t
      { s with clk := c, otp := (burnt.map s.otp.burn).getD s.otp, dev := ((d2.confirmDue.recoveries t).laterSteps t c.cyc).frameBegins t })

end Sys2Proof.Machine
end

