-- ==== Sys2Proof/Machine/Cspi.lean ====
section
/-! DEFINITION. The CSPI compatibility port (02_host_access.md R69 to R71): its word addresses, its transactions, and the host accesses
of every source over the operations of a word. -/
namespace Sys2Proof.Machine

/-! Word addresses (R71; 05, 06, 07, 11 and 13 give the registers). -/

/-- A word address lies in a range of the table of R71. -/
def cspiRange (n : Nat) : Bool := n < 0x80 || (0x100 ≤ n && n < 0x500) || (0x600 ≤ n && n < 0x800)

/-- The BAR0 address of the register at a CSPI word address; none where the subset has no register. -/
def cspiAddr (n : Nat) : Option Nat :=
  let at_ (base lo hi : Nat) : Option Nat := if lo ≤ n && n < hi then some (base + 4 * (n - lo)) else none
  let hb : Option Nat := if 0x610 ≤ n && n < 0x630 then some (winAddr wLvd (0x100 + 0x20 * ((n - 0x610) / 4) + 4 * (n % 4))) else none
  (at_ (winAddr wHif 0) 0 0x40).or ((at_ (winAddr wMode 0) 0x40 0x80).or ((at_ (winAddr wFelt 0x400) 0x100 0x140).or
    ((at_ (winAddr wCell 0) 0x200 0x500).or ((at_ (winAddr wLvd 0) 0x600 0x604).or (hb.or
      ((at_ (winAddr wFlt 0) 0x700 0x70E).or (at_ (winAddr wFlt 0x100) 0x740 0x7C0)))))))

/-! Words of a transaction. -/

/-- The transaction in progress changed. -/
def Dev.cspiTxn (d : Dev) (g : CspiTxn → CspiTxn) : Dev := { d with cspi := d.cspi.map g }

/-- A rejection in a transaction: its code is the write status when it is the first (R69). -/
def Dev.cspiNote (d : Dev) (e : Option Err) : Dev :=
  match e with
  | some e => d.cspiTxn (fun x => if x.status = 0 then { x with status := e.code } else x)
  | none => d

/-- The word at a BAR0 address holds a staged parameter. -/
def Dev.stagedWord (d : Dev) (a : Nat) : Bool :=
  match winOf a with
  | some (w, o) => (d.regs.word w o 2).any (fun p => p.1.staged)
  | none => false

/-- A staged word joins the implicit set of its transaction; the rights, the role and BOOT are judged at once (R45, R65, R141). -/
def Dev.cspiGather (d : Dev) (a val : Nat) : Dev :=
  let w := ((winOf a).map (fun p => p.1)).getD 0
  match firstErr (errIf (!inSubset a) (ePriv 2) ++ d.roleErrs w 0 ++ d.bootErrs w) with
  | some e => (d.reject .cspi e a).cspiNote (some e)
  | none => d.cspiTxn (fun x => { x with staged := x.staged ++ [(a, val)] })

/-- A write of a word in the transaction in progress, by its BAR0 address. -/
def Dev.cspiWrite (d : Dev) (t a be val : Nat) : Dev :=
  if d.cspi.isNone then d
  else if d.stagedWord a then d.cspiGather a val
  else let r := d.wordWrite t .cspi a be val; r.1.cspiNote r.2

/-- A write of the word at a CSPI word address. -/
def Dev.cspiPut (d : Dev) (t n val : Nat) : Dev :=
  if !cspiRange n then (d.reject .cspi (ePriv 2) (4 * n)).cspiNote (some (ePriv 2))
  else match cspiAddr n with
    | some a => d.cspiWrite t a 0xF val
    | none =>
      let e := (firstErr (errIf (d.mode = .mirror) (eRole d) ++ errIf (d.mode = .boot) (eMode d) ++ [eRange])).getD eRange
      (d.reject .cspi e (4 * n)).cspiNote (some e)

/-- The words of a write, from a word address on. -/
def Dev.cspiPutAll (d : Dev) (t n : Nat) : List Word → Dev
  | [] => d
  | v :: l => (d.cspiPut t (n % 65536) v.toNat).cspiPutAll t (n + 1) l

/-- The value of a register for CSPI: HIF live, its own copy; the rest from the visible bank (R55, R70). -/
def Dev.cspiValue (d : Dev) (otp : Otp) (c : Clock) (a : Nat) : Nat :=
  match winOf a with
  | none => 0
  | some (w, o) => if w = wHif then d.readValue otp c .cspi a else d.visible.regs.readWord w o 2

/-- A read of the word at a CSPI word address: the module after it, and the data. -/
def Dev.cspiGet (d : Dev) (otp : Otp) (c : Clock) (n : Nat) : Dev × Nat :=
  if !cspiRange n then (d.reject .cspi (ePriv 2) (4 * n), 0)
  else match cspiAddr n with
    | none => (d, 0)
    | some a => (if a < 0x10000 then d.readClears wHif a 2 else d, d.cspiValue otp c a)

/-- The words of a read. -/
def Dev.cspiGetAll (d : Dev) (otp : Otp) (c : Clock) : Nat → Nat → Dev × List Nat
  | _, 0 => (d, [])
  | n, k + 1 =>
    let r := d.cspiGet otp c (n % 65536)
    let q := r.1.cspiGetAll otp c (n + 1) k
    (q.1, r.2 :: q.2)

/-! The opcodes (R69): both widths of each transfer the same words. -/

/-- A CSPI write in a transaction; its status is the answer. More than 256 words no transaction carries. -/
def State.cspiWriteOp (s : State) (addr : BitVec 16) (words : List Word) : Host.Outcome State Fault Refusal :=
  if 256 < words.length then .fault .illFormed
  else s.onDev fun d =>
    if d.cspi.isNone || !d.hostUp .cspi then d
    else
      let d1 := d.cspiPutAll s.clk.ns addr.toNat words
      (d1.respond .cspi [(d1.cspi.map (fun x => x.status)).getD 0]).settle s.clk.ns

/-- A CSPI read in a transaction. -/
def State.cspiReadOp (s : State) (addr : BitVec 16) (words : Nat) : Host.Outcome State Fault Refusal :=
  s.onDev fun d =>
    if d.cspi.isNone || !d.hostUp .cspi then d
    else
      let r := d.cspiGetAll s.otp s.clk addr.toNat words
      r.1.respond .cspi r.2

/-- CSPI_READ_4WIRE (R69): opcode 0x0B. -/
def execCspiRead4wire (addr : BitVec 16) (words : Fin 257) (s : State) : Host.Outcome State Fault Refusal := s.cspiReadOp addr words

/-- CSPI_READ_QUAD (R69): opcode 0x1B. -/
def execCspiReadQuad (addr : BitVec 16) (words : Fin 257) (s : State) : Host.Outcome State Fault Refusal := s.cspiReadOp addr words

/-- CSPI_WRITE_4WIRE (R69): opcode 0x0A. -/
def execCspiWrite4wire (addr : BitVec 16) (words : List Word) (s : State) : Host.Outcome State Fault Refusal := s.cspiWriteOp addr words

/-- CSPI_WRITE_QUAD (R69): opcode 0x1A. -/
def execCspiWriteQuad (addr : BitVec 16) (words : List Word) (s : State) : Host.Outcome State Fault Refusal := s.cspiWriteOp addr words

/-- CSPI_CS_FALL (R70): a transaction starts, with its lease. -/
def execCspiCsFall (s : State) : Host.Outcome State Fault Refusal :=
  s.onDev fun d => if d.hostUp .cspi && d.cspi.isNone then { d.leaseTake .cspi with cspi := some ⟨[], 0⟩ } else d

/-- The implicit set of a transaction that ends at TB ns t waits; a seventeenth is refused (R71, R354). -/
def Dev.implicitQueue (d : Dev) (t : Nat) (items : List (Nat × Nat)) : Dev :=
  match items with
  | [] => d
  | it :: _ =>
    if d.implicit.length < 16 then { d with implicit := d.implicit ++ [⟨items, t⟩] }
    else (d.reject .cspi (eFull 0) it.1).raise t 1 7 0

/-- CSPI_CS_RISE (R70, R71, R354): the transaction ends, with its lease; inside a word it raises instance 6. -/
def execCspiCsRise (insideWord : Bool) (s : State) : Host.Outcome State Fault Refusal :=
  s.onDev fun d =>
    match d.cspi with
    | none => d
    | some x =>
      let t := s.clk.ns
      let d1 := ({ d with cspi := none } : Dev).leaseEnd .cspi
      ((if insideWord then d1.raise t 1 6 0 else d1).implicitQueue t x.staged).settle t

/-! Accesses of any source. -/

/-- A write of one word of BAR0 by a source, at TB ns t: PF0 and PF1 over PCI Express, CSPI in its transaction (R497, R501). -/
def Dev.hostWrite (d : Dev) (t : Nat) (src : Source) (a be val : Nat) : Dev :=
  if !d.hostUp src then d
  else if src = .cspi then (d.cspiWrite t a be val).settle t
  else ((((d.perf 9 2 (srcIx src)).carryPcie src 29 4).wordWrite t src a be val).1).settle t

/-- A write command. -/
def State.hostWrite (s : State) (src : Source) (a be val : Nat) : Host.Outcome State Fault Refusal :=
  s.onDev fun d => d.hostWrite s.clk.ns src a be val

/-- A read of one word of BAR0 by a source. -/
def Dev.hostRead (d : Dev) (otp : Otp) (c : Clock) (src : Source) (a be : Nat) : Dev :=
  if !d.hostUp src then d
  else if src != .cspi then ((d.perf 9 1 (srcIx src)).carryPcie src 28 4).wordRead otp c src a be
  else if d.cspi.isNone then d
  else if !inSubset a then (d.reject .cspi (ePriv 2) a).respond .cspi [0]
  else (if a < 0x10000 then d.readClears wHif a 2 else d).respond .cspi [d.cspiValue otp c a]

/-- A read command. -/
def State.hostRead (s : State) (src : Source) (a be : Nat) : Host.Outcome State Fault Refusal :=
  s.onDev fun d => d.hostRead s.otp s.clk src a be

end Sys2Proof.Machine
end

