-- ==== Sys2Proof/Machine/HostCmd.lean ====
section
/-! DEFINITION. The host's register accesses, one meaning a row: each is a write or a read of the word in which its register stands,
by the rules of HostWrite.lean and, for CSPI, of Cspi.lean. -/
namespace Sys2Proof.Machine

/-- REGISTER_WRITE (R9): a write of a register that has no row of its own. -/
def execRegisterWrite (src : Source) (off : BitVec 22) (be : BitVec 4) (val : Word) (s : State) : Host.Outcome State Fault Refusal :=
  s.hostWrite src off.toNat be.toNat val.toNat

/-- LAST_ERR_CLEAR (R9, R47): VALID of HIF_LAST_ERR is written 1. -/
def execLastErrClear (src : Source) (s : State) : Host.Outcome State Fault Refusal :=
  s.hostWrite src (winAddr wHif 0xC) 0xF (2 ^ 24)

/-- ACQ (R51): SNAP_LEASE.ACQ is written 1. -/
def execAcq (src : Source) (s : State) : Host.Outcome State Fault Refusal := s.hostWrite src (winAddr wSnap 0) 0xF 1

/-- REL (R52): SNAP_LEASE.REL is written 1. -/
def execRel (src : Source) (s : State) : Host.Outcome State Fault Refusal := s.hostWrite src (winAddr wSnap 0) 0xF 2

/-- STAGE_OPEN (R56, R57): STAGE_OPEN is written. -/
def execStageOpen (src : Source) (txn : BitVec 16) (s : State) : Host.Outcome State Fault Refusal :=
  s.hostWrite src (winAddr wStage 0) 0xF txn.toNat

/-- STAGE_ITEM_WRITE (R56 to R58): ITEM_ADDR(i) or ITEM_DATA(i) is written. -/
def execStageItemWrite (src : Source) (i : Fin 4096) (part : ItemPart) (val : Word) (s : State) : Host.Outcome State Fault Refusal :=
  s.hostWrite src (winAddr wStage (0x1000 + 8 * i + (if part = .addr then 0 else 4))) 0xF val.toNat

/-- STAGE_COMMIT (R58 to R60): STAGE_COMMIT is written. -/
def execStageCommit (src : Source) (txn : BitVec 16) (count : BitVec 13) (atEn lateOk : Bool) (s : State) : Host.Outcome State Fault Refusal :=
  s.hostWrite src (winAddr wStage 4) 0xF
    (txn.toNat + 2 ^ 16 * count.toNat + 2 ^ 29 * atEn.toNat + 2 ^ 30 * lateOk.toNat)

/-- STAGE_ABORT (R57): STAGE_ABORT is written. -/
def execStageAbort (src : Source) (txn : BitVec 16) (s : State) : Host.Outcome State Fault Refusal :=
  s.hostWrite src (winAddr wStage 0xC) 0xF txn.toNat

/-- RETRAIN (R181): FR_CTL.RETRAIN of ring r is written 1. -/
def execRetrain (src : Source) (r : Fin 6) (s : State) : Host.Outcome State Fault Refusal :=
  s.hostWrite src (winAddr wFelt (0x128 + 0x40 * r)) 0xF 1

/-- ASYM_CLR (R176): FR_CTL.ASYM_CLR of ring r is written 1. -/
def execAsymClr (src : Source) (r : Fin 6) (s : State) : Host.Outcome State Fault Refusal :=
  s.hostWrite src (winAddr wFelt (0x128 + 0x40 * r)) 0xF 2

/-- CLR_GO (R214, R216): CLR_GO of slot c is written with CLR_MASK. -/
def execClrGo (src : Source) (c : Fin 144) (mask : BitVec 16) (s : State) : Host.Outcome State Fault Refusal :=
  s.hostWrite src (winAddr wCell (0x3C + 0x40 * c)) 0xF (65536 * mask.toNat + 1)

/-- ERASE (R109, R110): REAM_CMD is written with OP 1. -/
def execErase (src : Source) (slot : Slot) (s : State) : Host.Outcome State Fault Refusal :=
  s.hostWrite src (winAddr wReam 0x40) 0xF (16 * slotIx slot + 1)

/-- PROGRAM (R110, R111): REAM_CMD is written with OP 2. -/
def execProgram (src : Source) (slot : Slot) (s : State) : Host.Outcome State Fault Refusal :=
  s.hostWrite src (winAddr wReam 0x40) 0xF (16 * slotIx slot + 2)

/-- VERIFY (R110, R118): REAM_CMD is written with OP 3. -/
def execVerify (src : Source) (slot : Slot) (s : State) : Host.Outcome State Fault Refusal :=
  s.hostWrite src (winAddr wReam 0x40) 0xF (16 * slotIx slot + 3)

/-- SET_PREF (R110, R113): REAM_CMD is written with OP 4. -/
def execSetPref (src : Source) (slot : Slot) (s : State) : Host.Outcome State Fault Refusal :=
  s.hostWrite src (winAddr wReam 0x40) 0xF (16 * slotIx slot + 4)

/-- GO (R122, R123): REAM_SWAP_CTL.GO is written 1. -/
def execGoCmd (src : Source) (slot : Slot) (atEn lateOk : Bool) (s : State) : Host.Outcome State Fault Refusal :=
  s.hostWrite src (winAddr wReam 0x50) 0xF
    (1 + 2 * slotIx slot + 4 * atEn.toNat + 8 * lateOk.toNat)

/-- CANCEL (R124): REAM_SWAP_CTL.CANCEL is written 1. -/
def execCancel (src : Source) (s : State) : Host.Outcome State Fault Refusal := s.hostWrite src (winAddr wReam 0x50) 0xF 16

/-- OUT_REQ (R236): SLOT_CTL.OUT_REQ of slot c is written 1. -/
def execOutReq (src : Source) (c : Fin 144) (s : State) : Host.Outcome State Fault Refusal :=
  s.hostWrite src (winAddr wMod (0x1008 + 0x10 * c)) 0xF 1

/-- RET_REQ (R236): SLOT_CTL.RET_REQ of slot c is written 1. -/
def execRetReq (src : Source) (c : Fin 144) (s : State) : Host.Outcome State Fault Refusal :=
  s.hostWrite src (winAddr wMod (0x1008 + 0x10 * c)) 0xF 2

/-- TEST_GO (R240): TEST_GO is written 1. -/
def execTestGo (src : Source) (s : State) : Host.Outcome State Fault Refusal := s.hostWrite src (winAddr wMod 0x3C) 0xF 1

/-- TEST_STOP (R240): TEST_STOP is written 1. -/
def execTestStop (src : Source) (s : State) : Host.Outcome State Fault Refusal := s.hostWrite src (winAddr wMod 0x3C) 0xF 2

/-- HB_CLR (R322): HB_CLR of HBk is written 1. -/
def execHbClr (src : Source) (hb : Fin 8) (s : State) : Host.Outcome State Fault Refusal :=
  s.hostWrite src (winAddr wLvd (0x110 + 0x20 * hb)) 0xF 1

/-- LVT_GO (R324): LVT_GO is written 1. -/
def execLvtGo (src : Source) (s : State) : Host.Outcome State Fault Refusal := s.hostWrite src (winAddr wLvd 0x48) 0xF 1

/-- LVT_STOP (R324): LVT_STOP is written 1. -/
def execLvtStop (src : Source) (s : State) : Host.Outcome State Fault Refusal := s.hostWrite src (winAddr wLvd 0x48) 0xF 2

/-- SEQ_SWTRIG (R334): SEQ_SWTRIG is written. -/
def execSeqSwtrig (src : Source) (mask : BitVec 8) (s : State) : Host.Outcome State Fault Refusal :=
  s.hostWrite src (winAddr wAfe 0x18) 0xF mask.toNat

/-- WC_SWCLR (R343): WC_SWCLR is written. -/
def execWcSwclr (src : Source) (mask : BitVec 24) (s : State) : Host.Outcome State Fault Refusal :=
  s.hostWrite src (winAddr wAfe 0x10) 0xF mask.toNat

/-- HIST_ACK (R369): HIST_ACK is written. -/
def execHistAck (src : Source) (seq : BitVec 16) (s : State) : Host.Outcome State Fault Refusal :=
  s.hostWrite src (winAddr wFlt 0xC) 0xF seq.toNat

/-- UNIT_CLR (R366): UNIT_CLR is written. -/
def execUnitClr (src : Source) (unit : BitVec 8) (s : State) : Host.Outcome State Fault Refusal :=
  s.hostWrite src (winAddr wFlt 0x34) 0xF unit.toNat

/-- FF_VALID_CLEAR (R371): FF_VALID is written 1. -/
def execFfValidClear (src : Source) (s : State) : Host.Outcome State Fault Refusal := s.hostWrite src (winAddr wFlt 0) 0xF (2 ^ 19)

/-- STICKY_CLEAR (R372): bits of a STICKY word are written 1. -/
def execStickyClear (src : Source) (cls : Fin 16) (word : Fin 8) (mask : Word) (s : State) : Host.Outcome State Fault Refusal :=
  s.hostWrite src (winAddr wFlt (0x400 + 0x20 * cls + 4 * word)) 0xF mask.toNat

/-- ALIVE (R375): the SIG_OK control word is written. -/
def execAlive (src : Source) (val : Word) (s : State) : Host.Outcome State Fault Refusal :=
  s.hostWrite src (winAddr wFlt 0x10) 0xF val.toNat

/-- SF_FB_CLR (R390): SF_FB_CLR is written. -/
def execSfFbClr (src : Source) (mask : BitVec 4) (s : State) : Host.Outcome State Fault Refusal :=
  s.hostWrite src (winAddr wSafe 0x10) 0xF mask.toNat

/-- SF_HOST_DEM (R397): SF_HOST_DEM is written. -/
def execSfHostDem (src : Source) (val : BitVec 2) (s : State) : Host.Outcome State Fault Refusal :=
  s.hostWrite src (winAddr wSafe 0xC) 0xF val.toNat

/-- TEASEL_RST (R437): TEASEL_RST is written 1. -/
def execTeaselRst (src : Source) (s : State) : Host.Outcome State Fault Refusal := s.hostWrite src (winAddr wTherm 0x200C) 0xF 1

/-- EVJ_SEL (R444): EVJ_SEL is written. -/
def execEvjSel (src : Source) (jseq : Word) (s : State) : Host.Outcome State Fault Refusal :=
  s.hostWrite src (winAddr wTherm 0x3000) 0xF jseq.toNat

/-- LAN_RESET (R471): LAN_RESET is written. -/
def execLanReset (src : Source) (mask : BitVec 2) (s : State) : Host.Outcome State Fault Refusal :=
  s.hostWrite src (winAddr wNet 0x38) 0xF mask.toNat

/-- TOD_SET_GO (R477): TOD_SET_GO is written 1. -/
def execTodSetGo (src : Source) (s : State) : Host.Outcome State Fault Refusal := s.hostWrite src (winAddr wNet 0x44) 0xF 1

/-- PART_CTL as it reads, with its WO bits 0: a write of one of them leaves TB_INHIBIT as it is. -/
def Dev.partCtl (d : Dev) : Nat := d.get R.PART.TB_INHIBIT % 2

/-- YIELD (R419): PART_CTL.YIELD is written 1. -/
def execYield (src : Source) (s : State) : Host.Outcome State Fault Refusal := s.hostWrite src (winAddr wPart 0xC) 0xF (2 + s.dev.partCtl)

/-- LEAVE (the table of the PART window, +0x000C): PART_CTL.LEAVE is written 1. -/
def execLeave (src : Source) (s : State) : Host.Outcome State Fault Refusal := s.hostWrite src (winAddr wPart 0xC) 0xF (4 + s.dev.partCtl)

/-! Reads. -/

/-- READ_CLEAR (R9): a read of a word whose RC fields it clears. -/
def execReadClear (src : Source) (off : BitVec 22) (s : State) : Host.Outcome State Fault Refusal := s.hostRead src off.toNat 0xF

/-- HIF_SUMMARY_READ (R48). -/
def execHifSummaryRead (src : Source) (s : State) : Host.Outcome State Fault Refusal := s.hostRead src (winAddr wHif 8) 0xF

/-- READ_REJECTED (R6, R39, R44, R45): a read under byte enables, which a rejection answers with zero data. -/
def execReadRejected (src : Source) (off : BitVec 22) (be : BitVec 4) (s : State) : Host.Outcome State Fault Refusal :=
  s.hostRead src off.toNat be.toNat

end Sys2Proof.Machine
end

