-- ==== Sys2Proof/Machine/Watch.lean ====
section
/-! DEFINITION. Events of the fault collector and of the module's own supervision (13_faults_reactions.md), and the test access port
(19_electrical_package.md R532). -/
namespace Sys2Proof.Machine

/-- QUIET_PERIOD_EXPIRY (R364): the quiet period that an active instance has started is over; it recovers at the next boundary. -/
def execQuietPeriodExpiry (cls : Fin 16) (inst : BitVec 8) (s : State) : Host.Outcome State Fault Refusal :=
  s.onDev fun d => d.mapActive cls inst.toNat (fun a => if a.quiet.isSome then { a with elapsed := true } else a)

/-- RECOV_WINDOW_EXPIRY (R365): the window of a unit closes; its RECOV_CNT stays until the next one opens. -/
def execRecovWindowExpiry (unit : Fin 173) (s : State) : Host.Outcome State Fault Refusal :=
  s.onDev fun d => if d.is I.FLT.WIN_NS unit then (d.put I.FLT.WIN_NS 0 unit).put R.FLT.UNIT_WIN_LEFT 0 unit else d

/-- ECC_ERROR (R355): a corrected error raises instance 2 and an uncorrectable one instance 3, with the region. -/
def execEccError (corrected : Bool) (region : BitVec 16) (s : State) : Host.Outcome State Fault Refusal :=
  s.onDev fun d => if d.supervised then (d.raise s.clk.ns 15 (if corrected then 2 else 3) region.toNat).settle s.clk.ns else d

/-- The SIG_OK pulse is over (R374): LEVEL and ALIVE are cleared and the pin is at LEVEL. -/
def Dev.sigHoldNow (d : Dev) : Dev := (((d.put R.FLT.SIGOK_STATE sigHold).put R.FLT.ALIVE 0).put R.FLT.LEVEL 0).put R.FLT.SIGOK_PIN 0

/-- SIGOK_PULSE_END (R374). -/
def execSigokPulseEnd (s : State) : Host.Outcome State Fault Refusal :=
  s.onDev fun d => if d.get R.FLT.SIGOK_STATE = sigPulse then d.sigHoldNow else d

/-- SIGOK_TOGGLE (R376): a half-period of ALIVE ends. -/
def execSigokToggle (s : State) : Host.Outcome State Fault Refusal :=
  s.onDev fun d => if d.get R.FLT.SIGOK_STATE = sigAlive then d.flag R.FLT.SIGOK_PIN (!d.is R.FLT.SIGOK_PIN) else d

/-- SIGOK_READBACK_FAULT (R355). -/
def execSigokReadbackFault (s : State) : Host.Outcome State Fault Refusal :=
  s.onDev fun d => if d.supervised then (d.raise s.clk.ns 15 4 0).settle s.clk.ns else d

/-- The code of an instruction of the test access port; one that the port does not accept selects BYPASS. -/
def tapCode (inReset : Bool) : TapIns → Nat
  | .idcode => 1
  | .samplePreload => 2
  | .extest => if inReset then 3 else 0
  | .clamp => if inReset then 4 else 0
  | .bypass | .other => 0

/-- TAP_INSTRUCTION (R532): EXTEST and CLAMP only while nRESET is asserted. -/
def execTapInstruction (ins : TapIns) (s : State) : Host.Outcome State Fault Refusal :=
  s.onDev fun d => if d.mode = .backup then d else d.put I.MODE.TAP (tapCode (d.get I.MODE.NRST = 1) ins)

end Sys2Proof.Machine
end

