-- ==== Sys2Proof/Machine/Dispatch.lean ====
section
/-! DEFINITION. The meaning of every command: one direct call per constructor, in the order of the operation table. -/
namespace Sys2Proof.Machine

/-- The effect of a command on everything but the queue. -/
def exec (i : Instr) (s : State) : Host.Outcome State Fault Refusal :=
  match i with
  | .registerWrite src off be val => Sys2Proof.Machine.execRegisterWrite src off be val s
  | .readClear src off => Sys2Proof.Machine.execReadClear src off s
  | .hifSummaryRead src => Sys2Proof.Machine.execHifSummaryRead src s
  | .lastErrClear src => Sys2Proof.Machine.execLastErrClear src s
  | .bar2Read fn off len => Sys2Proof.Machine.execBar2Read fn off len s
  | .interconnectTimeout fn off => Sys2Proof.Machine.execInterconnectTimeout fn off s
  | .completionTimeout fn off => Sys2Proof.Machine.execCompletionTimeout fn off s
  | .sourceReset fn cause => Sys2Proof.Machine.execSourceReset fn cause s
  | .nperstAssert => Sys2Proof.Machine.execNperstAssert s
  | .pcieLinkTrained gen lanes => Sys2Proof.Machine.execPcieLinkTrained gen lanes s
  | .malformedRequest fn => Sys2Proof.Machine.execMalformedRequest fn s
  | .pcieReady => Sys2Proof.Machine.execPcieReady s
  | .acq src => Sys2Proof.Machine.execAcq src s
  | .rel src => Sys2Proof.Machine.execRel src s
  | .leaseExpiry src => Sys2Proof.Machine.execLeaseExpiry src s
  | .stageOpen src txn => Sys2Proof.Machine.execStageOpen src txn s
  | .stageItemWrite src ix part val => Sys2Proof.Machine.execStageItemWrite src ix part val s
  | .stageCommit src txn count atEn lateOk => Sys2Proof.Machine.execStageCommit src txn count atEn lateOk s
  | .stageAbort src txn => Sys2Proof.Machine.execStageAbort src txn s
  | .stageOpenTimeout => Sys2Proof.Machine.execStageOpenTimeout s
  | .cspiCsFall => Sys2Proof.Machine.execCspiCsFall s
  | .cspiRead4wire addr words => Sys2Proof.Machine.execCspiRead4wire addr words s
  | .cspiWrite4wire addr words => Sys2Proof.Machine.execCspiWrite4wire addr words s
  | .cspiReadQuad addr words => Sys2Proof.Machine.execCspiReadQuad addr words s
  | .cspiWriteQuad addr words => Sys2Proof.Machine.execCspiWriteQuad addr words s
  | .cspiCsRise insideWord => Sys2Proof.Machine.execCspiCsRise insideWord s
  | .frameBoundary => Sys2Proof.Machine.execFrameBoundary s
  | .gatherWindow => Sys2Proof.Machine.execGatherWindow s
  | .deckleStart => Sys2Proof.Machine.execDeckleStart s
  | .ceFrameStart => Sys2Proof.Machine.execCeFrameStart s
  | .measBlockRx link side block violations atNs => Sys2Proof.Machine.execMeasBlockRx link side block violations atNs s
  | .upCut link => Sys2Proof.Machine.execUpCut link s
  | .calenderPassA k => Sys2Proof.Machine.execCalenderPassA k s
  | .ceDelivery => Sys2Proof.Machine.execCeDelivery s
  | .ceOverrun => Sys2Proof.Machine.execCeOverrun s
  | .modulatorBuild => Sys2Proof.Machine.execModulatorBuild s
  | .markerRx link side marker loopQ violations => Sys2Proof.Machine.execMarkerRx link side marker loopQ violations s
  | .markerTimeout link miss => Sys2Proof.Machine.execMarkerTimeout link miss s
  | .laneAligned link => Sys2Proof.Machine.execLaneAligned link s
  | .commaLoss link side => Sys2Proof.Machine.execCommaLoss link side s
  | .trainTimeout link => Sys2Proof.Machine.execTrainTimeout link s
  | .discoverRetry link => Sys2Proof.Machine.execDiscoverRetry link s
  | .calSettleDone link => Sys2Proof.Machine.execCalSettleDone link s
  | .retrain src r => Sys2Proof.Machine.execRetrain src r s
  | .asymClr src r => Sys2Proof.Machine.execAsymClr src r s
  | .linkErrWindow port => Sys2Proof.Machine.execLinkErrWindow port s
  | .cellLinkLoss c => Sys2Proof.Machine.execCellLinkLoss c s
  | .mgtResponseRx link hop op tag addr data => Sys2Proof.Machine.execMgtResponseRx link hop op tag addr data s
  | .mgtTimeout c => Sys2Proof.Machine.execMgtTimeout c s
  | .clrGo src c mask => Sys2Proof.Machine.execClrGo src c mask s
  | .vinOn vbatOk kaCycles => Sys2Proof.Machine.execVinOn vbatOk kaCycles s
  | .bootRailsUp => Sys2Proof.Machine.execBootRailsUp s
  | .bootPllLock => Sys2Proof.Machine.execBootPllLock s
  | .pllLockRetry => Sys2Proof.Machine.execPllLockRetry s
  | .pllLockTimeout => Sys2Proof.Machine.execPllLockTimeout s
  | .journalRecovered => Sys2Proof.Machine.execJournalRecovered s
  | .sorrelSelfTestDone passed diag => Sys2Proof.Machine.execSorrelSelfTestDone passed diag s
  | .reamLoadDone => Sys2Proof.Machine.execReamLoadDone s
  | .reamCheckTimeout => Sys2Proof.Machine.execReamCheckTimeout s
  | .powerFail => Sys2Proof.Machine.execPowerFail s
  | .nresetAssert => Sys2Proof.Machine.execNresetAssert s
  | .nresetRelease => Sys2Proof.Machine.execNresetRelease s
  | .nresetStuck => Sys2Proof.Machine.execNresetStuck s
  | .nresetUnmask => Sys2Proof.Machine.execNresetUnmask s
  | .watchdogHalf => Sys2Proof.Machine.execWatchdogHalf s
  | .watchdogReset => Sys2Proof.Machine.execWatchdogReset s
  | .prechargeLimit => Sys2Proof.Machine.execPrechargeLimit s
  | .syncLimit => Sys2Proof.Machine.execSyncLimit s
  | .rtMaxExpiry => Sys2Proof.Machine.execRtMaxExpiry s
  | .stopMaxExpiry => Sys2Proof.Machine.execStopMaxExpiry s
  | .syncHoldReached => Sys2Proof.Machine.execSyncHoldReached s
  | .rtRecoverReached => Sys2Proof.Machine.execRtRecoverReached s
  | .rampDone => Sys2Proof.Machine.execRampDone s
  | .gridFault => Sys2Proof.Machine.execGridFault s
  | .mvLockChange => Sys2Proof.Machine.execMvLockChange s
  | .plausFail slot => Sys2Proof.Machine.execPlausFail slot s
  | .pllTUnlock => Sys2Proof.Machine.execPllTUnlock s
  | .pllTRelock => Sys2Proof.Machine.execPllTRelock s
  | .pllNUnlock => Sys2Proof.Machine.execPllNUnlock s
  | .pllSUnlock => Sys2Proof.Machine.execPllSUnlock s
  | .pllSRelock => Sys2Proof.Machine.execPllSRelock s
  | .rootLost => Sys2Proof.Machine.execRootLost s
  | .rootFreqCheck cycles => Sys2Proof.Machine.execRootFreqCheck cycles s
  | .rootReturn => Sys2Proof.Machine.execRootReturn s
  | .holdoverTimeout => Sys2Proof.Machine.execHoldoverTimeout s
  | .kaCheck cycles => Sys2Proof.Machine.execKaCheck cycles s
  | .fifoOverflow fifo => Sys2Proof.Machine.execFifoOverflow fifo s
  | .todRefresh => Sys2Proof.Machine.execTodRefresh s
  | .erase src slot => Sys2Proof.Machine.execErase src slot s
  | .program src slot => Sys2Proof.Machine.execProgram src slot s
  | .verify src slot => Sys2Proof.Machine.execVerify src slot s
  | .setPref src slot => Sys2Proof.Machine.execSetPref src slot s
  | .reamCmdDone failed => Sys2Proof.Machine.execReamCmdDone failed s
  | .flashOpTimeout => Sys2Proof.Machine.execFlashOpTimeout s
  | .verifyDone => Sys2Proof.Machine.execVerifyDone s
  | .goCmd src slot atEn lateOk => Sys2Proof.Machine.execGoCmd src slot atEn lateOk s
  | .cancel src => Sys2Proof.Machine.execCancel src s
  | .swapOrderRx digest target cls => Sys2Proof.Machine.execSwapOrderRx digest target cls s
  | .swapConfirmRx => Sys2Proof.Machine.execSwapConfirmRx s
  | .swapConfirmTimeout => Sys2Proof.Machine.execSwapConfirmTimeout s
  | .scrub => Sys2Proof.Machine.execScrub s
  | .prefRecordTimeout => Sys2Proof.Machine.execPrefRecordTimeout s
  | .outReq src c => Sys2Proof.Machine.execOutReq src c s
  | .retReq src c => Sys2Proof.Machine.execRetReq src c s
  | .retTimeout c => Sys2Proof.Machine.execRetTimeout c s
  | .retSettleReached c => Sys2Proof.Machine.execRetSettleReached c s
  | .spreadAlarm k => Sys2Proof.Machine.execSpreadAlarm k s
  | .testGo src => Sys2Proof.Machine.execTestGo src s
  | .testStop src => Sys2Proof.Machine.execTestStop src s
  | .lvEdge hb => Sys2Proof.Machine.execLvEdge hb s
  | .lvCarrierEvent peak => Sys2Proof.Machine.execLvCarrierEvent peak s
  | .scDetect ch sc2 scTime => Sys2Proof.Machine.execScDetect ch sc2 scTime s
  | .softTurnoffEnd gm => Sys2Proof.Machine.execSoftTurnoffEnd gm s
  | .softTurnoffTimeout ch => Sys2Proof.Machine.execSoftTurnoffTimeout ch s
  | .hsTo ch => Sys2Proof.Machine.execHsTo ch s
  | .gonTimeout ch => Sys2Proof.Machine.execGonTimeout ch s
  | .stConflict hb => Sys2Proof.Machine.execStConflict hb s
  | .supplyFault hb rail => Sys2Proof.Machine.execSupplyFault hb rail s
  | .supplyGood hb rail => Sys2Proof.Machine.execSupplyGood hb rail s
  | .bstStartTimeout hb => Sys2Proof.Machine.execBstStartTimeout hb s
  | .retryWaitExpiry hb => Sys2Proof.Machine.execRetryWaitExpiry hb s
  | .hbClr src hb => Sys2Proof.Machine.execHbClr src hb s
  | .drvEnFall => Sys2Proof.Machine.execDrvEnFall s
  | .drvEnRise lowTenUs => Sys2Proof.Machine.execDrvEnRise lowTenUs s
  | .lvtGo src => Sys2Proof.Machine.execLvtGo src s
  | .lvtStop src => Sys2Proof.Machine.execLvtStop src s
  | .seqTrigger n => Sys2Proof.Machine.execSeqTrigger n s
  | .seqSwtrig src mask => Sys2Proof.Machine.execSeqSwtrig src mask s
  | .gtEvent g => Sys2Proof.Machine.execGtEvent g s
  | .seqStepStart n => Sys2Proof.Machine.execSeqStepStart n s
  | .seqPublish n codes => Sys2Proof.Machine.execSeqPublish n codes s
  | .conversionTimeout a => Sys2Proof.Machine.execConversionTimeout a s
  | .hkSequence codes => Sys2Proof.Machine.execHkSequence codes s
  | .wcFilteredChange w high low => Sys2Proof.Machine.execWcFilteredChange w high low s
  | .wcSwclr src mask => Sys2Proof.Machine.execWcSwclr src mask s
  | .quietPeriodExpiry cls inst => Sys2Proof.Machine.execQuietPeriodExpiry cls inst s
  | .recovWindowExpiry unit => Sys2Proof.Machine.execRecovWindowExpiry unit s
  | .histAck src seq => Sys2Proof.Machine.execHistAck src seq s
  | .unitClr src unit => Sys2Proof.Machine.execUnitClr src unit s
  | .ffValidClear src => Sys2Proof.Machine.execFfValidClear src s
  | .stickyClear src cls word mask => Sys2Proof.Machine.execStickyClear src cls word mask s
  | .eccError corrected region => Sys2Proof.Machine.execEccError corrected region s
  | .sigokPulseEnd => Sys2Proof.Machine.execSigokPulseEnd s
  | .alive src val => Sys2Proof.Machine.execAlive src val s
  | .sigokToggle => Sys2Proof.Machine.execSigokToggle s
  | .sigokReadbackFault => Sys2Proof.Machine.execSigokReadbackFault s
  | .safetyInputFiltered ch pair a b dis => Sys2Proof.Machine.execSafetyInputFiltered ch pair a b dis s
  | .discrepancyFault ch pair => Sys2Proof.Machine.execDiscrepancyFault ch pair s
  | .feedbackTimeout ch fb => Sys2Proof.Machine.execFeedbackTimeout ch fb s
  | .feedbackChange ch fb closed => Sys2Proof.Machine.execFeedbackChange ch fb closed s
  | .sfFbClr src mask => Sys2Proof.Machine.execSfFbClr src mask s
  | .sfHostDem src val => Sys2Proof.Machine.execSfHostDem src val s
  | .outputReadbackFault ch out => Sys2Proof.Machine.execOutputReadbackFault ch out s
  | .safetyExchange => Sys2Proof.Machine.execSafetyExchange s
  | .exchangeTimeout ch => Sys2Proof.Machine.execExchangeTimeout ch s
  | .crosscheckDisagree ch => Sys2Proof.Machine.execCrosscheckDisagree ch s
  | .yarrowSupplyFault => Sys2Proof.Machine.execYarrowSupplyFault s
  | .yarrowConfig params => Sys2Proof.Machine.execYarrowConfig params s
  | .hbInEdge => Sys2Proof.Machine.execHbInEdge s
  | .hbOutToggle => Sys2Proof.Machine.execHbOutToggle s
  | .beatRx beat => Sys2Proof.Machine.execBeatRx beat s
  | .wirePathLost => Sys2Proof.Machine.execWirePathLost s
  | .plPathLost => Sys2Proof.Machine.execPlPathLost s
  | .partnerMarkerRx frame tb offset rtt => Sys2Proof.Machine.execPartnerMarkerRx frame tb offset rtt s
  | .mirrorFrameRx frame crcOk items legs => Sys2Proof.Machine.execMirrorFrameRx frame crcOk items legs s
  | .mirrorTransferRx items record => Sys2Proof.Machine.execMirrorTransferRx items record s
  | .forwardedSetRx txn items => Sys2Proof.Machine.execForwardedSetRx txn items s
  | .takebackRequest => Sys2Proof.Machine.execTakebackRequest s
  | .takebackConfirm frame yielded => Sys2Proof.Machine.execTakebackConfirm frame yielded s
  | .yield src => Sys2Proof.Machine.execYield src s
  | .leave src => Sys2Proof.Machine.execLeave src s
  | .hkRound safeCycles => Sys2Proof.Machine.execHkRound safeCycles s
  | .dieModelStep p0 p1 p2 p3 => Sys2Proof.Machine.execDieModelStep p0 p1 p2 p3 s
  | .teaselHour => Sys2Proof.Machine.execTeaselHour s
  | .teaselRst src => Sys2Proof.Machine.execTeaselRst src s
  | .evjSel src jseq => Sys2Proof.Machine.execEvjSel src jseq s
  | .evjLoaded => Sys2Proof.Machine.execEvjLoaded s
  | .retentionWrite => Sys2Proof.Machine.execRetentionWrite s
  | .freqOffsetWrite => Sys2Proof.Machine.execFreqOffsetWrite s
  | .flashOpDone failed => Sys2Proof.Machine.execFlashOpDone failed s
  | .netFrameRx p f => Sys2Proof.Machine.execNetFrameRx p f s
  | .netLinkChange p up => Sys2Proof.Machine.execNetLinkChange p up s
  | .syncRx p m => Sys2Proof.Machine.execSyncRx p m s
  | .announceRx p m => Sys2Proof.Machine.execAnnounceRx p m s
  | .announceTimeout => Sys2Proof.Machine.execAnnounceTimeout s
  | .pdelayReqSend => Sys2Proof.Machine.execPdelayReqSend s
  | .pdelayReqRx p seq => Sys2Proof.Machine.execPdelayReqRx p seq s
  | .pdelayRespRx p m => Sys2Proof.Machine.execPdelayRespRx p m s
  | .tsqOverflow p own seq => Sys2Proof.Machine.execTsqOverflow p own seq s
  | .lanReset src mask => Sys2Proof.Machine.execLanReset src mask s
  | .supervisionSend => Sys2Proof.Machine.execSupervisionSend s
  | .irigFrameRx m => Sys2Proof.Machine.execIrigFrameRx m s
  | .ppsInEdge edgeQ => Sys2Proof.Machine.execPpsInEdge edgeQ s
  | .ppsInMissing => Sys2Proof.Machine.execPpsInMissing s
  | .xchkSecond => Sys2Proof.Machine.execXchkSecond s
  | .ppsOutPulse => Sys2Proof.Machine.execPpsOutPulse s
  | .ppsOutWidthEnd => Sys2Proof.Machine.execPpsOutWidthEnd s
  | .todSetGo src => Sys2Proof.Machine.execTodSetGo src s
  | .svSampleDue n => Sys2Proof.Machine.execSvSampleDue n s
  | .svSend n => Sys2Proof.Machine.execSvSend n s
  | .svRx m => Sys2Proof.Machine.execSvRx m s
  | .svSubLoss q => Sys2Proof.Machine.execSvSubLoss q s
  | .gooseRx m => Sys2Proof.Machine.execGooseRx m s
  | .gooseTalExpiry k => Sys2Proof.Machine.execGooseTalExpiry k s
  | .gooseRetransmit g => Sys2Proof.Machine.execGooseRetransmit g s
  | .tagSample sample => Sys2Proof.Machine.execTagSample sample s
  | .readRejected src off be => Sys2Proof.Machine.execReadRejected src off be s
  | .bar2Write fn off => Sys2Proof.Machine.execBar2Write fn off s
  | .incomingTurnOn hb gm => Sys2Proof.Machine.execIncomingTurnOn hb gm s
  | .pllNRelock => Sys2Proof.Machine.execPllNRelock s
  | .lockRegained => Sys2Proof.Machine.execLockRegained s
  | .yarrowSupplyReturn => Sys2Proof.Machine.execYarrowSupplyReturn s
  | .feedbackConfirmed ch fb => Sys2Proof.Machine.execFeedbackConfirmed ch fb s
  | .tapInstruction ins => Sys2Proof.Machine.execTapInstruction ins s

end Sys2Proof.Machine
end

