-- ==== Sys2Proof/Safety.lean ====
section
/-! DEFINITION. The terms in which the claims are stated: what a command completes with, what it may change and what it leaves alone,
the invariant of every state, and when a host access is accepted. -/
namespace Sys2Proof.Machine

/-- A list of fields has a field, by its number. -/
def hasFld (L : List Fld) (f : Fld) : Bool := L.any (fun g => g.id == f.id)

/-- What a raising may write (R356, R357, R363, R368 to R374, R440): the registers of the fault collector, the summary bits, the
demands on the mode and on SIG_OK, the trip, the counters that select a raising. -/
def raiseFlds : List Fld :=
  [R.FLT.ACK_SEQ, R.FLT.ACTIVE, R.FLT.ALIVE, R.FLT.CLASS_ACTIVE, R.FLT.DERATE_NOW, R.FLT.FF_VALID, R.FLT.FIRST_FAULT, R.FLT.HEAD_SEQ] ++
  [R.FLT.HISTORY, R.FLT.HIST_LOST, R.FLT.LOCKED_ANY, R.FLT.LOCKED_CNT, R.FLT.RAISE_CNT, R.FLT.REACT_MAX, R.FLT.REPEAT_CNT] ++
  [R.FLT.SIGOK_PIN, R.FLT.SIGOK_STATE, R.FLT.STICKY, R.FLT.UNIT_HELD, R.FLT.UNIT_REACT, R.FLT.WARN_ACTIVE, R.HIF.SUM_FAULT] ++
  [R.HIF.SUM_FIRST_FAULT, R.THERM.EVJ_BACKLOG, R.THERM.EVJ_DROP, I.THERM.DROP_PEND, I.FELT.TRIP_ID, I.FELT.TRIP_NS, I.FELT.TRIP_SRC] ++
  [I.FLT.TRIP_ON, I.MODE.DUE_SAFE, I.MODE.DUE_STOP, I.PERF.BYTES, I.PERF.CNT, I.PERF.OVF]

/-- What settling may write beyond a raising: the state of the LV channels and holds (R318, R319), the outputs and demands of the
safety channels (R384 to R391), and the replacement or withdrawal of a fenced cell's command (R235). -/
def settleFlds : List Fld :=
  raiseFlds ++
  [I.LVD.CH_ON, I.LVD.CH_REQ, I.LVD.CH_SNK, I.LVD.CH_SOFT, I.LVD.DET_WAIT, I.LVD.HELD, I.LVD.HOLD, I.LVD.SAFE_ON] ++
  [R.LVD.HB_BST_HOLD_CNT, R.LVD.HB_FIT, R.LVD.HB_FLT, R.LVD.HB_OUT, R.LVD.PORT_OFF, R.LVD.SG_STATE, R.LVD.TRIP_ACT] ++
  [I.SAFE.CS, I.SAFE.FB_T0, I.SAFE.FB_WAIT, I.SAFE.REAL, I.SAFE.TMV, R.SAFE.DEM_CNT, R.SAFE.FB_CONF_T, R.SAFE.FB_LATCH] ++
  [R.SAFE.LAST_S_T, R.SAFE.LAST_Y_T, R.SAFE.OUT_CMD, R.SAFE.OUT_RB, R.SAFE.SF_IN, R.SAFE.SMT_DEM, R.SAFE.SMT_S, R.SAFE.SMT_Y] ++
  [R.SAFE.SPB_DEM, R.SAFE.SPB_S, R.SAFE.SPB_Y, R.SAFE.XCHK_FAIL, R.HIF.SUM_SAFETY, I.FELT.WDR_SENT, I.MOD.DAB_NEXT, I.MOD.LEG_A] ++
  [I.MOD.LEG_B, I.MOD.NSW_NEXT, I.CELL.NEXT_BYP, I.CELL.NEXT_CRC_E, I.CELL.NEXT_CRC_W, I.CELL.NEXT_POSTED, I.CELL.NEXT_REV] ++
  [I.CELL.NEXT_WDR, I.CELL.REMOVE]

/-- The byte that the flash holds at an address: an address that nothing lists is erased. -/
def byteAt (l : List Host.Cell) (a : Nat) : Byte := ((l.find? (fun c => c.1 = a)).map (fun c => c.2)).getD 255

/-- A list of register elements has element i of a field. -/
def hasEl (E : List (Fld × Nat)) (f : Fld) (i : Nat) : Bool := E.any (fun p => p.1.id == f.id && p.2 % 65536 == i % 65536)

/-- Between two states of the module only the registers of a list differ, and single elements of a second list; and of the records
only the active instances, the queue of history entries for the journal, what was sent, and the count of free values drawn. -/
structure Within (L : List Fld) (d e : Dev) (E : List (Fld × Nat) := []) : Prop where
  regs : ∀ f : Fld, f.id < 2048 → hasFld L f = false → ∀ i, hasEl E f i = false → e.get f i = d.get f i
  rest : e = { d with regs := e.regs, active := e.active, nvm := { d.nvm with evq := e.nvm.evq }, outbox := e.outbox, draws := e.draws }

/-- Command c completes at s, with a state of which P holds. -/
def Gives (c : Instr) (s : State) (P : State → Prop) : Prop := ∃ t, exec c s = .next t ∧ P t

/-- Command c completes at s: its own effect takes the module to a state of which P holds, and what a change of the demands and
reactions entails at once follows (`Dev.settle`); the clock, the fuses and the queue stay as they were. -/
def Does (c : Instr) (s : State) (P : Dev → Prop) : Prop := ∃ d, exec c s = .next { s with dev := d.settle s.clk.ns } ∧ P d

/-- The counters of PERF that a host access or a byte on a wire may count (R497, R501). -/
def countFlds : List Fld := [I.PERF.CNT, I.PERF.OVF, I.PERF.BYTES]

/-- The frame of a command: `Within` for the module, and the clock, the fuses and the queue as they were. -/
structure Frame (L : List Fld) (s t : State) (E : List (Fld × Nat) := []) : Prop where
  dev     : Within L s.dev t.dev E
  clk     : t.clk = s.clk
  otp     : t.otp = s.otp
  pending : t.pending = s.pending

/-- The STICKY bit of an instance is set, as every raising of it sets it (R372). -/
def Raised (d : Dev) (cls inst : Nat) : Prop := bitOf (d.get R.FLT.STICKY (8 * cls + inst / 32)) (inst % 32) = 1

/-- A host write is counted before it is judged (R497, R501); PCI Express carries none of CSPI's. -/
def Dev.counted (d : Dev) (src : Source) : Dev := if src = .cspi then d else (d.perf 9 2 (srcIx src)).carryPcie src 29 4

/-- A host read, counted the same way. -/
def Dev.readCounted (d : Dev) (src : Source) : Dev := (d.perf 9 1 (srcIx src)).carryPcie src 28 4

/-- A direct write of one word is accepted: the source reaches the module, a write of CSPI stands in a transaction and names no staged
parameter (R69, R71), and no check in the order of R46 finds an error. -/
structure Accepts (s : State) (src : Source) (a val : Nat) (be : Nat := 0xF) : Prop where
  up     : s.dev.hostUp src = true
  direct : src = .cspi → s.dev.cspi.isSome = true ∧ s.dev.stagedWord a = false
  clean  : (s.dev.counted src).writeErrs s.clk.ns src a be val = []

end Sys2Proof.Machine
end

