-- ==== Sys2Proof/Certificates/Slice0/Obligations.lean ====
section
/-! DEFINITION. The statements for the provers: what the commands do, family by family, and what every step keeps. -/
open Sys2Proof Sys2Proof.Machine

/-! Host writes (02_host_access.md). An accepted write is carried out; `Accepts` is the condition on the state and the operands. -/

/-- The fields of HIF_LAST_ERR and HIF_LAST_ERR_ADDR. -/
def Sys2Proof.Machine.Claim.errFlds : List Fld := [R.HIF.ERR_VALID, R.HIF.ERR_COUNT, R.HIF.ERR_DETAIL, R.HIF.ERR_CODE, R.HIF.ERR_IMPLICIT, R.HIF.ERR_OFFSET]

/-- What the end of a set writes (R58, R63). -/
def Sys2Proof.Machine.Claim.resultFlds : List Fld :=
  [R.STAGE.STAGE_RESULT_TXN, R.STAGE.STAGE_RESULT_CODE, R.STAGE.STAGE_RESULT_DETAIL, R.STAGE.STAGE_RESULT_IDX_INDEX] ++
  [R.STAGE.STAGE_RESULT_IDX_WHOLE, R.STAGE.STAGE_RESULT_FRAME, R.STAGE.STAGE_STAT_NEXT_TXN, R.STAGE.STAGE_STAT_STATE]

/-- A set has ended: the area is free, NEXT_TXN is one more modulo 65,536, the result belongs to the set, and STAGE_DONE is set in the
owner's summary (R63). -/
def Sys2Proof.Machine.Claim.SetEnded (s : State) (d : Dev) (code : Nat) : Prop :=
  d.get R.STAGE.STAGE_STAT_STATE = 0 ∧ d.get R.STAGE.STAGE_STAT_NEXT_TXN = (s.dev.get R.STAGE.STAGE_STAT_NEXT_TXN + 1) % 65536 ∧
  d.get R.STAGE.STAGE_RESULT_TXN = s.dev.get R.STAGE.STAGE_STAT_NEXT_TXN % 65536 ∧ d.get R.STAGE.STAGE_RESULT_CODE = code ∧
  d.get R.HIF.SUM_STAGE_DONE (srcIx s.dev.stageOwner) = 1 ∧
  Within (countFlds ++ Claim.resultFlds) s.dev d [(R.HIF.SUM_STAGE_DONE, srcIx s.dev.stageOwner)]

/-- STAGE_OPEN, STAGE_ITEM_WRITE, STAGE_COMMIT and STAGE_ABORT, accepted: the set opens for its source (R57); the word of the item takes
the value; the set waits for its boundary, or fails at once with the code of the first check of R58 to R60 that it breaks and is freed;
the set is discarded (R57, R63). -/
def Obligations.StagingWrites : Prop := ∀ (s : State) (src : Source) (txn : BitVec 16) (i : Fin 4096) (val : Word) (count : BitVec 13) (atEn lateOk : Bool),
  (Accepts s src (winAddr wStage 0) txn.toNat → Does (.stageOpen src txn) s fun d =>
    d.get R.STAGE.STAGE_STAT_STATE = 1 ∧ d.get R.STAGE.STAGE_STAT_OWNER = srcIx src ∧
    Within (countFlds ++ [R.STAGE.STAGE_STAT_STATE, R.STAGE.STAGE_STAT_OWNER, I.STAGE.GEN]) s.dev d) ∧
  (Accepts s src (winAddr wStage (0x1000 + 8 * i)) val.toNat → Does (.stageItemWrite src i .addr val) s fun d =>
    d.get R.STAGE.ITEM_ADDR i = val.toNat % 2 ^ 22 ∧ Within countFlds s.dev d [(R.STAGE.ITEM_ADDR, i), (I.STAGE.GEN_A, i)]) ∧
  (Accepts s src (winAddr wStage (0x1004 + 8 * i)) val.toNat → Does (.stageItemWrite src i .data val) s fun d =>
    d.get R.STAGE.ITEM_DATA i = val.toNat ∧ Within countFlds s.dev d [(R.STAGE.ITEM_DATA, i), (I.STAGE.GEN_D, i)]) ∧
  (let v := txn.toNat + 2 ^ 16 * count.toNat + 2 ^ 29 * atEn.toNat + 2 ^ 30 * lateOk.toNat
   Accepts s src (winAddr wStage 4) v →
    ((s.dev.counted src).commitErrs s.clk.ns v = [] → Does (.stageCommit src txn count atEn lateOk) s fun d =>
      d.get R.STAGE.STAGE_STAT_STATE = 2 ∧ d.get I.STAGE.COUNT = count.toNat ∧ d.get I.STAGE.AT_EN = atEn.toNat ∧
      d.get I.STAGE.COMMIT_NS = s.clk.ns % 2 ^ 64 ∧
      Within (countFlds ++ [R.STAGE.STAGE_STAT_STATE, I.STAGE.COUNT, I.STAGE.AT_EN, I.STAGE.TARGET, I.STAGE.COMMIT_NS, I.STAGE.LATENESS]) s.dev d) ∧
    (∀ e k w, firstFail ((s.dev.counted src).commitErrs s.clk.ns v) = some (e, k, w) →
      Does (.stageCommit src txn count atEn lateOk) s fun d => Claim.SetEnded s d (e.code % 256))) ∧
  (Accepts s src (winAddr wStage 0xC) txn.toNat → Does (.stageAbort src txn) s fun d => Claim.SetEnded s d 0)

/-- RETRAIN, ASYM_CLR and CLR_GO, accepted: an own ring that is enabled and does not relay returns to TRAIN (R181); the latched
asymmetry of the ring is cleared (R176); a management write of the mask to FAULT_CLR of the slot waits, and the result is busy (R214). -/
def Obligations.RingAndCellWrites : Prop := ∀ (s : State) (src : Source) (r : Fin 6) (c : Fin 144) (mask : BitVec 16),
  (Accepts s src (winAddr wFelt (0x128 + 0x40 * r)) 1 → s.dev.get R.FELT.RING_STATE r ≠ ringRelay → s.dev.is I.FELT.RING_EN r = true →
    Does (.retrain src r) s fun d => d.get R.FELT.RING_STATE r = ringTrain ∧ d.get I.FELT.LANES r = 0 ∧
      bitOf (d.get R.FELT.RING_OK) r = 0 ∧
      Within (countFlds ++ [I.CELL.ID_BITS, R.FELT.RING_OK, R.FELT.RING_SINGLE]) { s.dev with mgt := d.mgt } d
        ([I.FELT.LANES, I.FELT.STABLE_RUN, I.FELT.TRAIN_RAISED, R.FELT.RING_STATE, R.FELT.RING_UNSUPERVISED].map (fun f => (f, r.val)))) ∧
  (Accepts s src (winAddr wFelt (0x128 + 0x40 * r)) 2 → Does (.asymClr src r) s fun d =>
    (∀ f ∈ [R.FELT.RING_ASYM_ACTIVE, R.FELT.RING_HOLD, R.FELT.RING_ASYM_SEG, R.FELT.RING_ASYM_DELTA], d.get f r = 0) ∧
    Within countFlds s.dev d ([R.FELT.RING_ASYM_ACTIVE, R.FELT.RING_HOLD, R.FELT.RING_ASYM_SEG, R.FELT.RING_ASYM_DELTA].map (fun f => (f, r.val)))) ∧
  (∀ ix, Accepts s src (winAddr wCell (0x3C + 0x40 * c)) (65536 * mask.toNat + 1) → s.dev.cellLink c = some ix →
    Does (.clrGo src c mask) s fun d => d.get R.CELL.CLR_RESULT c = 1 ∧
      (∃ q : MgtReq, d.mgt = s.dev.mgt ++ [q] ∧ q.link = ix ∧ q.hop = s.dev.get R.CELL.HOP c ∧ q.op = 2 ∧ q.addr = 0x44 ∧ q.data = mask.toNat ∧
        q.slot = c ∧ q.sent = none) ∧
      Within (countFlds ++ [I.FELT.TAG]) { s.dev with mgt := d.mgt } d [(R.CELL.CLR_RESULT, c)])

/-- A write of REAM_CMD starts the command: CMD_BUSY, its OP, no failure yet. -/
def Sys2Proof.Machine.Claim.CmdStarted (d : Dev) (op : Nat) : Prop :=
  d.get R.REAM.CMD_BUSY = 1 ∧ d.get R.REAM.CMD_OP = op ∧ d.get R.REAM.CMD_STATE = 1 ∧ d.get R.REAM.CMD_FAIL = 0

/-- What a command of the Ream may write: the command's status, the slot's summary, the classes, and what a flash operation that starts
may raise. -/
def Sys2Proof.Machine.Claim.cmdFlds : List Fld :=
  raiseFlds ++ [R.REAM.CMD_BUSY, R.REAM.CMD_OP, R.REAM.CMD_STATE, R.REAM.CMD_FAIL, I.REAM.CMD_RUN_SLOT, R.REAM.SLOT_CLASS]

/-- ERASE, PROGRAM, VERIFY and SET_PREF, accepted, start the command (R110). ERASE makes the slot WRITING with nothing recorded (R109,
R110); the other slot's summary stays. -/
def Obligations.ReamCommandWrites : Prop := ∀ (s : State) (src : Source) (slot : Slot),
  (Accepts s src (winAddr wReam 0x40) (16 * slotIx slot + 1) → Does (.erase src slot) s fun d =>
    Claim.CmdStarted d 1 ∧ d.get R.REAM.SLOT_STATE (slotIx slot) = 1 ∧ d.get R.REAM.SLOT_LENGTH (slotIx slot) = 0 ∧
    d.get R.REAM.SLOT_IMAGE_ID (slotIx slot) = 0 ∧ d.checked (slotIx slot) = none ∧
    Within Claim.cmdFlds { s.dev with nvm := d.nvm, ream := d.ream } d
      ([R.REAM.SLOT_STATE, R.REAM.SLOT_LENGTH, R.REAM.SLOT_IMAGE_ID, R.REAM.SLOT_DECL_CLASS, R.REAM.SLOT_SEC_VER].map (fun f => (f, slotIx slot)))) ∧
  (Accepts s src (winAddr wReam 0x40) (16 * slotIx slot + 2) → Does (.program src slot) s fun d =>
    Claim.CmdStarted d 2 ∧ Within Claim.cmdFlds { s.dev with nvm := d.nvm } d) ∧
  (Accepts s src (winAddr wReam 0x40) (16 * slotIx slot + 3) → Does (.verify src slot) s fun d =>
    Claim.CmdStarted d 3 ∧ d.get I.REAM.CMD_RUN_SLOT = slotIx slot ∧ Within Claim.cmdFlds s.dev d) ∧
  (Accepts s src (winAddr wReam 0x40) (16 * slotIx slot + 4) → Does (.setPref src slot) s fun d =>
    Claim.CmdStarted d 4 ∧ Within Claim.cmdFlds { s.dev with nvm := d.nvm } d)

/-- What a scheduled swap writes (R123). -/
def Sys2Proof.Machine.Claim.swapFlds : List Fld :=
  countFlds ++ [R.REAM.SWAP_PEND, R.REAM.SLOT_SWAP_PEND, R.REAM.SWAP_SLOT, I.REAM.SWAP_TARGET, I.REAM.SWAP_CLASS, I.REAM.SWAP_LATE, I.REAM.SWAP_BOOT] ++
  [I.REAM.SWAP_CONF, I.REAM.SWAP_ORD]

/-- GO, accepted, schedules the activation of the slot and, towards a partner that mirrors, sends the order and awaits its confirmation
(R122, R123, R129). CANCEL, accepted, at least 2 µs before the boundary of the pending swap ends it with OP 4 of REAM_RESULT, and
later has no effect (R124); where no swap waits for a boundary it does nothing. -/
def Obligations.SwapWrites : Prop := ∀ (s : State) (src : Source) (slot : Slot) (atEn lateOk : Bool),
  (∀ im, Accepts s src (winAddr wReam 0x50) (1 + 2 * slotIx slot + 4 * atEn.toNat + 8 * lateOk.toNat) →
    s.dev.checked (slotIx slot) = some im → Does (.goCmd src slot atEn lateOk) s fun d =>
      d.get R.REAM.SWAP_PEND = 1 ∧ d.get R.REAM.SLOT_SWAP_PEND (slotIx slot) = 1 ∧ d.get R.REAM.SWAP_SLOT = slotIx slot ∧
      (d.get I.REAM.SWAP_CONF = 0 ↔ s.dev.partnerMirrors = true) ∧
      (atEn = false → d.get I.REAM.SWAP_TARGET = s.dev.thirdFrame) ∧ Within Claim.swapFlds s.dev d) ∧
  (let late : Prop := framesFrom (s.dev.get R.TB.FRAME_NO_LIVE) (s.dev.get I.REAM.SWAP_TARGET) ≤ 1 ∧ s.dev.is R.TB.DECKLE_RUN = true ∧
    s.dev.nextNs < s.clk.ns + 2000
   Accepts s src (winAddr wReam 0x50) 16 →
    (s.dev.get R.REAM.SWAP_PEND = 0 ∨ s.dev.is I.REAM.SWAP_BOOT = true ∨ late → Does (.cancel src) s fun d => Within countFlds s.dev d) ∧
    (s.dev.is R.REAM.SWAP_PEND = true → s.dev.is I.REAM.SWAP_BOOT = false → ¬ late → Does (.cancel src) s fun d =>
      d.get R.REAM.SWAP_PEND = 0 ∧ d.get R.REAM.SLOT_SWAP_PEND 0 = 0 ∧ d.get R.REAM.SLOT_SWAP_PEND 1 = 0 ∧ d.get R.REAM.RES_OP = 4 ∧
      d.get R.REAM.RES_CODE = 0 ∧ d.get R.HIF.SUM_REAM (srcIx src) = 1 ∧
      Within (Claim.swapFlds ++ [R.REAM.RES_OP, R.REAM.RES_SLOT, R.REAM.RES_CODE, R.REAM.RES_DETAIL, R.REAM.RES_OFF_VALID, R.REAM.RES_OFFSET,
        R.REAM.RESULT_FRAME, R.HIF.SUM_REAM]) s.dev d))

/-- OUT_REQ and RET_REQ (R236), TEST_GO and TEST_STOP (R240), HB_CLR (R322), LVT_GO and LVT_STOP (R324), accepted: the request waits for
its boundary, with the time of its write, and nothing else changes. -/
def Obligations.BoundaryRequests : Prop := ∀ (s : State) (src : Source) (c : Fin 144) (k : Fin 8),
  let t := s.clk.ns % 2 ^ 64
  (Accepts s src (winAddr wMod (0x1008 + 0x10 * c)) 1 → Does (.outReq src c) s fun d =>
    d.get I.MOD.OUT_DUE c = 1 ∧ d.get I.MOD.OUT_NS c = t ∧ Within countFlds s.dev d [(I.MOD.OUT_DUE, c), (I.MOD.OUT_NS, c)]) ∧
  (Accepts s src (winAddr wMod (0x1008 + 0x10 * c)) 2 → Does (.retReq src c) s fun d =>
    d.get I.MOD.RET_DUE c = 1 ∧ d.get I.MOD.RET_NS c = t ∧ Within countFlds s.dev d [(I.MOD.RET_DUE, c), (I.MOD.RET_NS, c)]) ∧
  (Accepts s src (winAddr wMod 0x3C) 1 → Does (.testGo src) s fun d =>
    d.get I.MOD.TEST_DUE = 1 ∧ d.get I.MOD.TEST_NS = t ∧ Within (countFlds ++ [I.MOD.TEST_DUE, I.MOD.TEST_NS]) s.dev d) ∧
  (Accepts s src (winAddr wMod 0x3C) 2 → Does (.testStop src) s fun d =>
    d.get I.MOD.TEST_END = 1 ∧ Within (countFlds ++ [I.MOD.TEST_END]) s.dev d) ∧
  (Accepts s src (winAddr wLvd (0x110 + 0x20 * k)) 1 → Does (.hbClr src k) s fun d =>
    d.get I.LVD.HBC_DUE k = 1 ∧ d.get I.LVD.HBC_NS k = t ∧ Within countFlds s.dev d [(I.LVD.HBC_DUE, k), (I.LVD.HBC_NS, k)]) ∧
  (Accepts s src (winAddr wLvd 0x48) 1 → Does (.lvtGo src) s fun d =>
    d.get I.LVD.LVT_DUE = 1 ∧ d.get I.LVD.LVT_NS = t ∧ Within (countFlds ++ [I.LVD.LVT_DUE, I.LVD.LVT_NS]) s.dev d) ∧
  (Accepts s src (winAddr wLvd 0x48) 2 → Does (.lvtStop src) s fun d =>
    d.get I.LVD.LVT_END = 1 ∧ Within (countFlds ++ [I.LVD.LVT_END]) s.dev d)

/-- HIST_ACK (R369), UNIT_CLR (R366), FF_VALID_CLEAR (R371) and STICKY_CLEAR (R372), accepted: ACK_SEQ takes the value; the order
for the unit, or for every unit at 0xFF, waits with its time; FF_VALID is 0; the bits written 1 are cleared in the STICKY word and no
other bit of it. -/
def Obligations.FaultCollectorWrites : Prop := ∀ (s : State) (src : Source) (seq : BitVec 16) (unit : BitVec 8) (u : Fin 173) (cls : Fin 16) (word : Fin 8)
    (mask : Word),
  (Accepts s src (winAddr wFlt 0xC) seq.toNat → Does (.histAck src seq) s fun d =>
    d.get R.FLT.ACK_SEQ = seq.toNat ∧ Within (countFlds ++ [R.FLT.ACK_SEQ]) s.dev d) ∧
  (Accepts s src (winAddr wFlt 0x34) unit.toNat → Does (.unitClr src unit) s fun d =>
    ((unit.toNat = u ∨ unit = 255) → d.get I.FLT.CLR_DUE u = 1 ∧ d.get I.FLT.CLR_NS u = s.clk.ns % 2 ^ 64) ∧
    ((unit.toNat ≠ u ∧ unit ≠ 255) → d.get I.FLT.CLR_DUE u = s.dev.get I.FLT.CLR_DUE u) ∧
    Within (countFlds ++ [I.FLT.CLR_DUE, I.FLT.CLR_NS]) s.dev d) ∧
  (Accepts s src (winAddr wFlt 0) (2 ^ 19) → Does (.ffValidClear src) s fun d =>
    (s.dev.get R.FLT.FF_VALID < 2 → d.get R.FLT.FF_VALID = 0) ∧ Within (countFlds ++ [R.FLT.FF_VALID]) s.dev d) ∧
  (Accepts s src (winAddr wFlt (0x400 + 0x20 * cls + 4 * word)) mask.toNat → s.dev.get R.FLT.STICKY (8 * cls + word) < 2 ^ 32 →
    Does (.stickyClear src cls word mask) s fun d =>
      (∀ b < 32, bitOf (d.get R.FLT.STICKY (8 * cls + word)) b =
        if bitOf mask.toNat b = 1 then 0 else bitOf (s.dev.get R.FLT.STICKY (8 * cls + word)) b) ∧
      Within countFlds s.dev d [(R.FLT.STICKY, 8 * cls + word)])

/-- ALIVE, SF_FB_CLR and SF_HOST_DEM, accepted. ALIVE: LEVEL and ALIVE take their bits; a rising ALIVE in HOLD starts the square wave
with the pin high, and in HOLD otherwise the pin follows LEVEL (R374, R375). SF_FB_CLR clears the latches it names in both channels
(R390). SF_HOST_DEM holds the two demands, and one that is new raises instance 22 (R397, R398). -/
def Obligations.SafetyWrites : Prop := ∀ (s : State) (src : Source) (val : Word) (dem : BitVec 2) (fb : BitVec 4) (ch : Fin 2) (f : Fin 4),
  (Accepts s src (winAddr wFlt 0x10) val.toNat → s.dev.get R.FLT.SIGOK_STATE = sigHold → s.dev.get R.FLT.ALIVE = 0 →
    Does (.alive src val) s fun d =>
      d.get R.FLT.ALIVE = bitOf val.toNat 1 ∧ d.get R.FLT.LEVEL = bitOf val.toNat 0 ∧
      (bitOf val.toNat 1 = 1 → d.get R.FLT.SIGOK_STATE = sigAlive ∧ d.get R.FLT.SIGOK_PIN = 1) ∧
      (bitOf val.toNat 1 = 0 → d.get R.FLT.SIGOK_STATE = sigHold ∧ d.get R.FLT.SIGOK_PIN = bitOf val.toNat 0) ∧
      Within (countFlds ++ [R.FLT.ALIVE, R.FLT.LEVEL, R.FLT.SIGOK_STATE, R.FLT.SIGOK_PIN]) s.dev d) ∧
  (Accepts s src (winAddr wSafe 0x10) fb.toNat → bitOf fb.toNat f = 1 → Does (.sfFbClr src fb) s fun d =>
    d.get I.SAFE.FBL (4 * ch + f) = 0 ∧ Within (settleFlds ++ [I.SAFE.FBL]) s.dev d) ∧
  (Accepts s src (winAddr wSafe 0xC) dem.toNat → Does (.sfHostDem src dem) s fun d =>
    d.get R.SAFE.SF_HOST_DEM = dem.toNat ∧
    ((∃ b < 2, bitOf dem.toNat b = 1 ∧ bitOf (s.dev.get R.SAFE.SF_HOST_DEM) b = 0) → Raised d 10 22) ∧
    Within (settleFlds ++ [R.SAFE.SF_HOST_DEM]) s.dev d)

/-- WC_SWCLR (R343), TEASEL_RST (R437), EVJ_SEL (R444), LAN_RESET (R471), TOD_SET_GO (R477) and LEAVE (15_partner_redundancy.md, PART +0x000C), accepted: what they ask
for waits, and nothing else changes.

YIELD (R419), accepted and with no handover under way: when the conditions of a handover hold on this side, it fixes the
handover and tells the partner that this module yields; when they do not, it changes nothing. -/
def Obligations.LaterRequests : Prop :=
  (∀ (s : State) (src : Source) (mask : BitVec 24) (lans : BitVec 2) (jseq : Word) (w : Fin 24) (p : Fin 2),
  (Accepts s src (winAddr wAfe 0x10) mask.toNat → bitOf mask.toNat w = 1 → Does (.wcSwclr src mask) s fun d =>
    bitOf (d.get I.AFE.SWCLR) w = 1 ∧ d.get I.AFE.SWCLR_NS w = s.clk.ns % 2 ^ 64 ∧ Within (countFlds ++ [I.AFE.SWCLR, I.AFE.SWCLR_NS]) s.dev d) ∧
  (Accepts s src (winAddr wTherm 0x200C) 1 → Does (.teaselRst src) s fun d =>
    d.get I.THERM.RST_DUE (s.dev.get R.THERM.TEASEL_SEL) = 1 ∧ Within countFlds s.dev d [(I.THERM.RST_DUE, s.dev.get R.THERM.TEASEL_SEL)]) ∧
  (Accepts s src (winAddr wTherm 0x3000) jseq.toNat → Does (.evjSel src jseq) s fun d =>
    d.get R.THERM.EVJ_SEL = jseq.toNat ∧ d.get R.THERM.EVJ_STAT = 0 ∧ d.get I.THERM.EVJ_WANT = 1 ∧
    Within (countFlds ++ [R.THERM.EVJ_SEL, R.THERM.EVJ_STAT, I.THERM.EVJ_WANT]) s.dev d) ∧
  (Accepts s src (winAddr wNet 0x38) lans.toNat → bitOf lans.toNat p = 1 → Does (.lanReset src lans) s fun d =>
    d.get I.NET.RST_DUE p = 1 ∧ Within (countFlds ++ [I.NET.RST_DUE]) s.dev d) ∧
  (Accepts s src (winAddr wNet 0x44) 1 → Does (.todSetGo src) s fun d =>
    d.get I.NET.SET_DUE = 1 ∧ d.get I.NET.SET_SEC = (s.dev.get R.NET.TOD_SET_LO + 2 ^ 32 * s.dev.get R.NET.TOD_SET_HI) % 2 ^ 64 ∧
    Within (countFlds ++ [I.NET.SET_DUE, I.NET.SET_SEC]) s.dev d) ∧
  (Accepts s src (winAddr wPart 0xC) (4 + s.dev.partCtl) → Does (.leave src) s fun d =>
    d.get I.PART.LEAVE_DUE = 1 ∧ d.get R.PART.TB_INHIBIT = s.dev.get R.PART.TB_INHIBIT % 2 ∧
    Within (countFlds ++ [I.PART.LEAVE_DUE]) s.dev d [(R.PART.TB_INHIBIT, 0)])) ∧
  (∀ (s : State) (src : Source),
  Accepts s src (winAddr wPart 0xC) (2 + s.dev.partCtl) → s.dev.get I.PART.HAND = 0 →
  (s.dev.yieldFits = true → Does (.yield src) s fun d =>
    d.get R.PART.HANDOVER_PEND = 1 ∧ d.get I.PART.H_YIELD = 1 ∧
    d.outbox = s.dev.outbox ++ [.takebackConfirm (s.dev.get R.TB.FRAME_NO_LIVE) true] ∧
    Within (countFlds ++ [I.PART.HAND, I.PART.H_FRAME, I.PART.H_YIELD, R.PART.HANDOVER_PEND, R.PART.TB_INHIBIT]) s.dev d) ∧
  (s.dev.yieldFits = false → Does (.yield src) s fun d =>
    d.outbox = s.dev.outbox ∧ Within (countFlds ++ [R.PART.TB_INHIBIT]) s.dev d))

/-- SEQ_SWTRIG (R334), accepted with one bit: an idle sequencer starts its run at its delay after the trigger, a busy one with QUEUE1
queues the first trigger; every other bit's sequencer stays as it was.

REGISTER_WRITE of a word of the timebase, Calender or control engine windows (R9), accepted: each direct RW field of the word takes
the bits that stand at its place, and no other register changes; an RO field keeps its value whatever is written. -/
def Obligations.RegisterWrites : Prop :=
  (∀ (s : State) (src : Source) (n : Fin 8),
  Accepts s src (winAddr wAfe 0x18) (2 ^ n.val) → s.dev.afeRuns = true → s.dev.get R.AFE.SEQ_NENT n ≠ 0 →
  (s.dev.is R.AFE.SEQ_BUSY n = false → Does (.seqSwtrig src (BitVec.ofNat 8 (2 ^ n.val))) s fun d =>
    d.get R.AFE.SEQ_BUSY n = 1 ∧ d.get I.AFE.STEP n = 0 ∧
    Within countFlds s.dev d ([R.AFE.SEQ_BUSY, I.AFE.STEP, I.AFE.TRIG_NS, I.AFE.READY_NS, I.AFE.FRAME_RUN, I.AFE.LATE_RUN, I.AFE.RUN_FAIL,
      I.AFE.WAIT].map (fun f => (f, n.val)))) ∧
  (s.dev.is R.AFE.SEQ_BUSY n = true → s.dev.is R.AFE.SEQ_QUEUE1 n = true → s.dev.is R.AFE.SEQ_QUEUED n = false →
    Does (.seqSwtrig src (BitVec.ofNat 8 (2 ^ n.val))) s fun d =>
      d.get R.AFE.SEQ_QUEUED n = 1 ∧ d.get I.AFE.QTRIG_NS n = s.clk.ns % 2 ^ 64 ∧
      Within countFlds s.dev d [(R.AFE.SEQ_QUEUED, n.val), (I.AFE.QTRIG_NS, n.val)])) ∧
  (∀ (s : State) (src : Source) (off : BitVec 22) (be : BitVec 4) (val : Word) (w o : Nat),
  winOf off.toNat = some (w, o) → w = wTb ∨ w = wCal ∨ w = wCe → Accepts s src off.toNat val.toNat be.toNat →
  Does (.registerWrite src off be val) s fun d =>
    (∀ f k, (f, k) ∈ s.dev.regs.word w o (srcIx src) → f.acc = .rw → f.direct = true → d.get f k = bitsOf val.toNat f.hi f.lo) ∧
    Within countFlds s.dev d ((s.dev.regs.word w o (srcIx src)).filter (fun p => p.1.acc = .rw && p.1.direct || p.1.acc = .w1c)))

/-- What a rejection writes: the source's error record and its summary bit (R47, R48). -/
def Sys2Proof.Machine.Claim.rejectFlds : List Fld :=
  [R.HIF.ERR_VALID, R.HIF.ERR_COUNT, R.HIF.ERR_CODE, R.HIF.ERR_DETAIL, R.HIF.ERR_OFFSET, R.HIF.ERR_IMPLICIT, R.HIF.SUM_LAST_ERR]

/-- The rejection of an access of a source is recorded: VALID, code, detail and offset, one more rejection counted up to the end of its
range, LAST_ERR in the source's own summary, and no other source's record (R47, R48). -/
def Sys2Proof.Machine.Claim.Recorded (s : State) (src : Source) (e : Err) (off : Nat) (d : Dev) : Prop :=
  let i := srcIx src
  d.get R.HIF.ERR_VALID i = 1 ∧ d.get R.HIF.ERR_CODE i = e.code % 256 ∧ d.get R.HIF.ERR_DETAIL i = e.detail % 256 ∧
  d.get R.HIF.ERR_OFFSET i = off % 2 ^ 22 ∧ d.get R.HIF.ERR_COUNT i = min (s.dev.get R.HIF.ERR_COUNT i + 1) 255 ∧
  d.get R.HIF.SUM_LAST_ERR i = 1 ∧ Within countFlds s.dev d (Claim.rejectFlds.map (fun f => (f, i)))

/-- A write of PF0 or PF1 that breaks rules is rejected with the first of its errors in the order of R46, and has no effect but its
record (R6, R46, R47). Stated of every register but REAM_SWAP_CTL, where a GO that finds its slot unchecked also starts the check. -/
def Obligations.RejectedWrite : Prop := ∀ (s : State) (src : Source) (off : BitVec 22) (be : BitVec 4) (val : Word) (e : Err),
  src ≠ .cspi → s.dev.hostUp src = true → off.toNat ≠ winAddr wReam 0x50 →
  firstErr ((s.dev.counted src).writeErrs s.clk.ns src off.toNat be.toNat val.toNat) = some e →
  Does (.registerWrite src off be val) s (Claim.Recorded s src e off.toNat)

/-- PF0 reaches the module in a mode other than BOOT and MIRROR. -/
def Sys2Proof.Machine.Claim.HostReaches (s : State) : Prop := s.dev.hostUp .pf0 = true ∧ s.dev.mode ≠ .boot ∧ s.dev.mode ≠ .mirror

/-- When a write of PF0 that starts something is accepted: exactly under the conditions that the rule of its register names. STAGE_OPEN
with the area free and TXN equal to NEXT_TXN (R56, R57); TEST_GO and LVT_GO in TEST with a pattern (R240, R324); HB_CLR of a used
half-bridge in no soft turn-off (R322); CLR_GO of a used slot with a mask and no clear in progress; RETRAIN in IDLE or TEST (R181);
ASYM_CLR once the ratio is back under the threshold (R176); UNIT_CLR of a unit or of all (R366). ACQ, REL and LAST_ERR_CLEAR always. -/
def Obligations.WhenAccepted : Prop := ∀ (s : State), Claim.HostReaches s →
  ∀ (txn mask : BitVec 16) (k : Fin 8) (c : Fin 144) (r : Fin 6) (u : BitVec 8),
  Accepts s .pf0 (winAddr wHif 0xC) (2 ^ 24) ∧ Accepts s .pf0 (winAddr wSnap 0) 1 ∧ Accepts s .pf0 (winAddr wSnap 0) 2 ∧
  (Accepts s .pf0 (winAddr wStage 0) txn.toNat ↔
    s.dev.get R.STAGE.STAGE_STAT_STATE = 0 ∧ txn.toNat = s.dev.get R.STAGE.STAGE_STAT_NEXT_TXN) ∧
  (Accepts s .pf0 (winAddr wMod 0x3C) 1 ↔ s.dev.mode = .test ∧ s.dev.get R.MOD.TEST_PAT ≠ 0) ∧
  (Accepts s .pf0 (winAddr wLvd 0x48) 1 ↔
    s.dev.mode = .test ∧ s.dev.get R.LVD.LVT_PAT ≠ 0 ∧ s.dev.lvtMaskBad (s.dev.get R.LVD.LVT_MASK) = false) ∧
  (Accepts s .pf0 (winAddr wLvd (0x110 + 0x20 * k)) 1 ↔ s.dev.softIn k = false ∧ s.dev.hbUsed k = true) ∧
  (Accepts s .pf0 (winAddr wCell (0x3C + 0x40 * c)) (65536 * mask.toNat + 1) ↔
    mask.toNat ≠ 0 ∧ s.dev.get R.CELL.CLR_RESULT c ≠ 1 ∧ s.dev.cellUsed c = true) ∧
  (Accepts s .pf0 (winAddr wFelt (0x128 + 0x40 * r)) 1 ↔
    (s.dev.mode = .idle ∨ s.dev.mode = .test) ∧ (s.dev.is R.FELT.SUPERSEDED = true → s.dev.strapped = true)) ∧
  (Accepts s .pf0 (winAddr wFelt (0x128 + 0x40 * r)) 2 ↔ s.dev.asymBack r = true) ∧
  (Accepts s .pf0 (winAddr wFlt 0x34) u.toNat ↔ u.toNat < 173 ∨ u.toNat = 255)

/-! Reads, and what happens on the host interface. -/

/-- A read that PF0 or PF1 makes outside its rights or not as a whole word is answered with a successful completion of zero data, and
reported only through HIF_LAST_ERR (R6, R39): the data, and the frame of a record. BAR2 the same, with the code of the read (R40). -/
def Obligations.RejectedRead : Prop := ∀ (s : State) (src : Source) (off : BitVec 22) (be : BitVec 4) (fn : Fn) (o len : Nat) (e : Err),
  (src ≠ .cspi → s.dev.hostUp src = true →
    firstErr (s.dev.readPriv src off.toNat ++ alignErrs off.toNat be.toNat) = some e →
    ∀ c, (c = .readRejected src off be ∨ (c = .readClear src off ∧ be = 15)) → Gives c s fun t =>
      t.dev.answer = ⟨src, false, [0]⟩ ∧ Claim.Recorded { s with dev := { s.dev with answer := t.dev.answer } } src e off.toNat t.dev ∧
      t.clk = s.clk ∧ t.otp = s.otp ∧ t.pending = s.pending) ∧
  (s.dev.hostUp (fnSrc fn) = true → firstErr (bar2Errs o len) = some e → Gives (.bar2Read fn o len) s fun t =>
    t.dev.answer.src = fnSrc fn ∧ t.dev.answer.abort = false ∧ (∀ x ∈ t.dev.answer.data, x = 0) ∧
    Claim.Recorded { s with dev := { s.dev with answer := t.dev.answer } } (fnSrc fn) e o t.dev ∧
    t.clk = s.clk ∧ t.otp = s.otp ∧ t.pending = s.pending)

/-- HIF_SUMMARY_READ by PF0 or PF1 returns the source's own copy and clears it, and no other source's (R48).

READ_CLEAR by PF0 or PF1 with the right to read: the answer is the word as it reads, its RC fields are 0 afterwards and nothing else
changes (R9). -/
def Obligations.ReadsThatClear : Prop :=
  (∀ (s : State) (src : Source), src ≠ .cspi → s.dev.hostUp src = true →
  Gives (.hifSummaryRead src) s fun t =>
    t.dev.answer = ⟨src, false, [summaryFlds.foldl (fun v f => v + s.dev.get f (srcIx src) * 2 ^ f.lo) 0]⟩ ∧
    (∀ f ∈ summaryFlds, t.dev.get f (srcIx src) = 0) ∧
    Frame countFlds { s with dev := { s.dev with answer := t.dev.answer } } t (summaryFlds.map (fun f => (f, srcIx src)))) ∧
  (∀ (s : State) (src : Source) (off : BitVec 22) (w o : Nat), src ≠ .cspi → s.dev.hostUp src = true →
  s.dev.readPriv src off.toNat = [] → off.toNat % 4 = 0 → winOf off.toNat = some (w, o) →
  Gives (.readClear src off) s fun t =>
    t.dev.answer = ⟨src, false, [(s.dev.readCounted src).readValue s.otp s.clk src off.toNat]⟩ ∧
    (∀ f k, (f, k) ∈ s.dev.regs.word w o (srcIx src) → f.acc = .rc → t.dev.get f k = 0) ∧
    Frame countFlds { s with dev := { s.dev with answer := t.dev.answer } } t
      ((s.dev.regs.word w o (srcIx src)).filter (fun p => p.1.acc = .rc)))

/-- BAR2_READ of whole words inside the bank returns the words of the visible bank (R40, R49); BAR2_WRITE is rejected, with E_PRIV for
PF1 and E_RANGE for PF0 (R40, R44, R46).

INTERCONNECT_TIMEOUT and COMPLETION_TIMEOUT: the read ends with a Completer Abort; E_INTERNAL with the directory index of the block,
or E_TIMEOUT with detail 0x03, stands in the error record of the source, and the instances are raised (R38, R354, R355). -/
def Obligations.BanksAndAborts : Prop :=
  (∀ (s : State) (fn : Fn), s.dev.hostUp (fnSrc fn) = true →
  (∀ off len, off % 4 = 0 → len % 4 = 0 → 0 < len → len ≤ 512 → off + len ≤ 2 ^ 18 → Gives (.bar2Read fn off len) s fun t =>
    t.dev.answer = ⟨fnSrc fn, false, (List.range (len / 4)).map (fun i => s.dev.visible.word (fn = .pf0 || s.dev.is R.PERF.PERF_USER_EN) (off + 4 * i))⟩ ∧
    Frame countFlds { s with dev := { s.dev with answer := t.dev.answer } } t) ∧
  (∀ off : BitVec 18, Gives (.bar2Write fn off) s fun t =>
    Claim.Recorded s (fnSrc fn) (if fn = .pf1 then ⟨8, 1⟩ else ⟨1, 0xFF⟩) off.toNat t.dev ∧ t.clk = s.clk ∧ t.otp = s.otp ∧ t.pending = s.pending)) ∧
  (∀ (s : State) (fn : Fn) (off : BitVec 22) (w o : Nat), s.dev.hostUp (fnSrc fn) = true →
  (winOf off.toNat = some (w, o) → Does (.interconnectTimeout fn off) s fun d =>
    d.answer = ⟨fnSrc fn, true, []⟩ ∧ d.get R.HIF.ERR_CODE (srcIx (fnSrc fn)) = 15 ∧ d.get R.HIF.ERR_DETAIL (srcIx (fnSrc fn)) = w ∧
    Raised d 15 5 ∧ Raised d 1 2 ∧
    Within raiseFlds { s.dev with answer := d.answer } d (Claim.rejectFlds.map (fun f => (f, srcIx (fnSrc fn))))) ∧
  (Does (.completionTimeout fn off) s fun d =>
    d.answer = ⟨fnSrc fn, true, []⟩ ∧ d.get R.HIF.ERR_CODE (srcIx (fnSrc fn)) = 13 ∧ d.get R.HIF.ERR_DETAIL (srcIx (fnSrc fn)) = 3 ∧
    Raised d 1 2 ∧ Within raiseFlds { s.dev with answer := d.answer } d (Claim.rejectFlds.map (fun f => (f, srcIx (fnSrc fn))))))

/-- A source is reset: its lease and its error record are gone and every bit of its summary is set (R41); the two bits that a raising
sets too are left to the statements of raising. -/
def Sys2Proof.Machine.Claim.SourceClean (d : Dev) (i : Nat) : Prop :=
  d.get R.SNAP.HELD i = 0 ∧ (∀ f ∈ Claim.errFlds, d.get f i = 0) ∧ (∀ f ∈ summaryFlds, hasFld raiseFlds f = false → d.get f i = 1)

/-- What the reset of a source may write of that source, and of the staged set it owns. -/
def Sys2Proof.Machine.Claim.sourceEls (i : Nat) : List (Fld × Nat) := (R.SNAP.HELD :: Claim.errFlds ++ summaryFlds).map (fun f => (f, i))

/-- SOURCE_RESET and NPERST_ASSERT reset the host-interface state of their sources alone: a set that the source owned is discarded with
E_TIMEOUT, and another source's set stays (R41, R517). A link-down raises instance 0 once (R354).

PCIE_LINK_TRAINED (R36, R354), MALFORMED_REQUEST (R354), PCIE_READY (R141): the link's generation and lanes are taken, and below
Gen3 x2 instance 1 holds; instance 5 is raised; the endpoint is ready. -/
def Obligations.LinkAndSources : Prop :=
  (∀ (s : State) (fn : Fn), s.dev.supervised = true →
  (∀ cause, cause ≠ .linkDown → Does (.sourceReset fn cause) s fun d =>
    Claim.SourceClean d (srcIx (fnSrc fn)) ∧ (∀ f ∈ summaryFlds, d.get f (srcIx (fnSrc fn)) = 1) ∧
    (s.dev.stageOwner = fnSrc fn → d.get R.STAGE.STAGE_STAT_STATE = 0) ∧
    (s.dev.stageOwner = fnSrc fn → s.dev.is R.STAGE.STAGE_STAT_STATE = true →
      d.get R.STAGE.STAGE_RESULT_CODE = 13 ∧ d.get R.STAGE.STAGE_RESULT_DETAIL = 2) ∧
    (s.dev.stageOwner ≠ fnSrc fn → Within [] s.dev d (Claim.sourceEls (srcIx (fnSrc fn)))) ∧
    Within Claim.resultFlds s.dev d (Claim.sourceEls (srcIx (fnSrc fn)))) ∧
  (Does (.sourceReset fn .linkDown) s fun d =>
    Claim.SourceClean d (srcIx (fnSrc fn)) ∧ d.get I.HIF.LINK_DN = 1 ∧ (s.dev.is I.HIF.LINK_DN = false → Raised d 1 0) ∧
    Within (raiseFlds ++ Claim.resultFlds ++ [I.HIF.LINK_GEN, I.HIF.LINK_LANES, I.HIF.LINK_DN]) s.dev d (Claim.sourceEls (srcIx (fnSrc fn)))) ∧
  (Does .nperstAssert s fun d =>
    Claim.SourceClean d 0 ∧ Claim.SourceClean d 1 ∧ d.get I.HIF.LINK_DN = 1 ∧ (s.dev.is I.HIF.LINK_DN = false → Raised d 1 0) ∧
    Within (raiseFlds ++ Claim.resultFlds ++ [I.HIF.LINK_GEN, I.HIF.LINK_LANES, I.HIF.LINK_DN]) s.dev d
      (Claim.sourceEls 0 ++ Claim.sourceEls 1))) ∧
  (∀ (s : State) (fn : Fn) (gen lanes : BitVec 4), s.dev.supervised = true →
  (Does (.pcieLinkTrained gen lanes) s fun d =>
    d.get I.HIF.LINK_GEN = gen.toNat ∧ d.get I.HIF.LINK_LANES = lanes.toNat ∧ d.get I.HIF.LINK_DN = 0 ∧
    (gen.toNat < 3 ∨ lanes.toNat < 2 → Raised d 1 1) ∧
    Within (raiseFlds ++ [I.HIF.LINK_GEN, I.HIF.LINK_LANES, I.HIF.LINK_DN]) s.dev d) ∧
  (s.dev.hostUp (fnSrc fn) = true → Does (.malformedRequest fn) s fun d => Raised d 1 5 ∧ Within raiseFlds s.dev d) ∧
  (Gives .pcieReady s fun t => t.dev.get I.HIF.READY = 1 ∧ Frame [I.HIF.READY] s t))

/-- LAST_ERR_CLEAR, ACQ and REL by a source whose write is accepted change that source's own registers and no other's: its error record
is cleared (R47), its lease taken (R51) or released (R52).

LEASE_EXPIRY ends a held lease: EXPIRED and LEASE_EXP for its source, one expiry counted up to the end of the counter, instance 3
(R52, R354). -/
def Obligations.Leases : Prop :=
  (∀ (s : State) (src : Source),
  (Accepts s src (winAddr wHif 0xC) (2 ^ 24) → Does (.lastErrClear src) s fun d =>
    (∀ f ∈ Claim.errFlds, d.get f (srcIx src) = 0) ∧ Within countFlds s.dev d (Claim.errFlds.map (fun f => (f, srcIx src)))) ∧
  (Accepts s src (winAddr wSnap 0) 1 → Does (.acq src) s fun d =>
    d.get R.SNAP.HELD (srcIx src) = 1 ∧ Within countFlds s.dev d [(R.SNAP.HELD, srcIx src)]) ∧
  (Accepts s src (winAddr wSnap 0) 2 → Does (.rel src) s fun d =>
    d.get R.SNAP.HELD (srcIx src) = 0 ∧ Within countFlds s.dev d [(R.SNAP.HELD, srcIx src)])) ∧
  (∀ (s : State) (src : Source),
  (s.dev.is R.SNAP.HELD (srcIx src) = true → Does (.leaseExpiry src) s fun d =>
    d.get R.SNAP.HELD (srcIx src) = 0 ∧ d.get R.SNAP.EXPIRED (srcIx src) = 1 ∧ d.get R.HIF.SUM_LEASE_EXP (srcIx src) = 1 ∧
    d.get R.SNAP.LEASE_EXP_CNT = min (s.dev.get R.SNAP.LEASE_EXP_CNT + 1) 65535 ∧ Raised d 1 3 ∧
    Within (raiseFlds ++ [R.SNAP.LEASE_EXP_CNT]) s.dev d ([R.SNAP.HELD, R.SNAP.EXPIRED, R.HIF.SUM_LEASE_EXP].map (fun f => (f, srcIx src)))))

/-- STAGE_OPEN_TIMEOUT, the passing of the 100 ms: a set that is still open is discarded, with E_TIMEOUT detail 0x01 in STAGE_RESULT,
STAGE_DISCARD in its owner's HIF_SUMMARY and instance 4 raised; a set that is not open, committed or none, is not subject to it (R62). -/
def Obligations.OpenTimeout : Prop := ∀ (s : State),
  (s.dev.get R.STAGE.STAGE_STAT_STATE = 1 → Does .stageOpenTimeout s fun d =>
    d.get R.STAGE.STAGE_STAT_STATE = 0 ∧ d.get R.STAGE.STAGE_STAT_NEXT_TXN = (s.dev.get R.STAGE.STAGE_STAT_NEXT_TXN + 1) % 65536 ∧
    d.get R.STAGE.STAGE_RESULT_CODE = 13 ∧ d.get R.STAGE.STAGE_RESULT_DETAIL = 1 ∧
    d.get R.HIF.SUM_STAGE_DISCARD (srcIx s.dev.stageOwner) = 1 ∧ d.get R.HIF.SUM_STAGE_DONE (srcIx s.dev.stageOwner) = 1 ∧ Raised d 1 4 ∧
    Within (raiseFlds ++ Claim.resultFlds) s.dev d
      ([R.HIF.SUM_STAGE_DISCARD, R.HIF.SUM_STAGE_DONE].map (fun f => (f, srcIx s.dev.stageOwner)))) ∧
  (s.dev.get R.STAGE.STAGE_STAT_STATE ≠ 1 → exec .stageOpenTimeout s = .next s)

/-! CSPI. -/

/-- CSPI_CS_FALL starts a transaction and takes the lease of CSPI; CSPI_CS_RISE ends both, and a transaction that staged words leaves
them as one implicit set behind those that wait; a seventeenth is rejected with E_FULL and raises instance 7; a rise inside a word
raises instance 6 (R70, R71, R354). -/
def Obligations.CspiTransaction : Prop := ∀ (s : State) (insideWord : Bool),
  (s.dev.hostUp .cspi = true → s.dev.cspi = none → Gives .cspiCsFall s fun t =>
    t.dev.cspi = some ⟨[], 0⟩ ∧ t.dev.get R.SNAP.HELD 2 = 1 ∧ Frame [] { s with dev := { s.dev with cspi := t.dev.cspi } } t [(R.SNAP.HELD, 2)]) ∧
  (∀ x, s.dev.cspi = some x → Does (.cspiCsRise insideWord) s fun d =>
    d.cspi = none ∧ d.get R.SNAP.HELD 2 = 0 ∧ (insideWord = true → Raised d 1 6) ∧
    (x.staged = [] → d.implicit = s.dev.implicit) ∧
    (x.staged ≠ [] → s.dev.implicit.length < 16 → d.implicit = s.dev.implicit ++ [⟨x.staged, s.clk.ns⟩]) ∧
    (∀ it l, x.staged = it :: l → 16 ≤ s.dev.implicit.length → d.implicit = s.dev.implicit ∧ Raised d 1 7 ∧
      d.get R.HIF.ERR_CODE 2 = 14 ∧ d.get R.HIF.ERR_DETAIL 2 = 0 ∧ d.get R.HIF.ERR_OFFSET 2 = it.1 % 2 ^ 22) ∧
    Within raiseFlds { s.dev with cspi := none, implicit := d.implicit } d
      ((R.SNAP.HELD :: Claim.rejectFlds).map (fun f => (f, 2))))

/-- A CSPI read of words of the subset outside HIF, in a transaction, answers each from the visible bank and changes nothing (R55, R69,
R70); both widths transfer the same words.

A CSPI write of words that hold staged parameters, in a transaction outside MIRROR and BOOT, gathers them in order for the implicit
set, answers the status of the transaction and changes no register (R69, R71); of a word that holds none and is accepted, it is a direct
write; both widths transfer the same words. More than 256 words no transaction carries: the model stops. -/
def Obligations.CspiAccesses : Prop :=
  (∀ (s : State) (addr : BitVec 16) (n : Fin 257) (a : Nat → Nat),
  exec (.cspiReadQuad addr n) s = exec (.cspiRead4wire addr n) s ∧
  (s.dev.hostUp .cspi = true → s.dev.cspi.isSome = true →
    (∀ k < n.val, cspiRange ((addr.toNat + k) % 65536) = true ∧ cspiAddr ((addr.toNat + k) % 65536) = some (a k) ∧ 0x10000 ≤ a k) →
    exec (.cspiRead4wire addr n) s = .next { s with dev := { s.dev with answer := ⟨.cspi, false, (List.range n).map (fun k =>
      match winOf (a k) with
      | some (w, o) => s.dev.visible.regs.readWord w o 2
      | none => 0)⟩ } })) ∧
  (∀ (s : State) (addr : BitVec 16) (words : List Word) (a : Nat → Nat) (x : CspiTxn) (v : Word),
  exec (.cspiWriteQuad addr words) s = exec (.cspiWrite4wire addr words) s ∧
  (256 < words.length → exec (.cspiWrite4wire addr words) s = .fault .illFormed) ∧
  (s.dev.hostUp .cspi = true → s.dev.cspi = some x → s.dev.mode ≠ .mirror → s.dev.mode ≠ .boot →
    (words.length ≤ 256 →
      (∀ k < words.length, cspiRange ((addr.toNat + k) % 65536) = true ∧ cspiAddr ((addr.toNat + k) % 65536) = some (a k) ∧
        s.dev.stagedWord (a k) = true ∧ inSubset (a k) = true) →
      Does (.cspiWrite4wire addr words) s fun d =>
        d = { s.dev with cspi := some { x with staged := x.staged ++ words.mapIdx (fun k v => (a k, v.toNat)) }, answer := ⟨.cspi, false, [x.status]⟩ }) ∧
    (∀ b, cspiRange addr.toNat = true → cspiAddr addr.toNat = some b → s.dev.stagedWord b = false → s.dev.writeErrs s.clk.ns .cspi b 0xF v.toNat = [] →
      Does (.cspiWrite4wire addr [v]) s fun d =>
        ∀ f k, d.get f k = (s.dev.writeAct s.clk.ns .cspi b v.toNat).get f k) ∧
    (words.length ≤ 256 → Does (.cspiWrite4wire addr words) s fun d =>
      ∃ e, e = words.zipIdx.foldl (fun d p => d.cspiPut s.clk.ns ((addr.toNat + p.2) % 65536) p.1.toNat) s.dev ∧
        d = { e with answer := ⟨.cspi, false, [(e.cspi.map (fun y => y.status)).getD 0]⟩ })))

/-! Power, reset and the boot sequence (05_modes_startup.md). -/

/-- The registers that showing the slots' descriptors writes (R109). -/
def Sys2Proof.Machine.Claim.slotFlds : List Fld :=
  [R.REAM.PREF, R.REAM.SLOT_STATE, R.REAM.SLOT_LENGTH, R.REAM.SLOT_IMAGE_ID, R.REAM.SLOT_DECL_CLASS, R.REAM.SLOT_SEC_VER, R.REAM.SLOT_PREF]

/-- VIN_ON leaves BACKUP: step 1 of BOOT, every register at its reset value but those of the slots, the pins and the keep-alive count,
and TB at 0; the flash and the fuses keep their contents (R140). POWER_FAIL ends in BACKUP, where only the keep-alive domain and the
flash hold anything (R133, R143, R144). -/
def Obligations.PowerUpAndDown : Prop := ∀ (s : State) (vbatOk : Bool) (ka : Nat),
  (s.dev.mode = .backup → Gives (.vinOn vbatOk ka) s fun t =>
    t.dev.get R.MODE.STATE = 1 ∧ t.dev.get I.MODE.BOOT_STEP = 1 ∧ t.dev.get I.MODE.VBAT_BAD = (!vbatOk).toNat ∧
    t.dev.ret.kaCnt = (s.dev.ret.kaCnt + ka) % 2 ^ 48 ∧ t.dev.nvm = s.dev.nvm ∧ t.clk = ⟨0, 0, 0, 0⟩ ∧ t.otp = s.otp ∧ t.pending = s.pending ∧
    Within (Claim.slotFlds ++ [R.PART.STRAP, I.MODE.VBAT_BAD, R.LVD.DRV_EN_PIN, R.MODE.KA_CNT_LO, R.MODE.KA_CNT_HI])
      { Dev.reset with nvm := t.dev.nvm, ret := t.dev.ret } t.dev) ∧
  (s.dev.mode ≠ .backup → Gives .powerFail s fun t =>
    t.dev.get R.MODE.STATE = 0 ∧ t.dev.get I.MODE.BOOT_STEP = 0 ∧ t.dev.nvm.mem = s.dev.nvm.mem ∧ t.dev.nvm.pfail.isSome = true ∧
    t.dev.nvm.queue = [] ∧ t.dev.nvm.cur = none ∧ t.clk = s.clk ∧ t.otp = s.otp ∧ t.pending = s.pending ∧
    Within [R.PART.STRAP, R.LVD.DRV_EN_PIN, R.MODE.PREV, R.MODE.STATE, I.MODE.BOOT_STEP] { Dev.reset with nvm := t.dev.nvm, ret := t.dev.ret } t.dev)

/-- What the boot sequence from step 2 writes (R146, R374): SIG_OK gives its pulse. -/
def Sys2Proof.Machine.Claim.BootAgain (d : Dev) (cause : Nat) : Prop :=
  d.get I.MODE.IN_RESET = 0 ∧ d.get I.MODE.BOOT_STEP = 2 ∧ d.get I.MODE.CAUSE = cause ∧ d.get R.FLT.SIGOK_STATE = sigPulse ∧ d.get R.FLT.SIGOK_PIN = 0

def Sys2Proof.Machine.Claim.bootFlds : List Fld := [I.MODE.IN_RESET, I.MODE.BOOT_STEP, I.MODE.CAUSE, R.FLT.SIGOK_STATE, R.FLT.SIGOK_PIN, I.MODE.NRST]

/-- NRESET_ASSERT, NRESET_RELEASE, NRESET_STUCK and NRESET_UNMASK (R146, R147), WATCHDOG_HALF and WATCHDOG_RESET (R146, R154, R355): the
reset puts every register to its reset value but those of the keep-alive domain, the clocks, the pins and Yarrow, keeps the flash, and
stops TB's frame count; release and watchdog run BOOT again from step 2 with their cause; a held pin is masked after 30 s. -/
def Obligations.Resets : Prop := ∀ (s : State),
  (s.dev.mode ≠ .backup → s.dev.get I.MODE.NRST = 0 → ∃ d, exec .nresetAssert s = .next { s with clk := { s.clk with sub := 0, cyc := 0 }, dev := d.settle s.clk.ns } ∧
    d.get I.MODE.IN_RESET = 1 ∧ d.get I.MODE.NRST = 1 ∧ d.get R.MODE.STATE = 1 ∧ d.nvm.mem = s.dev.nvm.mem ∧ d.ret = s.dev.ret ∧
    d.get R.TB.PLL_T_LOCK = s.dev.get R.TB.PLL_T_LOCK % 2 ∧ d.get R.MODE.LAST_CAUSE = s.dev.get R.MODE.LAST_CAUSE % 2 ^ R.MODE.LAST_CAUSE.width ∧
    Within (Claim.slotFlds ++ keptFlds.map (fun p => p.1) ++ [I.MODE.IN_RESET, R.LVD.HB_OUT, R.LVD.HB_FIT, R.LVD.HB_FLT])
      { Dev.reset with nvm := d.nvm, ret := d.ret } d) ∧
  (s.dev.get I.MODE.NRST = 1 → Does .nresetRelease s fun d =>
    d.get I.MODE.NRST = 0 ∧ Claim.BootAgain d 3 ∧ Within Claim.bootFlds s.dev d) ∧
  (s.dev.get I.MODE.NRST = 1 → Does .nresetStuck s fun d =>
    d.get I.MODE.NRST = 2 ∧ d.get I.MODE.IN_RESET = 0 ∧ d.get I.MODE.BOOT_STEP = 2 ∧ d.get I.MODE.CAUSE = 4 ∧ d.get R.MODE.NRST_MASKED = 1 ∧
    d.get R.MODE.RST_STUCK = 1 ∧ (∀ i < 3, d.get R.HIF.SUM_RST_STUCK i = 1) ∧ Raised d 3 4 ∧
    Within (raiseFlds ++ Claim.bootFlds ++ [R.MODE.NRST_MASKED, R.MODE.RST_STUCK, R.HIF.SUM_RST_STUCK]) s.dev d) ∧
  (s.dev.get I.MODE.NRST = 2 → Gives .nresetUnmask s fun t =>
    t.dev.get I.MODE.NRST = 0 ∧ t.dev.get R.MODE.NRST_MASKED = 0 ∧ Frame [I.MODE.NRST, R.MODE.NRST_MASKED] s t) ∧
  (s.dev.supervised = true → Does .watchdogHalf s fun d => Raised d 15 6 ∧ Within raiseFlds s.dev d) ∧
  (s.dev.supervised = true → ∃ d, exec .watchdogReset s = .next { s with clk := { s.clk with sub := 0, cyc := 0 }, dev := d.settle s.clk.ns } ∧
    d.get I.MODE.BOOT_STEP = 2 ∧ d.get I.MODE.CAUSE = 5 ∧ d.get R.MODE.STATE = 1 ∧ Raised d 3 10 ∧ d.nvm.mem = s.dev.nvm.mem)

/-- Retention is valid: its CRC matches and VBAT held (R143). -/
def Sys2Proof.Machine.Claim.RetValid (d : Dev) : Prop := d.ret.crc = crc32 d.ret.bytes ∧ d.get I.MODE.VBAT_BAD = 0

/-- BOOT_RAILS_UP, BOOT_PLL_LOCK, PLL_LOCK_RETRY and PLL_LOCK_TIMEOUT (R140, R143, R154): step 1 ends with the pulse of SIG_OK; lock
takes the sequence to step 4 with the Deckle running and retention taken, or cleared with instance 9 where it is not valid; a retry
changes nothing; the time over raises instance 8 and BOOT stays at step 2.

JOURNAL_RECOVERED, SORREL_SELF_TEST_DONE, REAM_LOAD_DONE and REAM_CHECK_TIMEOUT (R140, R393, R443, R114): each ends its step; a
self-test that failed raises instance 20; the slot whose check took too long records E_AUTH with detail 0x08. -/
def Obligations.BootSequence : Prop :=
  (∀ (s : State),
  (s.dev.bootAt 1 = true → Does .bootRailsUp s fun d =>
    d.get I.MODE.BOOT_STEP = 2 ∧ d.get R.AFE.CONV_OK = 15 ∧ d.get R.SAFE.YSUP_OK = 1 ∧ d.get R.FLT.SIGOK_STATE = sigPulse ∧ d.get R.FLT.SIGOK_PIN = 0 ∧
    Within [I.MODE.BOOT_STEP, R.AFE.CONV_OK, R.SAFE.YSUP_OK, R.FLT.SIGOK_STATE, R.FLT.SIGOK_PIN] s.dev d) ∧
  (s.dev.bootAt 2 = true → Gives .bootPllLock s fun t =>
    t.dev.get I.MODE.BOOT_STEP = 4 ∧ t.dev.get R.TB.PLL_T_LOCK = 1 ∧ t.dev.get R.TB.PLL_N_LOCK = 1 ∧ t.dev.get R.TB.PLL_S_LOCK = 1 ∧
    t.dev.get R.TB.ROOT_OK = 1 ∧ t.dev.is R.TB.DECKLE_RUN = true ∧
    (Claim.RetValid s.dev → t.dev.get R.MODE.RET_VALID = 1 ∧ t.dev.get R.TB.TB_RATE = s.dev.ret.tbRate % 2 ^ R.TB.TB_RATE.width) ∧
    (¬ Claim.RetValid s.dev → t.dev.get R.MODE.RET_VALID = 0 ∧ t.dev.get R.TB.TB_RATE = 0 ∧ Raised t.dev 3 9) ∧
    t.clk.ns = s.clk.ns ∧ t.clk.frac = s.clk.frac ∧ t.otp = s.otp ∧ t.pending = s.pending) ∧
  exec .pllLockRetry s = .next s ∧
  (s.dev.bootAt 2 = true → Does .pllLockTimeout s fun d => Raised d 3 8 ∧ d.get I.MODE.BOOT_STEP = 2 ∧ Within raiseFlds s.dev d)) ∧
  (∀ (s : State) (passed : Bool) (diag : BitVec 16),
  (s.dev.bootAt 4 = true → Does .journalRecovered s fun d => d.get I.MODE.BOOT_STEP = 5 ∧ d.get I.THERM.JRN_DONE = 1 ∧ d.nvm.mem = s.dev.nvm.mem) ∧
  (s.dev.bootAt 5 = true → Does (.sorrelSelfTestDone passed diag) s fun d =>
    d.get I.MODE.BOOT_STEP = 6 ∧ d.get I.SAFE.STF = (!passed).toNat ∧ (passed = false → Raised d 10 20) ∧
    Within (raiseFlds ++ [I.MODE.BOOT_STEP, I.SAFE.STF, I.SAFE.RBL, I.SAFE.RB_STUCK, I.SAFE.XCHK]) s.dev d) ∧
  (s.dev.bootAt 6 = true → Does .reamLoadDone s fun d => d.get I.MODE.BOOT_STEP = 8) ∧
  (∀ k, s.dev.bootAt 6 = true → s.dev.bootOrder.find? (fun k => bitOf (s.dev.get I.REAM.BOOT_TRIED) k = 0) = some k →
    s.dev.get I.REAM.BOOT_TRIED = 0 → Does .reamCheckTimeout s fun d =>
      bitOf (d.get I.REAM.BOOT_TRIED) k = 1 ∧ d.get R.REAM.SLOT_LAST_CODE k = 11 ∧ d.get R.REAM.SLOT_LAST_DETAIL k = 8 ∧ d.get R.REAM.RES_CODE = 11 ∧
      d.get I.MODE.BOOT_STEP = 6) ∧
  (s.dev.bootAt 6 = false → s.dev.verifying = true → s.dev.supervised = true → Does .reamCheckTimeout s fun d =>
    d.get R.REAM.CMD_BUSY = 0 ∧ d.get R.REAM.CMD_STATE = 3 ∧ d.get R.REAM.CMD_FAIL = 4 ∧ d.get R.REAM.RES_OP = 2 ∧ d.get R.REAM.RES_CODE = 11 ∧ Raised d 2 2))

/-! Modes (05_modes_startup.md). -/

/-- A limit of the mode in force is reached: the transition is due at the next boundary and the instance is raised (R154). -/
def Sys2Proof.Machine.Claim.LimitReached (d0 d : Dev) (inst : Nat) : Prop :=
  d.get I.MODE.DUE_LIMIT = 1 ∧ Raised d 3 inst ∧ Within (raiseFlds ++ [I.MODE.DUE_LIMIT]) d0 d

/-- PRECHARGE_LIMIT, SYNC_LIMIT, RT_MAX_EXPIRY and STOP_MAX_EXPIRY, in their mode and not yet reported, raise instances 0, 1, 3 and 2 and
make the transition due; in any other mode they do nothing (R154).

SYNC_HOLD_REACHED, RT_RECOVER_REACHED, RAMP_DONE and GRID_FAULT, once what they count has reached its limit: the transition is due
at the next boundary (R150, R135), the ramp is reported done (R276), the grid fault is reported (R282). Nothing else changes. -/
def Obligations.LimitsAndCounts : Prop :=
  (∀ (s : State),
  (s.dev.mode = .precharge → s.dev.get I.MODE.DUE_LIMIT = 0 → Does .prechargeLimit s fun d => Claim.LimitReached s.dev d 0) ∧
  (s.dev.mode = .sync → s.dev.get I.MODE.DUE_LIMIT = 0 → Does .syncLimit s fun d => Claim.LimitReached s.dev d 1) ∧
  (s.dev.mode = .rideThrough → s.dev.get I.MODE.DUE_LIMIT = 0 → Does .rtMaxExpiry s fun d => Claim.LimitReached s.dev d 3) ∧
  (s.dev.mode = .stopping → s.dev.get I.MODE.DUE_LIMIT = 0 → Does .stopMaxExpiry s fun d => Claim.LimitReached s.dev d 2) ∧
  (s.dev.mode ≠ .precharge → exec .prechargeLimit s = .next s) ∧ (s.dev.mode ≠ .sync → exec .syncLimit s = .next s) ∧
  (s.dev.mode ≠ .rideThrough → exec .rtMaxExpiry s = .next s) ∧ (s.dev.mode ≠ .stopping → exec .stopMaxExpiry s = .next s)) ∧
  (∀ (s : State),
  (s.dev.mode = .sync → s.dev.get R.MODE.SYNC_HOLD ≤ s.dev.get I.MODE.SYNC_RUN → Gives .syncHoldReached s fun t =>
    t.dev.get I.MODE.DUE_SYNC_EXIT = 1 ∧ Frame [I.MODE.DUE_SYNC_EXIT] s t) ∧
  (s.dev.mode = .rideThrough → s.dev.get R.MODE.RT_RECOVER ≤ s.dev.get I.MODE.RT_RUN → Gives .rtRecoverReached s fun t =>
    t.dev.get I.MODE.DUE_RT_EXIT = 1 ∧ Frame [I.MODE.DUE_RT_EXIT] s t) ∧
  (10 ≤ s.dev.get I.MODE.RAMP_RUN → Gives .rampDone s fun t =>
    t.dev.get R.CE.RAMP_DONE = 1 ∧ (s.dev.mode = .stopping → t.dev.get I.MODE.DUE_RAMP = 1) ∧
    (s.dev.mode ≠ .stopping → Frame [R.CE.RAMP_DONE] s t) ∧ Frame [R.CE.RAMP_DONE, I.MODE.DUE_RAMP] s t) ∧
  (0 < s.dev.get R.CE.GM_DET → s.dev.get R.CE.GM_DET ≤ (if s.dev.is I.CE.BUSY then s.dev.get I.CE.F_OUT else s.dev.get R.CE.OUT_BAND_RUN) →
    Gives .gridFault s fun t => t.dev.get R.CE.GRID_FAULT = 1 ∧ Frame [R.CE.GRID_FAULT] s t))

/-- A mode request that is taken (R139): a transition writes STATE, PREV, ENTRY_CAUSE and MODE_FRAMES together, counts itself up to the
end of the counter, and sets MODE in every summary. -/
def Obligations.ModeEntryRecords : Prop := ∀ (d : Dev) (m : Mode) (cause : Nat), cause < 8 →
  let e := d.modeSet m cause
  e.mode = m ∧ e.get R.MODE.PREV = d.get R.MODE.STATE % 16 ∧ e.get R.MODE.ENTRY_CAUSE = cause ∧ e.get R.MODE.MODE_FRAMES = 1 ∧
  e.get R.MODE.TRANS_CNT = min (d.get R.MODE.TRANS_CNT + 1) (2 ^ R.MODE.TRANS_CNT.width - 1) ∧ (∀ i < 3, e.get R.HIF.SUM_MODE i = 1) ∧
  Within (dueFlds ++ [R.MODE.STATE, R.MODE.PREV, R.MODE.ENTRY_CAUSE, R.MODE.MODE_FRAMES, R.MODE.TRANS_CNT, R.MODE.RET_MODE, R.MODE.PRE_PHASE,
    R.HIF.SUM_MODE]) d e

/-! Clocks (03_clocks_timebase.md). -/

/-- PLL_T_UNLOCK and PLL_T_RELOCK (R92, R94): TB and the Deckle stop, instance 3 holds, and from any mode but SAFE, BOOT and IDLE the
module goes to IDLE at once; with the lock the Deckle runs again. -/
def Obligations.TimebaseLock : Prop := ∀ (s : State),
  (s.dev.supervised = true → s.dev.is R.TB.PLL_T_LOCK = true → Does .pllTUnlock s fun d =>
    d.get R.TB.PLL_T_LOCK = 0 ∧ d.get R.TB.DECKLE_RUN = 0 ∧ Raised d 0 3 ∧
    (s.dev.inMode [.safe, .boot, .idle] = true → d.mode = s.dev.mode) ∧ (s.dev.inMode [.safe, .boot, .idle] = false → d.mode = .idle) ∧
    (∀ r < 6, d.get R.FELT.RING_STATE r = ringDown)) ∧
  (s.dev.pastLock = true → s.dev.is R.TB.PLL_T_LOCK = false → Gives .pllTRelock s fun t =>
    t.dev.get R.TB.PLL_T_LOCK = 1 ∧ t.dev.is R.TB.DECKLE_RUN = true ∧ t.dev.get R.TB.FRAME_NO_LIVE = s.dev.get R.TB.FRAME_NO_LIVE ∧
    t.clk.ns = s.clk.ns ∧ t.clk.frac = s.clk.frac ∧ t.otp = s.otp ∧ t.pending = s.pending)

/-- PLL_N_UNLOCK, PLL_N_RELOCK, PLL_S_UNLOCK and PLL_S_RELOCK (R76, R92): the lock is lost or back; a loss raises instance 4 or 5, but
for a relock of PLL_S that CLK_SSC caused; without PLL_N the NET links and the PCI Express link are down.

ROOT_LOST and ROOT_FREQ_CHECK outside 98 cycles of 48,828 (R92): the PLLs enter holdover, the time is suspect, and instance 0 or 1
holds. ROOT_RETURN and LOCK_REGAINED end it (R93). HOLDOVER_TIMEOUT raises instance 2. -/
def Obligations.LocksAndRoot : Prop :=
  (∀ (s : State),
  (s.dev.supervised = true → s.dev.is R.TB.PLL_N_LOCK = true → Does .pllNUnlock s fun d =>
    d.get R.TB.PLL_N_LOCK = 0 ∧ Raised d 0 4 ∧ d.get I.HIF.LINK_DN = 1 ∧ d.get R.SNAP.HELD 0 = 0 ∧ d.get R.SNAP.HELD 1 = 0) ∧
  (s.dev.pastLock = true → s.dev.is R.TB.PLL_N_LOCK = false → Does .pllNRelock s fun d =>
    d.get R.TB.PLL_N_LOCK = 1 ∧ Within [R.TB.PLL_N_LOCK, R.TB.DOMAIN_OK] s.dev d) ∧
  (s.dev.supervised = true → s.dev.is R.TB.PLL_S_LOCK = true → Does .pllSUnlock s fun d =>
    d.get R.TB.PLL_S_LOCK = 0 ∧ (s.dev.get I.TB.SSC_RELOCK = 0 → Raised d 0 5) ∧
    (s.dev.get I.TB.SSC_RELOCK ≠ 0 → Within [R.TB.PLL_S_LOCK, R.TB.DOMAIN_OK] s.dev d) ∧
    Within (raiseFlds ++ [R.TB.PLL_S_LOCK, R.TB.DOMAIN_OK]) s.dev d) ∧
  (s.dev.pastLock = true → s.dev.is R.TB.PLL_S_LOCK = false → Does .pllSRelock s fun d =>
    d.get R.TB.PLL_S_LOCK = 1 ∧ d.get I.TB.SSC_RELOCK = 0 ∧
    Within (raiseFlds ++ [R.TB.PLL_S_LOCK, I.TB.SSC_RELOCK, R.TB.DOMAIN_OK]) { s.dev with nvm := d.nvm } d)) ∧
  (∀ (s : State) (cycles : Nat), s.dev.supervised = true →
  (s.dev.is R.TB.ROOT_OK = true → Does .rootLost s fun d =>
    d.get R.TB.ROOT_OK = 0 ∧ d.is R.TB.HOLDOVER = true ∧ d.is R.NET.TIME_SUSPECT = true ∧ Raised d 0 0) ∧
  (s.dev.is R.TB.ROOT_OK = true → 98 < ((cycles : Int) - 48828).natAbs → Does (.rootFreqCheck cycles) s fun d =>
    d.get R.TB.ROOT_OK = 0 ∧ d.is R.TB.HOLDOVER = true ∧ d.is R.NET.TIME_SUSPECT = true ∧ Raised d 0 1) ∧
  (((cycles : Int) - 48828).natAbs ≤ 98 → exec (.rootFreqCheck cycles) s = .next s) ∧
  (Gives .rootReturn s fun t => t.dev.get R.TB.ROOT_OK = 1 ∧ Frame [R.TB.ROOT_OK, R.TB.DOMAIN_OK] s t) ∧
  (s.dev.is R.TB.ROOT_OK = true → s.dev.is R.TB.HOLDOVER = true → Does .lockRegained s fun d =>
    d.get R.TB.HOLDOVER = 0 ∧ (∀ a ∈ d.active, a.cls = 0 → a.inst < 3 → a.held = false) ∧ Within [R.TB.HOLDOVER, R.TB.DOMAIN_OK] s.dev d) ∧
  (s.dev.is R.TB.HOLDOVER = true → Does .holdoverTimeout s fun d => Raised d 0 2 ∧ Within raiseFlds s.dev d))

/-- KA_CHECK outside 16 cycles of 32,768 over one second of TB marks the keep-alive count untrusted and raises instance 6, and inside it
raises nothing (R92); FIFO_OVERFLOW raises instance 8 (R75, R92); TOD_REFRESH moves the mapping of
time of day to the latest second that has begun, TB untouched (R78, R82). -/
def Obligations.ClockChecks : Prop := ∀ (s : State) (cycles : Nat) (fifo : BitVec 16), s.dev.supervised = true →
  (16 < ((cycles : Int) - 32768).natAbs → Does (.kaCheck cycles) s fun d =>
    d.get I.TB.KA_TRUST = 0 ∧ Raised d 0 6 ∧ Within (raiseFlds ++ [I.TB.KA_TRUST, R.TB.DOMAIN_OK]) s.dev d) ∧
  (((cycles : Int) - 32768).natAbs ≤ 16 → Does (.kaCheck cycles) s fun d =>
    (∀ a ∈ d.active, a.cls = 0 → a.inst = 6 → a.held = false) ∧ Within [] s.dev d) ∧
  (Does (.fifoOverflow fifo) s fun d => Raised d 0 8 ∧ Within raiseFlds s.dev d) ∧
  (∀ n : Int, n = ((s.clk.ns : Int) - s.dev.getInt I.NET.REF_NS) / 1000000000 → 0 < n → Gives .todRefresh s fun t =>
    t.dev.get R.TB.TOD_SEC_LO = ofInt 64 (s.dev.todSec + n) % 2 ^ 32 ∧ t.dev.get R.TB.TOD_SEC_HI = ofInt 64 (s.dev.todSec + n) / 2 ^ 32 ∧
    t.dev.get R.TB.TOD_REF_NS32 = ofInt 32 (s.dev.getInt I.NET.REF_NS + n * 1000000000) ∧
    Frame [R.TB.TOD_SEC_LO, R.TB.TOD_SEC_HI, R.TB.TOD_REF_NS32, I.NET.REF_NS] s t)

/-! The Ream, the flash, housekeeping and lifetime (04_ream_image.md, 16_thermal_lifetime.md). -/

/-- What the flash operations of a command, of the journals and of the records may write. -/
def Sys2Proof.Machine.Claim.flashFlds : List Fld :=
  raiseFlds ++ [R.REAM.CMD_BUSY, R.REAM.CMD_STATE, R.REAM.CMD_FAIL, R.HIF.SUM_NVM, R.REAM.PREF, R.REAM.SLOT_PREF, I.REAM.PREF_DUE] ++
  [R.THERM.DIRTY_CNT, R.THERM.TEASEL_JSEQ, R.THERM.OP_TIME, R.THERM.BIN, R.THERM.CELL_LIFE_USED, R.THERM.CELL_REMAIN_H, I.THERM.LIFE_HIT]

/-- REAM_CMD_DONE ends the running command, with or without failure, and sets NVM in every summary (R112). FLASH_OP_TIMEOUT ends the
operation, and its command as failed (R112, R445). FLASH_OP_DONE of a page of a PROGRAM leaves each byte of the page the AND of what
stood there and what was sent and every other byte as it was; of a sector of an ERASE, the sector reads all ones and every other byte
as it was; a failed one ends the command (R112). -/
def Obligations.FlashOperations : Prop := ∀ (s : State) (failed : Bool) (op : FlashOp) (slot p k : Nat),
  (s.dev.get R.REAM.CMD_BUSY = 1 → s.dev.get R.REAM.CMD_OP ≠ 3 → s.dev.flashOn = true → Does (.reamCmdDone failed) s fun d =>
    d.get R.REAM.CMD_BUSY = 0 ∧ d.get R.REAM.CMD_STATE = (if failed then 3 else 2) ∧ d.get R.REAM.CMD_FAIL = (if failed then 2 else 0) ∧
    (∀ i < 3, d.get R.HIF.SUM_NVM i = 1) ∧ (failed = true → Raised d 2 17) ∧ Within Claim.flashFlds { s.dev with nvm := d.nvm } d) ∧
  (s.dev.nvm.cur = some op → Does .flashOpTimeout s fun d =>
    Raised d 2 16 ∧ d.nvm.mem = s.dev.nvm.mem ∧
    (s.dev.is R.REAM.CMD_BUSY = true → s.dev.cmdOwns op = true → d.get R.REAM.CMD_BUSY = 0 ∧ d.get R.REAM.CMD_STATE = 3 ∧ d.get R.REAM.CMD_FAIL = 1) ∧
    Within Claim.flashFlds { s.dev with nvm := d.nvm } d) ∧
  (s.dev.flashOn = true → memWf s.dev.nvm.mem = true →
    (s.dev.nvm.cur = some (.program slot p) → s.dev.nvm.dirty.contains (128 * slot + p / 256) = false → Does (.flashOpDone false) s fun d =>
      (∀ a, byteAt d.nvm.mem a =
        let first := slot * 8388608 + pageBytes * p
        let off := s.dev.get R.REAM.CMD_OFF
        let n := min pageBytes (off + s.dev.get R.REAM.CMD_LEN - pageBytes * p)
        let x := pageBytes * p - off + (a - first)
        if first ≤ a ∧ a < first + n then byteAt s.dev.nvm.mem a &&& BitVec.ofNat 8 (s.dev.get R.REAM.REAM_XFER (x / 4) >>> (8 * (x % 4)))
        else byteAt s.dev.nvm.mem a) ∧
      Within Claim.flashFlds { s.dev with nvm := d.nvm } d) ∧
    (s.dev.nvm.cur = some (.erase slot k) → Does (.flashOpDone false) s fun d =>
      (∀ a, byteAt d.nvm.mem a = if a / sectorBytes = 128 * slot + k then 255 else byteAt s.dev.nvm.mem a) ∧
      Within Claim.flashFlds { s.dev with nvm := d.nvm } d) ∧
    (s.dev.nvm.cur = some op → op.ofCmd = true → Does (.flashOpDone true) s fun d =>
      d.get R.REAM.CMD_BUSY = 0 ∧ d.get R.REAM.CMD_STATE = 3 ∧ d.get R.REAM.CMD_FAIL = 2 ∧ Raised d 2 17 ∧ d.nvm.mem = s.dev.nvm.mem ∧
      Within Claim.flashFlds { s.dev with nvm := d.nvm } d))

/-- What the end of a VERIFY may write. -/
def Sys2Proof.Machine.Claim.verifyFlds : List Fld :=
  raiseFlds ++ [R.REAM.CMD_BUSY, R.REAM.CMD_STATE, R.REAM.CMD_FAIL, R.REAM.SCRUB_ERR, R.REAM.SLOT_CLASS, R.REAM.RES_OP, R.REAM.RES_SLOT] ++
  [R.REAM.RES_CODE, R.REAM.RES_DETAIL, R.REAM.RES_OFF_VALID, R.REAM.RES_OFFSET, R.REAM.RESULT_FRAME, R.HIF.SUM_REAM]

/-- VERIFY_DONE (R114, R115): the slot that passes the checks becomes VERIFIED, an ACTIVE one stays so; a slot that fails becomes INVALID,
with the code and detail of the first failing step in the result and instance 2 raised; the ACTIVE slot stays and raises instance 5. The
other slot's summary is untouched. SCRUB of a sound image changes nothing; of a damaged one it sets SCRUB_ERR and raises instance 5
(R119). PREF_RECORD_TIMEOUT raises instance 6 while the record is due (R131). -/
def Obligations.ImageChecks : Prop := ∀ (s : State),
  (s.dev.verifying = true → s.dev.supervised = true → Does .verifyDone s fun d =>
    let k := s.dev.get I.REAM.CMD_RUN_SLOT
    let els := [R.REAM.SLOT_STATE, R.REAM.SLOT_LENGTH, R.REAM.SLOT_IMAGE_ID, R.REAM.SLOT_DECL_CLASS, R.REAM.SLOT_SEC_VER,
      R.REAM.SLOT_LAST_CODE, R.REAM.SLOT_LAST_DETAIL].map (fun f => (f, k))
    d.get R.REAM.CMD_BUSY = 0 ∧ d.get R.REAM.RES_OP = 2 ∧ d.get R.REAM.RES_SLOT = k % 2 ∧ (∀ i < 3, d.get R.HIF.SUM_REAM i = 1) ∧
    (∀ im, s.dev.checkSlot s.otp k false = .ok im →
      d.get R.REAM.CMD_STATE = 2 ∧ d.get R.REAM.RES_CODE = 0 ∧ d.get R.REAM.SLOT_STATE k = (if s.dev.slotState k = 4 then 4 else 3) ∧
      (s.dev.slotState k ≠ 4 → d.checked k = some im)) ∧
    (∀ f, s.dev.checkSlot s.otp k false = .error f →
      d.get R.REAM.CMD_STATE = 3 ∧ d.get R.REAM.CMD_FAIL = 4 ∧ d.get R.REAM.RES_CODE = f.err.code % 2 ^ R.REAM.RES_CODE.width ∧
      d.get R.REAM.RES_DETAIL = f.err.detail % 2 ^ R.REAM.RES_DETAIL.width ∧ Raised d 2 2 ∧
      (s.dev.slotState k = 4 → d.get R.REAM.SLOT_STATE k = 4 ∧ d.get R.REAM.SCRUB_ERR = 1 ∧ Raised d 2 5) ∧
      (s.dev.slotState k ≠ 4 → s.dev.slotState k ≠ 0 → d.get R.REAM.SLOT_STATE k = 5)) ∧
    d.nvm.mem = s.dev.nvm.mem ∧ Within Claim.verifyFlds { s.dev with nvm := d.nvm, ream := d.ream } d els) ∧
  (∀ im k, s.dev.ream.active = some im → s.dev.get R.REAM.ACTIVE = k + 1 →
    (s.dev.scrubOk k im = true → Gives .scrub s fun t => Frame countFlds s t) ∧
    (s.dev.scrubOk k im = false → Does .scrub s fun d => d.get R.REAM.SCRUB_ERR = 1 ∧ Raised d 2 5 ∧ Within (raiseFlds ++ [R.REAM.SCRUB_ERR]) s.dev d)) ∧
  (s.dev.is I.REAM.PREF_DUE = true → Does .prefRecordTimeout s fun d => Raised d 2 6 ∧ Within raiseFlds s.dev d)

/-- A slot can follow a swap order: it is VERIFIED with the image of that digest, and of that class against the running image. -/
def Sys2Proof.Machine.Claim.CanFollow (d : Dev) (slot digest cls : Nat) : Prop :=
  d.slotState slot = 3 ∧ ∃ im, d.checked slot = some im ∧ im.imageDigest = digest ∧ classBy d.ream.active im.structDigest im.mapDigest = cls

/-- R129: a standby that can follow a swap order of class 0 or 1 schedules it and confirms it, and one that cannot, or of another role,
does nothing; the confirmation is noted; a swap unconfirmed in time is refused with E_STRUCT 0xFE. -/
def Obligations.OrderedSwaps : Prop := ∀ (s : State) (digest : Nat) (target : BitVec 32) (cls : BitVec 2) (slot : Fin 2),
  (s.dev.mode = .mirror → cls.toNat ≤ 1 → Claim.CanFollow s.dev slot digest cls.toNat → (slot = 1 → ¬ Claim.CanFollow s.dev 0 digest cls.toNat) →
    Gives (.swapOrderRx digest target cls) s fun t =>
      t.dev.get R.REAM.SWAP_PEND = 1 ∧ t.dev.get R.REAM.SWAP_SLOT = slot ∧ t.dev.get R.REAM.SLOT_SWAP_PEND slot = 1 ∧
      t.dev.get I.REAM.SWAP_TARGET = target.toNat ∧ t.dev.get I.REAM.SWAP_CLASS = cls.toNat ∧
      t.dev.outbox = s.dev.outbox ++ [.swapConfirm digest] ∧
      Frame [R.REAM.SWAP_PEND, R.REAM.SWAP_SLOT, R.REAM.SLOT_SWAP_PEND, I.REAM.SWAP_TARGET, I.REAM.SWAP_CLASS, I.REAM.SWAP_LATE, I.REAM.SWAP_BOOT,
        I.REAM.SWAP_CONF, I.REAM.SWAP_ORD] s t) ∧
  ((∀ k : Fin 2, ¬ Claim.CanFollow s.dev k digest cls.toNat) ∨ 1 < cls.toNat ∨ s.dev.mode ≠ .mirror → exec (.swapOrderRx digest target cls) s = .next s) ∧
  (s.dev.is R.REAM.SWAP_PEND = true → Gives .swapConfirmRx s fun t => t.dev.get I.REAM.SWAP_CONF = 1 ∧ Frame [I.REAM.SWAP_CONF] s t) ∧
  (s.dev.is R.REAM.SWAP_PEND = true → s.dev.is I.REAM.SWAP_CONF = false → Gives .swapConfirmTimeout s fun t =>
    t.dev.get R.REAM.SWAP_PEND = 0 ∧ t.dev.get R.REAM.RES_OP = 3 ∧ t.dev.get R.REAM.RES_CODE = 4 ∧ t.dev.get R.REAM.RES_DETAIL = 0xFE ∧
    (∀ i < 3, t.dev.get R.HIF.SUM_REAM i = 1) ∧
    Frame [R.REAM.SWAP_PEND, R.REAM.SLOT_SWAP_PEND, I.REAM.SWAP_BOOT, R.REAM.RES_OP, R.REAM.RES_SLOT, R.REAM.RES_CODE, R.REAM.RES_DETAIL,
      R.REAM.RES_OFF_VALID, R.REAM.RES_OFFSET, R.REAM.RESULT_FRAME, R.HIF.SUM_REAM] s t)

/-- An operation waits for the flash, or runs. -/
def Sys2Proof.Machine.Claim.Asked (d : Dev) (op : FlashOp) : Prop := op ∈ d.nvm.queue ∨ d.nvm.cur = some op

/-- TEASEL_HOUR and FREQ_OFFSET_WRITE ask for their record (R435, R440) and touch no byte of the slots; RETENTION_WRITE keeps TB_RATE and
RATE_LOCKED under a CRC (R143); EVJ_LOADED shows the entry that EVJ_SEL names, or EVJ_GONE (R444).

A housekeeping round counts itself, shows each die sensor that has a fresh reading (R424), and judges the safety clock against
160,000 cycles (R92, R394). A step of the die models follows the hottest die and, at each threshold newly reached, marks it, raises its
instance and sets THERM in every summary (R428, R448). -/
def Obligations.RecordsAndHousekeeping : Prop :=
  (∀ (s : State),
  (s.dev.mode ≠ .idle → s.dev.mode ≠ .backup → s.dev.mode ≠ .boot → Does .teaselHour s fun d =>
    Claim.Asked d (.teasel 0 s.dev.teaselData) ∧ d.nvm.mem = s.dev.nvm.mem ∧ Within raiseFlds { s.dev with nvm := d.nvm } d) ∧
  (s.dev.rateLocked = true → s.dev.mode ≠ .boot → s.dev.mode ≠ .backup → Does .freqOffsetWrite s fun d =>
    Claim.Asked d (.commit 3 [s.dev.get R.TB.TB_RATE]) ∧ d.nvm.mem = s.dev.nvm.mem ∧ Within raiseFlds { s.dev with nvm := d.nvm } d) ∧
  (s.dev.mode ≠ .backup → s.dev.mode ≠ .boot → Gives .retentionWrite s fun t =>
    t.dev.ret.tbRate = s.dev.get R.TB.TB_RATE ∧ t.dev.ret.stateWord / 16 % 2 = s.dev.rateLocked.toNat ∧ t.dev.ret.crc = crc32 t.dev.ret.bytes ∧
    t.dev.ret.user = s.dev.ret.user ∧ Within [I.TB.KA_NS, R.MODE.KA_CNT_LO, R.MODE.KA_CNT_HI] { s.dev with ret := t.dev.ret } t.dev ∧
    t.clk = s.clk ∧ t.otp = s.otp ∧ t.pending = s.pending) ∧
  (s.dev.is I.THERM.EVJ_WANT = true → Gives .evjLoaded s fun t =>
    t.dev.get I.THERM.EVJ_WANT = 0 ∧ Frame [I.THERM.EVJ_WANT, R.THERM.EVJ_ENTRY, R.THERM.EVJ_STAT] s t ∧
    match s.dev.evjEntry (s.dev.get R.THERM.EVJ_SEL) with
    | some ws => t.dev.get R.THERM.EVJ_STAT = 1 ∧ ∀ i (h : i < ws.length), t.dev.get R.THERM.EVJ_ENTRY i = ws[i] % 2 ^ 32
    | none => t.dev.get R.THERM.EVJ_STAT = 2)) ∧
  (∀ (s : State) (cycles : Nat) (p0 p1 p2 p3 : Word), s.dev.hkRuns = true →
  (Does (.hkRound cycles) s fun d =>
    d.get R.THERM.HK_ROUNDS = (s.dev.get R.THERM.HK_ROUNDS + 1) % 2 ^ R.THERM.HK_ROUNDS.width ∧
    (∀ k < 4, (s.dev.hkReading s.clk.ns k).1 = true → d.get R.THERM.TSENS k = hkValue k (s.dev.hkReading s.clk.ns k).2 % 2 ^ 32) ∧
    (8000 < ((cycles : Int) - 160000).natAbs → Raised d 0 7) ∧
    (16000 < ((cycles : Int) - 160000).natAbs → d.get I.SAFE.OSC_BAD = 1 ∧ Raised d 10 19) ∧
    (((cycles : Int) - 160000).natAbs ≤ 16000 → d.get I.SAFE.OSC_BAD = 0 ∧ ∀ a ∈ d.active, a.cls = 10 → a.inst = 19 → a.held = false) ∧
    Within (raiseFlds ++ [R.THERM.HK_STALE, R.THERM.HK_ROUNDS, I.THERM.CODE, I.THERM.READ, R.THERM.TSENS, R.THERM.VIN, R.THERM.VBAT, R.THERM.V3P3] ++
      [R.THERM.V1P8, R.THERM.V0P8, R.THERM.BRD_T, I.THERM.STALE_RUN, I.THERM.SEEDED, I.THERM.BASE, I.THERM.TMODEL, I.THERM.DT, I.THERM.DIS_RUN] ++
      [R.THERM.TDIE, R.THERM.HOT_DIE, R.THERM.TDIE_MAX, I.SAFE.OSC_BAD]) s.dev d) ∧
  (Does (.dieModelStep p0 p1 p2 p3) s fun d =>
    d.get R.THERM.TDIE_MAX = d.get R.THERM.TDIE (d.get R.THERM.HOT_DIE) ∧ d.get R.THERM.HOT_DIE < 4 ∧
    (∀ k < 3, bitOf (s.dev.get R.THERM.THR_ACT) k = 0 → b32.le (b32.ofInt (threshold k)) (d.get R.THERM.TDIE_MAX) = true →
      bitOf (d.get R.THERM.THR_ACT) k = 1 ∧ Raised d 12 k ∧ ∀ i < 3, d.get R.HIF.SUM_THERM i = 1) ∧
    Within (Claim.flashFlds ++ [I.THERM.DT, I.THERM.TMODEL, R.THERM.TDIE, R.THERM.HOT_DIE, R.THERM.TDIE_MAX, R.THERM.THR_ACT, R.HIF.SUM_THERM] ++
      [R.THERM.FLASH_HOLD, I.MODE.DUE_STOP_TS, I.MODE.DUE_SAFE_TS, I.PART.LEAVE_DUE]) { s.dev with nvm := d.nvm } d))

/-! The frame: the Deckle, the engine, the Calender, the modulator, the uplink (01_overview.md, 03, 06, 07, 08, 09, 10, 18). -/

/-- No register of these windows differs, but for what a raising writes. -/
def Sys2Proof.Machine.Claim.Untouched (W : List Nat) (d e : Dev) : Prop :=
  ∀ w ∈ W, ∀ f ∈ winFields w, hasFld raiseFlds f = false → ∀ i, e.get f i = d.get f i

/-- An instance is active with its condition present. -/
def Sys2Proof.Machine.Claim.Holds (d : Dev) (cls inst : Nat) : Prop := ∃ a ∈ d.active, a.cls = cls ∧ a.inst = inst ∧ a.held = true

/-- FRAME_BOUNDARY while the Deckle runs (R29, R85): TB has run to the end of the frame, whose sub-frame count starts again; the fuses burn, if at
all, for an image that a slot holds (R120), or stay; the queue is as it was. While the Deckle stands, it does nothing. DECKLE_START,
with PLL_T locked and the module out of reset, starts the Deckle at this instant of TB with no frame run (R85). GATHER_WINDOW
copies each counter, clears it, and counts the window (R498). -/
def Obligations.FrameClock : Prop := ∀ (s : State),
  (s.dev.is R.TB.DECKLE_RUN = true → Gives .frameBoundary s fun t =>
    t.clk = { s.clk.run (s.dev.get I.TB.LEN - s.clk.sub) s.dev.tbIncNow with sub := 0 } ∧ t.pending = s.pending ∧
    (t.otp = s.otp ∨ ∃ im : Image, t.otp = s.otp.burn im)) ∧
  (s.dev.is R.TB.DECKLE_RUN = false → exec .frameBoundary s = .next s) ∧
  (s.dev.mayStart = true → Gives .deckleStart s fun t =>
    t.dev.get R.TB.DECKLE_RUN = 1 ∧ t.dev.get I.TB.FIRST = 1 ∧ t.dev.get I.TB.BND_NS = s.clk.ns % 2 ^ 64 ∧ t.clk = { s.clk with sub := 0 } ∧
    t.otp = s.otp ∧ t.pending = s.pending ∧
    Within [R.TB.DECKLE_RUN, I.TB.FIRST, I.TB.LEN, I.TB.NEXT_LEN, I.TB.BND_NS, I.TB.BND_FRAC, R.TB.TF, R.TB.TF_OVR] s.dev t.dev) ∧
  (s.dev.mayStart = false → exec .deckleStart s = .next s) ∧
  (s.dev.is I.PERF.ON = true → Gives .gatherWindow s fun t =>
    (∀ b < 11, ∀ i < perfCounters b, t.dev.get R.PERF.GATHERED (8 * b + i) = s.dev.get I.PERF.CNT (8 * b + i) % 2 ^ 32 ∧
      t.dev.get I.PERF.CNT (8 * b + i) = 0) ∧
    t.dev.get R.PERF.WIN_SEQ = (s.dev.get R.PERF.WIN_SEQ + 1) % 65536 ∧ t.dev.get R.PERF.WIN_END_LO = s.clk.cyc % 2 ^ 32 ∧
    (∀ i < 3, t.dev.get R.HIF.SUM_PERF i = 1) ∧
    Frame ([I.PERF.ANY, I.PERF.BYTES, I.PERF.CNT, I.PERF.LANE, I.PERF.LFSR, I.PERF.ON, I.PERF.OVF, I.PERF.SEL, I.PERF.START_CYC, I.PERF.TAG_DUE] ++
      [I.PERF.TAG_N, I.PERF.WIN_MS, I.PERF.WIN_NS, R.HIF.SUM_PERF, R.PERF.BYTES, R.PERF.GATHERED, R.PERF.GSEL_EVEN, R.PERF.GSEL_ODD, R.PERF.OVF] ++
      [R.PERF.LANE_DISCARDED, R.PERF.LANE_INPUT_WAIT, R.PERF.LANE_NARROW, R.PERF.LANE_OUTPUT_WAIT, R.PERF.LANE_USEFUL, R.PERF.UTIL, R.PERF.VIEW] ++
      [R.PERF.WIN_END_HI, R.PERF.WIN_END_LO, R.PERF.WIN_SEQ]) s t)

/-- R84: a boundary numbers the frame that it begins: 0 for the first since power-up, the next number modulo 2³² after it, or the
number that a join or an order has set. -/
def Obligations.FrameNumbered : Prop := ∀ (s : State), s.dev.is R.TB.DECKLE_RUN = true → Gives .frameBoundary s fun t =>
  (s.dev.is I.TB.NO_NEXT = false → t.dev.get R.TB.FRAME_NO_LIVE =
    if s.dev.is I.TB.STARTED then (s.dev.get R.TB.FRAME_NO_LIVE + 1) % 2 ^ 32 else 0)

/-- What the abandonment of a frame by the engine may write (R19, R295). -/
def Sys2Proof.Machine.Claim.overrunFlds : List Fld :=
  raiseFlds ++ [I.CE.BUSY, I.CE.MV_CHG, I.CE.OVR_QUIET, R.CE.MV_LOCK, R.CE.OVR_CNT, R.CE.OVR_LAST, R.CE.OVR_RUN, I.PERF.LANE, I.PERF.LFSR]

/-- The engine's frame, out of MIRROR. CE_FRAME_START takes the AFE results, marks each sequence of the frame that is late and raises its
instance (R339), and runs. CE_DELIVERY commits the frame: the law, the angle of the MV lock, and no overrun (R294); outside the windows
of the engine and of what it feeds, no register changes. CE_OVERRUN abandons the frame and counts it; two in a row raise instance 0 (R19,
R295). -/
def Obligations.EngineFrame : Prop := ∀ (s : State),
  (s.dev.mode ≠ .mirror → s.dev.is I.CE.STARTED = false → s.dev.ream.active.isSome = true → Does .ceFrameStart s fun d =>
    d.get I.CE.STARTED = 1 ∧ d.get I.CE.BUSY = 1 ∧ d.get I.CE.START_NS = s.clk.ns % 2 ^ 64 ∧
    (∀ r < 128, d.get I.CE.AFE_CUT r = s.dev.get I.AFE.GOOD r % 2 ^ 32) ∧
    (∀ n < 8, s.dev.get R.AFE.SEQ_NENT n ≠ 0 → s.dev.get R.AFE.SEQ_TRIG_SRC n = 1 →
      d.get R.AFE.SEQ_STALE n = (if s.dev.get I.AFE.GOT_RUN n = 1 then 0 else 1) ∧ (s.dev.get I.AFE.GOT_RUN n ≠ 1 → Raised d 9 (72 + n))) ∧
    Claim.Untouched [wSnap, wStage, wTb, wReam, wMode, wFelt, wCell, wMod, wCal, wSafe] s.dev d) ∧
  (s.dev.ceReady = true → Does .ceDelivery s fun d =>
    d.get I.CE.BUSY = 0 ∧ d.get R.CE.OVR_LAST = 0 ∧ d.get R.CE.OVR_RUN = 0 ∧ d.get R.CE.LAW = s.dev.get I.CE.F_LAW % 16 ∧
    d.get R.CE.LAW_PREV = s.dev.get R.CE.LAW % 16 ∧ d.get R.CE.THETA_MV = d.get I.CE.FE 0 % 2 ^ 32 ∧
    Claim.Untouched [wSnap, wStage, wTb, wReam, wFelt, wCell, wMod, wCal, wAfe, wSafe] s.dev d) ∧
  (s.dev.ceReady = false → exec .ceDelivery s = .next s) ∧
  (s.dev.is I.CE.BUSY = true → Does .ceOverrun s fun d =>
    d.get I.CE.BUSY = 0 ∧ d.get R.CE.OVR_LAST = 1 ∧ d.get R.CE.OVR_CNT = min (s.dev.get R.CE.OVR_CNT + 1) 65535 % 65536 ∧
    (1 ≤ s.dev.get R.CE.OVR_RUN → ¬ Claim.Holds s.dev 7 0 → Raised d 7 0) ∧ Within Claim.overrunFlds s.dev d)

/-- CALENDER_PASS_A of a string whose blocks are in or cut off: the mean of the string and the freshness of each of its cells are
taken, once a frame (R245, R250). MODULATOR_BUILD, once a frame: a command is posted for every used cell whose link takes one (R217), a
string under no law is out of the balancing (R252), and a build past the deadline raises its rings' instances (R17). -/
def Obligations.FrameBuild : Prop := ∀ (st : State) (s : Fin 6),
  (st.dev.strExists s = true → st.dev.is I.CAL.DONE s = false → st.dev.blocksIn s = true → st.dev.inMode [.backup, .boot] = false →
    Does (.calenderPassA s) st fun d =>
      d.get I.CAL.DONE s = 1 ∧ d.get R.CAL.STR_VMEAN s = st.dev.vmean s % 2 ^ 32 ∧
      (∀ c ∈ st.dev.strSlots s, d.get R.CAL.SLOT_STALE c = (!st.dev.fresh c).toNat) ∧
      Claim.Untouched [wSnap, wStage, wTb, wReam, wMode, wFelt, wCell, wLvd, wAfe, wSafe, wPart] st.dev d) ∧
  (st.dev.is I.MOD.BUILT = false → st.dev.inMode [.backup, .boot] = false → st.dev.is R.TB.PLL_T_LOCK = true → Does .modulatorBuild st fun d =>
    d.get I.MOD.BUILT = 1 ∧
    (∀ c < 144, ∀ ix, st.dev.cellUsed c = true → st.dev.cellLink c = some ix → st.dev.linkPosts ix = true → st.dev.posts = true →
      d.get I.CELL.NEXT_POSTED c = 1) ∧
    ((st.dev.strExists s = false ∨ st.dev.lawOn = false) → bitOf (d.get R.MOD.LAW_ON) s = 0 ∧ bitOf (d.get R.CAL.BAL_ON) s = 0) ∧
    (st.dev.deadline < st.clk.ns → ∀ r < 6, st.dev.linkPosts r = true → st.dev.posts = true → Raised d 4 (16 * r + 12)) ∧
    Claim.Untouched [wSnap, wStage, wTb, wReam, wMode, wCell, wAfe, wSafe, wPart] st.dev d)

/-- MEAS_BLOCK_RX for a slot of the link (R16, R163): a copy that fails its checks is counted against its port and its slot; one after the
cut is late; a good first copy gives the slot its quantities and its state, one good copy of each side is noted. UP_CUT marks each slot
without a block stale and counts the miss, once a frame. -/
def Obligations.Uplink : Prop := ∀ (s : State) (link : Link) (side : Side) (block : BitVec 376) (viol : BitVec 8) (atNs : BitVec 16) (c : Nat),
  s.dev.slotAt (linkIx link) (bitsOf block.toNat 13 8) = some c →
  (s.dev.blockValid block.toNat viol.toNat = false → Gives (.measBlockRx link side block viol atNs) s fun t =>
    t.dev.get (if bitOf block.toNat 15 = 1 then R.CELL.CRC_W else R.CELL.CRC_E) c =
      satAdd 16 (s.dev.get (if bitOf block.toNat 15 = 1 then R.CELL.CRC_W else R.CELL.CRC_E) c) 1 % 65536 ∧
    Frame (countFlds ++ [R.FELT.RING_CODE_W, R.FELT.RING_CODE_E, R.FELT.RING_CRC_W, R.FELT.RING_CRC_E, R.FELT.LF_CODE, R.FELT.LF_CRC, I.FELT.WIN_ERR,
      R.CELL.CRC_W, R.CELL.CRC_E]) s t) ∧
  (s.dev.blockValid block.toNat viol.toNat = true → s.dev.is I.FELT.CUT (linkIx link) = false → s.dev.is I.CELL.GOT c = false →
    Does (.measBlockRx link side block viol atNs) s fun d =>
      d.get I.CELL.GOT c = 1 ∧ d.get (if bitOf block.toNat 15 = 1 then I.CELL.GOT_W else I.CELL.GOT_E) c = 1 ∧
      d.get R.CELL.VCAP c = meas block.toNat 8 2 % 65536 ∧ d.get R.CELL.CELL_STATE c = meas block.toNat 4 1 % 256 ∧
      Claim.Untouched [wSnap, wStage, wTb, wReam, wMod, wCal, wLvd, wAfe, wCe, wSafe] s.dev d) ∧
  (s.dev.is I.FELT.CUT (linkIx link) = false → Does (.upCut link) s fun d =>
    d.get I.FELT.CUT (linkIx link) = 1 ∧
    (∀ k ∈ s.dev.slotsOn (linkIx link), s.dev.is I.CELL.GOT k = false →
      d.get R.CELL.STALE k = 1 ∧ d.get R.CELL.MISS k = satAdd 16 (s.dev.get R.CELL.MISS k) 1 % 65536) ∧
    (∀ k ∈ s.dev.slotsOn (linkIx link), s.dev.is I.CELL.GOT k = true → d.get R.CELL.MISS_RUN k = 0) ∧
    Claim.Untouched [wSnap, wStage, wTb, wReam, wMode, wMod, wCal, wLvd, wAfe, wCe, wSafe, wPart] s.dev d)

/-! The Felt (06_felt.md). -/

/-- The clock, the fuses and the queue are as they were. -/
def Sys2Proof.Machine.Claim.Kept (s t : State) : Prop := t.clk = s.clk ∧ t.otp = s.otp ∧ t.pending = s.pending

/-- What a ring's or a link's change of state, and the instance that it raises, may write. -/
def Sys2Proof.Machine.Claim.ringFlds : List Fld :=
  raiseFlds ++ [R.FELT.RING_EVENTS, R.FELT.RING_OK, R.FELT.RING_SINGLE, R.FELT.RING_STATE, R.FELT.RING_UNSUPERVISED, R.FELT.LF_EVENTS] ++
  [R.FELT.LF_STATE, R.FELT.LF_UP, I.FELT.STABLE_RUN, I.FELT.TRAIN_RAISED, I.FELT.LF_RUN, I.FELT.LANES, I.CELL.ID_BITS]

/-- MARKER_RX (R173): a valid marker back from the direction it left in notes its loop time and that the direction closes; on a
Gen1 link, the loop time; an invalid one only counts against its port. MARKER_TIMEOUT (R181): a ring in READY that misses a direction
goes to SINGLE with its instance raised; a link that misses everything goes back to TRAIN. -/
def Obligations.Markers : Prop := ∀ (s : State) (r : Fin 6) (n : Fin 16) (link : Link) (side : Side) (m : BitVec 120) (q : BitVec 24) (viol : BitVec 8),
  (s.dev.markerValid m.toNat viol.toNat = true → s.dev.linkOwned r = true → bytesAt m.toNat 10 1 < 128 →
    Does (.markerRx (.ring r) side m q viol) s fun d =>
      d.get (if side = .w then I.FELT.SEEN_E else I.FELT.SEEN_W) r = 1 ∧
      d.get (if side = .w then R.FELT.RING_LOOP_E else R.FELT.RING_LOOP_W) r = q.toNat ∧
      Claim.Untouched [wSnap, wStage, wTb, wReam, wMode, wCell, wMod, wCal, wCe, wLvd, wAfe, wSafe, wPart, wNet] s.dev d) ∧
  (s.dev.markerValid m.toNat viol.toNat = true → s.dev.linkOwned (6 + n) = true → Does (.markerRx (.gen1 n) side m q viol) s fun d =>
    d.get I.FELT.LF_SEEN n = 1 ∧ d.get I.FELT.L1_MEAS (6 + n) = q.toNat ∧
    Claim.Untouched [wSnap, wStage, wTb, wReam, wMode, wCell, wMod, wCal, wCe, wLvd, wAfe, wSafe, wPart, wNet] s.dev d) ∧
  (s.dev.markerValid m.toNat viol.toNat = false → Gives (.markerRx link side m q viol) s fun t =>
    Frame (countFlds ++ [R.FELT.RING_CODE_W, R.FELT.RING_CODE_E, R.FELT.RING_CRC_W, R.FELT.RING_CRC_E, R.FELT.LF_CODE, R.FELT.LF_CRC, I.FELT.WIN_ERR]) s t) ∧
  (s.dev.get R.FELT.RING_STATE r = ringReady → s.dev.is R.FELT.RING_OPEN r = false →
    (s.dev.is I.FELT.SEEN_E r = false → Does (.markerTimeout (.ring r) .eastGoing) s fun d =>
      d.get R.FELT.RING_STATE r = ringSingle ∧ bitOf (d.get R.FELT.RING_SINGLE) r = 1 ∧ Raised d 4 (16 * r) ∧ Within Claim.ringFlds s.dev d) ∧
    (s.dev.is I.FELT.SEEN_W r = false → Does (.markerTimeout (.ring r) .westGoing) s fun d =>
      d.get R.FELT.RING_STATE r = ringSingle ∧ bitOf (d.get R.FELT.RING_SINGLE) r = 1 ∧ Raised d 4 (16 * r + 1) ∧ Within Claim.ringFlds s.dev d)) ∧
  (s.dev.is I.FELT.SEEN_E r = false → s.dev.is I.FELT.SEEN_W r = false → s.dev.is I.FELT.TURNED r = false →
    s.dev.get R.FELT.RING_STATE r ∈ [ringDiscover, ringCal, ringReady, ringSingle] → Does (.markerTimeout (.ring r) .all) s fun d =>
      d.get R.FELT.RING_STATE r = ringTrain ∧ bitOf (d.get R.FELT.RING_OK) r = 0 ∧ Raised d 4 (16 * r + 2) ∧
      Within Claim.ringFlds { s.dev with mgt := d.mgt } d)

/-- LANE_ALIGNED of a ring in TRAIN goes on to DISCOVER, and DISCOVER_RETRY asks every node of the ring anew for its identity (R181);
COMMA_LOSS of a closed ring in READY breaks the direction (R185); TRAIN_TIMEOUT raises instance 2 once (R181); with CAL_SETTLE stable frames a
ring in CAL becomes READY with its reference recorded, or SINGLE where a direction fails (R181).

The same of a Gen1 link: its lane aligned, its node is asked (DISCOVER within TRAIN); its comma lost, its lane is out; TRAIN_TIMEOUT
raises its instance once; settled in CAL it is up; without a marker it goes back to TRAIN. -/
def Obligations.RingAndLinkStates : Prop :=
  (∀ (s : State) (r : Fin 6) (side : Side),
  (s.dev.get R.FELT.RING_STATE r = ringTrain → Gives (.laneAligned (.ring r)) s fun t =>
    t.dev.get R.FELT.RING_STATE r = ringDiscover ∧ t.dev.get I.FELT.LANES r = 1 ∧ Claim.Kept s t ∧
    Within (Claim.ringFlds ++ [I.FELT.TAG]) { s.dev with mgt := t.dev.mgt } t.dev) ∧
  (s.dev.get R.FELT.RING_STATE r = ringDiscover → Gives (.discoverRetry (.ring r)) s fun t =>
    (∀ c ∈ s.dev.slotsOn r, t.dev.get I.CELL.ID_BITS c = 0 ∧ ∀ a ∈ [0, 4, 8],
      ∃ q ∈ t.dev.mgt, q.link = r.val ∧ q.slot = c ∧ q.op = 1 ∧ q.addr = a ∧ q.why = 0 ∧ q.sent = none) ∧
    Claim.Kept s t ∧ Within [I.CELL.ID_BITS, I.FELT.TAG] { s.dev with mgt := t.dev.mgt } t.dev) ∧
  (s.dev.get R.FELT.RING_STATE r = ringReady → s.dev.is R.FELT.RING_OPEN r = false → Does (.commaLoss (.ring r) side) s fun d =>
    d.get I.FELT.LANES r = 0 ∧ d.get R.FELT.RING_STATE r = ringSingle ∧ Raised d 4 (16 * r + 13) ∧
    Raised d 4 (16 * r + if side = .w then 0 else 1) ∧ Within Claim.ringFlds s.dev d) ∧
  (s.dev.get R.FELT.RING_STATE r = ringTrain → s.dev.is I.FELT.TRAIN_RAISED r = false → Does (.trainTimeout (.ring r)) s fun d =>
    d.get I.FELT.TRAIN_RAISED r = 1 ∧ Raised d 4 (16 * r + 2) ∧ Within Claim.ringFlds s.dev d) ∧
  (s.dev.get R.FELT.RING_STATE r = ringCal → s.dev.get R.FELT.CAL_SETTLE ≤ s.dev.get I.FELT.STABLE_RUN r →
    (s.dev.is R.FELT.RING_EAST_OK r = true → s.dev.is R.FELT.RING_WEST_OK r = true → Does (.calSettleDone (.ring r)) s fun d =>
      d.get R.FELT.RING_STATE r = ringReady ∧ bitOf (d.get R.FELT.RING_OK) r = 1 ∧
      d.get I.FELT.RHO_REF r = s.dev.get I.FELT.RHO_NOW r % 2 ^ I.FELT.RHO_REF.width ∧ d.get I.FELT.HAS_REF r = 1 ∧
      Within (Claim.ringFlds ++ [I.FELT.RHO_REF, I.FELT.HAS_REF, R.FELT.RING_RHO]) s.dev d) ∧
    (s.dev.is R.FELT.RING_EAST_OK r = false → Gives (.calSettleDone (.ring r)) s fun t =>
      t.dev.get R.FELT.RING_STATE r = ringSingle ∧ Frame Claim.ringFlds s t))) ∧
  (∀ (s : State) (n : Fin 16) (side : Side) (miss : Missing),
  (s.dev.get R.FELT.LF_STATE n = lfTrain → Gives (.laneAligned (.gen1 n)) s fun t =>
    t.dev.get I.FELT.LANES (6 + n) = 1 ∧ Claim.Kept s t ∧
    (∀ c ∈ s.dev.slotsOn (6 + n), ∃ q ∈ t.dev.mgt, q.link = 6 + n.val ∧ q.slot = c ∧ q.op = 1 ∧ q.addr = 0 ∧ q.sent = none) ∧
    Within [I.FELT.LANES, I.CELL.ID_BITS, I.FELT.TAG] { s.dev with mgt := t.dev.mgt } t.dev) ∧
  (s.dev.get R.FELT.LF_STATE n = lfTrain → s.dev.is I.FELT.LANES (6 + n) = true → Gives (.discoverRetry (.gen1 n)) s fun t =>
    (∀ c ∈ s.dev.slotsOn (6 + n), ∃ q ∈ t.dev.mgt, q.link = 6 + n.val ∧ q.slot = c ∧ q.op = 1 ∧ q.addr = 0 ∧ q.sent = none) ∧
    Claim.Kept s t ∧ Within [I.CELL.ID_BITS, I.FELT.TAG] { s.dev with mgt := t.dev.mgt } t.dev) ∧
  (Gives (.commaLoss (.gen1 n) side) s fun t => t.dev.get I.FELT.LANES (6 + n) = 0 ∧ Frame [I.FELT.LANES] s t) ∧
  (s.dev.get R.FELT.LF_STATE n = lfTrain → s.dev.is I.FELT.TRAIN_RAISED (6 + n) = false → Does (.trainTimeout (.gen1 n)) s fun d =>
    d.get I.FELT.TRAIN_RAISED (6 + n) = 1 ∧ Raised d 4 (96 + 4 * n) ∧ Within Claim.ringFlds s.dev d) ∧
  (s.dev.get R.FELT.LF_STATE n = lfCal → s.dev.get R.FELT.CAL_SETTLE ≤ s.dev.get I.FELT.LF_RUN n → Gives (.calSettleDone (.gen1 n)) s fun t =>
    t.dev.get R.FELT.LF_STATE n = lfUp ∧ bitOf (t.dev.get R.FELT.LF_UP) n = 1 ∧ Frame Claim.ringFlds s t) ∧
  (s.dev.is I.FELT.LF_SEEN n = false → s.dev.get R.FELT.LF_STATE n ∈ [lfCal, lfUp] → Does (.markerTimeout (.gen1 n) miss) s fun d =>
    d.get R.FELT.LF_STATE n = lfTrain ∧ Raised d 4 (96 + 4 * n) ∧ Within Claim.ringFlds { s.dev with mgt := d.mgt } d))

/-- LINK_ERR_WINDOW above the threshold raises the port's instance, and starts the next window at 0 (R185, R493); CELL_LINK_LOSS removes
the cell, and raises its instance (R186); a management acknowledgement, error or silence ends the request, which for a clear shows in
CLR_RESULT, and an error or silence raises instance 150 (R214, R216). -/
def Obligations.LinkFaults : Prop := ∀ (s : State) (r : Fin 6) (n : Fin 16) (side : Side) (p : Fin 2) (c : Fin 144) (q : MgtReq)
    (link : Link) (hop : BitVec 6) (op tag : BitVec 8) (addr : BitVec 32) (data : Word),
  (let port := 2 * r.val + (if side = .w then 1 else 0)
   s.dev.get R.FELT.ERR_THR < s.dev.get I.FELT.WIN_ERR port → Does (.linkErrWindow (.ring r side)) s fun d =>
    d.get I.FELT.WIN_ERR port = 0 ∧ Raised d 4 (16 * r + 3) ∧ Within (Claim.ringFlds ++ [I.FELT.WIN_ERR]) s.dev d) ∧
  (s.dev.get R.FELT.ERR_THR < s.dev.get I.FELT.WIN_ERR (12 + n) → Does (.linkErrWindow (.gen1 n)) s fun d =>
    d.get I.FELT.WIN_ERR (12 + n) = 0 ∧ Raised d 4 (96 + 4 * n + 1) ∧ Within (Claim.ringFlds ++ [I.FELT.WIN_ERR]) s.dev d) ∧
  (s.dev.portUsed p = true → s.dev.get R.NET.ERR_THR < s.dev.get I.NET.WIN_ERR p → Does (.linkErrWindow (.net p)) s fun d =>
    d.get I.NET.WIN_ERR p = 0 ∧ Raised d 13 (2 + p) ∧
    Within (raiseFlds ++ [I.NET.WIN_ERR, R.NET.FENCED, R.NET.UTC_OFF, R.HIF.SUM_TIME, R.HIF.SUM_NET]) s.dev d) ∧
  (s.dev.cellUsed c = true → s.dev.is I.CELL.EVER c = true → s.dev.get R.FELT.CELL_LINK_TIMEOUT ≤ s.dev.get R.CELL.MISS_RUN c →
    Does (.cellLinkLoss c) s fun d => d.get I.CELL.LOST c = 1 ∧ d.get I.CELL.REMOVE c = 1 ∧ Raised d 5 c ∧
      Within raiseFlds s.dev d [(I.CELL.LOST, c), (I.CELL.REMOVE, c)]) ∧
  (s.dev.mgt.find? (fun q => q.link = linkIx link && q.hop = hop.toNat && q.tag = tag.toNat && q.addr = addr.toNat && q.sent.isSome) = some q →
    q.why = 2 → 3 ≤ op.toNat → op.toNat ≤ 5 → Does (.mgtResponseRx link hop op tag addr data) s fun d =>
      d.mgt = s.dev.mgt.erase q ∧ d.get R.CELL.CLR_RESULT q.slot = (if op = 5 then 3 else 2) ∧ (op = 5 → Raised d 5 150) ∧
      Within raiseFlds { s.dev with mgt := d.mgt } d [(R.CELL.CLR_RESULT, q.slot)]) ∧
  (s.dev.mgt.find? (fun q => q.slot = c.val && q.sent.isSome) = some q → q.why = 2 → Does (.mgtTimeout c) s fun d =>
    d.mgt = s.dev.mgt.erase q ∧ d.get R.CELL.CLR_RESULT q.slot = 4 ∧ Raised d 5 150 ∧
    Within raiseFlds { s.dev with mgt := d.mgt } d [(R.CELL.CLR_RESULT, q.slot)])

/-- MV_LOCK_CHANGE and PLAUS_FAIL. While the control engine runs, MV_LOCK takes the new state of the lock, and its loss under a law
raises instance 2 (R280); a plausibility check that has failed for its count raises its slot's instance, once, and counts it
(R291).

RET_TIMEOUT of a parked slot removes it, with instance 16 raised; RET_SETTLE_REACHED by one whose cell has settled promotes it at the
next boundary, and otherwise does nothing (R233). SPREAD_ALARM raises its string's instance once (R260). -/
def Obligations.EngineAndSlotEvents : Prop :=
  (∀ (s : State) (slot : Fin 64) (i : Fin 144),
  (s.dev.is I.CE.BUSY = true → (s.dev.get I.CE.FE 5 != 0) ≠ s.dev.is R.CE.MV_LOCK → Does .mvLockChange s fun d =>
    d.get R.CE.MV_LOCK = (s.dev.get I.CE.FE 5 != 0).toNat ∧ (s.dev.get I.CE.FE 5 = 0 → s.dev.get I.CE.F_LAW ≠ 0 → Raised d 7 2) ∧
    Within (raiseFlds ++ [R.CE.MV_LOCK, I.CE.MV_CHG]) s.dev d [(I.CE.F_RUN, 0)]) ∧
  (s.dev.get R.CE.PAR_PL_N slot ≤ s.dev.get I.CE.PL_CNT (144 * slot + i) → s.dev.get I.CE.PL_CNT (144 * slot + i) ≠ 0 →
    s.dev.get I.CE.PL_RAISED (144 * slot + i) = 0 → Does (.plausFail slot) s fun d =>
      d.get I.CE.PL_RAISED (144 * slot + i) = 1 ∧ Raised d 7 (128 + slot) ∧
      Within (raiseFlds ++ [I.CE.PL_RAISED, R.CE.SLOT_PL_FAIL_CNT]) s.dev d)) ∧
  (∀ (s : State) (c : Fin 144) (g : Fin 6),
  (s.dev.role c = rolePark → Does (.retTimeout c) s fun d =>
    d.get I.MOD.RET_OUT c = 1 ∧ d.get I.CELL.REMOVE c = 1 ∧ Raised d 6 16 ∧ Within raiseFlds s.dev d [(I.MOD.RET_OUT, c), (I.CELL.REMOVE, c)]) ∧
  (s.dev.settled c = true → Gives (.retSettleReached c) s fun t => t.dev.get I.MOD.PROMOTE c = 1 ∧ Frame [] s t [(I.MOD.PROMOTE, c)]) ∧
  (s.dev.settled c = false → exec (.retSettleReached c) s = .next s) ∧
  (s.dev.strExists g = true → bitOf (s.dev.get R.CAL.SPREAD_ALM) g = 1 → s.dev.is I.CAL.SPREAD_RAISED g = false → Does (.spreadAlarm g) s fun d =>
    d.get I.CAL.SPREAD_RAISED g = 1 ∧ Raised d 6 (32 + g) ∧ Within raiseFlds s.dev d [(I.CAL.SPREAD_RAISED, g)]))

/-! The LV drive (11_lv_drive.md). -/

/-- What a latch, a turn-off and the instances of a half-bridge may write. -/
def Sys2Proof.Machine.Claim.lvFlds : List Fld :=
  settleFlds ++ [R.LVD.HB_LATCH, R.LVD.HB_FLT_CNT, R.LVD.HB_RETRY_EXH, I.LVD.RETRY_PEND, I.LVD.RETRY_DUE, R.LVD.CH_SC_TIME] ++
  [R.LVD.HB_CONFLICT_CNT, I.LVD.CONFL, R.LVD.HB_VLP_OK, R.LVD.HB_VLN_OK, R.LVD.HB_BST_OK, I.LVD.BST_SEEN]

/-- SC_DETECT of a channel that is on, outside a test of it, starts its soft turn-off and latches (R314); SOFT_TURNOFF_TIMEOUT goes over to
TOFF_SNK and latches, or outlasts the self-test of R324; HS_TO abandons a turn-on, GON_TIMEOUT turns the channel off, each with its latch and instance (R312, R314); ST_CONFLICT turns
on neither channel (R312); SOFT_TURNOFF_END notes the gate monitors and the channels that they report off (R316).

SUPPLY_FAULT and SUPPLY_GOOD show the supply and raise or end its instance (R303); BST_START_TIMEOUT raises instance 7 (R305);
RETRY_WAIT_EXPIRY lets the retry act at the next boundary (R321); DRV_EN_FALL raises instance 132, and DRV_EN_RISE after a long low clears, with
LEGACY_CLR set, the latches of every half-bridge without a soft turn-off (R323). -/
def Obligations.DriveFaults : Prop :=
  (∀ (s : State) (ch : Fin 16) (sc2 : Bool) (scTime : BitVec 24) (gm : BitVec 16) (hb : Fin 8),
  let k := ch.val / 2
  (s.dev.is I.LVD.CH_ON ch = true → s.dev.lvtTests ch = false → s.dev.hbUsed k = true → Does (.scDetect ch sc2 scTime) s fun d =>
    d.get I.LVD.CH_ON ch = 0 ∧ d.get I.LVD.CH_SOFT ch = 1 ∧ bitOf (d.get R.LVD.HB_LATCH k) (2 * sc2.toNat + ch % 2) = 1 ∧
    d.get R.LVD.CH_SC_TIME ch = scTime.toNat ∧ Raised d 8 (16 * k + sc2.toNat) ∧ Within Claim.lvFlds s.dev d) ∧
  (s.dev.is I.LVD.CH_SOFT ch = true → s.dev.lvtTests ch = true → Does (.softTurnoffTimeout ch) s fun d =>
    d.get I.LVD.CH_SNK ch = 1 ∧ d.get R.LVD.LVT_RESULT = 3 ∧ Within [R.LVD.LVT_RESULT] s.dev d [(I.LVD.CH_SNK, ch)]) ∧
  (s.dev.is I.LVD.CH_SOFT ch = true → s.dev.lvtTests ch = false → Does (.softTurnoffTimeout ch) s fun d =>
    d.get I.LVD.CH_SNK ch = 1 ∧ bitOf (d.get R.LVD.HB_LATCH k) 4 = 1 ∧ Raised d 8 (16 * k + 2) ∧ Within Claim.lvFlds s.dev d) ∧
  (s.dev.is I.LVD.CH_REQ ch = true → Does (.hsTo ch) s fun d =>
    d.get I.LVD.CH_REQ ch = 0 ∧ bitOf (d.get R.LVD.HB_LATCH k) 4 = 1 ∧ Raised d 8 (16 * k + 2) ∧ Within Claim.lvFlds s.dev d) ∧
  (s.dev.is I.LVD.CH_ON ch = true → Does (.gonTimeout ch) s fun d =>
    d.get I.LVD.CH_ON ch = 0 ∧ bitOf (d.get R.LVD.HB_LATCH k) (5 + ch % 2) = 1 ∧ Raised d 8 (16 * k + 3) ∧ Within Claim.lvFlds s.dev d) ∧
  (s.dev.is I.LVD.CH_REQ (2 * hb) = true → s.dev.is I.LVD.CH_REQ (2 * hb + 1) = true → Does (.stConflict hb) s fun d =>
    d.get I.LVD.CH_REQ (2 * hb) = 0 ∧ d.get I.LVD.CH_REQ (2 * hb + 1) = 0 ∧ d.get I.LVD.CH_ON (2 * hb) = 0 ∧ d.get I.LVD.CH_ON (2 * hb + 1) = 0 ∧
    d.get R.LVD.HB_CONFLICT_CNT hb = satAdd 16 (s.dev.get R.LVD.HB_CONFLICT_CNT hb) 1 % 65536 ∧ Raised d 8 (16 * hb + 4) ∧ Within Claim.lvFlds s.dev d) ∧
  (Does (.softTurnoffEnd gm) s fun d =>
    (∀ j < 8, d.get R.LVD.HB_GM_L j = bitOf gm.toNat (2 * j) ∧ d.get R.LVD.HB_GM_H j = bitOf gm.toNat (2 * j + 1)) ∧
    (∀ i < 16, d.get I.LVD.CH_SOFT i = if bitOf gm.toNat i = 0 then 0 else s.dev.get I.LVD.CH_SOFT i) ∧
    Within [R.LVD.HB_GM_L, R.LVD.HB_GM_H, I.LVD.GM_SEEN, I.LVD.CH_SOFT, R.LVD.LVT_RESULT] s.dev d)) ∧
  (∀ (s : State) (hb : Fin 8) (rail : Rail) (lowTenUs : Bool),
  (s.dev.hbUsed hb = true → Does (.supplyFault hb rail) s fun d =>
    d.get (railFld rail) hb = 0 ∧ Raised d 8 (16 * hb + railInst rail) ∧
    (rail = .bst → d.get I.LVD.CH_ON (2 * hb + 1) = 0 ∧ d.get I.LVD.CH_REQ (2 * hb + 1) = 0) ∧ Within Claim.lvFlds s.dev d) ∧
  (Does (.supplyGood hb rail) s fun d =>
    d.get (railFld rail) hb = 1 ∧ (∀ a ∈ d.active, a.cls = 8 → a.inst = 16 * hb + railInst rail → a.held = false) ∧ Within Claim.lvFlds s.dev d) ∧
  (s.dev.hbUsed hb = true → s.dev.is R.LVD.HB_VLP_OK hb = true → s.dev.is I.LVD.BST_SEEN hb = false → Does (.bstStartTimeout hb) s fun d =>
    Raised d 8 (16 * hb + 7) ∧ Within raiseFlds s.dev d) ∧
  (s.dev.is I.LVD.RETRY_PEND hb = true → Gives (.retryWaitExpiry hb) s fun t =>
    t.dev.get I.LVD.RETRY_DUE hb = 1 ∧ Frame [] s t [(I.LVD.RETRY_DUE, hb)]) ∧
  (Does .drvEnFall s fun d => d.get R.LVD.DRV_EN_PIN = 0 ∧ d.get R.LVD.DRV_EN_LOW = 1 ∧ Raised d 8 132 ∧
    Within (raiseFlds ++ [R.LVD.DRV_EN_PIN, R.LVD.DRV_EN_LOW]) s.dev d) ∧
  (s.dev.is R.LVD.LEGACY_CLR = true → Does (.drvEnRise true) s fun d =>
    d.get R.LVD.DRV_EN_PIN = 1 ∧ d.get R.LVD.LEGACY_DONE = 1 ∧ (∀ j < 8, s.dev.softIn j = false → d.get R.LVD.HB_LATCH j = 0) ∧
    (∀ j < 8, s.dev.softIn j = true → d.get R.LVD.HB_LATCH j = s.dev.get R.LVD.HB_LATCH j) ∧
    Raised d 8 133 ∧ Within (Claim.lvFlds ++ [R.LVD.DRV_EN_PIN, R.LVD.LEGACY_DONE]) s.dev d) ∧
  ((s.dev.is R.LVD.LEGACY_CLR = false ∨ lowTenUs = false) → Does (.drvEnRise lowTenUs) s fun d =>
    d.get R.LVD.DRV_EN_PIN = 1 ∧ Within [R.LVD.DRV_EN_PIN] s.dev d))

/-- LV_EDGE takes the edge of the half-bridge's group: the sequence of each of its half-bridges goes to the edge's state, and where
nothing holds it, nor an LV test drives it, the outgoing channel is off (R309). INCOMING_TURN_ON turns the requested channel on where it is allowed, and the other
channel is off and its gate monitor reports off (R311), and leaves it off where the other channel is on or its monitor says so.
LV_CARRIER_EVENT triggers the sequences bound to it, and no register outside the front end changes (R310). -/
def Obligations.LvSwitching : Prop := ∀ (s : State) (hb : Fin 8) (gm : BitVec 16) (side : Fin 2) (e : LvEdge) (peak : Bool),
  (s.dev.lvEdges.find? (fun e => e.grp = s.dev.legGroup hb) = some e → Gives (.lvEdge hb) s fun t =>
    t.dev.lvEdges = s.dev.lvEdges.erase e ∧
    (∀ k ∈ s.dev.legMembers e.grp, t.dev.get I.LVD.SEQ_ST k = e.st % 4 ∧
      (s.dev.get I.LVD.HOLD k = 0 → s.dev.seqDrives = true → (e.st ≠ 2 → t.dev.get I.LVD.CH_ON (2 * k) = 0) ∧ (e.st ≠ 1 → t.dev.get I.LVD.CH_ON (2 * k + 1) = 0))) ∧
    Claim.Kept s t ∧
    Within (countFlds ++ [I.LVD.SEQ_ST, I.LVD.CH_ON, I.LVD.CH_REQ, I.LVD.CH_SNK, I.LVD.CH_SOFT, R.LVD.HB_BST_HOLD_CNT, R.LVD.HB_FIT, R.LVD.HB_FLT,
      R.LVD.HB_OUT]) { s.dev with lvEdges := t.dev.lvEdges } t.dev) ∧
  (let ch := 2 * hb.val + side
   let other := 2 * hb.val + (1 - side)
   s.dev.is I.LVD.CH_REQ ch = true → s.dev.is I.LVD.CH_REQ other = false →
    (s.dev.allowed ch = true → s.dev.is I.LVD.CH_ON other = false → bitOf gm.toNat other = 0 → Gives (.incomingTurnOn hb gm) s fun t =>
      t.dev.get I.LVD.CH_ON ch = 1 ∧ t.dev.get I.LVD.CH_REQ ch = 0 ∧ t.dev.get R.LVD.HB_OUT hb = 2 - side ∧
      Frame [R.LVD.HB_GM_L, R.LVD.HB_GM_H, I.LVD.GM_SEEN, R.LVD.HB_OUT, R.LVD.HB_FIT, R.LVD.HB_FLT] s t
        [(I.LVD.CH_ON, ch), (I.LVD.CH_REQ, ch), (I.LVD.CH_SNK, ch)]) ∧
    (s.dev.allowed ch = false ∨ s.dev.is I.LVD.CH_ON other = true ∨ bitOf gm.toNat other = 1 → Gives (.incomingTurnOn hb gm) s fun t =>
      Frame [R.LVD.HB_GM_L, R.LVD.HB_GM_H, I.LVD.GM_SEEN] s t)) ∧
  (Does (.lvCarrierEvent peak) s fun d => Within (raiseFlds ++ [I.AFE.DROPS, I.AFE.FRAME_RUN, I.AFE.LATE_RUN, I.AFE.QTRIG_NS, I.AFE.READY_NS,
    I.AFE.RUN_FAIL, I.AFE.STEP, I.AFE.TRIG_NS, I.AFE.WAIT, R.AFE.SEQ_BUSY, R.AFE.SEQ_QUEUED, R.AFE.SEQ_TRIG_OVR]) s.dev d ∧
    ∀ n < 8, s.dev.afeRuns = true → s.dev.get R.AFE.SEQ_NENT n ≠ 0 → s.dev.get R.AFE.SEQ_TRIG_SRC n ∈ (if peak then [3, 4] else [2, 4]) →
      s.dev.is R.AFE.SEQ_BUSY n = false → d.get R.AFE.SEQ_BUSY n = 1)

/-- The two channels of a half-bridge are not both on. -/
def Sys2Proof.Machine.Claim.OneOn (d : Dev) : Prop := ∀ k < 8, d.get I.LVD.CH_ON (2 * k) = 0 ∨ d.get I.LVD.CH_ON (2 * k + 1) = 0

/-- Dead time (R311, R312): whatever the edges, the gate monitors, the supplies and the faults do, and whatever a settling turns on or
off, no half-bridge comes to have both channels on. -/
def Obligations.NoShootThrough : Prop := ∀ (s t : State) (hb : Fin 8) (ch : Fin 16) (rail : Rail) (b : Bool) (q : BitVec 24) (gm : BitVec 16),
  Claim.OneOn s.dev →
  (∃ c ∈ [Instr.lvEdge hb, .lvCarrierEvent b, .scDetect ch b q, .softTurnoffEnd gm, .softTurnoffTimeout ch, .hsTo ch, .gonTimeout ch, .stConflict hb,
    .supplyFault hb rail, .supplyGood hb rail, .bstStartTimeout hb, .retryWaitExpiry hb, .drvEnFall, .drvEnRise b, .incomingTurnOn hb gm],
    exec c s = .next t) →
  Claim.OneOn t.dev

/-! The analogue front end, the fault collector's own events, SIG_OK and the test access port (12_afe_sensing.md, 13_faults.md, 19). -/

/-- What a run of a sequence may write, from its trigger to its publication. -/
def Sys2Proof.Machine.Claim.afeFlds : List Fld :=
  raiseFlds ++ [I.AFE.CONV, I.AFE.DAC_BAD, I.AFE.DAC_NS, I.AFE.DROPS, I.AFE.FRAME_RUN, I.AFE.GOOD, I.AFE.GOT_RUN, I.AFE.LATE_RUN, I.AFE.PUB_NS] ++
  [I.AFE.QTRIG_NS, I.AFE.READY_NS, I.AFE.REF_FAIL, I.AFE.RUN_FAIL, I.AFE.SAMPLE_NS, I.AFE.STEP, I.AFE.STEP_NS, I.AFE.TO_FAIL, I.AFE.TRIG_NS] ++
  [I.AFE.WAIT, R.AFE.CONV_OK, R.AFE.RESULT, R.AFE.SEQ_BUSY, R.AFE.SEQ_CLIP, R.AFE.SEQ_DUR_LAST, R.AFE.SEQ_FAIL, R.AFE.SEQ_FAIL_CNT, R.AFE.SEQ_LATE_CNT] ++
  [R.AFE.SEQ_QUEUED, R.AFE.SEQ_RUNS, R.AFE.SEQ_TRIG_OVR, R.AFE.SEQ_TS, R.AFE.SEQ_WAIT_LAST, R.AFE.WC_DACERR, R.AFE.WC_DACERR_CNT, R.AFE.WC_LATCH] ++
  [R.AFE.WC_LATCH_CNT, R.AFE.WC_RB_HI, R.AFE.WC_RB_LO]

/-- SEQ_TRIGGER starts an idle sequence, queues one trigger where QUEUE is 1, or drops it (R335); GT_EVENT starts the sequences bound to the
timer (R334); SEQ_STEP_START takes the converters of the next step, once no other sequence holds one (R333); SEQ_PUBLISH publishes every
result of the run at once (R336); CONVERSION_TIMEOUT fails the converter and every run under way that uses it (R350). -/
def Obligations.Sequences : Prop := ∀ (s : State) (n : Fin 8) (g : Fin 2) (a : Fin 4) (codes : BitVec 256) (st : List Nat),
  (2 ≤ s.dev.get R.AFE.SEQ_TRIG_SRC n → s.dev.afeRuns = true → s.dev.get R.AFE.SEQ_NENT n ≠ 0 →
    (s.dev.is R.AFE.SEQ_BUSY n = false → Does (.seqTrigger n) s fun d =>
      d.get R.AFE.SEQ_BUSY n = 1 ∧ d.get I.AFE.TRIG_NS n = s.clk.ns % 2 ^ 64 ∧ d.get I.AFE.STEP n = 0 ∧ Within Claim.afeFlds s.dev d) ∧
    (s.dev.is R.AFE.SEQ_BUSY n = true → s.dev.is R.AFE.SEQ_QUEUE1 n = true → s.dev.is R.AFE.SEQ_QUEUED n = false → Does (.seqTrigger n) s fun d =>
      d.get R.AFE.SEQ_QUEUED n = 1 ∧ Within [] s.dev d [(R.AFE.SEQ_QUEUED, n), (I.AFE.QTRIG_NS, n)]) ∧
    (s.dev.is R.AFE.SEQ_BUSY n = true → s.dev.is R.AFE.SEQ_QUEUE1 n = false → Does (.seqTrigger n) s fun d =>
      d.get R.AFE.SEQ_TRIG_OVR n = satAdd R.AFE.SEQ_TRIG_OVR.width (s.dev.get R.AFE.SEQ_TRIG_OVR n) 1 % 2 ^ R.AFE.SEQ_TRIG_OVR.width ∧
      Within raiseFlds s.dev d [(R.AFE.SEQ_TRIG_OVR, n), (I.AFE.DROPS, n)])) ∧
  (s.dev.get R.AFE.SEQ_TRIG_SRC n < 2 → exec (.seqTrigger n) s = .next s) ∧
  (s.dev.get R.AFE.GT_PERIOD g ≠ 0 → Does (.gtEvent g) s fun d =>
    (s.dev.get R.AFE.SEQ_TRIG_SRC n = 5 + g → s.dev.afeRuns = true → s.dev.get R.AFE.SEQ_NENT n ≠ 0 → d.get R.AFE.SEQ_BUSY n ≠ 0) ∧
    Within Claim.afeFlds s.dev d) ∧
  ((s.dev.seqSteps n)[s.dev.get I.AFE.STEP n]? = some st → s.dev.is R.AFE.SEQ_BUSY n = true →
    (∀ e ∈ st, s.dev.convHeld s.clk.ns n (entAdc e) = false) → Gives (.seqStepStart n) s fun t =>
      (∀ e ∈ st, t.dev.get I.AFE.CONV (entAdc e) = n + 1) ∧
      t.dev.get I.AFE.STEP n = (s.dev.get I.AFE.STEP n + 1) % 2 ^ I.AFE.STEP.width ∧ Frame Claim.afeFlds s t) ∧
  (s.dev.get R.AFE.SEQ_NENT n ≤ 16 → s.dev.is R.AFE.SEQ_BUSY n = true → s.dev.get I.AFE.STEP n = (s.dev.seqSteps n).length → Does (.seqPublish n codes) s fun d =>
    (∀ i (h : i < (s.dev.seqEntries n).length), d.get R.AFE.RESULT (16 * n + i) =
      resultOf (entFmt (s.dev.seqEntries n)[i]) (bitsOf codes.toNat (16 * i + 15) (16 * i)) % 2 ^ 32) ∧
    d.get R.AFE.SEQ_RUNS n = (s.dev.get R.AFE.SEQ_RUNS n + 1) % 2 ^ R.AFE.SEQ_RUNS.width ∧
    (s.dev.is R.AFE.SEQ_QUEUED n = false → d.get R.AFE.SEQ_BUSY n = 0) ∧ Within Claim.afeFlds { s.dev with net := d.net } d) ∧
  (Does (.conversionTimeout a) s fun d =>
    d.get I.AFE.TO_FAIL a = 1 ∧ bitOf (d.get R.AFE.CONV_OK) a = 0 ∧ Raised d 9 (88 + a) ∧
    (s.dev.is R.AFE.SEQ_BUSY n = true → a.val ∈ s.dev.seqAdcs n → d.get I.AFE.RUN_FAIL n = 1) ∧ Within Claim.afeFlds s.dev d)

/-- WC_FILTERED_CHANGE of a comparator in use to its condition latches it, raises its instance and, where it trips the LV drive, that
instance too (R342, R343). HK_SEQUENCE keeps the nine codes and their instant while no Ream is active (R425).

QUIET_PERIOD_EXPIRY makes the instance due for recovery (R364); RECOV_WINDOW_EXPIRY ends the unit's window (R365); ECC_ERROR and
SIGOK_READBACK_FAULT raise their instance of class 15 (R355); SIGOK_PULSE_END enters HOLD with the pin low (R374) and SIGOK_TOGGLE toggles the pin in ALIVE
(R376), in no other state; TAP_INSTRUCTION puts the test access port under the instruction, EXTEST and CLAMP only in nRESET (R532). -/
def Obligations.ComparatorsAndWatchers : Prop :=
  (∀ (s : State) (w : Fin 24) (high low : Bool) (codes : BitVec 144),
  (s.dev.afeRuns = true → s.dev.get R.AFE.WC_WMODE w ≠ 0 → condition (s.dev.get R.AFE.WC_WMODE w) high low = true →
    bitOf (s.dev.get I.AFE.WC_C) w = 0 → bitOf (s.dev.get R.AFE.WC_LATCH) w = 0 → Does (.wcFilteredChange w high low) s fun d =>
      bitOf (d.get I.AFE.WC_C) w = 1 ∧ bitOf (d.get R.AFE.WC_LATCH) w = 1 ∧ Raised d 9 w ∧
      (s.dev.is R.AFE.WC_ROLE w = true → s.dev.get R.LVD.TRIP_MAP w ≠ 0 → Raised d 8 (136 + w)) ∧
      Within (raiseFlds ++ [I.AFE.WC_H, I.AFE.WC_L, I.AFE.WC_C, R.AFE.WC_LATCH]) s.dev d [(R.AFE.WC_LATCH_CNT, w)]) ∧
  (s.dev.afeRuns = true → s.dev.get R.AFE.WC_WMODE w ≠ 0 → condition (s.dev.get R.AFE.WC_WMODE w) high low = false →
    Does (.wcFilteredChange w high low) s fun d =>
      bitOf (d.get I.AFE.WC_C) w = 0 ∧ d.get R.AFE.WC_LATCH = s.dev.get R.AFE.WC_LATCH ∧ Within [I.AFE.WC_H, I.AFE.WC_L, I.AFE.WC_C] s.dev d) ∧
  (s.dev.ream.active = none → s.dev.mode ≠ .backup → s.dev.get I.MODE.BOOT_STEP ≠ 1 → Gives (.hkSequence codes) s fun t =>
    (∀ k < 9, t.dev.get I.THERM.INT_CODE k = bitsOf codes.toNat (16 * k + 15) (16 * k) % 65536) ∧
    t.dev.get I.THERM.INT_NS = (s.clk.ns + 1) % 2 ^ I.THERM.INT_NS.width ∧ Frame [I.THERM.INT_CODE, I.THERM.INT_NS] s t)) ∧
  (∀ (s : State) (cls : Fin 16) (inst : BitVec 8) (u : Fin 173) (corrected : Bool) (region : BitVec 16) (ins : TapIns),
  (Gives (.quietPeriodExpiry cls inst) s fun t =>
    t.dev.active = s.dev.active.map (fun a => if a.cls = cls.val ∧ a.inst = inst.toNat ∧ a.quiet.isSome then { a with elapsed := true } else a) ∧ Frame [] s t) ∧
  (s.dev.is I.FLT.WIN_NS u = true → Gives (.recovWindowExpiry u) s fun t =>
    t.dev.get I.FLT.WIN_NS u = 0 ∧ t.dev.get R.FLT.UNIT_WIN_LEFT u = 0 ∧ Frame [] s t [(I.FLT.WIN_NS, u), (R.FLT.UNIT_WIN_LEFT, u)]) ∧
  (s.dev.supervised = true → Does (.eccError corrected region) s fun d => Raised d 15 (if corrected then 2 else 3) ∧ Within raiseFlds s.dev d) ∧
  (s.dev.supervised = true → Does .sigokReadbackFault s fun d => Raised d 15 4 ∧ Within raiseFlds s.dev d) ∧
  (s.dev.get R.FLT.SIGOK_STATE = sigPulse → Gives .sigokPulseEnd s fun t =>
    t.dev.get R.FLT.SIGOK_STATE = sigHold ∧ t.dev.get R.FLT.SIGOK_PIN = 0 ∧ t.dev.get R.FLT.ALIVE = 0 ∧ t.dev.get R.FLT.LEVEL = 0 ∧
    Frame [R.FLT.SIGOK_STATE, R.FLT.SIGOK_PIN, R.FLT.ALIVE, R.FLT.LEVEL] s t) ∧
  (s.dev.get R.FLT.SIGOK_STATE ≠ sigPulse → exec .sigokPulseEnd s = .next s) ∧
  (s.dev.get R.FLT.SIGOK_STATE = sigAlive → Gives .sigokToggle s fun t =>
    t.dev.get R.FLT.SIGOK_PIN = (if s.dev.get R.FLT.SIGOK_PIN = 0 then 1 else 0) ∧ Frame [R.FLT.SIGOK_PIN] s t) ∧
  (s.dev.get R.FLT.SIGOK_STATE ≠ sigAlive → exec .sigokToggle s = .next s) ∧
  (s.dev.mode ≠ .backup → Gives (.tapInstruction ins) s fun t =>
    t.dev.get I.MODE.TAP = tapCode (s.dev.get I.MODE.NRST = 1) ins ∧
    (s.dev.get I.MODE.NRST ≠ 1 → ins = .extest ∨ ins = .clamp → t.dev.get I.MODE.TAP = 0) ∧ Frame [I.MODE.TAP] s t))

/-! The safety channels (14_safety.md). -/

/-- SAFETY_INPUT_FILTERED of a used pair takes both contacts; a pair that comes into demand raises its instance (R387, R398).
DISCREPANCY_FAULT latches the pair (R388). A feedback contact that does not confirm in time, or changes of itself, latches its fault and raises
its instance (R390); one that confirms ends the wait.

OUTPUT_READBACK_FAULT latches its channel's demand and raises instance 16 (R391). SAFETY_EXCHANGE takes the commands of the outputs;
EXCHANGE_TIMEOUT and CROSSCHECK_DISAGREE of a common demand latch the cross-check and raise instance 17; Yarrow's supply shows in YSUP_OK and
instance 18 (R392). YARROW_CONFIG puts the parameters in force when their CRC is the one of the sheet, and otherwise raises
instance 21 and leaves them (R396). -/
def Obligations.SafetyChannels : Prop :=
  (∀ (s : State) (ch : Channel) (pair f : Fin 4) (a b closed : Bool) (dis : BitVec 32),
  let c := chanIx ch
  (s.dev.pairUsed c pair = true → Does (.safetyInputFiltered ch pair a b dis) s fun d =>
    d.get I.SAFE.IN (2 * (4 * c + pair)) = a.toNat ∧ d.get I.SAFE.IN (2 * (4 * c + pair) + 1) = b.toNat ∧
    ((a || b) = true → s.dev.pairDemand 0 pair = false → s.dev.pairDemand 1 pair = false → Raised d 10 pair) ∧
    Within (raiseFlds ++ [I.SAFE.ARM, I.SAFE.DIS_FIRST, I.SAFE.DIS_ON, I.SAFE.IN, I.SAFE.LATCH, R.SAFE.PAIR_DISC_CNT, R.SAFE.PAIR_LAST_DISAG,
      R.SAFE.PAIR_NEAR_CNT]) s.dev d) ∧
  (s.dev.pairUsed c pair = false → exec (.safetyInputFiltered ch pair a b dis) s = .next s) ∧
  (s.dev.pairUsed c pair = true → s.dev.is I.SAFE.DIS_ON (4 * c + pair) = true → Does (.discrepancyFault ch pair) s fun d =>
    d.get I.SAFE.LATCH (4 * c + pair) = 1 ∧ d.get I.SAFE.DIS_ON (4 * c + pair) = 0 ∧
    (c = 0 ∨ s.dev.is I.SAFE.LATCH pair = false → Raised d 10 (4 + pair)) ∧
    Within (raiseFlds ++ [I.SAFE.ARM, I.SAFE.LATCH, I.SAFE.DIS_ON, R.SAFE.PAIR_DISC_CNT]) s.dev d) ∧
  (s.dev.is I.SAFE.FB_WAIT (4 * c + f) = true →
    (Does (.feedbackTimeout ch f) s fun d =>
      d.get I.SAFE.FBL (4 * c + f) = 1 ∧ d.get I.SAFE.FB_WAIT (4 * c + f) = 0 ∧ Raised d 10 (12 + f) ∧
      Within (raiseFlds ++ [I.SAFE.FBL, I.SAFE.FB_WAIT, R.SAFE.FB_FLT_CNT]) s.dev d) ∧
    (Gives (.feedbackConfirmed ch f) s fun t =>
      t.dev.get I.SAFE.FB_WAIT (4 * c + f) = 0 ∧
      t.dev.get R.SAFE.FB_CONF_T f = min ((s.clk.ns - s.dev.get I.SAFE.FB_T0 (4 * c + f)) / 1000000) 65535 ∧
      Frame [R.SAFE.FB_LEVEL] s t [(I.SAFE.FB_WAIT, 4 * c + f), (R.SAFE.FB_CONF_T, f)]) ∧
    (Gives (.feedbackChange ch f closed) s fun t => bitOf (t.dev.get R.SAFE.FB_LEVEL) f = closed.toNat ∧ Frame [R.SAFE.FB_LEVEL] s t)) ∧
  (s.dev.is I.SAFE.FB_WAIT (4 * c + f) = false → bitOf (s.dev.fbCfg c f) 0 = 1 → Does (.feedbackChange ch f closed) s fun d =>
    bitOf (d.get R.SAFE.FB_LEVEL) f = closed.toNat ∧ d.get I.SAFE.FBL (4 * c + f) = 1 ∧ Raised d 10 (12 + f) ∧
    Within (raiseFlds ++ [I.SAFE.FBL, I.SAFE.FB_WAIT, R.SAFE.FB_FLT_CNT, R.SAFE.FB_LEVEL]) s.dev d)) ∧
  (∀ (s : State) (ch : Channel) (out : Fin 4) (params : BitVec 320) (sh : Sheet),
  (Does (.outputReadbackFault ch out) s fun d =>
    d.get I.SAFE.RBL (2 * chanIx ch + out / 2) = 1 ∧ bitOf (d.get I.SAFE.RB_STUCK) out = 1 ∧ Raised d 10 16 ∧
    Within (raiseFlds ++ [I.SAFE.RBL, I.SAFE.RB_STUCK, R.SAFE.OUT_RB]) s.dev d) ∧
  (Does .safetyExchange s fun d =>
    (∀ k < 4, d.get I.SAFE.XCMD k = bitOf (s.dev.get R.SAFE.OUT_CMD) (2 * (k % 2) + (1 - k / 2))) ∧ Within [I.SAFE.XCMD] s.dev d) ∧
  (Does (.exchangeTimeout ch) s fun d => d.get I.SAFE.XCHK (chanIx ch) = 1 ∧ Raised d 10 17 ∧ Within raiseFlds s.dev d [(I.SAFE.XCHK, chanIx ch)]) ∧
  ((∃ fn < 2, s.dev.commonDemand 0 fn ≠ s.dev.commonDemand 1 fn) → Does (.crosscheckDisagree ch) s fun d =>
    d.get I.SAFE.XCHK (chanIx ch) = 1 ∧ Raised d 10 17 ∧ Within raiseFlds s.dev d [(I.SAFE.XCHK, chanIx ch)]) ∧
  ((∀ fn < 2, s.dev.commonDemand 0 fn = s.dev.commonDemand 1 fn) → exec (.crosscheckDisagree ch) s = .next s) ∧
  (Does .yarrowSupplyFault s fun d => d.get I.SAFE.YSUP_BAD = 1 ∧ d.get R.SAFE.YSUP_OK = 0 ∧ Raised d 10 18 ∧
    Within (raiseFlds ++ [I.SAFE.YSUP_BAD, R.SAFE.YSUP_OK]) s.dev d) ∧
  (s.dev.is I.SAFE.YSUP_BAD = true → Does .yarrowSupplyReturn s fun d => d.get I.SAFE.YSUP_BAD = 0 ∧ d.get R.SAFE.YSUP_OK = 1 ∧
    (∀ a ∈ d.active, a.cls = 10 → a.inst = 18 → a.held = false) ∧ Within [I.SAFE.YSUP_BAD, R.SAFE.YSUP_OK] s.dev d) ∧
  (s.dev.safetySheet = some sh →
    (crc32c (leBytes 40 params.toNat) = bytesAt sh.strc.data 0x28 4 → Does (.yarrowConfig params) s fun d =>
      d.get R.SAFE.CFG_OK = 1 ∧ (∀ i < 4, d.get I.SAFE.Y_SI_CFG i = bytesAt params.toNat (4 * i) 4 % 2 ^ I.SAFE.Y_SI_CFG.width) ∧
      Within [R.SAFE.YCFG_CRC, R.SAFE.CFG_OK, I.SAFE.Y_SI_CFG, I.SAFE.Y_DISC_T, I.SAFE.Y_FB_CFG, I.SAFE.Y_FB_TIMEOUT] s.dev d) ∧
    (crc32c (leBytes 40 params.toNat) ≠ bytesAt sh.strc.data 0x28 4 → Does (.yarrowConfig params) s fun d =>
      d.get R.SAFE.CFG_OK = 0 ∧ Raised d 10 21 ∧ Within (raiseFlds ++ [R.SAFE.YCFG_CRC, R.SAFE.CFG_OK]) s.dev d)))

/-! The partner lane (15_redundancy.md), the tagged samples (18_performance.md). -/

/-- What the status of the partnership, and the instances of its class, may write. -/
def Sys2Proof.Machine.Claim.partFlds : List Fld :=
  raiseFlds ++ [R.PART.PRIMARY, R.PART.READY, R.PART.NOT_READY, R.PART.SYNC_TIME, R.PART.IN_SYNC, R.HIF.SUM_ROLE, I.PART.HIZ, I.PART.SHOWN_SYNC] ++
  [I.PART.SYNC_LIVE, I.PART.LEAVE_DUE, I.PART.TAKEOVER_DUE, I.PART.TO_BND]

/-- R404, R405, on a module strapped to a partner: the fourth edge in a row 45 to 55 µs after the one before it, while the wire path is lost,
brings it back; an edge out of that range starts the count again; HB_OUT toggles; a beat brings the partner's state, and the third in a row the lane's
path; a bad one counts as an error; a path that is lost shows so, ends IN_SYNC, and raises its instance while the other path
stands. -/
def Obligations.PartnerPaths : Prop := ∀ (s : State) (beat : Beat), s.dev.strapped = true →
  (let gap := s.clk.ns + 1 - s.dev.get I.PART.LAST_EDGE
   let good := s.dev.get I.PART.LAST_EDGE ≠ 0 ∧ 45000 ≤ gap ∧ gap ≤ 55000
   Does .hbInEdge s fun d =>
    (good → 3 ≤ s.dev.get I.PART.EDGE_RUN → s.dev.is R.PART.WIRE_OK = false → d.get R.PART.WIRE_OK = 1) ∧
    (good → s.dev.get I.PART.EDGE_RUN < 3 → d.get R.PART.WIRE_OK = s.dev.get R.PART.WIRE_OK ∧
      d.get I.PART.EDGE_RUN = s.dev.get I.PART.EDGE_RUN + 1) ∧
    (¬ good → d.get R.PART.WIRE_OK = s.dev.get R.PART.WIRE_OK ∧ d.get I.PART.EDGE_RUN = 0) ∧
    Within (Claim.partFlds ++ [I.PART.LAST_EDGE, I.PART.EDGE_RUN, R.PART.WIRE_OK]) s.dev d) ∧
  (Gives .hbOutToggle s fun t => (s.dev.is I.PART.HB_OUT = true → t.dev.get I.PART.HB_OUT = 0) ∧
    (s.dev.is I.PART.HB_OUT = false → s.dev.mode ∉ [.backup, .boot] → s.dev.is I.MODE.IN_RESET = false → s.dev.is R.TB.PLL_T_LOCK = true →
      t.dev.get I.PART.HB_OUT = 1) ∧ Frame [I.PART.HB_OUT] s t) ∧
  (beat.valid = true → Does (.beatRx beat) s fun d =>
    d.get R.PART.PARTNER_MODE = beat.mode.toNat ∧ d.get R.PART.PARTNER_PRIMARY = beat.primary.toNat ∧ d.get I.PART.BEAT_FRAME = beat.frame.toNat ∧
    (beat.frame.toNat = (s.dev.get I.PART.BEAT_FRAME + 1) % 2 ^ 32 → 2 ≤ s.dev.get I.PART.BEAT_RUN → s.dev.is R.PART.PL_OK = false →
      d.get R.PART.PL_OK = 1) ∧
    (beat.strap.toNat = s.dev.get R.PART.STRAP → Raised d 11 11) ∧
    Within (Claim.partFlds ++ [I.PART.BEAT_DIGEST, I.PART.BEAT_FRAME, I.PART.BEAT_INHIBIT, I.PART.BEAT_INSYNC, I.PART.BEAT_MAJOR, I.PART.BEAT_OK,
      I.PART.BEAT_PERMITS, I.PART.BEAT_REACT, I.PART.BEAT_READY, I.PART.BEAT_RUN, I.PART.BEAT_STRAP, R.FELT.OWN_EPOCH, R.PART.PARTNER_EPOCH,
      R.PART.PARTNER_MODE, R.PART.PARTNER_PRIMARY, R.PART.PL_OK]) s.dev d) ∧
  (beat.valid = false → Does (.beatRx beat) s fun d => d.get I.PART.BEAT_RUN = 0 ∧
    Within (Claim.partFlds ++ [R.PART.PL_ERR, I.PART.BEAT_RUN]) s.dev d) ∧
  (s.dev.is R.PART.WIRE_OK = true → Does .wirePathLost s fun d =>
    d.get R.PART.WIRE_OK = 0 ∧ d.get R.PART.IN_SYNC = 0 ∧ (s.dev.is R.PART.PL_OK = true → Raised d 11 1) ∧
    Within (Claim.partFlds ++ [R.PART.WIRE_OK, I.PART.EDGE_RUN]) s.dev d) ∧
  (s.dev.is R.PART.PL_OK = true → Does .plPathLost s fun d =>
    d.get R.PART.PL_OK = 0 ∧ d.get R.PART.IN_SYNC = 0 ∧ (s.dev.is R.PART.WIRE_OK = true → Raised d 11 0) ∧
    Within (Claim.partFlds ++ [R.PART.PL_OK, I.PART.BEAT_RUN, I.PART.BEAT_OK]) s.dev d)

/-- A standby aligns its Deckle to the marker of the primary: the frame ends here and the next takes the primary's number (R411); it keeps a
timely mirror frame until its next frame, and counts a bad one lost, out of sync (R413, R414); it takes the whole set of parameters at
MIRROR entry (R410) and a forwarded set (R66) for its next boundary. Out of MIRROR, none of these is heeded. -/
def Obligations.Mirroring : Prop := ∀ (s : State) (frame tb : Word) (offset : BitVec 32) (rtt : BitVec 24) (crcOk : Bool) (items : List Nat) (legs : BitVec 16)
    (params : List (Nat × Nat)) (record : List Nat) (txn : BitVec 16),
  (s.dev.mode = .mirror → s.dev.strapped = true →
    (Does (.partnerMarkerRx frame tb offset rtt) s fun d =>
      d.get R.PART.PL_RTT = rtt.toNat ∧
      (s.dev.is I.TB.ALIGN_NOW = true →
        d.get I.TB.ALIGN_NOW = 0 ∧ d.get I.TB.NO_NEXT = frame.toNat + 1 ∧ d.get I.TB.LEN = s.clk.sub % 2 ^ I.TB.LEN.width) ∧
      (s.dev.is I.TB.ALIGN_NOW = false → d.get I.TB.NO_NEXT = s.dev.get I.TB.NO_NEXT ∧ d.get I.TB.LEN = s.dev.get I.TB.LEN) ∧
      Within (Claim.partFlds ++ [R.PART.PL_RTT, R.PART.ALIGN_ERR, I.PART.SKEW, I.TB.ALIGN_NOW, I.TB.LEN, I.TB.NO_NEXT]) s.dev d) ∧
    (crcOk = true → frame.toNat = s.dev.get R.TB.FRAME_NO_LIVE → items.length = (s.dev.dueItems frame.toNat).length →
      Does (.mirrorFrameRx frame crcOk items legs) s fun d =>
        d.mirrorIn = some ⟨frame.toNat, items, legs.toNat⟩ ∧ Within Claim.partFlds { s.dev with mirrorIn := d.mirrorIn } d) ∧
    (crcOk = false → Does (.mirrorFrameRx frame crcOk items legs) s fun d =>
      d.get R.PART.IN_SYNC = 0 ∧ d.get R.PART.MIRROR_LOST = satAdd R.PART.MIRROR_LOST.width (s.dev.get R.PART.MIRROR_LOST) 1 % 2 ^ R.PART.MIRROR_LOST.width ∧
      Within (Claim.partFlds ++ [R.PART.PL_ERR, R.PART.MIRROR_LOST, I.PART.LOST_AGO, I.PART.LOST_NOW, I.PART.LOST_RUN]) s.dev d)) ∧
  (s.dev.mode = .mirror → Gives (.mirrorTransferRx params record) s fun t =>
    t.dev.forwards = s.dev.forwards ++ [⟨0, params, true⟩] ∧ Claim.Kept s t ∧
    Within [I.THERM.BIN_CNT, I.THERM.OP_MS] { s.dev with forwards := t.dev.forwards } t.dev) ∧
  (s.dev.mode = .mirror → exec (.forwardedSetRx txn params) s =
    .next { s with dev := { s.dev with forwards := s.dev.forwards ++ [⟨txn.toNat, params, false⟩] } }) ∧
  (s.dev.mode ≠ .mirror → exec (.mirrorFrameRx frame crcOk items legs) s = .next s ∧ exec (.mirrorTransferRx params record) s = .next s ∧
    exec (.forwardedSetRx txn params) s = .next s)

/-- Takeback (R419, R420). A preferred standby in sync for TAKEBACK_HOLD asks, at most once a second; the primary that can follow answers with
its frame and both hand over four frames on; TAKEBACK_CONFIRM fixes that boundary in the standby. TAG_SAMPLE writes the next entry of the
sample buffer while tagging is on (R504). -/
def Obligations.TakebackAndSamples : Prop := ∀ (s : State) (frame : Word) (yielded : Bool) (x : TagSample),
  (s.dev.strapped = true → s.dev.noInhibit = true → s.dev.get I.PART.HAND = 0 → s.dev.get R.PART.TAKEBACK_HOLD ≠ 0 → s.dev.is I.PART.BEAT_OK = true →
    (s.dev.mode = .mirror → s.dev.get R.PART.STRAP = 1 → s.dev.is R.PART.IN_SYNC = true →
      s.dev.get I.PART.SYNC_NS + 1000000000 * s.dev.get R.PART.TAKEBACK_HOLD ≤ s.clk.ns →
      fitMode (s.dev.get R.PART.PARTNER_MODE) (s.dev.get I.PART.BEAT_REACT) = true → s.dev.get I.PART.TB_REQ_NS = 0 →
      Gives .takebackRequest s fun t =>
        t.dev.outbox = s.dev.outbox ++ [.takebackRequest] ∧ t.dev.get I.PART.TB_REQ_NS = (s.clk.ns + 1) % 2 ^ I.PART.TB_REQ_NS.width ∧
        Frame [I.PART.TB_REQ_NS] s t) ∧
    (s.dev.mode ≠ .mirror → s.dev.is R.PART.PRIMARY = true → s.dev.get R.PART.STRAP = 2 → s.dev.is I.PART.BEAT_INSYNC = true →
      fitMode s.dev.mode.code (s.dev.get R.FLT.REACT_MAX) = true → s.dev.is R.REAM.SWAP_PEND = false → Gives .takebackRequest s fun t =>
        t.dev.outbox = s.dev.outbox ++ [.takebackConfirm (s.dev.get R.TB.FRAME_NO_LIVE) false] ∧ t.dev.get I.PART.HAND = 2 ∧
        t.dev.get I.PART.H_FRAME = (s.dev.get R.TB.FRAME_NO_LIVE + 4) % 2 ^ I.PART.H_FRAME.width ∧ t.dev.get R.PART.HANDOVER_PEND = 1 ∧
        Frame [I.PART.HAND, I.PART.H_FRAME, I.PART.H_YIELD, R.PART.HANDOVER_PEND] s t)) ∧
  (s.dev.mode = .mirror → s.dev.get I.PART.HAND = 0 → Gives (.takebackConfirm frame yielded) s fun t =>
    t.dev.get I.PART.HAND = 1 ∧ t.dev.get I.PART.H_FRAME = (frame.toNat + 4) % 2 ^ I.PART.H_FRAME.width ∧ t.dev.get I.PART.H_YIELD = yielded.toNat ∧
    t.dev.get R.PART.HANDOVER_PEND = 1 ∧ Frame [I.PART.HAND, I.PART.H_FRAME, I.PART.H_YIELD, R.PART.HANDOVER_PEND] s t) ∧
  (s.dev.get I.PERF.TAG_N ≠ 0 → Gives (.tagSample x) s fun t =>
    let seq := if s.dev.get R.PERF.SAMP_HEAD = 65535 then 1 else s.dev.get R.PERF.SAMP_HEAD + 1
    t.dev.get R.PERF.SAMP_HEAD = seq % 65536 ∧ t.dev.get R.PERF.SAMPLE (4 * (seq % 64)) = x.issueNs.toNat ∧
    t.dev.get R.PERF.SAMPLE (4 * (seq % 64) + 2) = x.wait.toNat * 65536 + x.exec.toNat ∧
    Frame [R.PERF.SAMPLE, R.PERF.SAMP_HEAD, R.PERF.SAMP_LOST, I.PERF.WRAPPED] s t) ∧
  (s.dev.get I.PERF.TAG_N = 0 → exec (.tagSample x) s = .next s)

/-! The NET ports: frames, time, sampled values, GOOSE (17_network_time.md). -/

/-- The status that follows every change at the NET ports. -/
def Sys2Proof.Machine.Claim.netFlds : List Fld := raiseFlds ++ [R.NET.FENCED, R.NET.UTC_OFF, R.HIF.SUM_TIME, R.HIF.SUM_NET]

/-- The windows that no event at the NET ports touches. -/
def Sys2Proof.Machine.Claim.netApart : List Nat := [wSnap, wStage, wReam, wMode, wFelt, wCell, wMod, wCal, wAfe, wPart]

/-- NET_FRAME_RX counts the frame, and one with errors as an error and for the error window (R450, R493); NET_LINK_CHANGE shows the link, and a
used one that goes down raises its instance (R493); SUPERVISION_SEND sends under PRP with a port up (R451). -/
def Obligations.NetFrames : Prop := ∀ (s : State) (p : Fin 2) (f : NetFrame) (up : Bool),
  (s.dev.portUp p = true →
    (f.good = false → Does (.netFrameRx p f) s fun d =>
      d.get R.NET.PORT_RX_CNT p = (s.dev.get R.NET.PORT_RX_CNT p + 1) % 2 ^ 32 ∧
      d.get R.NET.PORT_CRC_CNT p = satAdd 16 (s.dev.get R.NET.PORT_CRC_CNT p) 1 % 65536 ∧
      Within Claim.netFlds s.dev d [(R.NET.PORT_RX_CNT, p), (R.NET.PORT_CRC_CNT, p), (I.NET.WIN_ERR, p)]) ∧
    (f.good = true → Does (.netFrameRx p f) s fun d =>
      d.get R.NET.PORT_RX_CNT p = (s.dev.get R.NET.PORT_RX_CNT p + 1) % 2 ^ 32 ∧
      (s.dev.red = 0 → d.get R.NET.PORT_DUP_CNT p = s.dev.get R.NET.PORT_DUP_CNT p ∧
        d.get R.NET.PORT_FWD_CNT p = s.dev.get R.NET.PORT_FWD_CNT p) ∧
      Within (Claim.netFlds ++ [R.NET.PORT_RX_CNT, R.NET.PORT_DUP_CNT, R.NET.PORT_FWD_CNT, R.NET.PORT_OTHER_CNT, R.NET.PORT_WRONG_LAN])
        { s.dev with net := d.net } d)) ∧
  (s.dev.portUp p = false → exec (.netFrameRx p f) s = .next s) ∧
  (bitOf (s.dev.get R.NET.LINK) p ≠ up.toNat → Does (.netLinkChange p up) s fun d =>
    bitOf (d.get R.NET.LINK) p = up.toNat ∧ (up = false → s.dev.portUsed p = true → Raised d 13 p) ∧
    (up = true → ∀ a ∈ d.active, a.cls = 13 → a.inst = p.val → a.held = false) ∧
    Within (Claim.netFlds ++ [R.NET.LINK, I.NET.GOT, R.NET.COR, R.NET.LAN_INCL]) { s.dev with net := d.net } d) ∧
  (s.dev.red = 1 → (s.dev.portUp 0 || s.dev.portUp 1) = true → Gives .supervisionSend s fun t =>
    t.dev.outbox = s.dev.outbox ++ [.supervision] ∧ Frame countFlds s t)

/-- Peer delay (R455, R456): each second, with room for the timestamp, a request goes out on each port that is up, with the next sequence number; a request
received is answered; a one-step answer to the request in hand gives the link delay; a message sent with the timestamps unread drops
its own, and raises instance 14 or 15. ANNOUNCE_RX keeps the master's record and selects; ANNOUNCE_TIMEOUT drops the selected master's records with instance
9 raised (R457). SYNC_RX gives the offset of the port (R458). -/
def Obligations.PtpEngine : Prop := ∀ (s : State) (p : Fin 2) (seq : BitVec 16) (own : Bool) (m : PdelayMsg) (am : AnnounceMsg) (sm : SyncMsg),
  ((∀ q < 2, (s.dev.lan q).tsq.length < 16) → Does .pdelayReqSend s fun d =>
    (s.dev.portUp p = true → d.get I.NET.TXSEQ p = (s.dev.get I.NET.TXSEQ p + 1) % 65536 ∧
      Out.pdelayReq p ((s.dev.get I.NET.TXSEQ p + 1) % 65536) ∈ d.outbox) ∧
    (s.dev.portUp p = false → d.get I.NET.TXSEQ p = s.dev.get I.NET.TXSEQ p) ∧
    Within (Claim.netFlds ++ [I.NET.TXSEQ, R.NET.TSQ_FILL]) { s.dev with net := d.net } d) ∧
  (s.dev.portUp p = true →
    ((s.dev.lan p).tsq.length < 16 → Does (.pdelayReqRx p seq) s fun d => Out.pdelayResp p seq.toNat ∈ d.outbox ∧
      Within (Claim.netFlds ++ [R.NET.TSQ_FILL, R.NET.TSQ_DROP]) { s.dev with net := d.net } d) ∧
    (∀ t1 : Int, ((s.dev.readStamps p).lan p).req = some (m.seq.toNat, t1) → m.kind = .oneStep → Does (.pdelayRespRx p m) s fun d =>
      d.get R.NET.PORT_LINK_DLY p = linkDelay t1 ((m.rxQ.toNat : Int) + 4 * toInt 16 (s.dev.netP (0x22 + 4 * p) 2)) m.corr.toInt % 2 ^ 32 ∧
      Within (Claim.netFlds ++ [R.NET.PORT_LINK_DLY, R.NET.TSQ_FILL]) { s.dev with net := d.net } d) ∧
    ((s.dev.lan p).tsq.length = 16 → Does (.tsqOverflow p own seq) s fun d =>
      d.get R.NET.TSQ_DROP p = satAdd R.NET.TSQ_DROP.width (s.dev.get R.NET.TSQ_DROP p) 1 % 2 ^ R.NET.TSQ_DROP.width ∧ Raised d 13 (14 + p) ∧
      Within (Claim.netFlds ++ [R.NET.TSQ_DROP]) { s.dev with net := d.net } d)) ∧
  (s.dev.ptpTakes p am.domain.toNat am.minor.toNat = true → Does (.announceRx p am) s fun d =>
    (∃ r l, d.net.masters = r :: l ∧ r.port = p.val ∧ r.gm = am.gm.toNat ∧ r.at_ = s.clk.ns ∧ ∀ x ∈ l, x ∈ s.dev.net.masters) ∧
    Claim.Untouched Claim.netApart s.dev d) ∧
  (s.dev.gmId ≠ 0 → Does .announceTimeout s fun d =>
    Raised d 13 9 ∧ (∀ r ∈ d.net.masters, r.gm ≠ s.dev.gmId) ∧ Claim.Untouched Claim.netApart s.dev d) ∧
  (s.dev.ptpTakes p sm.domain.toNat sm.minor.toNat = true → sm.gm.toNat = s.dev.gmId → s.dev.gmId ≠ 0 → s.dev.is I.NET.GOT p = false →
    Does (.syncRx p sm) s fun d => d.get R.NET.OFS p = ofInt 32 (s.dev.ptpOffset p sm) % 2 ^ 32 ∧ Claim.Untouched Claim.netApart s.dev d)

/-- The other sources of time, with a network sheet in force: an IRIG-B frame gives its second, or raises instance 12 (R473); an edge of
PPS_IN ends instance 13 and a missing one raises it (R474); the third second in a row out of XCHK_THR marks the check bad with instance
11 raised (R475); PPS_OUT rises with the second, unless PPS_OUT_CTL stops it while the time is suspect, and falls (R476). -/
def Obligations.TimeSources : Prop := ∀ (s : State) (m : IrigFrame) (edgeQ : BitVec 66), s.dev.netSheet.isSome = true →
  (m.bad = true → Does (.irigFrameRx m) s fun d => Raised d 13 12 ∧ Within Claim.netFlds s.dev d) ∧
  (m.bad = false → Does (.irigFrameRx m) s fun d =>
    d.net.irig = some (s.dev.irigTai m, (m.edgeQ.toNat : Int)) ∧ Claim.Untouched Claim.netApart s.dev d) ∧
  (Does (.ppsInEdge edgeQ) s fun d => (∀ a ∈ d.active, a.cls = 13 → a.inst = 13 → a.held = false) ∧ Claim.Untouched Claim.netApart s.dev d) ∧
  (Does .ppsInMissing s fun d => Raised d 13 13 ∧ Within Claim.netFlds s.dev d) ∧
  (s.dev.timeChk ≠ 3 → s.dev.is I.NET.CHK_GOT = true → s.dev.get R.NET.XCHK_THR < (s.dev.getInt I.NET.CHK_OFS).natAbs →
    s.dev.get I.NET.CHK_BAD = 2 → s.dev.is R.NET.XCHK_BAD = false → Does .xchkSecond s fun d =>
      d.get R.NET.XCHK_BAD = 1 ∧ d.get I.NET.CHK_GOT = 0 ∧ Raised d 13 11 ∧ Claim.Untouched Claim.netApart s.dev d) ∧
  (s.dev.mode ≠ .backup → Does .ppsOutPulse s fun d =>
    d.get I.NET.PPS_OUT = (!(bitOf (s.dev.get R.NET.PPS_OUT_CTL) 0 = 1 && s.dev.is R.NET.TIME_SUSPECT)).toNat ∧
    Claim.Untouched Claim.netApart s.dev d) ∧
  (Gives .ppsOutWidthEnd s fun t => t.dev.get I.NET.PPS_OUT = 0 ∧ Frame [I.NET.PPS_OUT] s t)

/-- Sampled values. A published stream takes each new sample instant once (R479), and sends a message once as many samples as it holds are
complete (R481). A subscription that the message's revision does not fit is in mismatch with its instance raised (R485); one without
messages is lost, likewise.

GOOSE. A message that a subscription's set, revision or source does not fit puts it in mismatch with its instance raised (R487); one that
fits, with its member at the other level or a new stNum, is taken; no accepted message in time raises instance 32 + s (R488). A retransmission
sends the same stNum with the next sqNum and doubles the interval up to T0 (R489). -/
def Obligations.StationBus : Prop :=
  (∀ (s : State) (n : Fin 8) (m : SvMsg) (q : Fin 16),
  (let tod := s.dev.tod s.clk.ns
   let sec := (tod / 1000000000).toNat
   let cnt := ((tod % 1000000000) * s.dev.svRate n / 1000000000).toNat
   s.dev.is R.NET.SVP_ACTIVE n = true → (s.dev.get I.NET.SV_SEC n < sec + 1 ∨ s.dev.get I.NET.SV_SEC n = sec + 1 ∧ s.dev.get I.NET.SV_CNT n < cnt) →
    Gives (.svSampleDue n) s fun t =>
      t.dev.get I.NET.SV_SEC n = (sec + 1) % 2 ^ I.NET.SV_SEC.width ∧ t.dev.get I.NET.SV_CNT n = cnt % 2 ^ I.NET.SV_CNT.width ∧ Claim.Kept s t ∧
      Within [] { s.dev with net := t.dev.net } t.dev [(I.NET.SV_SEC, n), (I.NET.SV_CNT, n)]) ∧
  (let k := s.dev.svF n 4 1
   let group := (s.dev.svWait n).take k
   let late := ∃ x, group.getLast? = some x ∧
     (4 * (s.dev.get R.TB.TF_LAST : Int) + 20000) * s.dev.svRate n + x.instant (s.dev.svRate n) < (s.clk.ns : Int) * s.dev.svRate n
   s.dev.is R.NET.SVP_ACTIVE n = true → k ≠ 0 → group.length = k → (∀ x ∈ group, ∀ v ∈ x.vals, v ≠ none) →
    (¬ late → Gives (.svSend n) s fun t =>
      t.dev.get R.NET.SVP_SENT n = (s.dev.get R.NET.SVP_SENT n + 1) % 2 ^ 32 ∧
      (∃ asdus, asdus.length = k ∧ t.dev.outbox = s.dev.outbox ++ [Out.sv n asdus]) ∧ Claim.Kept s t ∧
      Within (countFlds ++ [R.NET.SVP_SENT, R.NET.SVP_SMPCNT]) { s.dev with net := t.dev.net } t.dev) ∧
    (late → Does (.svSend n) s fun d =>
      d.get R.NET.SVP_SENT n = (s.dev.get R.NET.SVP_SENT n + 1) % 2 ^ 32 ∧ Raised d 13 (64 + n) ∧
      Within (raiseFlds ++ [R.NET.SVP_SENT, R.NET.SVP_SMPCNT, R.NET.SVP_LATE_CNT]) { s.dev with net := d.net } d)) ∧
  ((s.dev.portUp 0 || s.dev.portUp 1) = true → s.dev.subUsed q = true → m.appid.toNat = s.dev.subF q 0 2 → m.confRev.toNat ≠ s.dev.subF q 16 4 →
    Does (.svRx m) s fun d => d.get R.NET.SVS_STATE q = 3 ∧ Raised d 13 (48 + q) ∧
      Within (Claim.netFlds ++ [R.NET.SVS_STATE, R.NET.SVS_SMPCNT, R.NET.SVS_VALUE]) s.dev d) ∧
  ((s.dev.portUp 0 || s.dev.portUp 1) = true → s.dev.subUsed q = true → m.appid.toNat = s.dev.subF q 0 2 → m.confRev.toNat = s.dev.subF q 16 4 →
    m.smpRate = none → m.noAsdu.toNat = s.dev.subF q 4 1 → m.svid.toNat = s.dev.subF q 0x20 64 → m.src.toNat = s.dev.subF q 8 6 →
    Does (.svRx m) s fun d => d.get R.NET.SVS_STATE q = 1 ∧ d.get R.NET.SVS_SMPCNT q = m.smpCnt.toNat % 2 ^ R.NET.SVS_SMPCNT.width ∧
      (∀ v, m.chans[s.dev.subF q 5 1]? = some v →
        d.get R.NET.SVS_VALUE q = b32.mul (b32.ofInt v.toInt) (s.dev.subF q 0x18 4) % 2 ^ 32) ∧
      Within (Claim.netFlds ++ [R.NET.SVS_STATE, R.NET.SVS_SMPCNT, R.NET.SVS_VALUE]) s.dev d) ∧
  (s.dev.subUsed q = true → s.dev.get R.NET.SVS_STATE q ≠ 2 → Does (.svSubLoss q) s fun d =>
    d.get R.NET.SVS_STATE q = 2 ∧ Raised d 13 (16 + q) ∧ Within Claim.netFlds s.dev d [(R.NET.SVS_STATE, q), (R.NET.SVS_LOST_CNT, q)])) ∧
  (∀ (s : State) (m : GooseMsg) (q : Fin 32) (g : Fin 8) (v : Bool),
  ((s.dev.portUp 0 || s.dev.portUp 1) = true → s.dev.gsUsed q = true → m.appid.toNat = s.dev.gsF q 0 2 → m.gocbRef.toNat = s.dev.gsF q 0x20 64 →
    (m.confRev.toNat ≠ s.dev.gsF q 16 4 ∨ gooseMember m (s.dev.gsF q 2 1) = none → Does (.gooseRx m) s fun d =>
      d.get R.NET.GS_STATE q = 3 ∧ Raised d 14 (64 + q) ∧ Claim.Untouched Claim.netApart s.dev d) ∧
    (gooseMember m (s.dev.gsF q 2 1) = some v → m.datSet.toNat = s.dev.gsF q 0x60 64 → m.goID.toNat = s.dev.gsF q 0xA0 32 →
      m.confRev.toNat = s.dev.gsF q 16 4 → m.src.toNat = s.dev.gsF q 8 6 → m.entries.toNat = s.dev.gsF q 4 1 → m.ndsCom = false → m.test = false →
      Does (.gooseRx m) s fun d => d.get R.NET.GS_STATE q = 1 ∧
        ((s.dev.is I.NET.GS_EVER q = false ∨ m.stNum.toNat ≠ s.dev.get R.NET.GS_STNUM q) →
          d.get R.NET.GS_STNUM q = m.stNum.toNat ∧ d.get R.NET.GS_TRIG q = (v == (bitOf (s.dev.gsF q 3 1) 0 == 1)).toNat ∧
          ((v == (bitOf (s.dev.gsF q 3 1) 0 == 1)) = true → Raised d 14 q)) ∧
        Claim.Untouched Claim.netApart s.dev d)) ∧
  (s.dev.gsUsed q = true → s.dev.is I.NET.GS_EVER q = true → s.dev.get R.NET.GS_STATE q ≠ 2 → Does (.gooseTalExpiry q) s fun d =>
    d.get R.NET.GS_STATE q = 2 ∧ Raised d 14 (32 + q) ∧ Within Claim.netFlds s.dev d [(R.NET.GS_STATE, q), (R.NET.GS_LOST_CNT, q)]) ∧
  (s.dev.is I.NET.GP_ON g = true → Gives (.gooseRetransmit g) s fun t =>
    let sq := (s.dev.get I.NET.GP_SQ g + 1) % 2 ^ 32
    let iv := min (2 * s.dev.get R.NET.GP_INTERVAL g) (s.dev.get R.NET.T0)
    t.dev.get I.NET.GP_SQ g = sq ∧ t.dev.get R.NET.GP_SQNUM g = min sq 65535 ∧ t.dev.get R.NET.GP_INTERVAL g = iv % 65536 ∧
    t.dev.outbox = s.dev.outbox ++ [.goose g (s.dev.get R.NET.GP_STNUM g) sq (2 * iv) (s.dev.mode = .test) ((s.dev.net.goose[g.val]?).getD [])
      (s.dev.gooseTime s.clk.ns) (s.dev.gooseQuality g)] ∧
    Claim.Kept s t ∧
    Within countFlds { s.dev with net := t.dev.net } t.dev
      [(I.NET.GP_SQ, g), (R.NET.GP_STNUM, g), (R.NET.GP_SQNUM, g), (R.NET.GP_INTERVAL, g)]))

/-! Every command (the block's queue, its fuses, its timebase, its faults and its flash). -/

/-- A step takes the command at the front of the queue and carries it out on the rest. -/
def Obligations.StepRunsFront : Prop := ∀ (s : State) (c : Instr), step { s with pending := c :: s.pending } = exec c s

/-- On an empty queue a step is one TB cycle (the model's choice, log entry 1): TB goes on by its increment while PLL_T is locked, and
nothing else changes; but for that step and a boundary, no step advances TB (the same choice); at reset the timebase stands at 0 in step 1 of BOOT, and no command waits. -/
def Obligations.ResetAndIdle : Prop :=
  (∀ s : State, s.pending = [] → ∃ t, step s = .next t ∧ t.dev = s.dev ∧ t.otp = s.otp ∧ t.pending = [] ∧
    (s.dev.is R.TB.PLL_T_LOCK = false → t = s) ∧
    (s.dev.is R.TB.PLL_T_LOCK = true → t.clk.acc = s.clk.acc + s.dev.tbIncNow.toNat ∧ t.clk.cyc = s.clk.cyc + 1 ∧
      t.clk.sub = s.clk.sub + (if s.dev.is R.TB.DECKLE_RUN then 1 else 0))) ∧
  (∀ s t : State, s.clk.frac < 2 ^ 32 → step s = .next t → s.clk.acc < t.clk.acc → s.pending = [] ∨ ∃ r, s.pending = .frameBoundary :: r) ∧
  (State.reset.pending = [] ∧ State.reset.clk.acc = 0 ∧ State.reset.clk.frac < 2 ^ 32 ∧ memWf State.reset.dev.nvm.mem = true ∧
    State.reset.dev.mode = .boot ∧ State.reset.dev.get R.TB.TF = 25000 ∧ State.reset.dev.get R.HIF.DEV_ID = 0x1448 ∧
    State.reset.dev.get R.TB.PLL_T_LOCK = 0 ∧ State.reset.dev.active = [])

/-- Every command leaves the waiting commands alone; none is refused; and the one fault is that of a CSPI write of more than 256 words
(R70), so that every other command completes from every state. -/
def Obligations.CommandsComplete : Prop := ∀ (c : Instr) (s : State),
  (∃ t, exec c s = .next t ∧ t.pending = s.pending) ∨
  (∃ a ws, (c = .cspiWrite4wire a ws ∨ c = .cspiWriteQuad a ws) ∧ 256 < ws.length ∧ ∃ f, exec c s = .fault f)

/-- The fuses (R106, R107, R120): in any step the key fuses and the key hashes stay, the floor of SEC_VER never falls, and a revoked key stays
revoked; and no step but a boundary burns anything. -/
def Obligations.FusesOnlyBurn : Prop := ∀ (s t : State), step s = .next t →
  t.otp.keyProg = s.otp.keyProg ∧ t.otp.keyHash = s.otp.keyHash ∧ s.otp.secVerMin ≤ t.otp.secVerMin ∧
  (∀ k, bitOf s.otp.revoked k = 1 → bitOf t.otp.revoked k = 1) ∧
  (t.otp ≠ s.otp → ∃ r, s.pending = .frameBoundary :: r)

/-- TB is never stepped: from power-up (VIN_ON) to power-down it is monotonic and changes only by its increment (R78), so that any step
adds a whole number of increments, none for every correction of time phase; the fraction stays below one nanosecond. -/
def Obligations.TimebaseMonotonic : Prop := ∀ (s t : State), s.clk.frac < 2 ^ 32 → step s = .next t →
  t.clk.frac < 2 ^ 32 ∧
  ((∀ v k r, s.pending ≠ .vinOn v k :: r) → ∃ n, t.clk.acc = s.clk.acc + n * s.dev.tbIncNow.toNat)

/-- A raising of an instance that is not active and that has a reaction (R363, R368, R372): it becomes active and present, with its detail; the next entry
of the history is written, the class counts it, its STICKY bit is set, and FAULT is set in every summary. One that has no reaction sets its STICKY bit and
changes nothing else. -/
def Obligations.RaisingRecords : Prop := ∀ (d : Dev) (t cls inst detail : Nat) (held : Bool), cls < 16 → inst < 256 →
  d.active.find? (fun a => a.cls = cls && a.inst = inst) = none →
  let e := d.raiseBase t cls inst detail held
  ((d.entryOf cls inst).1 ≠ 0 → Raised e cls inst ∧
    (∃ a ∈ e.active, a.cls = cls ∧ a.inst = inst ∧ a.present = true ∧ a.held = held ∧ a.detail = detail ∧ a.react = (d.entryOf cls inst).1) ∧
    (∀ i < 3, e.get R.HIF.SUM_FAULT i = 1) ∧ bitOf (e.get R.FLT.ACTIVE (8 * cls + inst / 32)) (inst % 32) = 1 ∧
    Within raiseFlds d e) ∧
  ((d.entryOf cls inst).1 = 0 → e.active = d.active ∧ Raised e cls inst ∧ Within [] d e [(R.FLT.STICKY, 8 * cls + inst / 32)])

/-- The flash keeps its canonical form through every flash operation, of a command or not, that ends, fails or is broken off. -/
def Obligations.FlashFormKept : Prop := ∀ (s t : State) (failed : Bool), memWf s.dev.nvm.mem = true →
  (exec (.flashOpDone failed) s = .next t ∨ exec (.reamCmdDone failed) s = .next t ∨ exec .flashOpTimeout s = .next t) →
  memWf t.dev.nvm.mem = true
end

