-- ==== Sys2Proof/Laws/Store.lean ====
section
/-! SUPPORT. Reading and writing the register store: what a write of one field changes, and that it changes nothing else. Later proofs
cite these lemmas and never unfold the trie. -/
namespace Sys2Proof.Machine

theorem Store.get_nil (n k : Nat) : Store.get n .nil k = none := by cases n <;> rfl

/-- A read after a write to the same key gives the value written. -/
theorem Store.get_set_same (n : Nat) : ∀ (s : Store) (k v : Nat), Store.get n (Store.set n s k v) k = some v := by
  induction n with
  | zero => intro s k v; cases s <;> rfl
  | succ n ih => intro s k v; cases s <;> by_cases h : k % 2 = 0 <;> simp [Store.set, Store.get, h, ih]

/-- A write leaves every other key alone. -/
theorem Store.get_set_ne (n : Nat) :
    ∀ (s : Store) (k k' v : Nat), k < 2 ^ n → k' < 2 ^ n → k ≠ k' → Store.get n (Store.set n s k v) k' = Store.get n s k' := by
  induction n with
  | zero => intro s k k' v h h' hne; omega
  | succ n ih =>
    intro s k k' v h h' hne
    have h2 : k / 2 < 2 ^ n := by omega
    have h2' : k' / 2 < 2 ^ n := by omega
    by_cases hk : k % 2 = 0 <;> by_cases hk' : k' % 2 = 0
    · have hd : k / 2 ≠ k' / 2 := by omega
      cases s <;> simp [Store.set, Store.get, hk, hk', ih _ _ _ _ h2 h2' hd, Store.get_nil]
    · cases s <;> simp [Store.set, Store.get, hk, hk', Store.get_nil]
    · cases s <;> simp [Store.set, Store.get, hk, hk', Store.get_nil]
    · have hd : k / 2 ≠ k' / 2 := by omega
      cases s <;> simp [Store.set, Store.get, hk, hk', ih _ _ _ _ h2 h2' hd, Store.get_nil]

/-- Keys of two fields of different numbers differ, and so do keys of two elements of one field. -/
theorem Fld.key_ne {f g : Fld} {i j : Nat} (h : f.id ≠ g.id ∨ i % 65536 ≠ j % 65536) : f.key i ≠ g.key j := by
  unfold Fld.key; omega

theorem Fld.key_lt {f : Fld} (h : f.id < 2048) (i : Nat) : f.key i < 2 ^ storeDepth := by
  unfold Fld.key storeDepth; omega

/-- The value just put, cut to the field's width. -/
@[simp] theorem Dev.get_put_same (d : Dev) (f : Fld) (v i : Nat) : (d.put f v i).get f i = v % 2 ^ f.width := by
  simp [Dev.get, Dev.put, Store.field, Store.get_set_same]

/-- A put leaves every other field, and every other element of its field, as it was. -/
theorem Dev.get_put_ne (d : Dev) (f g : Fld) (v i j : Nat) (hf : f.id < 2048) (hg : g.id < 2048)
    (h : f.id ≠ g.id ∨ i % 65536 ≠ j % 65536) : (d.put f v i).get g j = d.get g j := by
  simp [Dev.get, Dev.put, Store.field, Store.get_set_ne _ _ _ _ _ (Fld.key_lt hf i) (Fld.key_lt hg j) (Fld.key_ne h)]

/-- The same of two fields of different numbers. -/
@[simp] theorem Dev.get_put_other (d : Dev) (f g : Fld) (v i j : Nat) (hf : f.id < 2048) (hg : g.id < 2048) (h : f.id ≠ g.id) :
    (d.put f v i).get g j = d.get g j := Dev.get_put_ne d f g v i j hf hg (.inl h)

end Sys2Proof.Machine
end

