-- ==== Sys2Proof/Laws/Frame.lean ====
section
/-! SUPPORT. `Within` is an equivalence, and each way of writing a register keeps it: the lemmas by which a frame is proved by
simplification, without unfolding the store. -/
namespace Sys2Proof.Machine
variable {L M : List Fld} {E : List (Fld × Nat)} {d e : Dev}

theorem Within.refl (d : Dev) : Within L d d E := ⟨fun _ _ _ _ _ => rfl, rfl⟩
theorem Within.trans {a b c : Dev} (h : Within L a b E) (k : Within L b c E) : Within L a c E :=
  ⟨fun f hf hL i hE => (k.regs f hf hL i hE).trans (h.regs f hf hL i hE), by rw [k.rest, h.rest]⟩
theorem Within.symm (h : Within L d e E) : Within L e d E :=
  ⟨fun f hf hL i hE => (h.regs f hf hL i hE).symm, by rw [h.rest]⟩
theorem Within.iff (h : Within L d e E) (a : Dev) : Within L a e E ↔ Within L a d E :=
  ⟨fun k => k.trans h.symm, fun k => k.trans h⟩

/-- Every field of one list is in another. -/
def subFlds (M L : List Fld) : Bool := M.all (fun f => hasFld L f)

theorem hasFld_of_sub {f : Fld} (h : subFlds M L = true) (hf : hasFld M f = true) : hasFld L f = true := by
  simp only [subFlds, hasFld, List.all_eq_true, List.any_eq_true, beq_iff_eq] at *
  obtain ⟨g, hg, hid⟩ := hf
  obtain ⟨g', hg', h'⟩ := h g hg
  exact ⟨g', hg', h'.trans hid⟩

/-- A frame of whole fields is a frame of more fields and of any elements beside. -/
theorem Within.mono (h : Within M d e) (hs : subFlds M L = true) : Within L d e E :=
  ⟨fun f hf hL i _ => h.regs f hf (by
    cases hM : hasFld M f
    · rfl
    · rw [hasFld_of_sub hs hM] at hL; exact absurd hL (by decide)) i rfl, h.rest⟩

/-- A frame of fields and elements is a frame of more of both. -/
theorem Within.weaken {F : List (Fld × Nat)} (h : Within M d e F) (hs : subFlds M L = true) (hE : ∀ p ∈ F, p ∈ E) : Within L d e E :=
  ⟨fun f hf hL i hi => h.regs f hf (by
    cases hM : hasFld M f
    · rfl
    · rw [hasFld_of_sub hs hM] at hL; exact absurd hL (by decide)) i (by
    simp only [hasEl, List.any_eq_false] at *
    exact fun p hp => hi p (hE p hp)), h.rest⟩

theorem Within.of_put (d : Dev) (f : Fld) (v i : Nat) (hf : f.id < 2048) (h : hasFld L f = true) : Within L d (d.put f v i) E :=
  ⟨fun g hg hL j _ => Dev.get_put_ne d f g v i j hf hg (Or.inl (by
    rintro hid
    rw [hasFld, show (fun x : Fld => x.id == g.id) = (fun x => x.id == f.id) by rw [hid]] at hL
    rw [hasFld] at h; rw [h] at hL; exact absurd hL (by decide))), rfl⟩

theorem hasEl_ne {f g : Fld} {i j : Nat} (h : hasEl E f i = true) (h' : hasEl E g j = false) : f.id ≠ g.id ∨ i % 65536 ≠ j % 65536 := by
  rcases Nat.decEq f.id g.id with hid | hid
  · exact .inl hid
  · refine .inr fun hij => ?_
    simp only [hasEl, hid, hij] at h h'
    rw [h] at h'; exact absurd h' (by decide)

theorem Within.of_put_at (d : Dev) (f : Fld) (v i : Nat) (hf : f.id < 2048) (h : hasEl E f i = true) : Within L d (d.put f v i) E :=
  ⟨fun g hg _ j hE => Dev.get_put_ne d f g v i j hf hg (hasEl_ne h hE), rfl⟩

@[simp] theorem within_put_at (f : Fld) (v i : Nat) (hf : f.id < 2048) (h : hasEl E f i = true) :
    Within L d (e.put f v i) E ↔ Within L d e E := (Within.of_put_at e f v i hf h).iff d
@[simp] theorem within_flag_at (f : Fld) (b : Bool) (i : Nat) (hf : f.id < 2048) (h : hasEl E f i = true) :
    Within L d (e.flag f b i) E ↔ Within L d e E := within_put_at _ _ _ hf h
@[simp] theorem within_bump_at (f : Fld) (i n : Nat) (hf : f.id < 2048) (h : hasEl E f i = true) :
    Within L d (e.bump f i n) E ↔ Within L d e E := within_put_at _ _ _ hf h
@[simp] theorem within_self : Within L d d E ↔ True := ⟨fun _ => trivial, fun _ => Within.refl d⟩
@[simp] theorem within_put (f : Fld) (v i : Nat) (hf : f.id < 2048) (h : hasFld L f = true) : Within L d (e.put f v i) E ↔ Within L d e E :=
  (Within.of_put e f v i hf h).iff d
@[simp] theorem within_putInt (f : Fld) (v : Int) (i : Nat) (hf : f.id < 2048) (h : hasFld L f = true) :
    Within L d (e.putInt f v i) E ↔ Within L d e E := within_put _ _ _ hf h
@[simp] theorem within_bump (f : Fld) (i n : Nat) (hf : f.id < 2048) (h : hasFld L f = true) : Within L d (e.bump f i n) E ↔ Within L d e E :=
  within_put _ _ _ hf h
@[simp] theorem within_wrap (f : Fld) (i n : Nat) (hf : f.id < 2048) (h : hasFld L f = true) : Within L d (e.wrap f i n) E ↔ Within L d e E :=
  within_put _ _ _ hf h
@[simp] theorem within_flag (f : Fld) (b : Bool) (i : Nat) (hf : f.id < 2048) (h : hasFld L f = true) :
    Within L d (e.flag f b i) E ↔ Within L d e E := within_put _ _ _ hf h
@[simp] theorem within_setBitOf (f : Fld) (k : Nat) (b : Bool) (i : Nat) (hf : f.id < 2048) (h : hasFld L f = true) :
    Within L d (e.setBitOf f k b i) E ↔ Within L d e E := within_put _ _ _ hf h

theorem Within.of_foldl {α : Type} (g : Dev → α → Dev) (h : ∀ e x, Within L e (g e x) E) (l : List α) (d : Dev) : Within L d (l.foldl g d) E := by
  induction l generalizing d with
  | nil => exact Within.refl d
  | cons x l ih => exact (h d x).trans (ih (g d x))
@[simp] theorem within_foldl {α : Type} (g : Dev → α → Dev) (l : List α) (h : ∀ e x, Within L e (g e x) E) :
    Within L d (l.foldl g e) E ↔ Within L d e E := (Within.of_foldl g h l e).iff d
@[simp] theorem within_forN (g : Dev → Nat → Dev) (n : Nat) (h : ∀ e x, Within L e (g e x) E) :
    Within L d (e.forN n g) E ↔ Within L d e E := within_foldl g _ h
@[simp] theorem within_onlyIf (c : Bool) (g : Dev → Dev) (h : ∀ e, Within L e (g e) E) : Within L d (e.onlyIf c g) E ↔ Within L d e E := by
  unfold Dev.onlyIf; split
  · exact (h e).iff d
  · exact Iff.rfl
@[simp] theorem within_ite (p : Prop) [Decidable p] (a b : Dev) :
    Within L d (if p then a else b) E ↔ (if p then Within L d a E else Within L d b E) := by split <;> rfl
@[simp] theorem within_setActive (l : List Active) : Within L d (e.setActive l) E ↔ Within L d e E :=
  (show Within L e (e.setActive l) E from ⟨fun _ _ _ _ _ => rfl, rfl⟩).iff d
@[simp] theorem within_mapActive (c i : Nat) (g : Active → Active) : Within L d (e.mapActive c i g) E ↔ Within L d e E := within_setActive _
@[simp] theorem within_send (o : Out) : Within L d (e.send o) E ↔ Within L d e E :=
  (show Within L e (e.send o) E from ⟨fun _ _ _ _ _ => rfl, rfl⟩).iff d
@[simp] theorem within_draw : Within L d e.draw E ↔ Within L d e E :=
  (show Within L e e.draw E from ⟨fun _ _ _ _ _ => rfl, rfl⟩).iff d

/-- What counting an event may write. -/
def perfFlds : List Fld := [I.PERF.CNT, I.PERF.OVF]
theorem perf_within (b ev inst n : Nat) : Within perfFlds d (d.perf b ev inst n) := by
  unfold Dev.perf
  simp (disch := first | decide | (intros; simp (disch := first | decide | (intros; simp (disch := decide)))))
@[simp] theorem within_perf (b ev inst n : Nat) (h : subFlds perfFlds L = true) : Within L d (e.perf b ev inst n) E ↔ Within L d e E :=
  ((perf_within b ev inst n).mono h).iff d
@[simp] theorem within_carry (p n : Nat) (h : hasFld L I.PERF.BYTES = true) : Within L d (e.carry p n) E ↔ Within L d e E := by
  unfold Dev.carry; simp (disch := first | decide | exact h)
@[simp] theorem within_carryRing (p n : Nat) (h : hasFld L I.PERF.BYTES = true) : Within L d (e.carryRing p n) E ↔ Within L d e E := by
  unfold Dev.carryRing; simp (disch := first | decide | exact h)
@[simp] theorem within_sumAll (f : Fld) (hf : f.id < 2048) (h : hasFld L f = true) : Within L d (e.sumAll f) E ↔ Within L d e E := by
  unfold Dev.sumAll; simp [hf, h]

/-! A record set to the same value on both sides leaves a frame a frame. -/
theorem Within.setAnswer (h : Within L d e E) (v : Answer) : Within L { d with answer := v } { e with answer := v } E :=
  ⟨h.regs, by rw [h.rest]⟩
theorem Within.setVisible (h : Within L d e E) (v : Bank) : Within L { d with visible := v } { e with visible := v } E :=
  ⟨h.regs, by rw [h.rest]⟩
theorem Within.setHidden (h : Within L d e E) (v : Bank) : Within L { d with hidden := v } { e with hidden := v } E :=
  ⟨h.regs, by rw [h.rest]⟩
theorem Within.setImplicit (h : Within L d e E) (v : List ImplicitSet) : Within L { d with implicit := v } { e with implicit := v } E :=
  ⟨h.regs, by rw [h.rest]⟩
theorem Within.setCspi (h : Within L d e E) (v : Option CspiTxn) : Within L { d with cspi := v } { e with cspi := v } E :=
  ⟨h.regs, by rw [h.rest]⟩
theorem Within.setReam (h : Within L d e E) (v : ReamSt) : Within L { d with ream := v } { e with ream := v } E :=
  ⟨h.regs, by rw [h.rest]⟩
theorem Within.setNvm (h : Within L d e E) (v : Nvm) : Within L { d with nvm := v } { e with nvm := v } E :=
  ⟨h.regs, by rw [h.rest]⟩
theorem Within.setRain (h : Within L d e E) (v : List Rain) : Within L { d with rain := v } { e with rain := v } E :=
  ⟨h.regs, by rw [h.rest]⟩
theorem Within.setNet (h : Within L d e E) (v : Net) : Within L { d with net := v } { e with net := v } E :=
  ⟨h.regs, by rw [h.rest]⟩
theorem Within.setMirrorIn (h : Within L d e E) (v : Option MirrorIn) : Within L { d with mirrorIn := v } { e with mirrorIn := v } E :=
  ⟨h.regs, by rw [h.rest]⟩
theorem Within.setForwards (h : Within L d e E) (v : List Forwarded) : Within L { d with forwards := v } { e with forwards := v } E :=
  ⟨h.regs, by rw [h.rest]⟩
theorem Within.setRet (h : Within L d e E) (v : Retention) : Within L { d with ret := v } { e with ret := v } E :=
  ⟨h.regs, by rw [h.rest]⟩
theorem Within.setLvEdges (h : Within L d e E) (v : List LvEdge) : Within L { d with lvEdges := v } { e with lvEdges := v } E :=
  ⟨h.regs, by rw [h.rest]⟩
theorem Within.setLvNext (h : Within L d e E) (v : List LvEdge) : Within L { d with lvNext := v } { e with lvNext := v } E :=
  ⟨h.regs, by rw [h.rest]⟩
theorem Within.setLvRetry (h : Within L d e E) (v : List (Nat × Nat)) : Within L { d with lvRetry := v } { e with lvRetry := v } E :=
  ⟨h.regs, by rw [h.rest]⟩
theorem Within.setMgt (h : Within L d e E) (v : List MgtReq) : Within L { d with mgt := v } { e with mgt := v } E :=
  ⟨h.regs, by rw [h.rest]⟩

end Sys2Proof.Machine
end

