-- ==== Sys2Proof/Laws/Raise.lean ====
section
/-! SUPPORT. What a raising can change: the fields of `raiseFlds`, and no record but those that `Within` lets change. -/
namespace Sys2Proof.Machine
variable {L : List Fld} {E : List (Fld × Nat)} {d e : Dev}

theorem within_instBit (f : Fld) (c i : Nat) (b : Bool) (hf : f.id < 2048) (h : hasFld L f = true) :
    Within L d (e.instBit f c i b) E ↔ Within L d e E := within_setBitOf _ _ _ _ hf h
theorem putEntry_within (f : Fld) (i : Nat) (x : Entry) (hf : f.id < 2048) (h : hasFld L f = true) : Within L d (d.putEntry f i x) E := by
  unfold Dev.putEntry; simp (disch := first | decide | (intros; simp (disch := assumption)))
@[simp] theorem within_putEntry (f : Fld) (i : Nat) (x : Entry) (hf : f.id < 2048) (h : hasFld L f = true) :
    Within L d (e.putEntry f i x) E ↔ Within L d e E := (putEntry_within f i x hf h).iff d
@[simp] theorem within_evq (q : List Entry) : Within L d { e with nvm := { e.nvm with evq := q } } E ↔ Within L d e E :=
  (show Within L e { e with nvm := { e.nvm with evq := q } } E from ⟨fun _ _ _ _ _ => rfl, rfl⟩).iff d

theorem queueEvent_within (x : Entry) : Within raiseFlds d (d.queueEvent x) := by
  unfold Dev.queueEvent; simp (disch := decide)
theorem writeEntry_within (x : Entry) : Within raiseFlds d (d.writeEntry x).1 := by
  unfold Dev.writeEntry
  simp only []
  rw [(queueEvent_within _).iff]
  simp (disch := decide)
theorem tripIssue_within (t src : Nat) : Within raiseFlds d (d.tripIssue t src) := by
  unfold Dev.tripIssue
  simp (disch := first | decide | (intros; simp (disch := decide)))
theorem sigStop_within : Within raiseFlds d d.sigStop := by
  unfold Dev.sigStop; simp (disch := decide)
theorem reactNow_within (t code : Nat) : Within raiseFlds d (d.reactNow t code) := by
  unfold Dev.reactNow
  simp (disch := first | decide | exact fun _ => sigStop_within | (intros; simp (disch := decide) [(tripIssue_within _ _).iff]))
theorem fltStatus_within : Within raiseFlds d d.fltStatus := by
  unfold Dev.fltStatus
  simp (disch := first | decide | (intros; simp (disch := decide)))
theorem raiseSilent_within (t c i det : Nat) : Within raiseFlds d (d.raiseSilent t c i det) := by
  unfold Dev.raiseSilent
  simp (disch := decide) [(reactNow_within _ _).iff, within_instBit]
theorem logEntry_within (t : Nat) (x : Entry) : Within raiseFlds d (d.logEntry t x).1 := by
  unfold Dev.logEntry
  simp only [within_ite]
  rw [(raiseSilent_within _ _ _ _).iff]
  simp [writeEntry_within]
theorem firstFault_within (x : Entry) : Within raiseFlds d (d.firstFault x) := by
  unfold Dev.firstFault; simp (disch := decide)
theorem swapEntries_within (a b : Nat) : Within raiseFlds d (d.swapEntries a b) := by
  unfold Dev.swapEntries
  simp (disch := first | decide | (intros; simp (disch := first | decide | (intros; simp (disch := decide)))))
theorem orderEntry_within (n : Nat) : ∀ (d : Dev) (seq : Nat), Within raiseFlds d (d.orderEntry seq n) := by
  induction n with
  | zero => intro d seq; exact Within.refl d
  | succ n ih =>
    intro d seq
    unfold Dev.orderEntry
    have h := fun p => (swapEntries_within (d := d) p seq).trans (ih _ p)
    simp [h]
theorem raiseNew_within (t c i det : Nat) (h : Bool) : Within raiseFlds d (d.raiseNew t c i det h) := by
  unfold Dev.raiseNew
  simp (disch := decide) [fltStatus_within.iff, (reactNow_within _ _).iff, (orderEntry_within _ _ _).iff, (firstFault_within _).iff, within_instBit,
    logEntry_within]
theorem raiseAgain_within (t c i det : Nat) (h : Bool) (r : Nat) : Within raiseFlds d (d.raiseAgain t c i det h r) := by
  unfold Dev.raiseAgain
  simp (disch := decide) [fltStatus_within.iff, (reactNow_within _ _).iff, (orderEntry_within _ _ _).iff, (firstFault_within _).iff,
    (logEntry_within _ _).iff]
theorem raiseBase_within (t c i det : Nat) (h : Bool) : Within raiseFlds d (d.raiseBase t c i det h) := by
  unfold Dev.raiseBase
  split
  · rw [(raiseAgain_within _ _ _ _ _ _).iff]; simp (disch := decide) [within_instBit]
  · simp (disch := decide) [(raiseNew_within _ _ _ _ _).iff, within_instBit]
theorem raise_within (t c i det : Nat) (h : Bool) : Within raiseFlds d (d.raise t c i det h) := by
  unfold Dev.raise Dev.dropCheck
  simp (disch := decide) [(raiseBase_within _ _ _ _ _).iff]
@[simp] theorem within_raise (t c i det : Nat) (b : Bool) (h : subFlds raiseFlds L = true) :
    Within L d (e.raise t c i det b) E ↔ Within L d e E := ((raise_within t c i det b).mono h).iff d
@[simp] theorem within_raiseState (t c i det : Nat) (h : subFlds raiseFlds L = true) :
    Within L d (e.raiseState t c i det) E ↔ Within L d e E := by
  unfold Dev.raiseState; simp [h]
@[simp] theorem within_lower (c i : Nat) : Within L d (e.lower c i) E ↔ Within L d e E := within_mapActive _ _ _

end Sys2Proof.Machine
end

