-- ==== Sys2Proof/Laws/Settle.lean ====
section
/-! SUPPORT. What settling can change: the fields of `settleFlds`, and no record but those that `Within` lets change. -/
namespace Sys2Proof.Machine
variable {L : List Fld} {E : List (Fld × Nat)} {d e : Dev}

theorem hbStatus_within (k : Nat) : Within settleFlds d (d.hbStatus k) := by unfold Dev.hbStatus; simp (disch := decide)
theorem turnOff_within (ch : Nat) (soft : Bool) : Within settleFlds d (d.turnOff ch soft) := by
  unfold Dev.turnOff; simp (disch := decide) [(hbStatus_within _).iff]
theorem turnOn_within (ch : Nat) : Within settleFlds d (d.turnOn ch) := by
  unfold Dev.turnOn; simp (disch := decide) [(hbStatus_within _).iff]
theorem request_within (ch : Nat) : Within settleFlds d (d.request ch) := by unfold Dev.request; simp (disch := decide)
theorem bothOff_within (k : Nat) : Within settleFlds d (d.bothOff k) := by
  unfold Dev.bothOff; simp [(turnOff_within _ _).iff]
theorem applyLeg_within (k st : Nat) : Within settleFlds d (d.applyLeg k st) := by
  unfold Dev.applyLeg; split <;> simp [(turnOff_within _ _).iff, (request_within _).iff]
theorem decideSafe_within (t g : Nat) : Within settleFlds d (d.decideSafe t g) := by
  unfold Dev.decideSafe
  simp (disch := first | decide | (intros; simp [(turnOff_within _ _).iff, (request_within _).iff, (bothOff_within _).iff]))
theorem holdHb_within (k lev : Nat) : Within settleFlds d (d.holdHb k lev) := by
  unfold Dev.holdHb
  split <;> simp (disch := first | decide | (intros; simp (disch := decide))) [(bothOff_within _).iff, (turnOff_within _ _).iff]
theorem portStatus_within : Within settleFlds d d.portStatus := by unfold Dev.portStatus; simp (disch := decide)
theorem post_within (c rev : Nat) (cmd : Cmd) : Within settleFlds d (d.post c rev cmd) := by
  unfold Dev.post; simp (disch := decide)
theorem zeroLegs_within (c : Nat) : Within settleFlds d (d.zeroLegs c) := by unfold Dev.zeroLegs; simp (disch := decide)
theorem refenceCell_within (t c : Nat) : Within settleFlds d (d.refenceCell t c) := by
  unfold Dev.refenceCell
  split
  · exact Within.refl d
  · simp (disch := decide) [(post_within _ _ _).iff, (zeroLegs_within _).iff]
theorem refence_within (t : Nat) : Within settleFlds d (d.refence t) := by
  unfold Dev.refence
  simp (disch := exact fun _ _ => refenceCell_within _ _)
theorem safeOutputs_within : Within settleFlds d d.safeOutputs := by
  unfold Dev.safeOutputs; simp (disch := first | decide | (intros; simp (disch := decide)))
theorem fbCommand_within (t ch o : Nat) : Within settleFlds d (d.fbCommand t ch o) := by
  unfold Dev.fbCommand
  simp (disch := first | decide | (intros; simp (disch := first | decide | (intros; simp (disch := decide)))))
theorem fbCommands_within (t : Nat) : Within settleFlds d (d.fbCommands t) := by
  unfold Dev.fbCommands; simp (disch := exact fun _ _ => fbCommand_within _ _ _)
theorem safeInputs_within : Within settleFlds d d.safeInputs := by unfold Dev.safeInputs; simp (disch := decide)
theorem demandStart_within (t ch fn : Nat) : Within settleFlds d (d.demandStart t ch fn) := by
  unfold Dev.demandStart
  simp (disch := decide) [((tripIssue_within _ _).mono (L := settleFlds) (by decide)).iff]
theorem safeEval_within (t : Nat) : Within settleFlds d (d.safeEval t) := by
  unfold Dev.safeEval
  simp (disch := first | decide | (intros; simp (disch := decide) [(demandStart_within _ _ _).iff]))
theorem safeUpdate_within (t : Nat) : Within settleFlds d (d.safeUpdate t) := by
  unfold Dev.safeUpdate
  simp (disch := decide) [safeInputs_within.iff, (fbCommands_within _).iff, safeOutputs_within.iff, (safeEval_within _).iff]
theorem settle_within (t : Nat) : Within settleFlds d (d.settle t) := by
  unfold Dev.settle
  simp (disch := (intros; simp [(holdHb_within _ _).iff, (decideSafe_within _ _)])) [(refence_within _).iff, portStatus_within.iff, (safeUpdate_within _)]
@[simp] theorem within_settle (t : Nat) (h : subFlds settleFlds L = true) : Within L d (e.settle t) E ↔ Within L d e E :=
  ((settle_within t).mono h).iff d

end Sys2Proof.Machine
end

