-- ==== Sys2Proof/Laws/Flash.lean ====
section
/-! SUPPORT. The flash: programming and erasing keep the canonical form of its bytes, a read after a write, and what starting an
operation can change. -/
namespace Sys2Proof.Machine
variable {L : List Fld} {E : List (Fld × Nat)} {d e f : Dev}

/-- Every address of a list lies above a bound. -/
def above (a : Nat) (l : List Host.Cell) : Prop := ∀ c ∈ l, a < c.1

theorem memWf_cons {c : Host.Cell} {l : List Host.Cell} : memWf (c :: l) = true ↔ c.2 ≠ 255 ∧ above c.1 l ∧ memWf l = true := by
  induction l generalizing c with
  | nil => simp [memWf, above]
  | cons c' l ih =>
    constructor
    · intro h
      simp only [memWf, Bool.and_eq_true, bne_iff_ne, ne_eq, decide_eq_true_eq] at h
      obtain ⟨⟨h1, h2⟩, h3⟩ := h
      refine ⟨h1, ?_, h3⟩
      intro x hx
      rcases List.mem_cons.mp hx with rfl | hx
      · exact h2
      · exact Nat.lt_trans h2 ((ih.mp h3).2.1 x hx)
    · rintro ⟨h1, h2, h3⟩
      simp only [memWf, Bool.and_eq_true, bne_iff_ne, ne_eq, decide_eq_true_eq]
      exact ⟨⟨h1, h2 c' (by simp)⟩, h3⟩

theorem and_ne_erased (x y : Byte) (h : x ≠ 255) : x &&& y ≠ 255 := by
  intro hxy
  exact h (BitVec.and_eq_allOnes_iff.mp (show x &&& y = BitVec.allOnes 8 from hxy)).1

theorem program_above {b a : Nat} {v : Byte} (hb : b < a) : ∀ {l : List Host.Cell}, above b l → above b (program l a v) := by
  intro l
  induction l with
  | nil => intro _ x hx; unfold program at hx; split at hx <;> simp_all
  | cons c l ih =>
    intro h x hx
    have hc := h c (by simp)
    have hl : above b l := fun y hy => h y (by simp [hy])
    unfold program at hx
    split at hx
    · rcases List.mem_cons.mp hx with rfl | hx
      · exact hc
      · exact hl x hx
    · split at hx
      · split at hx
        · exact h x hx
        · rcases List.mem_cons.mp hx with rfl | hx
          · exact hb
          · exact h x hx
      · rcases List.mem_cons.mp hx with rfl | hx
        · exact hc
        · exact ih hl x hx

/-- Programming a byte keeps the canonical form. -/
theorem program_memWf (a : Nat) (v : Byte) : ∀ (l : List Host.Cell), memWf l = true → memWf (program l a v) = true := by
  intro l
  induction l with
  | nil => intro _; unfold program; split <;> simp_all [memWf]
  | cons c l ih =>
    intro h
    obtain ⟨h1, h2, h3⟩ := memWf_cons.mp h
    unfold program
    split
    · exact memWf_cons.mpr ⟨and_ne_erased _ _ h1, h2, h3⟩
    · split
      · split
        · exact h
        · rename_i hv
          refine memWf_cons.mpr ⟨hv, ?_, h⟩
          intro x hx
          rcases List.mem_cons.mp hx with rfl | hx
          · assumption
          · exact Nat.lt_trans (by assumption) (h2 x hx)
      · exact memWf_cons.mpr ⟨h1, program_above (by omega) h2, ih h3⟩

/-- Erasing a sector keeps the canonical form. -/
theorem erase_memWf (sector : Nat) : ∀ (l : List Host.Cell), memWf l = true → memWf (erase l sector) = true := by
  intro l
  induction l with
  | nil => intro _; rfl
  | cons c l ih =>
    intro h
    obtain ⟨h1, h2, h3⟩ := memWf_cons.mp h
    unfold erase at ih ⊢
    rw [List.filter_cons]
    split
    · exact memWf_cons.mpr ⟨h1, fun x hx => h2 x (List.mem_filter.mp hx).1, ih h3⟩
    · exact ih h3

theorem byteAt_nil (a : Nat) : byteAt [] a = 255 := rfl
theorem byteAt_cons (c : Host.Cell) (l : List Host.Cell) (a : Nat) : byteAt (c :: l) a = if c.1 = a then c.2 else byteAt l a := by
  unfold byteAt; by_cases h : c.1 = a <;> simp [h]
theorem byteAt_above {l : List Host.Cell} {a b : Nat} (h : above b l) (hab : a ≤ b) : byteAt l a = 255 := by
  induction l with
  | nil => rfl
  | cons c l ih =>
    rw [byteAt_cons, if_neg (by have := h c (by simp); omega)]
    exact ih (fun x hx => h x (by simp [hx]))

/-- Programming clears the bits of its own byte that are 0 in the value, and leaves every other byte as it was. -/
theorem byteAt_program (a : Nat) (v : Byte) (x : Nat) :
    ∀ (l : List Host.Cell), memWf l = true → byteAt (program l a v) x = if x = a then byteAt l a &&& v else byteAt l x := by
  have ones : ∀ v : Byte, (255 : Byte) &&& v = v := fun v => BitVec.allOnes_and
  intro l
  induction l with
  | nil =>
    intro _
    unfold program
    split
    · subst_vars; simp [byteAt_nil]
    · rw [byteAt_cons, byteAt_nil, byteAt_nil, ones]
      by_cases h : a = x <;> simp [h, eq_comm]
  | cons c l ih =>
    intro h
    obtain ⟨h1, h2, h3⟩ := memWf_cons.mp h
    unfold program
    split
    · rename_i hc
      rw [byteAt_cons, byteAt_cons, byteAt_cons, if_pos hc, hc]
      by_cases hx : x = a
      · simp [hx]
      · simp [hx, Ne.symm hx]
    · rename_i hc
      split
      · rename_i hlt
        have hb : byteAt (c :: l) a = 255 := by
          rw [byteAt_cons, if_neg hc]
          exact byteAt_above h2 (by omega)
        split
        · rename_i hv
          subst hv
          split
          · subst_vars; rw [hb]; decide
          · rfl
        · rw [byteAt_cons, hb, ones]
          by_cases hx : x = a <;> simp [hx, eq_comm]
          intro h; exact absurd h.symm hx
      · rw [byteAt_cons, ih h3, byteAt_cons, byteAt_cons, if_neg hc]
        by_cases hx : x = a
        · subst hx; simp [hc]
        · simp [hx]

/-! What starting an operation can change: the flash's own records, and what it raises. -/

theorem Within.thenNvm (h : Within L { d with nvm := e.nvm } e E) (k : Within L { e with nvm := f.nvm } f E) : Within L { d with nvm := f.nvm } f E :=
  (h.setNvm f.nvm).trans k

theorem Within.ofNvm (h : Within L d e E) : Within L { d with nvm := e.nvm } e E := by
  have := h.setNvm e.nvm
  exact this

theorem setNvm_within (d : Dev) (n : Nvm) : Within L { d with nvm := (d.setNvm n).nvm } (d.setNvm n) E := Within.refl _

theorem countErase_within (t k : Nat) : Within raiseFlds { d with nvm := (d.countErase t k).nvm } (d.countErase t k) := by
  unfold Dev.countErase
  simp only []
  split
  · exact (setNvm_within d _).thenNvm (Within.ofNvm (raise_within _ _ _ _ _))
  · exact setNvm_within d _

theorem foldl_nvm {α : Type} (g : Dev → α → Dev) (h : ∀ e x, Within L { e with nvm := (g e x).nvm } (g e x) E) (l : List α) :
    ∀ d : Dev, Within L { d with nvm := (l.foldl g d).nvm } (l.foldl g d) E := by
  induction l with
  | nil => exact fun d => Within.refl d
  | cons x l ih => exact fun d => (h d x).thenNvm (ih (g d x))

theorem journalStart_within (t w typ : Nat) (data : List Nat) :
    Within raiseFlds { d with nvm := (d.journalStart t w typ data).nvm } (d.journalStart t w typ data) := by
  unfold Dev.journalStart
  exact (setNvm_within d _).thenNvm (foldl_nvm _ (fun _ _ => countErase_within _ _) _ _)

theorem flashNext_within (t : Nat) : Within raiseFlds { d with nvm := (d.flashNext t).nvm } (d.flashNext t) := by
  unfold Dev.flashNext
  split
  · exact Within.refl d
  · split
    · exact Within.refl d
    · rename_i op _
      simp only []
      split
      · exact (setNvm_within d _).thenNvm (journalStart_within _ _ _ _)
      · refine Within.thenNvm ?_ (journalStart_within _ _ _ _)
        exact (setNvm_within d _).thenNvm (Within.ofNvm (Within.of_put _ _ _ _ (by decide) (by decide)))
      · exact (setNvm_within d _).thenNvm (journalStart_within _ _ _ _)
      · exact setNvm_within d _

theorem enqueue_within (t : Nat) (op : FlashOp) : Within raiseFlds { d with nvm := (d.enqueue t op).nvm } (d.enqueue t op) :=
  (setNvm_within d _).thenNvm (flashNext_within t)

theorem enqueueAll_within (t : Nat) (l : List FlashOp) : Within raiseFlds { d with nvm := (d.enqueueAll t l).nvm } (d.enqueueAll t l) :=
  (setNvm_within d _).thenNvm (flashNext_within t)

end Sys2Proof.Machine
end

