-- ==== Sys2Proof/Laws/Sticky.lean ====
section
/-! SUPPORT. A raising sets the STICKY bit of its instance, and nothing that a command does after it takes the bit back. -/
namespace Sys2Proof.Machine
variable {L : List Fld} {d e : Dev}

theorem bitOf_div (v i : Nat) : bitOf (v / 2) i = bitOf v (i + 1) := by
  simp only [bitOf, Nat.shiftRight_eq_div_pow]
  rw [Nat.div_div_eq_div_mul, Nat.pow_succ, Nat.mul_comm]

theorem bitOf_zero (v : Nat) : bitOf v 0 = v % 2 := by simp [bitOf]

/-- Adding 2^i where bit i is clear sets that bit and no other. -/
theorem bitOf_add (i : Nat) : ∀ v j : Nat, bitOf v i = 0 → bitOf (v + 2 ^ i) j = if j = i then 1 else bitOf v j := by
  induction i with
  | zero =>
    intro v j h
    rw [bitOf_zero] at h
    cases j with
    | zero => simp [bitOf_zero]; omega
    | succ j => rw [← bitOf_div, ← bitOf_div, show (v + 2 ^ 0) / 2 = v / 2 by omega]; simp
  | succ i ih =>
    intro v j h
    rw [← bitOf_div] at h
    cases j with
    | zero =>
      rw [bitOf_zero, bitOf_zero, Nat.pow_succ]; simp
    | succ j =>
      rw [← bitOf_div, ← bitOf_div, show (v + 2 ^ (i + 1)) / 2 = v / 2 + 2 ^ i by rw [Nat.pow_succ]; omega, ih _ _ h]; simp

theorem bitOf_mod (v n j : Nat) (h : j < n) : bitOf (v % 2 ^ n) j = bitOf v j := by
  simp only [bitOf, Nat.shiftRight_eq_div_pow]
  have h1 := Nat.testBit_mod_two_pow v n j
  simp only [Nat.testBit, h, decide_true, Bool.true_and, Nat.shiftRight_eq_div_pow, Nat.one_and_eq_mod_two] at h1
  have := Nat.mod_two_eq_zero_or_one (v % 2 ^ n / 2 ^ j)
  have := Nat.mod_two_eq_zero_or_one (v / 2 ^ j)
  by_cases hb : v / 2 ^ j % 2 = 0 <;> simp_all

theorem bitOf_setBit (v i j : Nat) : bitOf (setBit v i true) j = if j = i then 1 else bitOf v j := by
  unfold setBit
  have hb : bitOf v i = 0 ∨ bitOf v i = 1 := Nat.mod_two_eq_zero_or_one _
  by_cases h : bitOf v i = 1
  · simp only [h, Bool.toNat_true, if_true]
    by_cases hj : j = i
    · simp [hj, h]
    · simp [hj]
  · have h0 : bitOf v i = 0 := by omega
    simp only [h0, Bool.toNat_true, Nat.zero_ne_one, if_false, if_true]
    exact bitOf_add i v j h0

/-- Every STICKY bit that was set is set. -/
def StickyKept (d e : Dev) : Prop := ∀ j b, b < 32 → bitOf (d.get R.FLT.STICKY j) b = 1 → bitOf (e.get R.FLT.STICKY j) b = 1

theorem StickyKept.refl (d : Dev) : StickyKept d d := fun _ _ _ h => h
theorem StickyKept.trans {a b c : Dev} (h : StickyKept a b) (k : StickyKept b c) : StickyKept a c := fun j i hi hb => k j i hi (h j i hi hb)
theorem Within.sticky (h : Within L d e) (hL : hasFld L R.FLT.STICKY = false) : StickyKept d e := by
  intro j b _ hb
  rw [h.regs _ (by decide) hL _ rfl]; exact hb
theorem StickyKept.raised (h : StickyKept d e) {c i : Nat} (hr : Raised d c i) : Raised e c i := h _ _ (Nat.mod_lt _ (by decide)) hr

theorem instBit_sticky (c i : Nat) : StickyKept d (d.instBit R.FLT.STICKY c i true) := by
  intro j b hb h
  unfold Dev.instBit Dev.setBitOf
  by_cases hj : (c * 8 + i / 32 % 8) % 65536 = j % 65536
  · have hk : ∀ x : Dev, x.get R.FLT.STICKY j = x.get R.FLT.STICKY (c * 8 + i / 32 % 8) := by
      intro x; simp only [Dev.get, Store.field, Fld.key, hj]
    rw [hk] at h ⊢
    rw [Dev.get_put_same, bitOf_mod _ _ _ (by simpa [Fld.width, R.FLT.STICKY] using hb), bitOf_setBit]
    split
    · rfl
    · exact h
  · rw [Dev.get_put_ne _ _ _ _ _ _ (by decide) (by decide) (Or.inr hj)]; exact h

theorem instBit_raised (c i : Nat) (hi : i < 256) : Raised (d.instBit R.FLT.STICKY c i true) c i := by
  unfold Raised Dev.instBit Dev.setBitOf
  have h8 : c * 8 + i / 32 % 8 = 8 * c + i / 32 := by omega
  rw [h8, Dev.get_put_same, bitOf_mod _ _ _ (by show _ < 32; omega), bitOf_setBit]
  simp

/-- What a raising writes beside STICKY. -/
def raiseRest : List Fld := raiseFlds.filter (fun f => f.id != R.FLT.STICKY.id)

theorem writeEntry_rest (x : Entry) : Within raiseRest d (d.writeEntry x).1 := by
  have h : ∀ e : Dev, Within raiseRest e (e.queueEvent x) := by intro e; unfold Dev.queueEvent; simp (disch := decide)
  unfold Dev.writeEntry
  have h' : ∀ (e : Dev) (y : Entry), Within raiseRest e (e.queueEvent y) := by intro e y; unfold Dev.queueEvent; simp (disch := decide)
  simp only []
  rw [(h' _ _).iff]
  simp (disch := decide)
theorem reactNow_rest (t code : Nat) : Within raiseRest d (d.reactNow t code) := by
  have h : ∀ e : Dev, Within raiseRest e (e.tripIssue t 0) := by
    intro e; unfold Dev.tripIssue; simp (disch := first | decide | (intros; simp (disch := decide)))
  have k : ∀ e : Dev, Within raiseRest e e.sigStop := by intro e; unfold Dev.sigStop; simp (disch := decide)
  unfold Dev.reactNow
  simp (disch := first | decide | exact k | (intros; simp (disch := decide) [(h _).iff]))
theorem fltStatus_rest : Within raiseRest d d.fltStatus := by
  unfold Dev.fltStatus
  simp (disch := first | decide | (intros; simp (disch := decide)))
theorem raiseSilent_sticky (t c i det : Nat) : StickyKept d (d.raiseSilent t c i det) := by
  refine (instBit_sticky c i).trans (Within.sticky (L := raiseRest) ?_ (by decide))
  unfold Dev.raiseSilent
  simp (disch := decide) [(reactNow_rest _ _).iff, within_instBit]
theorem logEntry_sticky (t : Nat) (x : Entry) : StickyKept d (d.logEntry t x).1 := by
  have h := (writeEntry_rest (d := d) x).sticky (by decide)
  unfold Dev.logEntry
  simp only []
  split
  · exact h.trans (raiseSilent_sticky _ _ _ _)
  · exact h
theorem firstFault_rest (x : Entry) : Within raiseRest d (d.firstFault x) := by
  unfold Dev.firstFault; simp (disch := decide)
theorem orderEntry_rest (n : Nat) : ∀ (d : Dev) (seq : Nat), Within raiseRest d (d.orderEntry seq n) := by
  have hs : ∀ (e : Dev) (a b : Nat), Within raiseRest e (e.swapEntries a b) := by
    intro e a b; unfold Dev.swapEntries
    simp (disch := first | decide | (intros; simp (disch := first | decide | (intros; simp (disch := decide)))))
  induction n with
  | zero => intro d seq; exact Within.refl d
  | succ n ih =>
    intro d seq
    unfold Dev.orderEntry
    have h := fun p => (hs d p seq).trans (ih _ p)
    simp [h]
theorem raiseNew_sticky (t c i det : Nat) (b : Bool) : StickyKept d (d.raiseNew t c i det b) := by
  unfold Dev.raiseNew
  dsimp only
  refine (logEntry_sticky t (d.record t c i det (d.entryOf c i).1 0)).trans (Within.sticky (L := raiseRest) ?_ (by decide))
  simp (disch := decide) [fltStatus_rest.iff, (reactNow_rest _ _).iff, (orderEntry_rest _ _ _).iff, (firstFault_rest _).iff, within_instBit]
theorem raiseAgain_sticky (t c i det : Nat) (b : Bool) (r : Nat) : StickyKept d (d.raiseAgain t c i det b r) := by
  unfold Dev.raiseAgain
  simp only []
  split
  · have h1 : StickyKept d (d.mapActive c i (fun a => { a with present := true, held := b, quiet := none, elapsed := false })) :=
      Within.sticky (L := raiseRest) (by simp) (by decide)
    refine (h1.trans (logEntry_sticky t (d.record t c i det (d.entryOf c i).1 16))).trans (Within.sticky (L := raiseRest) ?_ (by decide))
    simp (disch := decide) [fltStatus_rest.iff, (reactNow_rest _ _).iff, (orderEntry_rest _ _ _).iff, (firstFault_rest _).iff]
  · exact Within.sticky (L := raiseRest) (by simp (disch := decide)) (by decide)
theorem raiseBase_after (t c i det : Nat) (b : Bool) : StickyKept (d.instBit R.FLT.STICKY c i true) (d.raiseBase t c i det b) := by
  unfold Dev.raiseBase
  simp only []
  split
  · exact raiseAgain_sticky _ _ _ _ _ _
  · split
    · exact StickyKept.refl _
    · exact raiseNew_sticky _ _ _ _ _
theorem dropCheck_sticky (t : Nat) : StickyKept d (d.dropCheck t) := by
  unfold Dev.dropCheck
  split
  · refine StickyKept.trans (StickyKept.trans (Within.sticky (L := raiseRest) (e := d.put I.THERM.DROP_PEND 0) (by simp (disch := decide)) (by decide))
      ((instBit_sticky 2 21).trans (raiseBase_after t 2 21 (d.get R.THERM.EVJ_DROP) false))) (Within.sticky (L := raiseRest) (by simp (disch := decide)) (by decide))
  · exact StickyKept.refl d
theorem raise_after (t c i det : Nat) (b : Bool) : StickyKept (d.instBit R.FLT.STICKY c i true) (d.raise t c i det b) :=
  (raiseBase_after t c i det b).trans (dropCheck_sticky t)
theorem raise_sticky (t c i det : Nat) (b : Bool) : StickyKept d (d.raise t c i det b) := (instBit_sticky c i).trans (raise_after t c i det b)
/-- A raising sets the STICKY bit of its instance. -/
theorem raise_raised (t c i det : Nat) (b : Bool) (hi : i < 256) : Raised (d.raise t c i det b) c i :=
  (raise_after t c i det b).raised (instBit_raised c i hi)

/-! Settling. -/

theorem foldl_sticky {α : Type} (g : Dev → α → Dev) (h : ∀ e x, StickyKept e (g e x)) (l : List α) (d : Dev) : StickyKept d (l.foldl g d) := by
  induction l generalizing d with
  | nil => exact StickyKept.refl d
  | cons x l ih => exact (h d x).trans (ih (g d x))

/-- What settling writes beside STICKY. -/
def settleRest : List Fld := settleFlds.filter (fun f => f.id != R.FLT.STICKY.id)

theorem hbStatus_rest (k : Nat) : Within settleRest d (d.hbStatus k) := by unfold Dev.hbStatus; simp (disch := decide)
theorem turnOff_rest (ch : Nat) (b : Bool) : Within settleRest d (d.turnOff ch b) := by
  unfold Dev.turnOff; simp (disch := decide) [(hbStatus_rest _).iff]
theorem request_rest (ch : Nat) : Within settleRest d (d.request ch) := by unfold Dev.request; simp (disch := decide)
theorem bothOff_rest (k : Nat) : Within settleRest d (d.bothOff k) := by unfold Dev.bothOff; simp [(turnOff_rest _ _).iff]
theorem holdHb_rest (k lev : Nat) : Within settleRest d (d.holdHb k lev) := by
  unfold Dev.holdHb
  split <;> simp (disch := first | decide | (intros; simp (disch := decide))) [(bothOff_rest _).iff, (turnOff_rest _ _).iff]
theorem decideSafe_sticky (t g : Nat) : StickyKept d (d.decideSafe t g) := by
  have w : ∀ e : Dev, Within settleRest d e → StickyKept d e := fun e h => h.sticky (by decide)
  have hf : ∀ (l : List Nat) (e : Dev), Within settleRest e (l.foldl (fun d k => d.bothOff k) e) := fun l e =>
    Within.of_foldl _ (fun _ _ => bothOff_rest _) l e
  unfold Dev.decideSafe
  dsimp only
  split
  · exact StickyKept.refl d
  · split
    · exact w _ (by simp (disch := decide) [(hf _ _).iff])
    · split
      · exact w _ (by simp (disch := first | decide | (intros; simp [(turnOff_rest _ _).iff, (request_rest _).iff])))
      · split
        · exact (w _ (by simp (disch := decide) [(hf _ _).iff])).trans (raise_sticky _ _ _ _ _)
        · exact w _ (by simp (disch := decide) [(hf _ _).iff])
theorem post_rest (c rev : Nat) (cmd : Cmd) : Within settleRest d (d.post c rev cmd) := by unfold Dev.post; simp (disch := decide)
theorem zeroLegs_rest (c : Nat) : Within settleRest d (d.zeroLegs c) := by unfold Dev.zeroLegs; simp (disch := decide)
theorem refenceCell_sticky (t c : Nat) : StickyKept d (d.refenceCell t c) := by
  have w : ∀ e : Dev, Within settleRest d e → StickyKept d e := fun e h => h.sticky (by decide)
  unfold Dev.refenceCell
  split
  · exact StickyKept.refl d
  · split
    · exact w _ (by simp (disch := decide) [(post_rest _ _ _).iff])
    · split
      · exact w _ (by simp (disch := decide) [(zeroLegs_rest _).iff])
      · exact (w _ (by simp (disch := decide))).trans (raise_sticky _ _ _ _ _)
theorem refence_sticky (t : Nat) : StickyKept d (d.refence t) := by
  unfold Dev.refence
  split
  · exact StickyKept.refl d
  · exact foldl_sticky _ (fun e x => refenceCell_sticky t x) _ d
theorem safeOutputs_rest : Within settleRest d d.safeOutputs := by
  unfold Dev.safeOutputs; simp (disch := first | decide | (intros; simp (disch := decide)))
theorem fbCommands_rest (t : Nat) : Within settleRest d (d.fbCommands t) := by
  have h : ∀ (e : Dev) (ch o : Nat), Within settleRest e (e.fbCommand t ch o) := by
    intro e ch o; unfold Dev.fbCommand
    simp (disch := first | decide | (intros; simp (disch := first | decide | (intros; simp (disch := decide)))))
  unfold Dev.fbCommands; simp (disch := exact fun _ _ => h _ _ _)
theorem safeInputs_rest : Within settleRest d d.safeInputs := by unfold Dev.safeInputs; simp (disch := decide)
theorem demandStart_rest (t ch fn : Nat) : Within settleRest d (d.demandStart t ch fn) := by
  have h : ∀ (e : Dev) (k : Nat), Within settleRest e (e.tripIssue t k) := by
    intro e k; unfold Dev.tripIssue; simp (disch := first | decide | (intros; simp (disch := decide)))
  unfold Dev.demandStart; simp (disch := decide) [(h _ _).iff]
theorem safeEval_rest (t : Nat) : Within settleRest d (d.safeEval t) := by
  unfold Dev.safeEval
  simp (disch := first | decide | (intros; simp (disch := decide) [(demandStart_rest _ _ _).iff]))
theorem safeUpdate_sticky (t : Nat) : StickyKept d (d.safeUpdate t) := by
  have w : ∀ {a b : Dev}, Within settleRest a b → StickyKept a b := fun h => h.sticky (by decide)
  unfold Dev.safeUpdate
  dsimp only
  refine StickyKept.trans (b := if d.tripMv && !d.is I.SAFE.TMV then (d.put I.SAFE.TMV 1).raise t 10 23 0 else d.flag I.SAFE.TMV d.tripMv) ?_ (w ?_)
  · split
    · exact (w (by simp (disch := decide) : Within settleRest d (d.put I.SAFE.TMV 1))).trans (raise_sticky _ _ _ _ _)
    · exact w (by simp (disch := decide))
  · simp (disch := decide) [safeInputs_rest.iff, (fbCommands_rest _).iff, safeOutputs_rest.iff, (safeEval_rest _).iff]
/-- Settling takes no STICKY bit back. -/
theorem settle_sticky (t : Nat) : StickyKept d (d.settle t) := by
  have w : ∀ {a b : Dev}, Within settleRest a b → StickyKept a b := fun h => h.sticky (by decide)
  have hp : ∀ e : Dev, Within settleRest e e.portStatus := by intro e; unfold Dev.portStatus; simp (disch := decide)
  unfold Dev.settle
  dsimp only
  refine StickyKept.trans ?_ (refence_sticky t)
  refine StickyKept.trans ?_ (w (hp _))
  refine StickyKept.trans ?_ (foldl_sticky _ (fun e x => decideSafe_sticky t x) _ _)
  refine StickyKept.trans (safeUpdate_sticky t) (w ?_)
  simp (disch := (intros; simp [(holdHb_rest _ _).iff]))
/-- What was raised before settling is raised after it. -/
theorem settle_raised (t : Nat) {c i : Nat} (h : Raised d c i) : Raised (d.settle t) c i := (settle_sticky t).raised h

end Sys2Proof.Machine
end

