-- ==== Sys2Proof/Laws/Host.lean ====
section
/-! SUPPORT. Host writes: what an accepted write does, and the fields that stand in a word. -/
namespace Sys2Proof.Machine
variable {L : List Fld} {E : List (Fld × Nat)} {d e : Dev}

/-- The fields of a word where the derived views of PERF have no part. -/
def plainWord (w o i : Nat) : List (Fld × Nat) := (winFields w).filterMap (fun f => (f.elem i o).map (fun k => (f, k)))

theorem word_eq (r : Store) (w o i : Nat) (h : (winFields w).all (fun f => !hiddenView true f && !hiddenView false f) = true) :
    r.word w o i = plainWord w o i := by
  unfold Store.word plainWord
  have key : ∀ b : Bool, ∀ l : List Fld, l.all (fun f => !hiddenView true f && !hiddenView false f) = true →
      l.filterMap (fun f => if hiddenView b f then none else (f.elem i o).map (fun i => (f, i))) =
        l.filterMap (fun f => (f.elem i o).map (fun k => (f, k))) := by
    intro b l
    induction l with
    | nil => intro _; rfl
    | cons f l ih =>
      intro h
      simp only [List.all_cons, Bool.and_eq_true, Bool.not_eq_true'] at h
      have hb : hiddenView b f = false := by cases b <;> simp [h]
      simp [List.filterMap_cons, hb, ih (by simpa using h.2)]
  exact key _ _ h

theorem firstErr_nil : firstErr [] = none := rfl

/-- A host access is counted by PERF alone. -/
theorem counted_within (src : Source) : Within countFlds d (d.counted src) := by
  unfold Dev.counted Dev.carryPcie
  split <;> simp (disch := decide)
@[simp] theorem within_counted (src : Source) (h : subFlds countFlds L = true) : Within L d (e.counted src) E ↔ Within L d e E :=
  ((counted_within src).mono h).iff d
@[simp] theorem get_counted (src : Source) (f : Fld) (i : Nat) (hf : f.id < 2048) (h : hasFld countFlds f = false) :
    (d.counted src).get f i = d.get f i := (counted_within src).regs f hf h i rfl

/-- What an accepted write leaves: the effect of the write on the counted module, and what settling follows from it. -/
theorem hostWrite_accepts {s : State} {src : Source} {a be val : Nat} (h : Accepts s src a val be) :
    s.hostWrite src a be val = .next { s with dev := ((s.dev.counted src).writeAct s.clk.ns src a val).settle s.clk.ns } := by
  obtain ⟨up, dir, clean⟩ := h
  unfold State.hostWrite State.onDev Dev.hostWrite
  simp only [up, Bool.not_true, Bool.false_eq_true, if_false]
  have hw : ((s.dev.counted src).wordWrite s.clk.ns src a be val) = ((s.dev.counted src).writeAct s.clk.ns src a val, none) := by
    unfold Dev.wordWrite; rw [clean]; rfl
  split
  · rename_i hs
    obtain ⟨hc, hst⟩ := dir hs
    have hn : s.dev.cspi.isNone = false := by cases hq : s.dev.cspi <;> simp_all
    subst hs
    simp only [Dev.counted, if_true] at hw ⊢
    unfold Dev.cspiWrite
    simp [hn, hst, hw, Dev.cspiNote]
  · rename_i hs
    simp only [Dev.counted, if_neg hs] at hw ⊢
    rw [hw]

theorem does_write {c : Instr} {s : State} {src : Source} {a be val : Nat} {P : Dev → Prop} (hx : exec c s = s.hostWrite src a be val)
    (h : Accepts s src a val be) (hp : P ((s.dev.counted src).writeAct s.clk.ns src a val)) : Does c s P :=
  ⟨_, hx.trans (hostWrite_accepts h), hp⟩

theorem view_free (w : Nat) (h : w < 18) : (winFields w).all (fun f => !hiddenView true f && !hiddenView false f) = true := by
  revert w; decide +kernel

/-- The effect of an accepted write, word by word. -/
theorem writeAct_eq (t : Nat) (src : Source) {a w o val : Nat} (ha : winOf a = some (w, o)) (hw : w < 18) :
    d.writeAct t src a val = ((plainWord w o (srcIx src)).foldl (fun d p => d.fieldWrite p val) d).windowAct d t src w o val := by
  unfold Dev.writeAct
  rw [ha]
  simp only [word_eq _ w o _ (view_free w hw)]

end Sys2Proof.Machine
end

