-- ==== Sys2Proof/Laws/State.lean ====
section
/-! SUPPORT. What each update of the module leaves in each record: one lemma per record per update, so that no later proof unfolds a
record update. What an update of a register leaves in the registers is in Laws/Store.lean. -/
namespace Sys2Proof.Machine
variable (s : State) (d : Dev)

/-! `Dev.put`. -/
@[simp] theorem Dev.put_answer (f : Fld) (v i : Nat) : (d.put f v i).answer = d.answer := rfl
@[simp] theorem Dev.put_visible (f : Fld) (v i : Nat) : (d.put f v i).visible = d.visible := rfl
@[simp] theorem Dev.put_hidden (f : Fld) (v i : Nat) : (d.put f v i).hidden = d.hidden := rfl
@[simp] theorem Dev.put_implicit (f : Fld) (v i : Nat) : (d.put f v i).implicit = d.implicit := rfl
@[simp] theorem Dev.put_cspi (f : Fld) (v i : Nat) : (d.put f v i).cspi = d.cspi := rfl
@[simp] theorem Dev.put_ream (f : Fld) (v i : Nat) : (d.put f v i).ream = d.ream := rfl
@[simp] theorem Dev.put_nvm (f : Fld) (v i : Nat) : (d.put f v i).nvm = d.nvm := rfl
@[simp] theorem Dev.put_rain (f : Fld) (v i : Nat) : (d.put f v i).rain = d.rain := rfl
@[simp] theorem Dev.put_net (f : Fld) (v i : Nat) : (d.put f v i).net = d.net := rfl
@[simp] theorem Dev.put_mirrorIn (f : Fld) (v i : Nat) : (d.put f v i).mirrorIn = d.mirrorIn := rfl
@[simp] theorem Dev.put_forwards (f : Fld) (v i : Nat) : (d.put f v i).forwards = d.forwards := rfl
@[simp] theorem Dev.put_ret (f : Fld) (v i : Nat) : (d.put f v i).ret = d.ret := rfl
@[simp] theorem Dev.put_active (f : Fld) (v i : Nat) : (d.put f v i).active = d.active := rfl
@[simp] theorem Dev.put_lvEdges (f : Fld) (v i : Nat) : (d.put f v i).lvEdges = d.lvEdges := rfl
@[simp] theorem Dev.put_lvNext (f : Fld) (v i : Nat) : (d.put f v i).lvNext = d.lvNext := rfl
@[simp] theorem Dev.put_lvRetry (f : Fld) (v i : Nat) : (d.put f v i).lvRetry = d.lvRetry := rfl
@[simp] theorem Dev.put_mgt (f : Fld) (v i : Nat) : (d.put f v i).mgt = d.mgt := rfl
@[simp] theorem Dev.put_outbox (f : Fld) (v i : Nat) : (d.put f v i).outbox = d.outbox := rfl
@[simp] theorem Dev.put_draws (f : Fld) (v i : Nat) : (d.put f v i).draws = d.draws := rfl

/-! `Dev.flag`. -/
@[simp] theorem Dev.flag_answer (f : Fld) (b : Bool) (i : Nat) : (d.flag f b i).answer = d.answer := rfl
@[simp] theorem Dev.flag_visible (f : Fld) (b : Bool) (i : Nat) : (d.flag f b i).visible = d.visible := rfl
@[simp] theorem Dev.flag_hidden (f : Fld) (b : Bool) (i : Nat) : (d.flag f b i).hidden = d.hidden := rfl
@[simp] theorem Dev.flag_implicit (f : Fld) (b : Bool) (i : Nat) : (d.flag f b i).implicit = d.implicit := rfl
@[simp] theorem Dev.flag_cspi (f : Fld) (b : Bool) (i : Nat) : (d.flag f b i).cspi = d.cspi := rfl
@[simp] theorem Dev.flag_ream (f : Fld) (b : Bool) (i : Nat) : (d.flag f b i).ream = d.ream := rfl
@[simp] theorem Dev.flag_nvm (f : Fld) (b : Bool) (i : Nat) : (d.flag f b i).nvm = d.nvm := rfl
@[simp] theorem Dev.flag_rain (f : Fld) (b : Bool) (i : Nat) : (d.flag f b i).rain = d.rain := rfl
@[simp] theorem Dev.flag_net (f : Fld) (b : Bool) (i : Nat) : (d.flag f b i).net = d.net := rfl
@[simp] theorem Dev.flag_mirrorIn (f : Fld) (b : Bool) (i : Nat) : (d.flag f b i).mirrorIn = d.mirrorIn := rfl
@[simp] theorem Dev.flag_forwards (f : Fld) (b : Bool) (i : Nat) : (d.flag f b i).forwards = d.forwards := rfl
@[simp] theorem Dev.flag_ret (f : Fld) (b : Bool) (i : Nat) : (d.flag f b i).ret = d.ret := rfl
@[simp] theorem Dev.flag_active (f : Fld) (b : Bool) (i : Nat) : (d.flag f b i).active = d.active := rfl
@[simp] theorem Dev.flag_lvEdges (f : Fld) (b : Bool) (i : Nat) : (d.flag f b i).lvEdges = d.lvEdges := rfl
@[simp] theorem Dev.flag_lvNext (f : Fld) (b : Bool) (i : Nat) : (d.flag f b i).lvNext = d.lvNext := rfl
@[simp] theorem Dev.flag_lvRetry (f : Fld) (b : Bool) (i : Nat) : (d.flag f b i).lvRetry = d.lvRetry := rfl
@[simp] theorem Dev.flag_mgt (f : Fld) (b : Bool) (i : Nat) : (d.flag f b i).mgt = d.mgt := rfl
@[simp] theorem Dev.flag_outbox (f : Fld) (b : Bool) (i : Nat) : (d.flag f b i).outbox = d.outbox := rfl
@[simp] theorem Dev.flag_draws (f : Fld) (b : Bool) (i : Nat) : (d.flag f b i).draws = d.draws := rfl

/-! `Dev.bump`. -/
@[simp] theorem Dev.bump_answer (f : Fld) (i n : Nat) : (d.bump f i n).answer = d.answer := rfl
@[simp] theorem Dev.bump_visible (f : Fld) (i n : Nat) : (d.bump f i n).visible = d.visible := rfl
@[simp] theorem Dev.bump_hidden (f : Fld) (i n : Nat) : (d.bump f i n).hidden = d.hidden := rfl
@[simp] theorem Dev.bump_implicit (f : Fld) (i n : Nat) : (d.bump f i n).implicit = d.implicit := rfl
@[simp] theorem Dev.bump_cspi (f : Fld) (i n : Nat) : (d.bump f i n).cspi = d.cspi := rfl
@[simp] theorem Dev.bump_ream (f : Fld) (i n : Nat) : (d.bump f i n).ream = d.ream := rfl
@[simp] theorem Dev.bump_nvm (f : Fld) (i n : Nat) : (d.bump f i n).nvm = d.nvm := rfl
@[simp] theorem Dev.bump_rain (f : Fld) (i n : Nat) : (d.bump f i n).rain = d.rain := rfl
@[simp] theorem Dev.bump_net (f : Fld) (i n : Nat) : (d.bump f i n).net = d.net := rfl
@[simp] theorem Dev.bump_mirrorIn (f : Fld) (i n : Nat) : (d.bump f i n).mirrorIn = d.mirrorIn := rfl
@[simp] theorem Dev.bump_forwards (f : Fld) (i n : Nat) : (d.bump f i n).forwards = d.forwards := rfl
@[simp] theorem Dev.bump_ret (f : Fld) (i n : Nat) : (d.bump f i n).ret = d.ret := rfl
@[simp] theorem Dev.bump_active (f : Fld) (i n : Nat) : (d.bump f i n).active = d.active := rfl
@[simp] theorem Dev.bump_lvEdges (f : Fld) (i n : Nat) : (d.bump f i n).lvEdges = d.lvEdges := rfl
@[simp] theorem Dev.bump_lvNext (f : Fld) (i n : Nat) : (d.bump f i n).lvNext = d.lvNext := rfl
@[simp] theorem Dev.bump_lvRetry (f : Fld) (i n : Nat) : (d.bump f i n).lvRetry = d.lvRetry := rfl
@[simp] theorem Dev.bump_mgt (f : Fld) (i n : Nat) : (d.bump f i n).mgt = d.mgt := rfl
@[simp] theorem Dev.bump_outbox (f : Fld) (i n : Nat) : (d.bump f i n).outbox = d.outbox := rfl
@[simp] theorem Dev.bump_draws (f : Fld) (i n : Nat) : (d.bump f i n).draws = d.draws := rfl

/-! `Dev.wrap`. -/
@[simp] theorem Dev.wrap_answer (f : Fld) (i n : Nat) : (d.wrap f i n).answer = d.answer := rfl
@[simp] theorem Dev.wrap_visible (f : Fld) (i n : Nat) : (d.wrap f i n).visible = d.visible := rfl
@[simp] theorem Dev.wrap_hidden (f : Fld) (i n : Nat) : (d.wrap f i n).hidden = d.hidden := rfl
@[simp] theorem Dev.wrap_implicit (f : Fld) (i n : Nat) : (d.wrap f i n).implicit = d.implicit := rfl
@[simp] theorem Dev.wrap_cspi (f : Fld) (i n : Nat) : (d.wrap f i n).cspi = d.cspi := rfl
@[simp] theorem Dev.wrap_ream (f : Fld) (i n : Nat) : (d.wrap f i n).ream = d.ream := rfl
@[simp] theorem Dev.wrap_nvm (f : Fld) (i n : Nat) : (d.wrap f i n).nvm = d.nvm := rfl
@[simp] theorem Dev.wrap_rain (f : Fld) (i n : Nat) : (d.wrap f i n).rain = d.rain := rfl
@[simp] theorem Dev.wrap_net (f : Fld) (i n : Nat) : (d.wrap f i n).net = d.net := rfl
@[simp] theorem Dev.wrap_mirrorIn (f : Fld) (i n : Nat) : (d.wrap f i n).mirrorIn = d.mirrorIn := rfl
@[simp] theorem Dev.wrap_forwards (f : Fld) (i n : Nat) : (d.wrap f i n).forwards = d.forwards := rfl
@[simp] theorem Dev.wrap_ret (f : Fld) (i n : Nat) : (d.wrap f i n).ret = d.ret := rfl
@[simp] theorem Dev.wrap_active (f : Fld) (i n : Nat) : (d.wrap f i n).active = d.active := rfl
@[simp] theorem Dev.wrap_lvEdges (f : Fld) (i n : Nat) : (d.wrap f i n).lvEdges = d.lvEdges := rfl
@[simp] theorem Dev.wrap_lvNext (f : Fld) (i n : Nat) : (d.wrap f i n).lvNext = d.lvNext := rfl
@[simp] theorem Dev.wrap_lvRetry (f : Fld) (i n : Nat) : (d.wrap f i n).lvRetry = d.lvRetry := rfl
@[simp] theorem Dev.wrap_mgt (f : Fld) (i n : Nat) : (d.wrap f i n).mgt = d.mgt := rfl
@[simp] theorem Dev.wrap_outbox (f : Fld) (i n : Nat) : (d.wrap f i n).outbox = d.outbox := rfl
@[simp] theorem Dev.wrap_draws (f : Fld) (i n : Nat) : (d.wrap f i n).draws = d.draws := rfl

/-! `Dev.setBitOf`. -/
@[simp] theorem Dev.setBitOf_answer (f : Fld) (k : Nat) (b : Bool) (i : Nat) : (d.setBitOf f k b i).answer = d.answer := rfl
@[simp] theorem Dev.setBitOf_visible (f : Fld) (k : Nat) (b : Bool) (i : Nat) : (d.setBitOf f k b i).visible = d.visible := rfl
@[simp] theorem Dev.setBitOf_hidden (f : Fld) (k : Nat) (b : Bool) (i : Nat) : (d.setBitOf f k b i).hidden = d.hidden := rfl
@[simp] theorem Dev.setBitOf_implicit (f : Fld) (k : Nat) (b : Bool) (i : Nat) : (d.setBitOf f k b i).implicit = d.implicit := rfl
@[simp] theorem Dev.setBitOf_cspi (f : Fld) (k : Nat) (b : Bool) (i : Nat) : (d.setBitOf f k b i).cspi = d.cspi := rfl
@[simp] theorem Dev.setBitOf_ream (f : Fld) (k : Nat) (b : Bool) (i : Nat) : (d.setBitOf f k b i).ream = d.ream := rfl
@[simp] theorem Dev.setBitOf_nvm (f : Fld) (k : Nat) (b : Bool) (i : Nat) : (d.setBitOf f k b i).nvm = d.nvm := rfl
@[simp] theorem Dev.setBitOf_rain (f : Fld) (k : Nat) (b : Bool) (i : Nat) : (d.setBitOf f k b i).rain = d.rain := rfl
@[simp] theorem Dev.setBitOf_net (f : Fld) (k : Nat) (b : Bool) (i : Nat) : (d.setBitOf f k b i).net = d.net := rfl
@[simp] theorem Dev.setBitOf_mirrorIn (f : Fld) (k : Nat) (b : Bool) (i : Nat) : (d.setBitOf f k b i).mirrorIn = d.mirrorIn := rfl
@[simp] theorem Dev.setBitOf_forwards (f : Fld) (k : Nat) (b : Bool) (i : Nat) : (d.setBitOf f k b i).forwards = d.forwards := rfl
@[simp] theorem Dev.setBitOf_ret (f : Fld) (k : Nat) (b : Bool) (i : Nat) : (d.setBitOf f k b i).ret = d.ret := rfl
@[simp] theorem Dev.setBitOf_active (f : Fld) (k : Nat) (b : Bool) (i : Nat) : (d.setBitOf f k b i).active = d.active := rfl
@[simp] theorem Dev.setBitOf_lvEdges (f : Fld) (k : Nat) (b : Bool) (i : Nat) : (d.setBitOf f k b i).lvEdges = d.lvEdges := rfl
@[simp] theorem Dev.setBitOf_lvNext (f : Fld) (k : Nat) (b : Bool) (i : Nat) : (d.setBitOf f k b i).lvNext = d.lvNext := rfl
@[simp] theorem Dev.setBitOf_lvRetry (f : Fld) (k : Nat) (b : Bool) (i : Nat) : (d.setBitOf f k b i).lvRetry = d.lvRetry := rfl
@[simp] theorem Dev.setBitOf_mgt (f : Fld) (k : Nat) (b : Bool) (i : Nat) : (d.setBitOf f k b i).mgt = d.mgt := rfl
@[simp] theorem Dev.setBitOf_outbox (f : Fld) (k : Nat) (b : Bool) (i : Nat) : (d.setBitOf f k b i).outbox = d.outbox := rfl
@[simp] theorem Dev.setBitOf_draws (f : Fld) (k : Nat) (b : Bool) (i : Nat) : (d.setBitOf f k b i).draws = d.draws := rfl

/-! `Dev.send`. -/
@[simp] theorem Dev.send_regs (o : Out) : (d.send o).regs = d.regs := rfl
@[simp] theorem Dev.send_answer (o : Out) : (d.send o).answer = d.answer := rfl
@[simp] theorem Dev.send_visible (o : Out) : (d.send o).visible = d.visible := rfl
@[simp] theorem Dev.send_hidden (o : Out) : (d.send o).hidden = d.hidden := rfl
@[simp] theorem Dev.send_implicit (o : Out) : (d.send o).implicit = d.implicit := rfl
@[simp] theorem Dev.send_cspi (o : Out) : (d.send o).cspi = d.cspi := rfl
@[simp] theorem Dev.send_ream (o : Out) : (d.send o).ream = d.ream := rfl
@[simp] theorem Dev.send_nvm (o : Out) : (d.send o).nvm = d.nvm := rfl
@[simp] theorem Dev.send_rain (o : Out) : (d.send o).rain = d.rain := rfl
@[simp] theorem Dev.send_net (o : Out) : (d.send o).net = d.net := rfl
@[simp] theorem Dev.send_mirrorIn (o : Out) : (d.send o).mirrorIn = d.mirrorIn := rfl
@[simp] theorem Dev.send_forwards (o : Out) : (d.send o).forwards = d.forwards := rfl
@[simp] theorem Dev.send_ret (o : Out) : (d.send o).ret = d.ret := rfl
@[simp] theorem Dev.send_active (o : Out) : (d.send o).active = d.active := rfl
@[simp] theorem Dev.send_lvEdges (o : Out) : (d.send o).lvEdges = d.lvEdges := rfl
@[simp] theorem Dev.send_lvNext (o : Out) : (d.send o).lvNext = d.lvNext := rfl
@[simp] theorem Dev.send_lvRetry (o : Out) : (d.send o).lvRetry = d.lvRetry := rfl
@[simp] theorem Dev.send_mgt (o : Out) : (d.send o).mgt = d.mgt := rfl
@[simp] theorem Dev.send_outbox (o : Out) : (d.send o).outbox = d.outbox ++ [o] := rfl
@[simp] theorem Dev.send_draws (o : Out) : (d.send o).draws = d.draws := rfl
@[simp] theorem Dev.send_get (o : Out) (g : Fld) (k : Nat) : (d.send o).get g k = d.get g k := rfl

/-! `Dev.respond`. -/
@[simp] theorem Dev.respond_regs (src : Source) (x : List Nat) (a : Bool) : (d.respond src x a).regs = d.regs := rfl
@[simp] theorem Dev.respond_answer (src : Source) (x : List Nat) (a : Bool) : (d.respond src x a).answer = ⟨src, a, x⟩ := rfl
@[simp] theorem Dev.respond_visible (src : Source) (x : List Nat) (a : Bool) : (d.respond src x a).visible = d.visible := rfl
@[simp] theorem Dev.respond_hidden (src : Source) (x : List Nat) (a : Bool) : (d.respond src x a).hidden = d.hidden := rfl
@[simp] theorem Dev.respond_implicit (src : Source) (x : List Nat) (a : Bool) : (d.respond src x a).implicit = d.implicit := rfl
@[simp] theorem Dev.respond_cspi (src : Source) (x : List Nat) (a : Bool) : (d.respond src x a).cspi = d.cspi := rfl
@[simp] theorem Dev.respond_ream (src : Source) (x : List Nat) (a : Bool) : (d.respond src x a).ream = d.ream := rfl
@[simp] theorem Dev.respond_nvm (src : Source) (x : List Nat) (a : Bool) : (d.respond src x a).nvm = d.nvm := rfl
@[simp] theorem Dev.respond_rain (src : Source) (x : List Nat) (a : Bool) : (d.respond src x a).rain = d.rain := rfl
@[simp] theorem Dev.respond_net (src : Source) (x : List Nat) (a : Bool) : (d.respond src x a).net = d.net := rfl
@[simp] theorem Dev.respond_mirrorIn (src : Source) (x : List Nat) (a : Bool) : (d.respond src x a).mirrorIn = d.mirrorIn := rfl
@[simp] theorem Dev.respond_forwards (src : Source) (x : List Nat) (a : Bool) : (d.respond src x a).forwards = d.forwards := rfl
@[simp] theorem Dev.respond_ret (src : Source) (x : List Nat) (a : Bool) : (d.respond src x a).ret = d.ret := rfl
@[simp] theorem Dev.respond_active (src : Source) (x : List Nat) (a : Bool) : (d.respond src x a).active = d.active := rfl
@[simp] theorem Dev.respond_lvEdges (src : Source) (x : List Nat) (a : Bool) : (d.respond src x a).lvEdges = d.lvEdges := rfl
@[simp] theorem Dev.respond_lvNext (src : Source) (x : List Nat) (a : Bool) : (d.respond src x a).lvNext = d.lvNext := rfl
@[simp] theorem Dev.respond_lvRetry (src : Source) (x : List Nat) (a : Bool) : (d.respond src x a).lvRetry = d.lvRetry := rfl
@[simp] theorem Dev.respond_mgt (src : Source) (x : List Nat) (a : Bool) : (d.respond src x a).mgt = d.mgt := rfl
@[simp] theorem Dev.respond_outbox (src : Source) (x : List Nat) (a : Bool) : (d.respond src x a).outbox = d.outbox := rfl
@[simp] theorem Dev.respond_draws (src : Source) (x : List Nat) (a : Bool) : (d.respond src x a).draws = d.draws := rfl
@[simp] theorem Dev.respond_get (src : Source) (x : List Nat) (a : Bool) (g : Fld) (k : Nat) : (d.respond src x a).get g k = d.get g k := rfl

/-! `Dev.draw`. -/
@[simp] theorem Dev.draw_regs : (d.draw).regs = d.regs := rfl
@[simp] theorem Dev.draw_answer : (d.draw).answer = d.answer := rfl
@[simp] theorem Dev.draw_visible : (d.draw).visible = d.visible := rfl
@[simp] theorem Dev.draw_hidden : (d.draw).hidden = d.hidden := rfl
@[simp] theorem Dev.draw_implicit : (d.draw).implicit = d.implicit := rfl
@[simp] theorem Dev.draw_cspi : (d.draw).cspi = d.cspi := rfl
@[simp] theorem Dev.draw_ream : (d.draw).ream = d.ream := rfl
@[simp] theorem Dev.draw_nvm : (d.draw).nvm = d.nvm := rfl
@[simp] theorem Dev.draw_rain : (d.draw).rain = d.rain := rfl
@[simp] theorem Dev.draw_net : (d.draw).net = d.net := rfl
@[simp] theorem Dev.draw_mirrorIn : (d.draw).mirrorIn = d.mirrorIn := rfl
@[simp] theorem Dev.draw_forwards : (d.draw).forwards = d.forwards := rfl
@[simp] theorem Dev.draw_ret : (d.draw).ret = d.ret := rfl
@[simp] theorem Dev.draw_active : (d.draw).active = d.active := rfl
@[simp] theorem Dev.draw_lvEdges : (d.draw).lvEdges = d.lvEdges := rfl
@[simp] theorem Dev.draw_lvNext : (d.draw).lvNext = d.lvNext := rfl
@[simp] theorem Dev.draw_lvRetry : (d.draw).lvRetry = d.lvRetry := rfl
@[simp] theorem Dev.draw_mgt : (d.draw).mgt = d.mgt := rfl
@[simp] theorem Dev.draw_outbox : (d.draw).outbox = d.outbox := rfl
@[simp] theorem Dev.draw_draws : (d.draw).draws = d.draws + 1 := rfl
@[simp] theorem Dev.draw_get (g : Fld) (k : Nat) : (d.draw).get g k = d.get g k := rfl

/-! `Dev.retain`. -/
@[simp] theorem Dev.retain_regs (r : Retention) : (d.retain r).regs = d.regs := rfl
@[simp] theorem Dev.retain_answer (r : Retention) : (d.retain r).answer = d.answer := rfl
@[simp] theorem Dev.retain_visible (r : Retention) : (d.retain r).visible = d.visible := rfl
@[simp] theorem Dev.retain_hidden (r : Retention) : (d.retain r).hidden = d.hidden := rfl
@[simp] theorem Dev.retain_implicit (r : Retention) : (d.retain r).implicit = d.implicit := rfl
@[simp] theorem Dev.retain_cspi (r : Retention) : (d.retain r).cspi = d.cspi := rfl
@[simp] theorem Dev.retain_ream (r : Retention) : (d.retain r).ream = d.ream := rfl
@[simp] theorem Dev.retain_nvm (r : Retention) : (d.retain r).nvm = d.nvm := rfl
@[simp] theorem Dev.retain_rain (r : Retention) : (d.retain r).rain = d.rain := rfl
@[simp] theorem Dev.retain_net (r : Retention) : (d.retain r).net = d.net := rfl
@[simp] theorem Dev.retain_mirrorIn (r : Retention) : (d.retain r).mirrorIn = d.mirrorIn := rfl
@[simp] theorem Dev.retain_forwards (r : Retention) : (d.retain r).forwards = d.forwards := rfl
@[simp] theorem Dev.retain_ret (r : Retention) : (d.retain r).ret = { r with crc := crc32 r.bytes } := rfl
@[simp] theorem Dev.retain_active (r : Retention) : (d.retain r).active = d.active := rfl
@[simp] theorem Dev.retain_lvEdges (r : Retention) : (d.retain r).lvEdges = d.lvEdges := rfl
@[simp] theorem Dev.retain_lvNext (r : Retention) : (d.retain r).lvNext = d.lvNext := rfl
@[simp] theorem Dev.retain_lvRetry (r : Retention) : (d.retain r).lvRetry = d.lvRetry := rfl
@[simp] theorem Dev.retain_mgt (r : Retention) : (d.retain r).mgt = d.mgt := rfl
@[simp] theorem Dev.retain_outbox (r : Retention) : (d.retain r).outbox = d.outbox := rfl
@[simp] theorem Dev.retain_draws (r : Retention) : (d.retain r).draws = d.draws := rfl
@[simp] theorem Dev.retain_get (r : Retention) (g : Fld) (k : Nat) : (d.retain r).get g k = d.get g k := rfl

/-! `Dev.setActive`. -/
@[simp] theorem Dev.setActive_regs (l : List Active) : (d.setActive l).regs = d.regs := rfl
@[simp] theorem Dev.setActive_answer (l : List Active) : (d.setActive l).answer = d.answer := rfl
@[simp] theorem Dev.setActive_visible (l : List Active) : (d.setActive l).visible = d.visible := rfl
@[simp] theorem Dev.setActive_hidden (l : List Active) : (d.setActive l).hidden = d.hidden := rfl
@[simp] theorem Dev.setActive_implicit (l : List Active) : (d.setActive l).implicit = d.implicit := rfl
@[simp] theorem Dev.setActive_cspi (l : List Active) : (d.setActive l).cspi = d.cspi := rfl
@[simp] theorem Dev.setActive_ream (l : List Active) : (d.setActive l).ream = d.ream := rfl
@[simp] theorem Dev.setActive_nvm (l : List Active) : (d.setActive l).nvm = d.nvm := rfl
@[simp] theorem Dev.setActive_rain (l : List Active) : (d.setActive l).rain = d.rain := rfl
@[simp] theorem Dev.setActive_net (l : List Active) : (d.setActive l).net = d.net := rfl
@[simp] theorem Dev.setActive_mirrorIn (l : List Active) : (d.setActive l).mirrorIn = d.mirrorIn := rfl
@[simp] theorem Dev.setActive_forwards (l : List Active) : (d.setActive l).forwards = d.forwards := rfl
@[simp] theorem Dev.setActive_ret (l : List Active) : (d.setActive l).ret = d.ret := rfl
@[simp] theorem Dev.setActive_active (l : List Active) : (d.setActive l).active = l := rfl
@[simp] theorem Dev.setActive_lvEdges (l : List Active) : (d.setActive l).lvEdges = d.lvEdges := rfl
@[simp] theorem Dev.setActive_lvNext (l : List Active) : (d.setActive l).lvNext = d.lvNext := rfl
@[simp] theorem Dev.setActive_lvRetry (l : List Active) : (d.setActive l).lvRetry = d.lvRetry := rfl
@[simp] theorem Dev.setActive_mgt (l : List Active) : (d.setActive l).mgt = d.mgt := rfl
@[simp] theorem Dev.setActive_outbox (l : List Active) : (d.setActive l).outbox = d.outbox := rfl
@[simp] theorem Dev.setActive_draws (l : List Active) : (d.setActive l).draws = d.draws := rfl
@[simp] theorem Dev.setActive_get (l : List Active) (g : Fld) (k : Nat) : (d.setActive l).get g k = d.get g k := rfl

/-! `Dev.setNet`. -/
@[simp] theorem Dev.setNet_regs (n : Net) : (d.setNet n).regs = d.regs := rfl
@[simp] theorem Dev.setNet_answer (n : Net) : (d.setNet n).answer = d.answer := rfl
@[simp] theorem Dev.setNet_visible (n : Net) : (d.setNet n).visible = d.visible := rfl
@[simp] theorem Dev.setNet_hidden (n : Net) : (d.setNet n).hidden = d.hidden := rfl
@[simp] theorem Dev.setNet_implicit (n : Net) : (d.setNet n).implicit = d.implicit := rfl
@[simp] theorem Dev.setNet_cspi (n : Net) : (d.setNet n).cspi = d.cspi := rfl
@[simp] theorem Dev.setNet_ream (n : Net) : (d.setNet n).ream = d.ream := rfl
@[simp] theorem Dev.setNet_nvm (n : Net) : (d.setNet n).nvm = d.nvm := rfl
@[simp] theorem Dev.setNet_rain (n : Net) : (d.setNet n).rain = d.rain := rfl
@[simp] theorem Dev.setNet_net (n : Net) : (d.setNet n).net = n := rfl
@[simp] theorem Dev.setNet_mirrorIn (n : Net) : (d.setNet n).mirrorIn = d.mirrorIn := rfl
@[simp] theorem Dev.setNet_forwards (n : Net) : (d.setNet n).forwards = d.forwards := rfl
@[simp] theorem Dev.setNet_ret (n : Net) : (d.setNet n).ret = d.ret := rfl
@[simp] theorem Dev.setNet_active (n : Net) : (d.setNet n).active = d.active := rfl
@[simp] theorem Dev.setNet_lvEdges (n : Net) : (d.setNet n).lvEdges = d.lvEdges := rfl
@[simp] theorem Dev.setNet_lvNext (n : Net) : (d.setNet n).lvNext = d.lvNext := rfl
@[simp] theorem Dev.setNet_lvRetry (n : Net) : (d.setNet n).lvRetry = d.lvRetry := rfl
@[simp] theorem Dev.setNet_mgt (n : Net) : (d.setNet n).mgt = d.mgt := rfl
@[simp] theorem Dev.setNet_outbox (n : Net) : (d.setNet n).outbox = d.outbox := rfl
@[simp] theorem Dev.setNet_draws (n : Net) : (d.setNet n).draws = d.draws := rfl
@[simp] theorem Dev.setNet_get (n : Net) (g : Fld) (k : Nat) : (d.setNet n).get g k = d.get g k := rfl

/-! `Dev.setNvm`. -/
@[simp] theorem Dev.setNvm_regs (n : Nvm) : (d.setNvm n).regs = d.regs := rfl
@[simp] theorem Dev.setNvm_answer (n : Nvm) : (d.setNvm n).answer = d.answer := rfl
@[simp] theorem Dev.setNvm_visible (n : Nvm) : (d.setNvm n).visible = d.visible := rfl
@[simp] theorem Dev.setNvm_hidden (n : Nvm) : (d.setNvm n).hidden = d.hidden := rfl
@[simp] theorem Dev.setNvm_implicit (n : Nvm) : (d.setNvm n).implicit = d.implicit := rfl
@[simp] theorem Dev.setNvm_cspi (n : Nvm) : (d.setNvm n).cspi = d.cspi := rfl
@[simp] theorem Dev.setNvm_ream (n : Nvm) : (d.setNvm n).ream = d.ream := rfl
@[simp] theorem Dev.setNvm_nvm (n : Nvm) : (d.setNvm n).nvm = n := rfl
@[simp] theorem Dev.setNvm_rain (n : Nvm) : (d.setNvm n).rain = d.rain := rfl
@[simp] theorem Dev.setNvm_net (n : Nvm) : (d.setNvm n).net = d.net := rfl
@[simp] theorem Dev.setNvm_mirrorIn (n : Nvm) : (d.setNvm n).mirrorIn = d.mirrorIn := rfl
@[simp] theorem Dev.setNvm_forwards (n : Nvm) : (d.setNvm n).forwards = d.forwards := rfl
@[simp] theorem Dev.setNvm_ret (n : Nvm) : (d.setNvm n).ret = d.ret := rfl
@[simp] theorem Dev.setNvm_active (n : Nvm) : (d.setNvm n).active = d.active := rfl
@[simp] theorem Dev.setNvm_lvEdges (n : Nvm) : (d.setNvm n).lvEdges = d.lvEdges := rfl
@[simp] theorem Dev.setNvm_lvNext (n : Nvm) : (d.setNvm n).lvNext = d.lvNext := rfl
@[simp] theorem Dev.setNvm_lvRetry (n : Nvm) : (d.setNvm n).lvRetry = d.lvRetry := rfl
@[simp] theorem Dev.setNvm_mgt (n : Nvm) : (d.setNvm n).mgt = d.mgt := rfl
@[simp] theorem Dev.setNvm_outbox (n : Nvm) : (d.setNvm n).outbox = d.outbox := rfl
@[simp] theorem Dev.setNvm_draws (n : Nvm) : (d.setNvm n).draws = d.draws := rfl
@[simp] theorem Dev.setNvm_get (n : Nvm) (g : Fld) (k : Nat) : (d.setNvm n).get g k = d.get g k := rfl

/-! `Dev.setRain`. -/
@[simp] theorem Dev.setRain_regs (r : Rain) : (d.setRain r).regs = d.regs := rfl
@[simp] theorem Dev.setRain_answer (r : Rain) : (d.setRain r).answer = d.answer := rfl
@[simp] theorem Dev.setRain_visible (r : Rain) : (d.setRain r).visible = d.visible := rfl
@[simp] theorem Dev.setRain_hidden (r : Rain) : (d.setRain r).hidden = d.hidden := rfl
@[simp] theorem Dev.setRain_implicit (r : Rain) : (d.setRain r).implicit = d.implicit := rfl
@[simp] theorem Dev.setRain_cspi (r : Rain) : (d.setRain r).cspi = d.cspi := rfl
@[simp] theorem Dev.setRain_ream (r : Rain) : (d.setRain r).ream = d.ream := rfl
@[simp] theorem Dev.setRain_nvm (r : Rain) : (d.setRain r).nvm = d.nvm := rfl
@[simp] theorem Dev.setRain_rain (r : Rain) : (d.setRain r).rain = r :: d.rain.filter (fun q => q.slot != r.slot) := rfl
@[simp] theorem Dev.setRain_net (r : Rain) : (d.setRain r).net = d.net := rfl
@[simp] theorem Dev.setRain_mirrorIn (r : Rain) : (d.setRain r).mirrorIn = d.mirrorIn := rfl
@[simp] theorem Dev.setRain_forwards (r : Rain) : (d.setRain r).forwards = d.forwards := rfl
@[simp] theorem Dev.setRain_ret (r : Rain) : (d.setRain r).ret = d.ret := rfl
@[simp] theorem Dev.setRain_active (r : Rain) : (d.setRain r).active = d.active := rfl
@[simp] theorem Dev.setRain_lvEdges (r : Rain) : (d.setRain r).lvEdges = d.lvEdges := rfl
@[simp] theorem Dev.setRain_lvNext (r : Rain) : (d.setRain r).lvNext = d.lvNext := rfl
@[simp] theorem Dev.setRain_lvRetry (r : Rain) : (d.setRain r).lvRetry = d.lvRetry := rfl
@[simp] theorem Dev.setRain_mgt (r : Rain) : (d.setRain r).mgt = d.mgt := rfl
@[simp] theorem Dev.setRain_outbox (r : Rain) : (d.setRain r).outbox = d.outbox := rfl
@[simp] theorem Dev.setRain_draws (r : Rain) : (d.setRain r).draws = d.draws := rfl
@[simp] theorem Dev.setRain_get (r : Rain) (g : Fld) (k : Nat) : (d.setRain r).get g k = d.get g k := rfl

/-! The outcome of a command that acts on the module alone. -/
@[simp] theorem State.onDev_next (g : Dev → Dev) : s.onDev g = .next { s with dev := g s.dev } := rfl

end Sys2Proof.Machine
end

