-- ==== Sys2Proof/WellFormed.lean ====
section
/-! DEFINITION. Which commands something outside the module can send: bounds that the operand types do not carry. -/
namespace Sys2Proof

/-- Every number of a list fits in n bits. -/
def allBelow (n : Nat) (l : List Nat) : Bool := l.all (fun x => x < 2 ^ n)

/-- Staged items: at most 4096, 32-bit addresses and values (R58). -/
def itemsOk (l : List (Nat × Nat)) : Bool := l.length ≤ 4096 && l.all (fun p => p.1 < 2 ^ 32 && p.2 < 2 ^ 32)

/-- Every staged parameter, each once: the words that the register map stages number 7,322 (R410). -/
def transferOk (l : List (Nat × Nat)) : Bool := l.length ≤ 7322 && l.all (fun p => p.1 < 2 ^ 32 && p.2 < 2 ^ 32)

/-- A time on a wire: PTP seconds of 48 bits and their ns (R455). -/
def ptpOk (ns : Nat) : Bool := ns < 2 ^ 48 * 1000000000

/-- A command that the host, a pin, a wire or the passing of time can bring. -/
def Instr.wellFormed : Instr → Bool
  | .bar2Read _ off len => off < 2 ^ 18 && len ≤ 4096                     -- a PCI Express read request
  | .cspiWrite4wire _ words => words.length ≤ 256                         -- R69
  | .cspiWriteQuad _ words => words.length ≤ 256
  | .vinOn _ kaCycles => kaCycles < 2 ^ 48                                -- R143
  | .swapOrderRx digest _ _ => digest < 2 ^ 384                           -- R129
  | .mirrorFrameRx _ _ items _ => items.length ≤ 1024                  -- R413, R421
  | .mirrorTransferRx items record => transferOk items && record.length ≤ 9360 && allBelow 64 record  -- R410, R437
  | .forwardedSetRx _ items => itemsOk items                              -- R66
  | .syncRx _ m => ptpOk m.t1
  | .pdelayRespRx _ m => ptpOk m.stamp
  | .svRx m => m.chans.length ≤ 400                                       -- R485
  | .gooseRx m => m.members.length ≤ 1500                                 -- R486
  | _ => true

end Sys2Proof
end

