-- ==== Sys2Proof/Tests/Slice0.lean ====
section
/-! SUPPORT. Tests: for every statement with hypotheses a state and operands that meet them, ill-formed commands that `WellFormed`
refuses, and single steps whose results the spec gives. -/
open Sys2Proof Sys2Proof.Machine
namespace Sys2Proof.Tests
set_option Elab.async false

/-! Small states, and the conditions of the statements as truth values. -/

/-- A module with some registers set. -/
def withRegs (d : Dev) (l : List (Fld × Nat × Nat)) : Dev := l.foldl (fun d p => d.put p.1 p.2.2 p.2.1) d

/-- A module in a mode after BOOT, at one second, with its clocks locked, the Deckle running and the endpoint ready; then some registers
set: field, element, value. -/
def up (mode : Nat) (l : List (Fld × Nat × Nat)) : State :=
  { State.reset with
    clk := ⟨1000000000, 0, 0, 0⟩
    dev := withRegs Dev.reset ([(R.MODE.STATE, 0, mode), (I.MODE.BOOT_STEP, 0, 0), (I.HIF.READY, 0, 1), (R.TB.PLL_T_LOCK, 0, 1),
      (R.TB.PLL_N_LOCK, 0, 1), (R.TB.PLL_S_LOCK, 0, 1), (R.TB.ROOT_OK, 0, 1), (R.TB.DECKLE_RUN, 0, 1), (I.THERM.JRN_DONE, 0, 1)] ++ l) }

/-- The same module with its records changed. -/
def also (s : State) (g : Dev → Dev) : State := { s with dev := g s.dev }

/-- An image with these sheets. -/
def image (sheets : List Sheet) : Image := ⟨0, 0, 0, 0, 0, 0, 0, 0, 0, 0, 0, sheets⟩

/-- A module running an image. -/
def runs (sheets : List Sheet) (s : State) : State := also s fun d => { d with ream := { d.ream with active := some (image sheets) } }

/-- A write is accepted, as a truth value. -/
def accepts (s : State) (src : Source) (a v : Nat) (be : Nat := 15) : Bool :=
  s.dev.hostUp src && src != .cspi && ((s.dev.counted src).writeErrs s.clk.ns src a be v).isEmpty

theorem accepts_of {s : State} {src : Source} {a v be : Nat} (h : accepts s src a v be = true) : Accepts s src a v be := by
  simp only [accepts, Bool.and_eq_true, bne_iff_ne, ne_eq, List.isEmpty_iff] at h
  exact ⟨h.1.1, fun e => absurd e h.1.2, h.2⟩

/-- Each write of a list is accepted in its state. -/
def AllAccepted (l : List (State × Source × Nat × Nat)) : Prop := ∀ p ∈ l, Accepts p.1 p.2.1 p.2.2.1 p.2.2.2

theorem accepted_of {l : List (State × Source × Nat × Nat)} (h : l.all (fun p => accepts p.1 p.2.1 p.2.2.1 p.2.2.2) = true) : AllAccepted l :=
  fun p hp => accepts_of (List.all_eq_true.mp h p hp)

/-! For every statement with hypotheses, states and operands that meet them. -/

/-- A module with a checked image in slot A, VERIFIED. -/
def verified (mode : Nat) (l : List (Fld × Nat × Nat)) : State :=
  also (up mode ([(R.REAM.SLOT_STATE, 0, 3), (R.REAM.SLOT_LENGTH, 0, 4096)] ++ l)) fun d =>
    { d with ream := { d.ream with checkedA := some (image []), active := some (image []) } }

/-- A module with an open staged set. -/
def open_ : State := up 2 [(R.STAGE.STAGE_STAT_STATE, 0, 1)]

theorem witness_stagingWrites :
    AllAccepted [(up 2 [], .pf0, winAddr wStage 0, 0), (open_, .pf0, winAddr wStage (0x1000 + 8 * 4095), 0x60000),
      (open_, .pf0, winAddr wStage (0x1004 + 8 * 0), 7), (open_, .pf0, winAddr wStage 4, 65536), (open_, .pf0, winAddr wStage 4, 0),
      (open_, .pf0, winAddr wStage 0xC, 0)] ∧
    (open_.dev.counted .pf0).commitErrs open_.clk.ns 65536 = [] ∧
    (firstFail ((open_.dev.counted .pf0).commitErrs open_.clk.ns 0)).isSome = true :=
  ⟨accepted_of (by decide +kernel), by decide +kernel, by decide +kernel⟩

/-- A ring in DISCOVER, and a used cell on it. -/
def ringed (l : List (Fld × Nat × Nat)) : State :=
  up 2 ([(R.FELT.RING_STATE, 5, 2), (I.FELT.RING_EN, 5, 1), (I.CELL.USED, 143, 1), (R.CELL.LINK_KIND, 143, 1), (R.CELL.LINK, 143, 5),
    (R.CELL.HOP, 143, 2)] ++ l)

theorem witness_ringAndCellWrites :
    AllAccepted [(ringed [], .pf0, winAddr wFelt (0x128 + 0x40 * 5), 1), (ringed [], .pf0, winAddr wFelt (0x128 + 0x40 * 5), 2),
      (ringed [], .pf0, winAddr wCell (0x3C + 0x40 * 143), 65536 * 65535 + 1)] ∧
    (ringed []).dev.get R.FELT.RING_STATE 5 ≠ ringRelay ∧ (ringed []).dev.is I.FELT.RING_EN 5 = true ∧ (ringed []).dev.cellLink 143 = some 5 :=
  ⟨accepted_of (by decide +kernel), by decide +kernel⟩

theorem witness_reamCommandWrites :
    AllAccepted [(up 2 [], .pf0, winAddr wReam 0x40, 17), (up 2 [(R.REAM.SLOT_STATE, 1, 1), (R.REAM.CMD_LEN, 0, 256)], .pf0, winAddr wReam 0x40, 18),
      (verified 2 [], .pf0, winAddr wReam 0x40, 3), (verified 2 [], .pf0, winAddr wReam 0x40, 4)] := accepted_of (by decide +kernel)

/-- A pending swap for frame 5, 2 frames on, or for the next frame with less than 2 µs left. -/
def pending_ (l : List (Fld × Nat × Nat)) : State :=
  verified 2 ([(R.REAM.SWAP_PEND, 0, 1), (R.TB.FRAME_NO_LIVE, 0, 3), (I.REAM.SWAP_TARGET, 0, 5)] ++ l)

theorem witness_swapWrites :
    AllAccepted [(verified 2 [], .pf0, winAddr wReam 0x50, 1), (verified 2 [(R.REAM.SWAP_AT, 0, 10)], .pf0, winAddr wReam 0x50, 5),
      (verified 2 [], .pf0, winAddr wReam 0x50, 16), (pending_ [], .pf0, winAddr wReam 0x50, 16)] ∧
    (verified 2 []).dev.checked 0 = some (image []) ∧
    ((pending_ []).dev.is R.REAM.SWAP_PEND = true ∧ (pending_ []).dev.is I.REAM.SWAP_BOOT = false ∧
      ¬ framesFrom ((pending_ []).dev.get R.TB.FRAME_NO_LIVE) ((pending_ []).dev.get I.REAM.SWAP_TARGET) ≤ 1) ∧
    (let s := pending_ [(I.REAM.SWAP_TARGET, 0, 4), (I.TB.BND_NS, 0, 999950001), (I.TB.LEN, 0, 25000)]
     framesFrom (s.dev.get R.TB.FRAME_NO_LIVE) (s.dev.get I.REAM.SWAP_TARGET) ≤ 1 ∧ s.dev.is R.TB.DECKLE_RUN = true ∧
      s.dev.nextNs < s.clk.ns + 2000) :=
  ⟨accepted_of (by decide +kernel), by decide +kernel, by decide +kernel, by decide +kernel⟩

theorem witness_boundaryRequests :
    AllAccepted [(up 7 [(I.CELL.USED, 143, 1)], .pf0, winAddr wMod (0x1008 + 0x10 * 143), 1),
      (up 7 [(I.CELL.USED, 143, 1), (R.MOD.SLOT_ROLE, 143, roleHeld)], .pf0, winAddr wMod (0x1008 + 0x10 * 143), 2),
      (up 3 [(R.MOD.TEST_PAT, 0, 1)], .pf0, winAddr wMod 0x3C, 1), (up 3 [], .pf0, winAddr wMod 0x3C, 2),
      (up 3 [(R.LVD.HB_CFG, 7, 1)], .pf0, winAddr wLvd (0x110 + 0x20 * 7), 1),
      (up 3 [(R.LVD.HB_CFG, 0, 1), (R.LVD.LVT_PAT, 0, 1), (R.LVD.LVT_MASK, 0, 1)], .pf0, winAddr wLvd 0x48, 1),
      (up 3 [], .pf0, winAddr wLvd 0x48, 2)] := accepted_of (by decide +kernel)

theorem witness_faultCollectorWrites :
    AllAccepted [(up 7 [], .pf0, winAddr wFlt 0xC, 0), (up 7 [], .pf0, winAddr wFlt 0x34, 172), (up 7 [], .pf0, winAddr wFlt 0x34, 255),
      (up 7 [], .pf0, winAddr wFlt 0, 2 ^ 19), (up 7 [], .pf0, winAddr wFlt (0x400 + 0x20 * 15 + 4 * 7), 2 ^ 32 - 1)] ∧
    (up 7 []).dev.get R.FLT.STICKY (8 * 15 + 7) < 2 ^ 32 := ⟨accepted_of (by decide +kernel), by decide +kernel⟩

theorem witness_safetyWrites :
    AllAccepted [(up 7 [(R.FLT.SIGOK_STATE, 0, sigHold)], .pf0, winAddr wFlt 0x10, 3), (up 7 [], .pf0, winAddr wSafe 0x10, 8),
      (up 7 [], .pf0, winAddr wSafe 0xC, 3)] ∧
    (up 7 [(R.FLT.SIGOK_STATE, 0, sigHold)]).dev.get R.FLT.ALIVE = 0 ∧ bitOf 8 3 = 1 ∧
    ∃ b < 2, bitOf 3 b = 1 ∧ bitOf ((up 7 []).dev.get R.SAFE.SF_HOST_DEM) b = 0 :=
  ⟨accepted_of (by decide +kernel), by decide +kernel, by decide +kernel, 1, by decide +kernel⟩

/-- A network sheet whose structure part has these bytes. -/
def netOf (bytes : List (Nat × Nat)) : Sheet := ⟨10, 1, ⟨16384, bytes.foldl (fun a x => a + x.2 * 2 ^ (8 * x.1)) 0⟩, ⟨0, 0⟩, ⟨512, 0⟩⟩

/-- Both NET ports up under PRP, with one subscription of each kind. -/
def netted (mode : Nat) (l : List (Fld × Nat × Nat)) : State :=
  runs [netOf [(0, 4), (6, 1), (7, 1), (0x24, 1)]] (up mode ([(R.NET.LINK, 0, 3), (R.NET.GM_ID_LO, 0, 9)] ++ l))

/-- A primary in RUN whose partner is ready. -/
def primaryIn (l : List (Fld × Nat × Nat)) : State :=
  up 7 ([(R.PART.STRAP, 0, 1), (R.PART.PRIMARY, 0, 1), (I.PART.BEAT_OK, 0, 1), (I.PART.BEAT_READY, 0, 1)] ++ l)
def primary : State := primaryIn []

theorem witness_laterRequests :
    AllAccepted [(up 7 [], .pf0, winAddr wAfe 0x10, 2 ^ 23), (up 2 [], .pf0, winAddr wTherm 0x200C, 1), (up 2 [], .pf0, winAddr wTherm 0x3000, 7),
      (netted 2 [(I.NET.LAN_NS, 0, 999999999), (I.NET.LAN_NS, 1, 999999999)], .pf0, winAddr wNet 0x38, 3), (up 2 [], .pf0, winAddr wNet 0x44, 1),
      (up 4 [(R.PART.STRAP, 0, 1)], .pf0, winAddr wPart 0xC, 4), (primary, .pf0, winAddr wPart 0xC, 2),
      (primaryIn [(R.FLT.REACT_MAX, 0, 5)], .pf0, winAddr wPart 0xC, 2)] ∧
    (up 4 [(R.PART.STRAP, 0, 1)]).dev.partCtl = 0 ∧ primary.dev.partCtl = 0 ∧ primary.dev.get I.PART.HAND = 0 ∧
    primary.dev.yieldFits = true ∧ (primaryIn [(R.FLT.REACT_MAX, 0, 5)]).dev.yieldFits = false :=
  ⟨accepted_of (by decide +kernel), by decide +kernel⟩

/-- A sequencer of one entry, triggered by software. -/
def sequenced (l : List (Fld × Nat × Nat)) : State := runs [] (up 7 ([(R.AFE.SEQ_NENT, 7, 1)] ++ l))

theorem witness_registerWrites :
    AllAccepted [(sequenced [], .pf0, winAddr wAfe 0x18, 2 ^ 7), (sequenced [(R.AFE.SEQ_BUSY, 7, 1), (R.AFE.SEQ_QUEUE1, 7, 1)], .pf0, winAddr wAfe 0x18, 2 ^ 7),
      (up 2 [], .pf0, winAddr wTb 0x10, 0)] ∧
    (sequenced []).dev.afeRuns = true ∧ (sequenced []).dev.get R.AFE.SEQ_NENT 7 ≠ 0 ∧ (sequenced []).dev.is R.AFE.SEQ_BUSY 7 = false ∧
    (let d := (sequenced [(R.AFE.SEQ_BUSY, 7, 1), (R.AFE.SEQ_QUEUE1, 7, 1)]).dev
     d.is R.AFE.SEQ_BUSY 7 = true ∧ d.is R.AFE.SEQ_QUEUE1 7 = true ∧ d.is R.AFE.SEQ_QUEUED 7 = false) ∧
    winOf (winAddr wTb 0x10) = some (wTb, 0x10) := ⟨accepted_of (by decide +kernel), by decide +kernel⟩

theorem witness_rejectedWrite :
    (up 2 []).dev.hostUp .pf1 = true ∧ winAddr wStage 4 ≠ winAddr wReam 0x50 ∧
    firstErr (((up 2 []).dev.counted .pf1).writeErrs (up 2 []).clk.ns .pf1 (winAddr wStage 4) 15 0) = some ⟨10, 1⟩ := by decide +kernel

theorem witness_whenAccepted : (up 2 []).dev.hostUp .pf0 = true ∧ (up 2 []).dev.mode ≠ .boot ∧ (up 2 []).dev.mode ≠ .mirror := by decide +kernel

theorem witness_rejectedRead :
    (up 2 []).dev.hostUp .pf1 = true ∧
    firstErr ((up 2 []).dev.readPriv .pf1 (winAddr wPerf 0) ++ alignErrs (winAddr wPerf 0) 15) = some ⟨8, 1⟩ ∧
    firstErr ((up 2 []).dev.readPriv .pf0 (winAddr wHif 1) ++ alignErrs (winAddr wHif 1) 3) = some ⟨9, 3⟩ ∧
    (firstErr (bar2Errs (2 ^ 18 - 4) 8)).isSome = true := by decide +kernel

theorem witness_readsThatClear :
    (up 2 []).dev.hostUp .pf1 = true ∧ (up 2 []).dev.readPriv .pf1 (winAddr wHif 8) = [] ∧ winAddr wHif 8 % 4 = 0 ∧
    winOf (winAddr wHif 8) = some (wHif, 8) := by decide +kernel

theorem witness_banksAndAborts :
    (up 2 []).dev.hostUp (fnSrc .pf1) = true ∧ (let off := 2 ^ 18 - 512; off % 4 = 0 ∧ 512 % 4 = 0 ∧ off + 512 ≤ 2 ^ 18) ∧
    winOf (winAddr wPerf 0) = some (wPerf, 0) := by decide +kernel

theorem witness_linkAndSources :
    open_.dev.supervised = true ∧ open_.dev.stageOwner = fnSrc .pf0 ∧ open_.dev.is R.STAGE.STAGE_STAT_STATE = true ∧ open_.dev.stageOwner ≠ fnSrc .pf1 ∧
    open_.dev.is I.HIF.LINK_DN = false ∧ open_.dev.hostUp (fnSrc .pf1) = true := by decide +kernel

theorem witness_leases :
    AllAccepted [(up 2 [], .pf1, winAddr wHif 0xC, 2 ^ 24), (up 2 [], .pf1, winAddr wSnap 0, 1), (up 2 [], .pf1, winAddr wSnap 0, 2)] ∧
    (up 2 [(R.SNAP.HELD, 2, 1)]).dev.is R.SNAP.HELD (srcIx .cspi) = true := ⟨accepted_of (by decide +kernel), by decide +kernel⟩

theorem witness_openTimeout :
    open_.dev.get R.STAGE.STAGE_STAT_STATE = 1 ∧ (up 2 [(R.STAGE.STAGE_STAT_STATE, 0, 2)]).dev.get R.STAGE.STAGE_STAT_STATE ≠ 1 := by decide +kernel

/-- A CSPI transaction that staged nothing, or one word, with n implicit sets waiting. -/
def inTxn (staged : List (Nat × Nat)) (n : Nat) : State :=
  also (up 2 []) fun d => { d with cspi := some ⟨staged, 0⟩, implicit := List.replicate n ⟨[(0x60000, 0)], 0⟩ }

theorem witness_cspiTransaction :
    (up 2 []).dev.hostUp .cspi = true ∧ (up 2 []).dev.cspi = none ∧ (inTxn [] 0).dev.cspi = some ⟨[], 0⟩ ∧
    (inTxn [(0x60000, 1)] 15).dev.cspi = some ⟨[(0x60000, 1)], 0⟩ ∧ (inTxn [(0x60000, 1)] 15).dev.implicit.length < 16 ∧
    16 ≤ (inTxn [(0x60000, 1)] 16).dev.implicit.length := by decide +kernel

theorem witness_cspiAccesses :
    (inTxn [] 0).dev.hostUp .cspi = true ∧ (inTxn [] 0).dev.cspi.isSome = true ∧ (inTxn [] 0).dev.mode ≠ .mirror ∧ (inTxn [] 0).dev.mode ≠ .boot ∧
    (∀ k < 2, cspiRange ((0x7E + k) % 65536) = true ∧ ((cspiAddr ((0x7E + k) % 65536)).any (fun a => 0x10000 ≤ a)) = true) ∧
    (∀ k < 2, cspiRange ((1797 + k) % 65536) = true ∧
      ((cspiAddr ((1797 + k) % 65536)).any (fun a => (inTxn [] 0).dev.stagedWord a && inSubset a)) = true) ∧
    (cspiRange 64 = true ∧ ((cspiAddr 64).any (fun b => !(inTxn [] 0).dev.stagedWord b &&
      ((inTxn [] 0).dev.writeErrs (inTxn [] 0).clk.ns .cspi b 0xF 0).isEmpty)) = true) := by decide +kernel

theorem witness_powerUpAndDown : (up 0 []).dev.mode = .backup ∧ (up 7 []).dev.mode ≠ .backup := by decide +kernel

theorem witness_resets :
    ((up 7 []).dev.mode ≠ .backup ∧ (up 7 []).dev.get I.MODE.NRST = 0) ∧ (up 1 [(I.MODE.NRST, 0, 1)]).dev.get I.MODE.NRST = 1 ∧
    (up 7 [(I.MODE.NRST, 0, 2)]).dev.get I.MODE.NRST = 2 ∧ (up 7 []).dev.supervised = true := by decide +kernel

/-- In step n of BOOT, with retention whose CRC matches. -/
def booting (n : Nat) (l : List (Fld × Nat × Nat)) : State :=
  also (up 1 ([(I.MODE.BOOT_STEP, 0, n)] ++ l)) fun d => { d with ret := { d.ret with tbRate := 5, crc := crc32 { d.ret with tbRate := 5 }.bytes } }

theorem witness_bootSequence :
    (∀ n ∈ [1, 2, 4, 5, 6], (booting n []).dev.bootAt n = true) ∧
    (booting 2 []).dev.ret.crc = crc32 (booting 2 []).dev.ret.bytes ∧ (booting 2 []).dev.get I.MODE.VBAT_BAD = 0 ∧
    (up 1 [(I.MODE.BOOT_STEP, 0, 2), (I.MODE.VBAT_BAD, 0, 1)]).dev.get I.MODE.VBAT_BAD ≠ 0 ∧
    ((booting 6 []).dev.bootOrder.find? (fun k => bitOf ((booting 6 []).dev.get I.REAM.BOOT_TRIED) k = 0) = some 0 ∧
      (booting 6 []).dev.get I.REAM.BOOT_TRIED = 0) ∧
    (let d := (up 2 [(R.REAM.CMD_BUSY, 0, 1), (R.REAM.CMD_OP, 0, 3)]).dev
     d.bootAt 6 = false ∧ d.verifying = true ∧ d.supervised = true) := by decide +kernel

theorem witness_limitsAndCounts :
    (∀ p ∈ [(5, Mode.precharge), (6, .sync), (9, .rideThrough), (10, .stopping)], (up p.1 []).dev.mode = p.2 ∧ (up p.1 []).dev.get I.MODE.DUE_LIMIT = 0 ∧
      (up 7 []).dev.mode ≠ p.2) ∧
    (let d := (up 6 [(R.MODE.SYNC_HOLD, 0, 9), (I.MODE.SYNC_RUN, 0, 9)]).dev
     d.mode = .sync ∧ d.get R.MODE.SYNC_HOLD ≤ d.get I.MODE.SYNC_RUN) ∧
    (let d := (up 9 [(R.MODE.RT_RECOVER, 0, 9), (I.MODE.RT_RUN, 0, 9)]).dev
     d.mode = .rideThrough ∧ d.get R.MODE.RT_RECOVER ≤ d.get I.MODE.RT_RUN) ∧
    (10 ≤ (up 10 [(I.MODE.RAMP_RUN, 0, 10)]).dev.get I.MODE.RAMP_RUN) ∧
    (let d := (up 7 [(R.CE.GM_DET, 0, 4), (R.CE.OUT_BAND_RUN, 0, 4)]).dev
     0 < d.get R.CE.GM_DET ∧ d.get R.CE.GM_DET ≤ (if d.is I.CE.BUSY then d.get I.CE.F_OUT else d.get R.CE.OUT_BAND_RUN)) := by decide +kernel

theorem witness_timebaseLock :
    ((up 7 []).dev.supervised = true ∧ (up 7 []).dev.is R.TB.PLL_T_LOCK = true ∧ (up 7 []).dev.inMode [.safe, .boot, .idle] = false) ∧
    (up 11 []).dev.inMode [.safe, .boot, .idle] = true ∧
    (let d := (up 2 [(R.TB.PLL_T_LOCK, 0, 0)]).dev
     d.pastLock = true ∧ d.is R.TB.PLL_T_LOCK = false) := by decide +kernel

theorem witness_locksAndRoot :
    ((up 7 []).dev.supervised = true ∧ (up 7 []).dev.is R.TB.PLL_N_LOCK = true ∧ (up 7 []).dev.is R.TB.PLL_S_LOCK = true ∧
      (up 7 []).dev.get I.TB.SSC_RELOCK = 0 ∧ (up 7 [(I.TB.SSC_RELOCK, 0, 1)]).dev.get I.TB.SSC_RELOCK ≠ 0) ∧
    (let d := (up 7 [(R.TB.PLL_N_LOCK, 0, 0), (R.TB.PLL_S_LOCK, 0, 0)]).dev
     d.pastLock = true ∧ d.is R.TB.PLL_N_LOCK = false ∧ d.is R.TB.PLL_S_LOCK = false) ∧
    (up 7 []).dev.is R.TB.ROOT_OK = true ∧ 98 < (((48729 : Nat) : Int) - 48828).natAbs ∧ (((48730 : Nat) : Int) - 48828).natAbs ≤ 98 ∧
    (up 7 [(R.TB.HOLDOVER, 0, 1)]).dev.is R.TB.HOLDOVER = true := by decide +kernel

theorem witness_clockChecks :
    (up 7 []).dev.supervised = true ∧ 16 < (((32785 : Nat) : Int) - 32768).natAbs ∧ (((32784 : Nat) : Int) - 32768).natAbs ≤ 16 ∧
    0 < (((up 7 []).clk.ns : Int) - (up 7 []).dev.getInt I.NET.REF_NS) / 1000000000 := by decide +kernel

/-- A command of the Ream in progress, with this flash operation. -/
def flashing (cmd : Nat) (op : FlashOp) : State :=
  also (up 2 [(R.REAM.CMD_BUSY, 0, 1), (R.REAM.CMD_OP, 0, cmd), (R.REAM.CMD_LEN, 0, 256)]) fun d => { d with nvm := { d.nvm with cur := some op } }

theorem witness_flashOperations :
    (let d := (flashing 1 (.erase 1 127)).dev
     d.get R.REAM.CMD_BUSY = 1 ∧ d.get R.REAM.CMD_OP ≠ 3 ∧ d.flashOn = true ∧ memWf d.nvm.mem = true ∧ d.nvm.cur = some (.erase 1 127) ∧
     d.cmdOwns (.erase 1 127) = true ∧ (FlashOp.erase 1 127).ofCmd = true) ∧
    (let d := (flashing 2 (.program 1 0)).dev
     d.nvm.cur = some (.program 1 0) ∧ d.nvm.dirty.contains (128 * 1 + 0 / 256) = false) := by decide +kernel

theorem witness_imageChecks :
    (let s := up 2 [(R.REAM.CMD_BUSY, 0, 1), (R.REAM.CMD_OP, 0, 3), (R.REAM.SLOT_STATE, 0, 2), (I.REAM.CMD_RUN_SLOT, 0, 0)]
     s.dev.verifying = true ∧ s.dev.supervised = true ∧ s.dev.slotState 0 ≠ 4 ∧ s.dev.slotState 0 ≠ 0) ∧
    (let d := (verified 2 [(R.REAM.ACTIVE, 0, 1)]).dev
     d.ream.active = some (image []) ∧ d.get R.REAM.ACTIVE = 0 + 1 ∧ d.scrubOk 0 (image []) = false) ∧
    (up 2 [(I.REAM.PREF_DUE, 0, 1)]).dev.is I.REAM.PREF_DUE = true := by decide +kernel

/-- The check of an erased slot fails. -/
theorem witness_imageChecks_error :
    (match (up 2 [(R.REAM.SLOT_STATE, 0, 2)]).dev.checkSlot State.reset.otp 0 false with
      | .error _ => true
      | .ok _ => false) = true := by decide +kernel

theorem witness_orderedSwaps :
    (let d := (verified 4 [(R.REAM.SWAP_PEND, 0, 1)]).dev
     d.mode = .mirror ∧ d.slotState 0 = 3 ∧ d.checked 0 = some (image []) ∧ (image []).imageDigest = 0 ∧
     classBy d.ream.active (image []).structDigest (image []).mapDigest = 0 ∧ d.is R.REAM.SWAP_PEND = true ∧ d.is I.REAM.SWAP_CONF = false) ∧
    (up 7 []).dev.mode ≠ .mirror ∧ (up 4 []).dev.slotState 0 ≠ 3 := by decide +kernel

theorem witness_recordsAndHousekeeping :
    (let d := (up 7 [(R.NET.SERVO_MODE, 0, 2), (R.NET.SERVO_STATE, 0, 2)]).dev
     d.mode ≠ .idle ∧ d.mode ≠ .backup ∧ d.mode ≠ .boot ∧ d.rateLocked = true ∧ d.hkRuns = true ∧ bitOf (d.get R.THERM.THR_ACT) 2 = 0) ∧
    (up 7 [(I.THERM.EVJ_WANT, 0, 1)]).dev.is I.THERM.EVJ_WANT = true ∧
    8000 < (((168001 : Nat) : Int) - 160000).natAbs ∧ 16000 < (((176001 : Nat) : Int) - 160000).natAbs ∧
    (((176000 : Nat) : Int) - 160000).natAbs ≤ 16000 := by decide +kernel

theorem witness_frameClock :
    (up 7 []).dev.is R.TB.DECKLE_RUN = true ∧ (up 7 []).dev.mayStart = false ∧ (up 7 []).dev.is I.TB.NO_NEXT = false ∧
    (let d := (up 7 [(R.TB.DECKLE_RUN, 0, 0), (I.PERF.ON, 0, 1)]).dev
     d.is R.TB.DECKLE_RUN = false ∧ d.mayStart = true ∧ d.is I.PERF.ON = true) := by decide +kernel

theorem witness_engineFrame :
    (let d := (sequenced [(R.AFE.SEQ_TRIG_SRC, 7, 1)]).dev
     d.mode ≠ .mirror ∧ d.is I.CE.STARTED = false ∧ d.ream.active.isSome = true ∧ d.get R.AFE.SEQ_NENT 7 ≠ 0 ∧ d.get R.AFE.SEQ_TRIG_SRC 7 = 1 ∧
     d.get I.AFE.GOT_RUN 7 ≠ 1 ∧ d.ceReady = false) ∧
    (let d := (up 7 [(I.CE.BUSY, 0, 1), (R.CE.OVR_RUN, 0, 1), (I.MOD.STR_MASK, 0, 32), (I.CAL.DONE, 5, 1)]).dev
     d.ceReady = true ∧ d.is I.CE.BUSY = true ∧ 1 ≤ d.get R.CE.OVR_RUN ∧ d.active = []) := by decide +kernel

/-- A string of one cell on a ring that is ready. -/
def stringed (l : List (Fld × Nat × Nat)) : State :=
  ringed ([(R.MODE.STATE, 0, 7), (R.FELT.RING_STATE, 5, ringReady), (I.MOD.STR_MASK, 0, 1), (I.CELL.STRING, 143, 0), (I.CELL.GOT, 143, 1)] ++ l)

theorem witness_frameBuild :
    (let d := (stringed []).dev
     d.strExists 0 = true ∧ d.is I.CAL.DONE 0 = false ∧ d.blocksIn 0 = true ∧ d.inMode [.backup, .boot] = false ∧ d.is I.MOD.BUILT = false ∧
     d.is R.TB.PLL_T_LOCK = true ∧ d.cellUsed 143 = true ∧ d.cellLink 143 = some 5 ∧ d.linkPosts 5 = true ∧ d.posts = true ∧ d.strExists 1 = false ∧
     d.deadline < (stringed []).clk.ns) ∧
    (ringed []).dev.lawOn = false := by decide +kernel

/-- A measurement block of hop 2 from the west, in frame 0, with its CRC. -/
def block : Nat :=
  let b := 0x20 + 2 ^ 8 * 2 + 2 ^ 15
  b + 2 ^ 344 * crc32 (leBytes 43 b)

theorem witness_uplink :
    (let d := (stringed [(I.CELL.GOT, 143, 0)]).dev
     d.slotAt (linkIx (.ring 5)) (bitsOf block 13 8) = some 143 ∧ d.blockValid block 0 = true ∧ d.blockValid block 1 = false ∧
     d.is I.FELT.CUT 5 = false ∧ d.is I.CELL.GOT 143 = false ∧ 143 ∈ d.slotsOn 5) ∧
    (BitVec.ofNat 376 block).toNat = block := by decide +kernel

/-- A marker of frame 0 with its CRC. -/
def marker : Nat := 2 ^ 104 * crc16 (leBytes 13 0)

theorem witness_markers :
    (let d := (stringed [(R.FELT.LF_STATE, 15, lfUp)]).dev
     d.markerValid marker 0 = true ∧ d.markerValid marker 1 = false ∧ d.linkOwned 5 = true ∧ d.linkOwned (6 + 15) = true ∧ bytesAt marker 10 1 < 128 ∧
     d.get R.FELT.RING_STATE 5 = ringReady ∧ d.is R.FELT.RING_OPEN 5 = false ∧ d.is I.FELT.SEEN_E 5 = false ∧ d.is I.FELT.SEEN_W 5 = false ∧
     d.is I.FELT.TURNED 5 = false) ∧
    (BitVec.ofNat 120 marker).toNat = marker := by decide +kernel

theorem witness_ringAndLinkStates :
    (∀ st ∈ [ringTrain, ringDiscover, ringReady, ringCal], (ringed [(R.FELT.RING_STATE, 5, st)]).dev.get R.FELT.RING_STATE 5 = st) ∧
    (let d := (ringed [(R.FELT.RING_STATE, 5, ringCal), (R.FELT.CAL_SETTLE, 0, 4), (I.FELT.STABLE_RUN, 5, 4), (R.FELT.RING_EAST_OK, 5, 1),
       (R.FELT.RING_WEST_OK, 5, 1)]).dev
     d.get R.FELT.CAL_SETTLE ≤ d.get I.FELT.STABLE_RUN 5 ∧ d.is R.FELT.RING_EAST_OK 5 = true ∧ d.is R.FELT.RING_WEST_OK 5 = true ∧
     d.is I.FELT.TRAIN_RAISED 5 = false ∧ d.is R.FELT.RING_OPEN 5 = false) ∧
    (ringed []).dev.is R.FELT.RING_EAST_OK 5 = false ∧
    (let d := (up 2 [(R.FELT.LF_STATE, 15, lfTrain), (I.FELT.LANES, 21, 1)]).dev
     d.get R.FELT.LF_STATE 15 = lfTrain ∧ d.is I.FELT.LANES (6 + 15) = true ∧ d.is I.FELT.TRAIN_RAISED (6 + 15) = false ∧ d.is I.FELT.LF_SEEN 15 = false) ∧
    (let d := (up 2 [(R.FELT.LF_STATE, 15, lfCal), (R.FELT.CAL_SETTLE, 0, 4), (I.FELT.LF_RUN, 15, 4)]).dev
     d.get R.FELT.LF_STATE 15 = lfCal ∧ d.get R.FELT.CAL_SETTLE ≤ d.get I.FELT.LF_RUN 15) := by decide +kernel

/-- A clear of the last cell sent and not answered. -/
def clearing : State :=
  also (ringed [(I.CELL.EVER, 143, 1), (R.FELT.CELL_LINK_TIMEOUT, 0, 8), (R.CELL.MISS_RUN, 143, 8)]) fun d =>
    { d with mgt := [⟨5, 2, 2, 0x44, 1, 7, 143, 2, some 0⟩] }

theorem witness_linkFaults :
    (let d := (netted 2 [(R.FELT.ERR_THR, 0, 3), (I.FELT.WIN_ERR, 11, 4), (I.FELT.WIN_ERR, 27, 4), (R.NET.ERR_THR, 0, 3), (I.NET.WIN_ERR, 1, 4)]).dev
     d.get R.FELT.ERR_THR < d.get I.FELT.WIN_ERR (2 * 5 + 1) ∧ d.get R.FELT.ERR_THR < d.get I.FELT.WIN_ERR (12 + 15) ∧ d.portUsed 1 = true ∧
     d.get R.NET.ERR_THR < d.get I.NET.WIN_ERR 1) ∧
    (let d := clearing.dev
     d.cellUsed 143 = true ∧ d.is I.CELL.EVER 143 = true ∧ d.get R.FELT.CELL_LINK_TIMEOUT ≤ d.get R.CELL.MISS_RUN 143 ∧
     (d.mgt.find? (fun q => q.link = linkIx (.ring 5) && q.hop = 2 && q.tag = 7 && q.addr = 0x44 && q.sent.isSome)).isSome = true ∧
     (d.mgt.find? (fun q => q.slot = 143 && q.sent.isSome)).any (fun q => q.why = 2) = true) := by decide +kernel

theorem witness_engineAndSlotEvents :
    (let d := (up 7 [(I.CE.BUSY, 0, 1), (R.CE.MV_LOCK, 0, 1), (I.CE.F_LAW, 0, 1)]).dev
     d.is I.CE.BUSY = true ∧ (d.get I.CE.FE 5 != 0) ≠ d.is R.CE.MV_LOCK ∧ d.get I.CE.F_LAW ≠ 0) ∧
    (let d := (up 7 [(R.CE.PAR_PL_N, 63, 3), (I.CE.PL_CNT, 144 * 63 + 143, 3)]).dev
     d.get R.CE.PAR_PL_N 63 ≤ d.get I.CE.PL_CNT (144 * 63 + 143) ∧ d.get I.CE.PL_CNT (144 * 63 + 143) ≠ 0 ∧ d.get I.CE.PL_RAISED (144 * 63 + 143) = 0) ∧
    (let d := (up 7 [(R.MOD.SLOT_ROLE, 143, rolePark), (R.MOD.RET_SETTLE, 0, 5), (R.MOD.SLOT_IN_BAND, 143, 5)]).dev
     d.role 143 = rolePark ∧ d.settled 143 = true) ∧
    (let d := (up 7 [(I.MOD.STR_MASK, 0, 32), (R.CAL.SPREAD_ALM, 0, 32)]).dev
     d.settled 143 = false ∧ d.strExists 5 = true ∧ bitOf (d.get R.CAL.SPREAD_ALM) 5 = 1 ∧ d.is I.CAL.SPREAD_RAISED 5 = false) := by decide +kernel

/-- The last half-bridge in use with its low side on, its high side requested. -/
def driven (l : List (Fld × Nat × Nat)) : State :=
  up 7 ([(R.LVD.HB_CFG, 7, 0xC3), (I.LVD.CH_ON, 14, 1), (I.LVD.CH_SOFT, 15, 1), (R.LVD.HB_VLP_OK, 7, 1), (I.LVD.RETRY_PEND, 7, 1)] ++ l)

theorem witness_driveFaults :
    (let d := (driven []).dev
     d.is I.LVD.CH_ON 14 = true ∧ d.lvtTests 14 = false ∧ d.hbUsed 7 = true ∧ d.is I.LVD.CH_SOFT 15 = true ∧ d.lvtTests 15 = false ∧ d.is R.LVD.HB_VLP_OK 7 = true ∧
     d.is I.LVD.BST_SEEN 7 = false ∧ d.is I.LVD.RETRY_PEND 7 = true ∧ d.softIn 7 = true ∧ d.softIn 0 = false ∧ d.is R.LVD.LEGACY_CLR = false) ∧
    (let d := (driven [(I.LVD.LVT_RUN, 0, 1), (I.LVD.LVT_ACT, 0, 4), (R.LVD.LVT_MASK, 0, 128), (R.LVD.LVT_SIDE, 0, 1)]).dev
     d.is I.LVD.CH_SOFT 15 = true ∧ d.lvtTests 15 = true) ∧
    (let d := (driven [(I.LVD.CH_REQ, 14, 1), (I.LVD.CH_REQ, 15, 1), (R.LVD.LEGACY_CLR, 0, 1)]).dev
     d.is I.LVD.CH_REQ 14 = true ∧ d.is I.LVD.CH_REQ 15 = true ∧ d.is R.LVD.LEGACY_CLR = true) := by decide +kernel

theorem witness_lvSwitching :
    (let d := (also (driven [(I.LVD.CH_SOFT, 15, 0)]) fun d => { d with lvEdges := [⟨7, 100, 1⟩] }).dev
     d.lvEdges.find? (fun e => e.grp = d.legGroup 7) = some ⟨7, 100, 1⟩ ∧ 7 ∈ d.legMembers 7 ∧ d.seqDrives = true ∧ d.get I.LVD.HOLD 7 = 0) ∧
    (let d := (driven [(I.LVD.CH_ON, 14, 0), (I.LVD.CH_REQ, 15, 1)]).dev
     d.is I.LVD.CH_REQ (2 * 7 + 1) = true ∧ d.is I.LVD.CH_REQ (2 * 7 + (1 - 1)) = false ∧ d.allowed 15 = true ∧ d.is I.LVD.CH_ON 14 = false) ∧
    (driven []).dev.is I.LVD.CH_ON 14 = true ∧
    (let d := (sequenced [(R.AFE.SEQ_TRIG_SRC, 7, 4)]).dev
     d.afeRuns = true ∧ d.get R.AFE.SEQ_NENT 7 ≠ 0 ∧ d.get R.AFE.SEQ_TRIG_SRC 7 ∈ [2, 4] ∧ d.is R.AFE.SEQ_BUSY 7 = false) := by decide +kernel

theorem witness_noShootThrough :
    ∀ k < 8, (driven []).dev.get I.LVD.CH_ON (2 * k) = 0 ∨ (driven []).dev.get I.LVD.CH_ON (2 * k + 1) = 0 := by decide +kernel

theorem witness_sequences :
    (let d := (sequenced [(R.AFE.SEQ_TRIG_SRC, 7, 6), (R.AFE.GT_PERIOD, 1, 100)]).dev
     2 ≤ d.get R.AFE.SEQ_TRIG_SRC 7 ∧ d.afeRuns = true ∧ d.get R.AFE.SEQ_NENT 7 ≠ 0 ∧ d.is R.AFE.SEQ_BUSY 7 = false ∧ d.get R.AFE.GT_PERIOD 1 ≠ 0 ∧
     d.get R.AFE.SEQ_TRIG_SRC 7 = 5 + 1) ∧
    (let d := (sequenced [(R.AFE.SEQ_BUSY, 7, 1)]).dev
     d.is R.AFE.SEQ_BUSY 7 = true ∧ d.is R.AFE.SEQ_QUEUE1 7 = false ∧ d.is R.AFE.SEQ_QUEUED 7 = false ∧ d.get R.AFE.SEQ_TRIG_SRC 7 < 2 ∧
     ((d.seqSteps 7)[d.get I.AFE.STEP 7]?).any (fun st => st.all (fun e => !d.convHeld 0 7 (entAdc e))) = true ∧ 0 ∈ d.seqAdcs 7) ∧
    (let d := (sequenced [(R.AFE.SEQ_BUSY, 7, 1), (I.AFE.STEP, 7, 1)]).dev
     d.get R.AFE.SEQ_NENT 7 ≤ 16 ∧ d.get I.AFE.STEP 7 = (d.seqSteps 7).length) := by decide +kernel

theorem witness_comparatorsAndWatchers :
    (let d := (sequenced [(R.AFE.WC_WMODE, 23, 3), (R.AFE.WC_ROLE, 23, 1), (R.LVD.TRIP_MAP, 23, 1)]).dev
     d.afeRuns = true ∧ d.get R.AFE.WC_WMODE 23 ≠ 0 ∧ condition (d.get R.AFE.WC_WMODE 23) false true = true ∧
     condition (d.get R.AFE.WC_WMODE 23) false false = false ∧ bitOf (d.get I.AFE.WC_C) 23 = 0 ∧ bitOf (d.get R.AFE.WC_LATCH) 23 = 0 ∧
     d.is R.AFE.WC_ROLE 23 = true ∧ d.get R.LVD.TRIP_MAP 23 ≠ 0) ∧
    (let d := (up 2 [(I.FLT.WIN_NS, 172, 1), (R.FLT.SIGOK_STATE, 0, sigPulse)]).dev
     d.ream.active = none ∧ d.mode ≠ .backup ∧ d.get I.MODE.BOOT_STEP ≠ 1 ∧ d.is I.FLT.WIN_NS 172 = true ∧ d.supervised = true ∧
     d.get R.FLT.SIGOK_STATE = sigPulse ∧ d.get R.FLT.SIGOK_STATE ≠ sigAlive ∧ d.get I.MODE.NRST ≠ 1) ∧
    (let d := (up 2 [(R.FLT.SIGOK_STATE, 0, sigAlive)]).dev
     d.get R.FLT.SIGOK_STATE = sigAlive ∧ d.get R.FLT.SIGOK_STATE ≠ sigPulse) := by decide +kernel

/-- A used pair in Yarrow, which disagrees, and a contact that Yarrow waits for. -/
def guarded : State := up 7 [(I.SAFE.Y_SI_CFG, 3, 1), (I.SAFE.DIS_ON, 3, 1), (I.SAFE.FB_WAIT, 3, 1), (I.SAFE.Y_FB_CFG, 2, 1), (I.SAFE.YSUP_BAD, 0, 1)]

/-- A safety sheet whose CRC is the one of forty zero bytes. -/
def safe0 : Sheet := ⟨11, 1, ⟨44, crc32c (leBytes 40 0) * 2 ^ 320⟩, ⟨0, 0⟩, ⟨0, 0⟩⟩

theorem witness_safetyChannels :
    (let d := guarded.dev
     d.pairUsed (chanIx .yarrow) 3 = true ∧ d.pairUsed (chanIx .sorrel) 3 = false ∧ d.pairDemand 0 3 = false ∧ d.pairDemand 1 3 = false ∧
     d.is I.SAFE.DIS_ON (4 * chanIx .yarrow + 3) = true ∧ d.is I.SAFE.LATCH 3 = false ∧ d.is I.SAFE.FB_WAIT (4 * chanIx .yarrow + 3) = true ∧
     d.is I.SAFE.FB_WAIT (4 * chanIx .yarrow + 2) = false ∧ bitOf (d.fbCfg (chanIx .yarrow) 2) 0 = 1 ∧ d.is I.SAFE.YSUP_BAD = true ∧
     ∀ fn < 2, d.commonDemand 0 fn = d.commonDemand 1 fn) ∧
    (up 7 [(I.SAFE.FBL, 0, 1)]).dev.commonDemand 0 0 ≠ (up 7 [(I.SAFE.FBL, 0, 1)]).dev.commonDemand 1 0 ∧
    (runs [safe0] (up 2 [])).dev.safetySheet = some safe0 ∧
    crc32c (leBytes 40 (BitVec.ofNat 320 0).toNat) = bytesAt safe0.strc.data 0x28 4 ∧
    crc32c (leBytes 40 (BitVec.ofNat 320 1).toNat) ≠ bytesAt safe0.strc.data 0x28 4 := by decide +kernel

/-- A strapped module at one second, its last heartbeat edge 50 µs before. -/
def partnered (mode : Nat) (l : List (Fld × Nat × Nat)) : State :=
  up mode ([(R.PART.STRAP, 0, 1), (I.PART.LAST_EDGE, 0, 999950001), (I.PART.EDGE_RUN, 0, 3), (I.PART.BEAT_RUN, 0, 2)] ++ l)

theorem witness_partnerPaths :
    (let s := partnered 7 []
     let gap := s.clk.ns + 1 - s.dev.get I.PART.LAST_EDGE
     s.dev.strapped = true ∧ s.dev.get I.PART.LAST_EDGE ≠ 0 ∧ 45000 ≤ gap ∧ gap ≤ 55000 ∧ 3 ≤ s.dev.get I.PART.EDGE_RUN ∧
     s.dev.is R.PART.WIRE_OK = false ∧ s.dev.is I.PART.HB_OUT = false ∧ s.dev.mode ∉ [.backup, .boot] ∧ s.dev.is I.MODE.IN_RESET = false ∧
     s.dev.is R.TB.PLL_T_LOCK = true ∧ 2 ≤ s.dev.get I.PART.BEAT_RUN ∧ s.dev.is R.PART.PL_OK = false ∧ (1 : BitVec 2).toNat = s.dev.get R.PART.STRAP) ∧
    (let d := (partnered 7 [(R.PART.WIRE_OK, 0, 1), (R.PART.PL_OK, 0, 1), (I.PART.EDGE_RUN, 0, 2), (I.PART.HB_OUT, 0, 1)]).dev
     d.is R.PART.WIRE_OK = true ∧ d.is R.PART.PL_OK = true ∧ d.get I.PART.EDGE_RUN < 3 ∧ d.is I.PART.HB_OUT = true) := by decide +kernel

theorem witness_mirroring :
    (let d := (partnered 4 [(I.TB.ALIGN_NOW, 0, 1), (R.TB.FRAME_NO_LIVE, 0, 9)]).dev
     d.mode = .mirror ∧ d.strapped = true ∧ d.is I.TB.ALIGN_NOW = true ∧ (9 : Word).toNat = d.get R.TB.FRAME_NO_LIVE ∧
     ([] : List Nat).length = (d.dueItems 9).length) ∧
    (partnered 4 []).dev.is I.TB.ALIGN_NOW = false ∧ (up 7 []).dev.mode ≠ .mirror := by decide +kernel

/-- Two partners that can hand over: the preferred standby, or the primary that follows it. -/
def handing (mode strap : Nat) : State :=
  up mode [(R.PART.STRAP, 0, strap), (R.PART.TAKEBACK_HOLD, 0, 1), (I.PART.BEAT_OK, 0, 1), (R.PART.IN_SYNC, 0, 1), (R.PART.PARTNER_MODE, 0, 7),
    (R.PART.PRIMARY, 0, 1), (I.PART.BEAT_INSYNC, 0, 1), (I.PERF.TAG_N, 0, 4)]

theorem witness_takebackAndSamples :
    (let s := handing 4 1
     s.dev.strapped = true ∧ s.dev.noInhibit = true ∧ s.dev.get I.PART.HAND = 0 ∧ s.dev.get R.PART.TAKEBACK_HOLD ≠ 0 ∧ s.dev.is I.PART.BEAT_OK = true ∧
     s.dev.mode = .mirror ∧ s.dev.get R.PART.STRAP = 1 ∧ s.dev.is R.PART.IN_SYNC = true ∧
     s.dev.get I.PART.SYNC_NS + 1000000000 * s.dev.get R.PART.TAKEBACK_HOLD ≤ s.clk.ns ∧
     fitMode (s.dev.get R.PART.PARTNER_MODE) (s.dev.get I.PART.BEAT_REACT) = true ∧ s.dev.get I.PART.TB_REQ_NS = 0 ∧ s.dev.get I.PERF.TAG_N ≠ 0) ∧
    (let d := (handing 7 2).dev
     d.strapped = true ∧ d.noInhibit = true ∧ d.mode ≠ .mirror ∧ d.is R.PART.PRIMARY = true ∧ d.get R.PART.STRAP = 2 ∧ d.is I.PART.BEAT_INSYNC = true ∧
     fitMode d.mode.code (d.get R.FLT.REACT_MAX) = true ∧ d.is R.REAM.SWAP_PEND = false) ∧
    (up 7 []).dev.get I.PERF.TAG_N = 0 := by decide +kernel

theorem witness_netFrames :
    (let d := (netted 7 []).dev
     d.portUp 1 = true ∧ bitOf (d.get R.NET.LINK) 1 ≠ false.toNat ∧ d.portUsed 1 = true ∧ d.red = 1 ∧ (d.portUp 0 || d.portUp 1) = true) ∧
    (up 7 []).dev.portUp 0 = false ∧ bitOf ((up 7 []).dev.get R.NET.LINK) 0 ≠ true.toNat := by decide +kernel

/-- Timestamps unread on LAN 1. -/
def stamped (n : Nat) (typ : Nat) : State :=
  also (netted 7 []) fun d => d.setLan 1 { d.lan 1 with tsq := List.replicate n ⟨5, typ, 100⟩ }

theorem witness_ptpEngine :
    (∀ q < 2, ((netted 7 []).dev.lan q).tsq.length < 16) ∧ (netted 7 []).dev.portUp 1 = true ∧ (up 7 []).dev.portUp 1 = false ∧
    (((stamped 1 2).dev.readStamps 1).lan 1).req = some (5, 100) ∧ ((stamped 16 2).dev.lan 1).tsq.length = 16 ∧
    (netted 7 []).dev.ptpTakes 1 0 0 = true ∧ (netted 7 []).dev.gmId = 9 ∧ (netted 7 []).dev.is I.NET.GOT 1 = false := by decide +kernel

theorem witness_timeSources :
    (let d := (netted 7 [(I.NET.CHK_GOT, 0, 1), (R.NET.XCHK_THR, 0, 5), (I.NET.CHK_OFS, 0, 6), (I.NET.CHK_BAD, 0, 2)]).dev
     d.netSheet.isSome = true ∧ d.timeChk ≠ 3 ∧ d.is I.NET.CHK_GOT = true ∧ d.get R.NET.XCHK_THR < (d.getInt I.NET.CHK_OFS).natAbs ∧
     d.get I.NET.CHK_BAD = 2 ∧ d.is R.NET.XCHK_BAD = false ∧ d.mode ≠ .backup) := by decide +kernel

/-- A published stream of one sample a message, whose sample of a second is complete. -/
def published (base : Int) : State :=
  also (netted 7 [(R.NET.SVP_ACTIVE, 0, 1)]) fun d => d.setSv 0 [⟨base, 0, [some (1, 0)]⟩]

theorem witness_stationBus :
    (let s := netted 7 [(R.NET.SVP_ACTIVE, 0, 1), (I.NET.GP_ON, 7, 1)]
     let sec := (s.dev.tod s.clk.ns / 1000000000).toNat
     s.dev.is R.NET.SVP_ACTIVE 0 = true ∧ s.dev.get I.NET.SV_SEC 0 < sec + 1 ∧ s.dev.is I.NET.GP_ON 7 = true) ∧
    (∀ b ∈ [(0 : Int), 1000000000],
      let s := published b
      s.dev.svF 0 4 1 = 1 ∧ (s.dev.svWait 0).length = 1 ∧ (∀ x ∈ s.dev.svWait 0, ∀ v ∈ x.vals, v ≠ none) ∧
      ∀ x ∈ s.dev.svWait 0, ((4 * (s.dev.get R.TB.TF_LAST : Int) + 20000) * s.dev.svRate 0 + x.instant (s.dev.svRate 0) <
        (s.clk.ns : Int) * s.dev.svRate 0) = (b = 0)) ∧
    (let d := (netted 7 [(I.NET.GS_EVER, 0, 1), (R.NET.GS_STATE, 0, 1)]).dev
     (d.portUp 0 || d.portUp 1) = true ∧ d.subUsed 0 = true ∧ d.gsUsed 0 = true ∧ d.subF 0 0 2 = 0 ∧ d.subF 0 16 4 = 0 ∧ d.subF 0 4 1 = 0 ∧
     d.subF 0 0x20 64 = 0 ∧ d.subF 0 8 6 = 0 ∧ d.get R.NET.SVS_STATE 0 ≠ 2 ∧ d.gsF 0 0 2 = 0 ∧ d.gsF 0 0x20 64 = 0 ∧ d.gsF 0 16 4 = 0 ∧
     d.gsF 0 2 1 = 0 ∧ d.gsF 0 0x60 64 = 0 ∧ d.gsF 0 0xA0 32 = 0 ∧ d.gsF 0 8 6 = 0 ∧ d.gsF 0 4 1 = 0 ∧ d.is I.NET.GS_EVER 0 = true ∧
     d.get R.NET.GS_STATE 0 ≠ 2) := by decide +kernel

theorem witness_everyStep :
    (up 7 []).clk.frac < 2 ^ 32 ∧ (up 7 []).pending = [] ∧ (up 7 []).dev.is R.TB.PLL_T_LOCK = true ∧
    (up 7 [(R.TB.PLL_T_LOCK, 0, 0)]).dev.is R.TB.PLL_T_LOCK = false ∧
    memWf (flashing 1 (.erase 1 127)).dev.nvm.mem = true := by decide +kernel

theorem witness_everyStep_next : ∃ t, step (up 7 []) = .next t := ⟨_, rfl⟩

theorem witness_raisingRecords :
    (up 7 []).dev.active.find? (fun a => a.cls = 15 && a.inst = 255) = none ∧ ((up 7 []).dev.entryOf 15 255).1 ≠ 0 ∧
    ((up 7 [(I.FLT.TABLE_ON, 0, 1)]).dev.entryOf 15 255).1 = 0 := by decide +kernel

/-! Commands that nothing outside the module can send. -/

theorem test_illFormed_bar2Read : (Instr.bar2Read .pf0 (2 ^ 18) 4).wellFormed = false ∧ (Instr.bar2Read .pf0 0 4100).wellFormed = false := by decide
theorem test_illFormed_cspiWrite4wire : (Instr.cspiWrite4wire 0 (List.replicate 257 0)).wellFormed = false := by decide +kernel
theorem test_illFormed_cspiWriteQuad : (Instr.cspiWriteQuad 0 (List.replicate 257 0)).wellFormed = false := by decide +kernel
theorem test_illFormed_vinOn : (Instr.vinOn true (2 ^ 48)).wellFormed = false := by decide
theorem test_illFormed_swapOrderRx : (Instr.swapOrderRx (2 ^ 384) 0 0).wellFormed = false := by decide +kernel
theorem test_illFormed_mirrorFrameRx : (Instr.mirrorFrameRx 0 true (List.replicate 1025 0) 0).wellFormed = false := by decide +kernel
theorem test_illFormed_mirrorTransferRx :
    (Instr.mirrorTransferRx [(2 ^ 32, 0)] []).wellFormed = false ∧ (Instr.mirrorTransferRx [] [2 ^ 64]).wellFormed = false ∧
    (Instr.mirrorTransferRx [] (List.replicate 9361 0)).wellFormed = false := by decide +kernel
theorem test_illFormed_forwardedSetRx :
    (Instr.forwardedSetRx 0 [(0, 2 ^ 32)]).wellFormed = false ∧ (Instr.forwardedSetRx 0 (List.replicate 4097 (0, 0))).wellFormed = false := by decide +kernel
theorem test_illFormed_syncRx : (Instr.syncRx 0 ⟨0, 0, 0, 2 ^ 48 * 1000000000, 0, 0⟩).wellFormed = false := by decide
theorem test_illFormed_pdelayRespRx : (Instr.pdelayRespRx 0 ⟨.oneStep, 0, 0, 2 ^ 48 * 1000000000, 0⟩).wellFormed = false := by decide
theorem test_illFormed_svRx : (Instr.svRx ⟨0, 0, 0, 0, 0, none, 0, List.replicate 401 0⟩).wellFormed = false := by decide +kernel
theorem test_illFormed_gooseRx : (Instr.gooseRx ⟨0, 0, 0, 0, 0, 0, 0, false, false, 0, 0, 0, List.replicate 1501 none⟩).wellFormed = false := by decide +kernel

/-! One step each, with the result that the spec gives. -/

/-- What one step with a command at the front of the queue gives. -/
def after (c : Instr) (s : State) : Option State :=
  match step { s with pending := c :: s.pending } with
  | .next t => some t
  | _ => none

/-- A register after that step. -/
def field (c : Instr) (s : State) (f : Fld) (i : Nat := 0) : Option Nat := (after c s).map (fun t => t.dev.get f i)

/-- R6: a byte read is rejected with E_ALIGN and returns 0. -/
theorem test_readRejected_align :
    (after (.readRejected .pf0 0 1) (up 2 [])).map (fun t => t.dev.answer.data) = some [0] ∧
    field (.readRejected .pf0 0 1) (up 2 []) R.HIF.ERR_CODE = some 9 := by decide +kernel
/-- R57: STAGE_OPEN with a TXN that is not NEXT_TXN is E_TXN, detail 0x02. -/
theorem test_stageOpen_txn :
    field (.stageOpen .pf0 7) (up 2 []) R.HIF.ERR_CODE = some 10 ∧ field (.stageOpen .pf0 7) (up 2 []) R.HIF.ERR_DETAIL = some 2 := by decide +kernel
/-- R57: with TXN equal to NEXT_TXN the set opens. -/
theorem test_stageOpen : field (.stageOpen .pf0 0) (up 2 []) R.STAGE.STAGE_STAT_STATE = some 1 := by decide +kernel
/-- R56: another source's STAGE_OPEN finds the area busy, and the detail names the owner. -/
theorem test_stageOpen_busy :
    field (.stageOpen .pf1 0) open_ R.HIF.ERR_CODE 1 = some 6 ∧ field (.stageOpen .pf1 0) open_ R.HIF.ERR_DETAIL 1 = some 0 := by decide +kernel
/-- R63: an abort advances NEXT_TXN. -/
theorem test_stageAbort : field (.stageAbort .pf0 0) open_ R.STAGE.STAGE_STAT_NEXT_TXN = some 1 := by decide +kernel
/-- R48: a read of HIF_SUMMARY clears the copy of its source, and no other. -/
theorem test_hifSummaryRead :
    field (.hifSummaryRead .pf1) (up 2 [(R.HIF.SUM_MODE, 0, 1), (R.HIF.SUM_MODE, 1, 1)]) R.HIF.SUM_MODE 1 = some 0 ∧
    field (.hifSummaryRead .pf1) (up 2 [(R.HIF.SUM_MODE, 0, 1), (R.HIF.SUM_MODE, 1, 1)]) R.HIF.SUM_MODE 0 = some 1 := by decide +kernel
/-- R44: PF1 may not read PERF. -/
theorem test_readRejected_priv : field (.readRejected .pf1 (BitVec.ofNat 22 (winAddr wPerf 0)) 15) (up 2 []) R.HIF.ERR_CODE 1 = some 8 := by decide +kernel
/-- R10: a reserved bit of SNAP_LEASE may not be set. -/
theorem test_registerWrite_reserved :
    field (.registerWrite .pf0 (BitVec.ofNat 22 (winAddr wSnap 0)) 15 (2 ^ 31)) (up 2 []) R.HIF.ERR_CODE = some 1 := by decide +kernel
/-- R94: an unlock of PLL_T takes RUN to IDLE at once. -/
theorem test_pllTUnlock : field .pllTUnlock (up 7 []) R.MODE.STATE = some 2 := by decide +kernel
/-- R94: SAFE stays SAFE. -/
theorem test_pllTUnlock_safe : field .pllTUnlock (up 11 []) R.MODE.STATE = some 11 := by decide +kernel
/-- R92: 98 cycles off is within tolerance, 99 is not. -/
theorem test_rootFreqCheck :
    field (.rootFreqCheck 48926) (up 7 []) R.TB.ROOT_OK = some 1 ∧ field (.rootFreqCheck 48927) (up 7 []) R.TB.ROOT_OK = some 0 := by decide +kernel
/-- R77: with TB_RATE 0 a cycle is exactly 2 ns. -/
theorem test_tick : (match step (up 7 []) with | .next t => t.clk.ns | _ => 0) = 1000000002 := by decide +kernel
/-- R314: a short circuit starts the soft turn-off of its channel and latches. -/
theorem test_scDetect :
    field (.scDetect 14 false 9) (driven []) I.LVD.CH_SOFT 14 = some 1 ∧ field (.scDetect 14 false 9) (driven []) I.LVD.CH_ON 14 = some 0 := by decide +kernel
/-- R376: SIG_OK toggles in ALIVE only. -/
theorem test_sigokToggle :
    field .sigokToggle (up 7 [(R.FLT.SIGOK_STATE, 0, sigAlive)]) R.FLT.SIGOK_PIN = some 1 ∧
    field .sigokToggle (up 7 [(R.FLT.SIGOK_STATE, 0, sigHold)]) R.FLT.SIGOK_PIN = some 0 := by decide +kernel
/-- R392: Yarrow's supply fault shows in YSUP_OK. -/
theorem test_yarrowSupplyFault : field .yarrowSupplyFault (up 7 [(R.SAFE.YSUP_OK, 0, 1)]) R.SAFE.YSUP_OK = some 0 := by decide +kernel
/-- R70: a CSPI write of more words than a transaction carries stops. -/
theorem test_cspiWrite_stops :
    (match exec (.cspiWrite4wire 0 (List.replicate 257 0)) (up 2 []) with | .fault .illFormed => true | _ => false) = true := by decide +kernel

end Sys2Proof.Tests
end

section
/-! PROOFS. Reads that the host makes: BAR2, and reads that end with a Completer Abort. First what recording a rejection writes
and keeps (R47, R48), which every rejected access shares. -/
namespace Sys2Proof.Machine
variable {L : List Fld} {d : Dev}

/-! Element lists of several fields at one index. -/

theorem hasEl_map_of_hasFld {fs : List Fld} {f : Fld} (h : hasFld fs f = true) (i : Nat) :
    hasEl (fs.map (fun f => (f, i))) f i = true := by
  simpa [hasEl, hasFld] using h

theorem hasEl_map_of_not_hasFld {fs : List Fld} {f : Fld} (h : hasFld fs f = false) (i j : Nat) :
    hasEl (fs.map (fun f => (f, i))) f j = false := by
  simp only [hasFld, List.any_eq_false, beq_iff_eq] at h
  simp only [hasEl, List.any_map, List.any_eq_false]
  intro g hg
  simp [h g hg]

/-- A write of a listed field at the index of the list keeps the frame. -/
theorem within_put_map {e : Dev} {fs : List Fld} {f : Fld} {v i : Nat} (hf : f.id < 2048) (h : hasFld fs f = true) :
    Within L d (e.put f v i) (fs.map (fun f => (f, i))) ↔ Within L d e (fs.map (fun f => (f, i))) :=
  within_put_at f v i hf (hasEl_map_of_hasFld h i)

/-! Reading after counting and raising. -/

/-- A saturating count stops at the greatest value of its field. -/
@[simp] theorem Dev.get_bump_same (d : Dev) (f : Fld) (i n : Nat) :
    (d.bump f i n).get f i = min (d.get f i + n) (2 ^ f.width - 1) := by
  have hpos : 0 < 2 ^ f.width := Nat.two_pow_pos _
  rw [Dev.bump, Dev.get_put_same, satAdd, Nat.mod_eq_of_lt (by omega)]

@[simp] theorem Dev.get_bump_other (d : Dev) (f g : Fld) (i j n : Nat) (hf : f.id < 2048) (hg : g.id < 2048) (h : f.id ≠ g.id) :
    (d.bump f i n).get g j = d.get g j := Dev.get_put_other d f g _ i j hf hg h

@[simp] theorem Dev.get_flag_other (d : Dev) (f g : Fld) (b : Bool) (i j : Nat) (hf : f.id < 2048) (hg : g.id < 2048) (h : f.id ≠ g.id) :
    (d.flag f b i).get g j = d.get g j := Dev.get_put_other d f g _ i j hf hg h

@[simp] theorem Dev.get_perf (b ev inst n : Nat) (f : Fld) (i : Nat) (hf : f.id < 2048) (h : hasFld perfFlds f = false) :
    (d.perf b ev inst n).get f i = d.get f i := (perf_within b ev inst n).regs f hf h i rfl

@[simp] theorem Dev.get_raise (t c k det : Nat) (b : Bool) (f : Fld) (i : Nat) (hf : f.id < 2048) (h : hasFld raiseFlds f = false) :
    (d.raise t c k det b).get f i = d.get f i := (raise_within t c k det b).regs f hf h i rfl

/-- A command whose frame is `Within` leaves the last answer as it was. -/
theorem Within.answer_eq {e : Dev} {E : List (Fld × Nat)} (h : Within L d e E) : e.answer = d.answer := by rw [h.rest]

/-! Recording a rejection (R47, R48). -/

/-- A rejection writes its record at its source, and is counted. -/
theorem reject_within (src : Source) (x : Err) (off : Nat) (imp : Bool) :
    Within countFlds d (d.reject src x off imp) (Claim.rejectFlds.map (fun f => (f, srcIx src))) := by
  unfold Dev.reject Dev.sumOne Dev.bump Dev.flag
  simp (disch := decide) [within_put_map]

/-- Whatever is neither a counter nor a part of the record stays. -/
theorem get_reject_other (src : Source) (x : Err) (off : Nat) (imp : Bool) (f : Fld) (i : Nat) (hf : f.id < 2048)
    (hc : hasFld countFlds f = false) (hr : hasFld Claim.rejectFlds f = false) : (d.reject src x off imp).get f i = d.get f i :=
  (reject_within src x off imp).regs f hf hc i (hasEl_map_of_not_hasFld hr _ _)

/-- A rejection leaves the record that R47 and R48 ask for. -/
theorem reject_recorded (s : State) (src : Source) (x : Err) (off : Nat) :
    Claim.Recorded s src x off (s.dev.reject src x off) := by
  refine ⟨?_, ?_, ?_, ?_, ?_, ?_, reject_within src x off false⟩
  -- each of the six reads finds the one write of its field
  all_goals
    unfold Dev.reject Dev.sumOne
    simp (disch := decide) [Fld.width, R.HIF.ERR_VALID, R.HIF.ERR_COUNT, R.HIF.ERR_CODE, R.HIF.ERR_DETAIL, R.HIF.ERR_OFFSET,
      R.HIF.SUM_LAST_ERR]

/-- A rejection takes no STICKY bit back. -/
theorem reject_sticky (src : Source) (x : Err) (off : Nat) (imp : Bool) : StickyKept d (d.reject src x off imp) := by
  intro j b _ hb
  rwa [get_reject_other src x off imp _ j (by decide) (by decide) (by decide)]

/-! A Completer Abort (R38, R354). -/

theorem completerAbort_answer (t : Nat) (fn : Fn) (x : Err) (off : Nat) :
    (d.completerAbort t fn x off).answer = ⟨fnSrc fn, true, []⟩ := (raise_within _ _ _ _ _).answer_eq

/-- The raising of instance 2 leaves the record of the rejection alone. -/
theorem get_completerAbort (t : Nat) (fn : Fn) (x : Err) (off : Nat) (f : Fld) (i : Nat) (hf : f.id < 2048)
    (h : hasFld raiseFlds f = false) :
    (d.completerAbort t fn x off).get f i = (d.reject (fnSrc fn) x off).get f i := by
  unfold Dev.completerAbort
  rw [Dev.get_raise _ _ _ _ _ _ _ hf h, Dev.respond_get]

/-- The error record of the source holds the code and the detail of the abort. -/
theorem completerAbort_err (s : State) (t : Nat) (fn : Fn) (x : Err) (off : Nat) :
    (s.dev.completerAbort t fn x off).get R.HIF.ERR_CODE (srcIx (fnSrc fn)) = x.code % 256 ∧
    (s.dev.completerAbort t fn x off).get R.HIF.ERR_DETAIL (srcIx (fnSrc fn)) = x.detail % 256 := by
  obtain ⟨-, hcode, hdetail, -⟩ := reject_recorded s (fnSrc fn) x off
  rw [get_completerAbort _ _ _ _ _ _ (by decide) (by decide), get_completerAbort _ _ _ _ _ _ (by decide) (by decide)]
  exact ⟨hcode, hdetail⟩

theorem completerAbort_raised (t : Nat) (fn : Fn) (x : Err) (off : Nat) : Raised (d.completerAbort t fn x off) 1 2 :=
  raise_raised _ _ _ _ _ (by decide)

theorem completerAbort_sticky (t : Nat) (fn : Fn) (x : Err) (off : Nat) : StickyKept d (d.completerAbort t fn x off) := by
  have hrespond : StickyKept d ((d.reject (fnSrc fn) x off).respond (fnSrc fn) [] true) := reject_sticky (fnSrc fn) x off false
  exact hrespond.trans (raise_sticky t 1 2 _ false)

/-- Beside its answer a Completer Abort writes the record of its source and what the raising writes. -/
theorem completerAbort_within (t : Nat) (fn : Fn) (x : Err) (off : Nat) :
    Within raiseFlds { d with answer := (d.completerAbort t fn x off).answer } (d.completerAbort t fn x off)
      (Claim.rejectFlds.map (fun f => (f, srcIx (fnSrc fn)))) := by
  rw [completerAbort_answer]
  have hrec := ((reject_within (d := d) (fnSrc fn) x off false).weaken (L := raiseFlds) (by decide) (fun _ h => h)).setAnswer
    ⟨fnSrc fn, true, []⟩
  exact hrec.trans ((raise_within _ _ _ _ _).mono (by decide))

/-- INTERCONNECT_TIMEOUT of an access that reaches a window (R38, R355). -/
theorem exec_interconnectTimeout {s : State} {fn : Fn} {off : BitVec 22} {w o : Nat} (hup : s.dev.hostUp (fnSrc fn) = true)
    (hw : winOf off.toNat = some (w, o)) :
    exec (.interconnectTimeout fn off) s =
      s.onDev fun d => ((d.raise s.clk.ns 15 5 w).completerAbort s.clk.ns fn (eInternal w) off.toNat).settle s.clk.ns := by
  simp [exec, execInterconnectTimeout, hw, hup]

/-- COMPLETION_TIMEOUT of an access that reaches the module (R38). -/
theorem exec_completionTimeout {s : State} {fn : Fn} {off : BitVec 22} (hup : s.dev.hostUp (fnSrc fn) = true) :
    exec (.completionTimeout fn off) s =
      s.onDev fun d => (d.completerAbort s.clk.ns fn (eTimeout 3) off.toNat).settle s.clk.ns := by
  simp [exec, execCompletionTimeout, hup]

/-- The directory indices of the windows (R42) fit into the detail of an error. -/
theorem winOf_index_lt {a w o : Nat} (h : winOf a = some (w, o)) : w < 19 := by
  have hall : ∀ x ∈ windows, x.1 < 19 := by decide
  simp only [winOf, Option.map_eq_some_iff, Prod.mk.injEq] at h
  obtain ⟨x, hx, rfl, -⟩ := h
  exact hall x (List.mem_of_find?_eq_some hx)

theorem interconnectTimeout_aborts {s : State} {fn : Fn} {off : BitVec 22} {w o : Nat} (hup : s.dev.hostUp (fnSrc fn) = true)
    (hw : winOf off.toNat = some (w, o)) : Does (.interconnectTimeout fn off) s fun d =>
      d.answer = ⟨fnSrc fn, true, []⟩ ∧ d.get R.HIF.ERR_CODE (srcIx (fnSrc fn)) = 15 ∧ d.get R.HIF.ERR_DETAIL (srcIx (fnSrc fn)) = w ∧
      Raised d 15 5 ∧ Raised d 1 2 ∧
      Within raiseFlds { s.dev with answer := d.answer } d (Claim.rejectFlds.map (fun f => (f, srcIx (fnSrc fn)))) := by
  obtain ⟨hcode, hdetail⟩ :=
    completerAbort_err { s with dev := s.dev.raise s.clk.ns 15 5 w } s.clk.ns fn (eInternal w) off.toNat
  have hw8 : w % 256 = w := Nat.mod_eq_of_lt (by have := winOf_index_lt hw; omega)
  exact ⟨_, exec_interconnectTimeout hup hw, completerAbort_answer _ _ _ _, hcode, hdetail.trans hw8,
    (completerAbort_sticky _ _ _ _).raised (raise_raised _ _ _ _ _ (by decide)), completerAbort_raised _ _ _ _,
    (((raise_within _ _ _ _ _).mono (by decide)).setAnswer _).trans (completerAbort_within _ _ _ _)⟩

theorem completionTimeout_aborts {s : State} {fn : Fn} (off : BitVec 22) (hup : s.dev.hostUp (fnSrc fn) = true) :
    Does (.completionTimeout fn off) s fun d =>
      d.answer = ⟨fnSrc fn, true, []⟩ ∧ d.get R.HIF.ERR_CODE (srcIx (fnSrc fn)) = 13 ∧ d.get R.HIF.ERR_DETAIL (srcIx (fnSrc fn)) = 3 ∧
      Raised d 1 2 ∧ Within raiseFlds { s.dev with answer := d.answer } d (Claim.rejectFlds.map (fun f => (f, srcIx (fnSrc fn)))) := by
  obtain ⟨hcode, hdetail⟩ := completerAbort_err s s.clk.ns fn (eTimeout 3) off.toNat
  exact ⟨_, exec_completionTimeout hup, completerAbort_answer _ _ _ _, hcode, hdetail, completerAbort_raised _ _ _ _,
    completerAbort_within _ _ _ _⟩

/-! BAR2 (R40). -/

/-- A read of whole words inside the bank breaks no rule of R40. -/
theorem bar2Errs_eq_nil {off len : Nat} (hoff : off % 4 = 0) (hlen : len % 4 = 0) (hpos : 0 < len) (hmax : len ≤ 512)
    (hend : off + len ≤ 2 ^ 18) : bar2Errs off len = [] := by
  have htail : (off + len) % 4 = 0 := by omega
  have hbank : off + len ≤ 262144 := hend
  simp [bar2Errs, errIf, hoff, htail, Nat.ne_of_gt hpos, hmax, hbank]

/-- Counting a read and the bytes it carries (R497, R501) is all that PERF sees of it. -/
theorem perf_carryPcie_within (b ev inst n : Nat) (src : Source) (port m : Nat) :
    Within countFlds d ((d.perf b ev inst n).carryPcie src port m) := by
  unfold Dev.carryPcie
  split <;> simp (disch := decide)

/-- BAR2_READ that R40 accepts. -/
theorem exec_bar2Read {s : State} {fn : Fn} {off len : Nat} (hup : s.dev.hostUp (fnSrc fn) = true)
    (hok : bar2Errs off len = []) : exec (.bar2Read fn off len) s = s.onDev fun d =>
      ((d.perf 9 3 (srcIx (fnSrc fn)) ((len + 15) / 16)).carryPcie (fnSrc fn) 28 len).respond (fnSrc fn)
        ((List.range ((off % 4 + len + 3) / 4)).map
          (fun i => d.visible.word (fn = .pf0 || d.is R.PERF.PERF_USER_EN) (off + 4 * i))) := by
  simp [exec, execBar2Read, hup, hok, firstErr_nil]

theorem exec_bar2Write {s : State} {fn : Fn} {off : BitVec 18} (hup : s.dev.hostUp (fnSrc fn) = true) :
    exec (.bar2Write fn off) s = s.onDev fun d => d.reject (fnSrc fn) (if fn = .pf1 then ePriv 1 else eRange) off.toNat := by
  simp [exec, execBar2Write, hup]

theorem bar2Read_visible {s : State} {fn : Fn} (hup : s.dev.hostUp (fnSrc fn) = true) {off len : Nat} (hoff : off % 4 = 0)
    (hlen : len % 4 = 0) (hpos : 0 < len) (hmax : len ≤ 512) (hend : off + len ≤ 2 ^ 18) : Gives (.bar2Read fn off len) s fun t =>
      t.dev.answer = ⟨fnSrc fn, false,
        (List.range (len / 4)).map (fun i => s.dev.visible.word (fn = .pf0 || s.dev.is R.PERF.PERF_USER_EN) (off + 4 * i))⟩ ∧
      Frame countFlds { s with dev := { s.dev with answer := t.dev.answer } } t := by
  have hwords : (off % 4 + len + 3) / 4 = len / 4 := by omega
  refine ⟨_, exec_bar2Read hup (bar2Errs_eq_nil hoff hlen hpos hmax hend), ?_, ?_, rfl, rfl, rfl⟩
  · rw [hwords]; rfl
  · exact (perf_carryPcie_within 9 3 _ _ (fnSrc fn) 28 len).setAnswer _

theorem bar2Write_rejected {s : State} {fn : Fn} (hup : s.dev.hostUp (fnSrc fn) = true) (off : BitVec 18) :
    Gives (.bar2Write fn off) s fun t =>
      Claim.Recorded s (fnSrc fn) (if fn = .pf1 then ⟨8, 1⟩ else ⟨1, 0xFF⟩) off.toNat t.dev ∧
      t.clk = s.clk ∧ t.otp = s.otp ∧ t.pending = s.pending :=
  ⟨_, exec_bar2Write hup, reject_recorded s (fnSrc fn) _ off.toNat, rfl, rfl, rfl⟩

/-- Settles O14: a BAR2 read is answered from the visible bank and counted alone, a BAR2 write leaves the record of its rejection, and
a Completer Abort records its code beside what the raisings write. -/
theorem banksAndAborts : Obligations.BanksAndAborts :=
  ⟨fun _ _ hup => ⟨fun _ _ => bar2Read_visible hup, bar2Write_rejected hup⟩,
    fun _ _ off _ _ hup => ⟨interconnectTimeout_aborts hup, completionTimeout_aborts off hup⟩⟩

end Sys2Proof.Machine
end

section
/-! PROOFS. Registers that a part of a command keeps, what one step of a fold establishes, and the bits of a bit map. -/
namespace Sys2Proof.Machine
variable {L M : List Fld} {d e : Dev}

/-- Between two states of the module no register outside a list differs; the records may. -/
def RegsKept (L : List Fld) (d e : Dev) : Prop := ∀ f : Fld, f.id < 2048 → hasFld L f = false → ∀ i, e.get f i = d.get f i

theorem Within.regsKept (h : Within L d e) : RegsKept L d e := fun f hf hL i => h.regs f hf hL i rfl

theorem RegsKept.refl (d : Dev) : RegsKept L d d := fun _ _ _ _ => rfl

theorem RegsKept.trans {a b c : Dev} (h : RegsKept L a b) (k : RegsKept L b c) : RegsKept L a c :=
  fun f hf hL i => (k f hf hL i).trans (h f hf hL i)

theorem RegsKept.mono (h : RegsKept M d e) (hs : subFlds M L = true) : RegsKept L d e := by
  intro f hf hL i
  refine h f hf ?_ i
  cases hM : hasFld M f with
  | false => rfl
  | true => rw [hasFld_of_sub hs hM] at hL; exact absurd hL (by decide)

theorem RegsKept.get (h : RegsKept L d e) {f : Fld} (hf : f.id < 2048) (hL : hasFld L f = false) (i : Nat) : e.get f i = d.get f i :=
  h f hf hL i

/-- The windows of a list hold none of the fields of a list, but for what a raising writes. -/
def apart (W : List Nat) (L : List Fld) : Bool :=
  W.all (fun w => (winFields w).all (fun f => f.id < 2048 && (hasFld raiseFlds f || !hasFld L f)))

theorem RegsKept.untouched {W : List Nat} (h : RegsKept L d e) (hW : apart W L = true) : Claim.Untouched W d e := by
  intro w hw f hf hr i
  simp only [apart, List.all_eq_true, Bool.and_eq_true, decide_eq_true_eq, Bool.or_eq_true, Bool.not_eq_true'] at hW
  obtain ⟨hid, hout⟩ := hW w hw f hf
  exact h f hid (hout.resolve_left (by simp [hr])) i

/-- What the step of one element establishes under an invariant, and the steps of the others keep, holds after the fold. -/
theorem foldl_establishes {α : Type} {g : Dev → α → Dev} {I Q : Dev → Prop} {x : α} (l : List α) (hx : x ∈ l)
    (hI : ∀ e, ∀ y ∈ l, I e → I (g e y)) (hest : ∀ e, I e → Q (g e x)) (hkeep : ∀ e, ∀ y ∈ l, y ≠ x → I e → Q e → Q (g e y))
    (h : I d) : Q (l.foldl g d) := by
  have hstep : ∀ e, ∀ y ∈ l, I e → Q e → Q (g e y) := by
    intro e y hy he hQ
    by_cases hyx : y = x
    · exact hyx ▸ hest e he
    · exact hkeep e y hy hyx he hQ
  obtain ⟨l₁, l₂, rfl⟩ := List.append_of_mem hx
  have hbefore : I (l₁.foldl g d) :=
    List.foldlRecOn l₁ g h (fun e he y hy => hI e y (by simp [hy]) he)
  have hhere : I (g (l₁.foldl g d) x) ∧ Q (g (l₁.foldl g d) x) := ⟨hI _ x (by simp) hbefore, hest _ hbefore⟩
  rw [List.foldl_append, List.foldl_cons]
  exact (List.foldlRecOn (motive := fun e => I e ∧ Q e) l₂ g hhere
    (fun e he y hy => ⟨hI e y (by simp [hy]) he.1, hstep e y (by simp [hy]) he.1 he.2⟩)).2

/-! The slots of a string. -/

theorem mem_insertBy {α : Type} {key : α → Nat} {a x : α} {l : List α} : x ∈ insertBy key a l ↔ x = a ∨ x ∈ l := by
  induction l with
  | nil => simp [insertBy]
  | cons b l ih =>
    unfold insertBy
    split
    · simp
    · simp [ih, or_left_comm]

theorem mem_sortBy {α : Type} {key : α → Nat} {x : α} {l : List α} : x ∈ sortBy key l ↔ x ∈ l := by
  have h : ∀ (l acc : List α), x ∈ l.foldl (fun acc a => insertBy key a acc) acc ↔ x ∈ l ∨ x ∈ acc := by
    intro l
    induction l with
    | nil => simp
    | cons a l ih =>
      intro acc
      simp [ih, mem_insertBy, or_left_comm, or_assoc]
  simp [sortBy, h]

theorem lt_of_mem_strSlots {s c : Nat} (h : c ∈ d.strSlots s) : c < 144 := by
  simp only [Dev.strSlots, mem_sortBy, List.mem_filter, List.mem_range] at h
  exact h.1

/-! Clearing a bit. -/

theorem bitOf_sub (i v j : Nat) (h : bitOf v i = 1) : bitOf (v - 2 ^ i) j = if j = i then 0 else bitOf v j := by
  have hle : 2 ^ i ≤ v := by
    refine Nat.le_of_not_lt fun hlt => ?_
    rw [bitOf, Nat.shiftRight_eq_div_pow, Nat.div_eq_of_lt hlt] at h
    exact absurd h (by decide)
  have hclear : bitOf (v - 2 ^ i) i = 0 := by
    have hdiv : v / 2 ^ i = (v - 2 ^ i) / 2 ^ i + 1 := by
      rw [← Nat.add_div_right _ (Nat.two_pow_pos i), Nat.sub_add_cancel hle]
    simp only [bitOf, Nat.shiftRight_eq_div_pow] at h ⊢
    omega
  have hadd := bitOf_add i (v - 2 ^ i) j hclear
  rw [Nat.sub_add_cancel hle] at hadd
  split
  · next hj => rw [hj, hclear]
  · next hj => rw [hadd, if_neg hj]

theorem bitOf_setBit_false (v i j : Nat) : bitOf (setBit v i false) j = if j = i then 0 else bitOf v j := by
  unfold setBit
  by_cases h : bitOf v i = 0
  · by_cases hj : j = i <;> simp [h, hj]
  · have h1 : bitOf v i = 1 := by have : bitOf v i < 2 := Nat.mod_lt _ (by decide); omega
    simp [h1, bitOf_sub]

/-- Of a bit-map field, setting one bit leaves the others. -/
theorem setBitOf_bit_other (f : Fld) {k j : Nat} (b : Bool) (i : Nat) (hj : j < f.width) (h : j ≠ k) :
    bitOf ((d.setBitOf f k b i).get f i) j = bitOf (d.get f i) j := by
  rw [Dev.setBitOf, Dev.get_put_same, bitOf_mod _ _ _ hj]
  cases b with
  | true => rw [bitOf_setBit, if_neg h]
  | false => rw [bitOf_setBit_false, if_neg h]

theorem setBitOf_bit_cleared (f : Fld) {k : Nat} (i : Nat) (hk : k < f.width) : bitOf ((d.setBitOf f k false i).get f i) k = 0 := by
  rw [Dev.setBitOf, Dev.get_put_same, bitOf_mod _ _ _ hk, bitOf_setBit_false, if_pos rfl]

end Sys2Proof.Machine
end

section
/-! PROOFS. Pass A of the Calender (09_calender_balancing.md): the sort gives the mean and the freshness, and the rest of the pass keeps them. -/
namespace Sys2Proof.Machine
variable {L : List Fld} {d e : Dev}

/-- What the sort of a string writes (R247, R248). -/
def sortFlds : List Fld :=
  [R.CAL.SLOT_E, R.CAL.SLOT_STALE, R.CAL.SLOT_RANK, R.CAL.STR_VMEAN, R.CAL.STR_SPREAD, R.CAL.STR_MIN_POS, R.CAL.STR_MAX_POS, I.CAL.BAL_N]

/-- What pass A writes beside the sort: the spread (R260), the current (R250), the filtered mean (R254), the runs within the band
(R233) and the inter-string term (R255, R256). -/
def stringFlds : List Fld :=
  raiseFlds ++ [R.CAL.STR_SPREAD_RUN, I.CAL.SPREAD_RAISED, R.CAL.SPREAD_ALM, R.CAL.STR_I_STR, R.CAL.STR_CUR_DIR, R.CAL.NO_CUR, R.CAL.DEADBAND] ++
  [R.CAL.STR_VMEANF, I.CAL.VF_SET, R.MOD.SLOT_IN_BAND, R.CAL.VM_ALL, R.CAL.STR_ES, R.CAL.INTER_OUT, R.CAL.INTER_SAT, R.CAL.INTER_SAT_CNT]

/-- The error and the staleness of one cell of the string. -/
def Dev.sortCell (bal : List Nat) (vm : Nat) (d : Dev) (c : Nat) : Dev :=
  let inIt : Bool := bal.contains c || d.role c = rolePark
  (d.put R.CAL.SLOT_E (if inIt && vm != 0 then b32.sub (voltsOf b32 (d.vcap c)) vm else 0) c).flag R.CAL.SLOT_STALE (!d.fresh c) c

/-- The error and the staleness of every cell of string s. -/
def Dev.sortCells (d : Dev) (s : Nat) : Dev := (d.strSlots s).foldl (Dev.sortCell (d.balanceSet s) (d.vmean s)) d

/-- The ranks of sorted cells. -/
def Dev.rankCells (d : Dev) (l : List Nat) : Dev := l.zipIdx.foldl (fun d p => d.put R.CAL.SLOT_RANK p.2 p.1) d

theorem passASort_eq (s : Nat) : d.passASort s =
    (((((((d.sortCells s).rankCells (sortBy d.vcap (d.balanceSet s))).put R.CAL.STR_VMEAN (d.vmean s) s).put R.CAL.STR_SPREAD
      ((d.extremes (d.balanceSet s)).2.2.1 - (d.extremes (d.balanceSet s)).1) s).put R.CAL.STR_MIN_POS
      (d.extremes (d.balanceSet s)).2.1 s).put R.CAL.STR_MAX_POS (d.extremes (d.balanceSet s)).2.2.2 s).put I.CAL.BAL_N
      (d.balanceSet s).length s) := rfl

theorem sortCell_within (bal : List Nat) (vm c : Nat) : Within sortFlds d (Dev.sortCell bal vm d c) := by
  unfold Dev.sortCell; simp (disch := decide)

theorem rankCells_within (l : List Nat) : Within [R.CAL.SLOT_RANK] d (d.rankCells l) :=
  Within.of_foldl _ (fun e (p : Nat × Nat) => Within.of_put e R.CAL.SLOT_RANK p.2 p.1 (by decide) (by decide)) _ d

theorem passASort_within (s : Nat) : Within sortFlds d (d.passASort s) := by
  have hcells : Within sortFlds d (d.sortCells s) := Within.of_foldl _ (fun e c => sortCell_within _ _ c) _ d
  rw [passASort_eq]
  simp (disch := decide) [((rankCells_within _).mono (L := sortFlds) (by decide)).iff, hcells]

theorem passASort_vmean (s : Nat) : (d.passASort s).get R.CAL.STR_VMEAN s = d.vmean s % 2 ^ 32 := by
  rw [passASort_eq]
  simp (disch := decide) [Fld.width, R.CAL.STR_VMEAN]

theorem fresh_of_regsKept (h : RegsKept L d e) (hL : hasFld L I.CELL.GOT = false) (hL' : hasFld L I.CELL.UNMEAS = false) (c : Nat) :
    e.fresh c = d.fresh c := by
  simp only [Dev.fresh, Dev.is, h.get (f := I.CELL.GOT) (by decide) hL, h.get (f := I.CELL.UNMEAS) (by decide) hL']

theorem sortCell_stale_same (bal : List Nat) (vm c : Nat) :
    (Dev.sortCell bal vm d c).get R.CAL.SLOT_STALE c = (!d.fresh c).toNat := by
  rw [Dev.sortCell, Dev.flag, Dev.get_put_same]
  cases d.fresh c <;> rfl

theorem sortCell_stale_other {bal : List Nat} {vm c y : Nat} (hc : c < 144) (hy : y < 144) (h : y ≠ c) :
    (Dev.sortCell bal vm d y).get R.CAL.SLOT_STALE c = d.get R.CAL.SLOT_STALE c := by
  rw [Dev.sortCell, Dev.flag, Dev.get_put_ne _ _ _ _ _ _ (by decide) (by decide) (.inr (by omega)),
    Dev.get_put_other _ _ _ _ _ _ (by decide) (by decide) (by decide)]

theorem sortCells_stale {s c : Nat} (hc : c ∈ d.strSlots s) : (d.sortCells s).get R.CAL.SLOT_STALE c = (!d.fresh c).toNat := by
  refine foldl_establishes (I := RegsKept sortFlds d) (Q := fun e => e.get R.CAL.SLOT_STALE c = (!d.fresh c).toNat) _ hc
    (fun e y _ he => he.trans (sortCell_within _ _ y).regsKept) ?_ ?_ (RegsKept.refl d)
  · intro e he
    rw [sortCell_stale_same, fresh_of_regsKept he (by decide) (by decide)]
  · intro e y hy hyc he hQ
    rw [sortCell_stale_other (lt_of_mem_strSlots hc) (lt_of_mem_strSlots hy) hyc, hQ]

theorem passASort_stale {s c : Nat} (hc : c ∈ d.strSlots s) : (d.passASort s).get R.CAL.SLOT_STALE c = (!d.fresh c).toNat := by
  have hrank : ∀ l, ((d.sortCells s).rankCells l).get R.CAL.SLOT_STALE c = (d.sortCells s).get R.CAL.SLOT_STALE c := fun l =>
    (rankCells_within l).regsKept.get (by decide) (by decide) c
  rw [passASort_eq]
  simp (disch := decide) [hrank, sortCells_stale hc]

/-! The rest of pass A. -/

theorem passASpread_within (s : Nat) : Within stringFlds d (d.passASpread s) := by
  unfold Dev.passASpread; simp (disch := decide)
theorem passACurrent_within (t s : Nat) : Within stringFlds d (d.passACurrent t s) := by
  unfold Dev.passACurrent; simp (disch := decide)
theorem passAFilter_within (s : Nat) : Within stringFlds d (d.passAFilter s) := by
  unfold Dev.passAFilter; simp (disch := decide)
theorem bandRuns_within (s : Nat) : Within stringFlds d (d.bandRuns s) :=
  Within.of_foldl _ (fun e c => by simp (disch := decide)) _ d
theorem stringErrors_within : Within stringFlds d d.stringErrors := by
  unfold Dev.stringErrors
  exact (Within.of_put d R.CAL.VM_ALL _ _ (by decide) (by decide)).trans
    (Within.of_foldl _ (fun e s => Within.of_put e R.CAL.STR_ES _ s (by decide) (by decide)) _ _)
theorem interString_within (t : Nat) : Within stringFlds d (d.interString t) := by
  unfold Dev.interString; simp (disch := decide)

/-- What pass A of a string does after the sort: it marks the string done, and writes what follows from the sort. -/
theorem passA_afterSort (t s : Nat) :
    ∃ d1, Within stringFlds (d.passASort s) d1 ∧ Within stringFlds (d1.put I.CAL.DONE 1 s) (d.passA t s) := by
  refine ⟨_, (((passASpread_within s).trans (passACurrent_within t s)).trans (passAFilter_within s)).trans (bandRuns_within s), ?_⟩
  unfold Dev.passA
  dsimp only
  split
  · exact stringErrors_within.trans (interString_within t)
  · exact Within.refl _

theorem passA_done (t s : Nat) : (d.passA t s).get I.CAL.DONE s = 1 := by
  obtain ⟨d1, -, hend⟩ := passA_afterSort (d := d) t s
  rw [hend.regsKept.get (by decide) (by decide), Dev.get_put_same]
  rfl

/-- A register that only the sort writes keeps what the sort gives it. -/
theorem passA_get_sorted (t s : Nat) {f : Fld} (hf : f.id < 2048) (hL : hasFld stringFlds f = false) (hdone : I.CAL.DONE.id ≠ f.id) (i : Nat) :
    (d.passA t s).get f i = (d.passASort s).get f i := by
  obtain ⟨d1, hsort, hend⟩ := passA_afterSort (d := d) t s
  rw [hend.regsKept.get hf hL, Dev.get_put_other _ _ _ _ _ _ (by decide) hf hdone, hsort.regsKept.get hf hL]

/-- What pass A of a string writes. -/
def passAFlds : List Fld := stringFlds ++ sortFlds ++ [I.CAL.DONE]

theorem passA_regsKept (t s : Nat) : RegsKept passAFlds d (d.passA t s) := by
  obtain ⟨d1, hsort, hend⟩ := passA_afterSort (d := d) t s
  have hdone : Within passAFlds d1 (d1.put I.CAL.DONE 1 s) := Within.of_put _ _ _ _ (by decide) (by decide)
  exact ((((passASort_within s).mono (by decide)).trans (hsort.mono (by decide))).trans (hdone.trans (hend.mono (by decide)))).regsKept

/-! CALENDER_PASS_A. -/

theorem exec_calenderPassA {st : State} {s : Fin 6} (hex : st.dev.strExists s = true) (hdone : st.dev.is I.CAL.DONE s = false)
    (hin : st.dev.blocksIn s = true) (hmode : st.dev.inMode [.backup, .boot] = false) :
    exec (.calenderPassA s) st = .next { st with dev := (st.dev.passA st.clk.ns s).settle st.clk.ns } := by
  simp [exec, execCalenderPassA, hex, hdone, hin, hmode]

theorem calenderPassA_takesMean {st : State} {s : Fin 6} (hex : st.dev.strExists s = true) (hdone : st.dev.is I.CAL.DONE s = false)
    (hin : st.dev.blocksIn s = true) (hmode : st.dev.inMode [.backup, .boot] = false) :
    Does (.calenderPassA s) st fun d =>
      d.get I.CAL.DONE s = 1 ∧ d.get R.CAL.STR_VMEAN s = st.dev.vmean s % 2 ^ 32 ∧
      (∀ c ∈ st.dev.strSlots s, d.get R.CAL.SLOT_STALE c = (!st.dev.fresh c).toNat) ∧
      Claim.Untouched [wSnap, wStage, wTb, wReam, wMode, wFelt, wCell, wLvd, wAfe, wSafe, wPart] st.dev d := by
  refine ⟨_, exec_calenderPassA hex hdone hin hmode, passA_done _ _, ?_, fun c hc => ?_, (passA_regsKept _ _).untouched (by decide)⟩
  · rw [passA_get_sorted _ _ (by decide) (by decide) (by decide), passASort_vmean]
  · rw [passA_get_sorted _ _ (by decide) (by decide) (by decide), passASort_stale hc]

end Sys2Proof.Machine
end

section
/-! PROOFS. Pass B and the law of a string (R225, R229, R246): what they write, and that they set no other string's bit of LAW_ON and BAL_ON. -/
namespace Sys2Proof.Machine
variable {L : List Fld} {d e : Dev}

/-! Pass B (R251 to R253). -/

/-- What the law of a string writes beside the bits of LAW_ON and BAL_ON. -/
def lawFlds : List Fld :=
  raiseFlds ++ [R.MOD.STR_VREF, R.MOD.STR_VSUM, R.MOD.SAT, R.MOD.STR_SAT_CNT, R.MOD.SLOT_M, R.MOD.STR_LEVEL, R.CAL.OFS_SAT] ++
  [R.CAL.STR_OFS_SAT_CNT, R.CAL.SLOT_DELTA, I.CAL.RAW, R.CAL.SLOT_TEN_LEFT, R.CAL.SLOT_LOCKED, R.CAL.SLOT_ASSIGN, R.CAL.STR_SWITCH_CNT] ++
  [R.CAL.STR_BREAK_CNT, R.CAL.STR_N_IN, R.CAL.STR_NEG]

theorem tenureDown_within (s : Nat) (bal : List Nat) : Within lawFlds d (d.tenureDown s bal) :=
  Within.of_foldl _ (fun e c => by simp (disch := decide)) _ d

theorem assign_within (s g : Nat) (bal sel : List Nat) : Within lawFlds d (d.assign s g bal sel) :=
  Within.of_foldl _ (fun e c => by simp (disch := decide)) _ d

theorem satFrame_within (t s : Nat) (sat : Bool) : Within lawFlds d (d.satFrame t s sat) := by
  unfold Dev.satFrame; simp (disch := decide)

/-- The list of an NLM string ends with its bit of BAL_ON. -/
theorem passBList_parts (s n g : Nat) :
    ∃ d1, Within lawFlds d d1 ∧ d.passBList s n g = d1.setBitOf R.CAL.BAL_ON s true := by
  refine ⟨_, ?_, rfl⟩
  simp (disch := decide) [(assign_within _ _ _ _).iff, tenureDown_within]

theorem rawOffsets_within (bal : List Nat) (raw : Dev → Nat → Nat) :
    Within lawFlds d (bal.foldl (fun d c => if d.is R.CAL.SLOT_STALE c then d else d.put I.CAL.RAW (raw d c) c) d) :=
  Within.of_foldl _ (fun e c => by simp (disch := decide)) _ d

theorem slotDeltas_within (bal : List Nat) (corr : Nat) :
    Within lawFlds d (bal.foldl (fun d c => d.put R.CAL.SLOT_DELTA (b32.sub (d.get I.CAL.RAW c) corr) c) d) :=
  Within.of_foldl _ (fun e c => by simp (disch := decide)) _ d

theorem offsetCounts_within (s n k : Nat) (sat : Bool) :
    Within lawFlds d (((d.perf 2 3 s n).setBitOf R.CAL.OFS_SAT s sat).bump R.CAL.STR_OFS_SAT_CNT s k) := by
  simp (disch := decide)

theorem raiseIf_within {c : Prop} {_ : Decidable c} {t k i det : Nat} : Within lawFlds d (if c then d.raise t k i det else d) := by
  simp (disch := decide)

/-- The offsets of a PSC string set its bit of BAL_ON last, but for the raising of a clamp. -/
theorem passBOffsets_parts (t s : Nat) :
    ∃ d1, Within lawFlds d d1 ∧ Within lawFlds (d1.setBitOf R.CAL.BAL_ON s true) (d.passBOffsets t s) := by
  refine ⟨?offsets, ?before, ?after⟩
  case after => exact raiseIf_within
  case before => exact ((rawOffsets_within _ _).trans (slotDeltas_within _ _)).trans (offsetCounts_within _ _ _ _)

/-! The laws (R225, R229). -/

theorem slotIndices_within (bal : List Nat) (m : Nat → Nat) :
    Within lawFlds d (bal.foldl (fun d c => d.put R.MOD.SLOT_M (m c) c) d) :=
  Within.of_foldl _ (fun e c => Within.of_put e R.MOD.SLOT_M (m c) c (by decide) (by decide)) _ d

theorem pscLaw_parts (t s : Nat) (bal : List Nat) (m : Nat → Nat) (sat : Bool) :
    ∃ d1, Within lawFlds d d1 ∧ Within lawFlds (d1.setBitOf R.CAL.BAL_ON s true)
      ((bal.foldl (fun d c => d.put R.MOD.SLOT_M (m c) c) (d.passBOffsets t s)).satFrame t s sat) := by
  obtain ⟨d1, hbefore, hafter⟩ := passBOffsets_parts (d := d) t s
  exact ⟨d1, hbefore, (hafter.trans (slotIndices_within bal m)).trans (satFrame_within t s sat)⟩

theorem nlmLaw_parts (t s n g : Nat) (lv : Int) (sat : Bool) :
    ∃ d1, Within lawFlds d d1 ∧ Within lawFlds (d1.setBitOf R.CAL.BAL_ON s true)
      (((d.passBList s n g).putInt R.MOD.STR_LEVEL lv s).satFrame t s sat) := by
  obtain ⟨d1, hbefore, hlist⟩ := passBList_parts (d := d) s n g
  rw [hlist]
  exact ⟨d1, hbefore, (Within.of_put _ R.MOD.STR_LEVEL _ _ (by decide) (by decide)).trans (satFrame_within t s sat)⟩

/-- The law of a string sets its bit of LAW_ON, and may go on to set its bit of BAL_ON. -/
theorem lawString_parts (t s : Nat) :
    ∃ d1 b, Within lawFlds d d1 ∧ (Within lawFlds (d1.setBitOf R.MOD.LAW_ON s b) (d.lawString t s) ∨
      ∃ d2, Within lawFlds (d1.setBitOf R.MOD.LAW_ON s b) d2 ∧ Within lawFlds (d2.setBitOf R.CAL.BAL_ON s true) (d.lawString t s)) := by
  refine ⟨(d.put R.MOD.STR_VREF (d.get I.CE.VSTAR s) s).put R.MOD.STR_VSUM (voltsOf b32 (d.vsumRaw s)) s, !(d.balanceSet s).isEmpty,
    by simp (disch := decide), ?_⟩
  unfold Dev.lawString
  dsimp only
  generalize ((d.put R.MOD.STR_VREF (d.get I.CE.VSTAR s) s).put R.MOD.STR_VSUM (voltsOf b32 (d.vsumRaw s)) s).setBitOf R.MOD.LAW_ON s
    (!(d.balanceSet s).isEmpty) = d1
  have hperf : Within lawFlds d1 (d1.perf 2 4 s) := by simp (disch := decide)
  split
  · exact .inl (Within.refl d1)
  split
  · exact .inl (by simp (disch := decide))
  split
  · obtain ⟨d2, hbefore, hafter⟩ := pscLaw_parts (d := d1.perf 2 4 s) t s _ _ _
    exact .inr ⟨d2, hperf.trans hbefore, hafter⟩
  · obtain ⟨d2, hbefore, hafter⟩ := nlmLaw_parts (d := d1.perf 2 4 s) t s _ _ _ _
    exact .inr ⟨d2, hperf.trans hbefore, hafter⟩

/-- A string under no law loses its bits of LAW_ON and BAL_ON. -/
theorem noLaw_parts (s : Nat) : ∃ d1, Within lawFlds (d.setBitOf R.MOD.LAW_ON s false) d1 ∧
    Within lawFlds (d1.setBitOf R.CAL.BAL_ON s false) (d.noLaw s) :=
  ⟨_, Within.of_put _ R.MOD.SAT _ _ (by decide) (by decide), Within.of_put _ R.CAL.OFS_SAT _ _ (by decide) (by decide)⟩

/-! The bits of the strings. -/

/-- Of two states of the module, LAW_ON and BAL_ON agree on string s. -/
def LawBitsKept (s : Nat) (d e : Dev) : Prop :=
  bitOf (e.get R.MOD.LAW_ON) s = bitOf (d.get R.MOD.LAW_ON) s ∧ bitOf (e.get R.CAL.BAL_ON) s = bitOf (d.get R.CAL.BAL_ON) s

theorem LawBitsKept.trans {s : Nat} {a b c : Dev} (h : LawBitsKept s a b) (k : LawBitsKept s b c) : LawBitsKept s a c :=
  ⟨k.1.trans h.1, k.2.trans h.2⟩

theorem RegsKept.lawBitsKept (h : RegsKept L d e) (hlaw : hasFld L R.MOD.LAW_ON = false) (hbal : hasFld L R.CAL.BAL_ON = false) (s : Nat) :
    LawBitsKept s d e := by
  unfold LawBitsKept
  rw [h.get (by decide) hlaw, h.get (by decide) hbal]
  exact ⟨rfl, rfl⟩

theorem Within.lawBitsKept (h : Within lawFlds d e) (s : Nat) : LawBitsKept s d e :=
  h.regsKept.lawBitsKept (by decide) (by decide) s

theorem lawOn_bit_kept {s k : Nat} (b : Bool) (hs : s < 6) (h : s ≠ k) : LawBitsKept s d (d.setBitOf R.MOD.LAW_ON k b) :=
  ⟨setBitOf_bit_other R.MOD.LAW_ON b 0 hs h, by
    rw [Dev.setBitOf, Dev.get_put_other _ _ _ _ _ _ (by decide) (by decide) (by decide)]⟩

theorem balOn_bit_kept {s k : Nat} (b : Bool) (hs : s < 6) (h : s ≠ k) : LawBitsKept s d (d.setBitOf R.CAL.BAL_ON k b) :=
  ⟨by rw [Dev.setBitOf, Dev.get_put_other _ _ _ _ _ _ (by decide) (by decide) (by decide)],
    setBitOf_bit_other R.CAL.BAL_ON b 0 hs h⟩

theorem lawString_otherBits {t s k : Nat} (hs : s < 6) (h : s ≠ k) : LawBitsKept s d (d.lawString t k) := by
  obtain ⟨d1, b, hstart, hend | ⟨d2, hmid, hend⟩⟩ := lawString_parts (d := d) t k
  · exact ((hstart.lawBitsKept s).trans (lawOn_bit_kept b hs h)).trans (hend.lawBitsKept s)
  · have hlaw := (hstart.lawBitsKept s).trans (lawOn_bit_kept b hs h)
    have hbal := (hmid.lawBitsKept s).trans (balOn_bit_kept true hs h)
    exact (hlaw.trans hbal).trans (hend.lawBitsKept s)

theorem noLaw_otherBits {s k : Nat} (hs : s < 6) (h : s ≠ k) : LawBitsKept s d (d.noLaw k) := by
  obtain ⟨d1, hmid, hend⟩ := noLaw_parts (d := d) k
  exact (lawOn_bit_kept false hs h).trans (((hmid.lawBitsKept s).trans (balOn_bit_kept false hs h)).trans (hend.lawBitsKept s))

theorem noLaw_ownBits {s : Nat} (hs : s < 6) : bitOf ((d.noLaw s).get R.MOD.LAW_ON) s = 0 ∧ bitOf ((d.noLaw s).get R.CAL.BAL_ON) s = 0 := by
  obtain ⟨d1, hmid, hend⟩ := noLaw_parts (d := d) s
  have hlaw : bitOf (d1.get R.MOD.LAW_ON) s = 0 := (hmid.lawBitsKept s).1.trans (setBitOf_bit_cleared R.MOD.LAW_ON 0 hs)
  refine ⟨(hend.lawBitsKept s).1.trans ?_, (hend.lawBitsKept s).2.trans (setBitOf_bit_cleared R.CAL.BAL_ON 0 hs)⟩
  rw [Dev.setBitOf, Dev.get_put_other _ _ _ _ _ _ (by decide) (by decide) (by decide), hlaw]

end Sys2Proof.Machine
end

section
/-! PROOFS. The conditions under which the modulator's build acts, which none of its writes changes. -/
namespace Sys2Proof.Machine
variable {L : List Fld} {d e : Dev}

/-- The registers that the conditions of the build read. -/
def condFlds : List Fld :=
  [R.MODE.STATE, R.PART.PARTNER_MODE, I.MODE.DUE_RAMP, I.MOD.STR_MASK, I.CELL.USED, R.CELL.LINK_KIND, R.CELL.LINK, I.FELT.STOPPED] ++
  [R.TB.PLL_T_LOCK, R.FELT.RING_STATE, R.FELT.LF_STATE, I.PART.HAND, R.TB.FRAME_NO_LIVE, I.PART.H_FRAME]

/-- Two states of the module agree on the conditions of the build. -/
def SameCond (d e : Dev) : Prop := ∀ f ∈ condFlds, ∀ i, e.get f i = d.get f i

theorem SameCond.refl (d : Dev) : SameCond d d := fun _ _ _ => rfl

theorem SameCond.trans {a b c : Dev} (h : SameCond a b) (k : SameCond b c) : SameCond a c :=
  fun f hf i => (k f hf i).trans (h f hf i)

theorem RegsKept.sameCond (h : RegsKept L d e) (hL : condFlds.all (fun f => !hasFld L f) = true) : SameCond d e := by
  intro f hf i
  have hid : condFlds.all (fun f => f.id < 2048) = true := by decide
  simp only [List.all_eq_true, Bool.not_eq_true', decide_eq_true_eq] at hL hid
  exact h f (hid f hf) (hL f hf) i

theorem SameCond.get (h : SameCond d e) {f : Fld} (hf : f ∈ condFlds) (i : Nat) : e.get f i = d.get f i := h f hf i

theorem SameCond.mode (h : SameCond d e) : e.mode = d.mode := by
  simp (disch := decide) only [Dev.mode, h.get]

theorem SameCond.lawOn (h : SameCond d e) : e.lawOn = d.lawOn := by
  simp (disch := decide) only [Dev.lawOn, Dev.lawMode, h.mode, Dev.is, h.get]

theorem SameCond.strExists (h : SameCond d e) (s : Nat) : e.strExists s = d.strExists s := by
  simp (disch := decide) only [Dev.strExists, h.get]

theorem SameCond.cellUsed (h : SameCond d e) (c : Nat) : e.cellUsed c = d.cellUsed c := by
  simp (disch := decide) only [Dev.cellUsed, Dev.is, h.get]

theorem SameCond.cellLink (h : SameCond d e) (c : Nat) : e.cellLink c = d.cellLink c := by
  simp (disch := decide) only [Dev.cellLink, h.get]

theorem SameCond.lastFrame (h : SameCond d e) (hand : Nat) : e.lastFrame hand = d.lastFrame hand := by
  simp (disch := decide) only [Dev.lastFrame, h.get]

theorem SameCond.posts (h : SameCond d e) : e.posts = d.posts := by
  simp only [Dev.posts, h.mode, h.lastFrame]

theorem SameCond.linkPosts (h : SameCond d e) (ix : Nat) : e.linkPosts ix = d.linkPosts ix := by
  simp (disch := decide) only [Dev.linkPosts, Dev.is, h.lastFrame, h.get]

end Sys2Proof.Machine
end

section
/-! PROOFS. MODULATOR_BUILD (R217, R220): the laws, the commands of the cells, the LV edges and the deadline. -/
namespace Sys2Proof.Machine
variable {d e : Dev}

/-- Pass B and the law of string s, where it is posted its law. -/
def Dev.lawStep (t : Nat) (d : Dev) (s : Nat) : Dev := if d.strExists s && d.lawOn then d.lawString t s else d.noLaw s

/-- Pass B and the laws of the six strings. -/
def Dev.buildLaws (d : Dev) (t : Nat) : Dev := (List.range 6).foldl (Dev.lawStep t) d

/-- What the laws write, with the bits of the strings. -/
def lawsFlds : List Fld := R.MOD.LAW_ON :: R.CAL.BAL_ON :: lawFlds

theorem lawString_within (t s : Nat) : Within lawsFlds d (d.lawString t s) := by
  have wider : ∀ {a b : Dev}, Within lawFlds a b → Within lawsFlds a b := fun h => h.mono (by decide)
  have hlaw : ∀ (e : Dev) (b : Bool), Within lawsFlds e (e.setBitOf R.MOD.LAW_ON s b) := fun e b => Within.of_put e _ _ _ (by decide) (by decide)
  have hbal : ∀ (e : Dev) (b : Bool), Within lawsFlds e (e.setBitOf R.CAL.BAL_ON s b) := fun e b => Within.of_put e _ _ _ (by decide) (by decide)
  obtain ⟨d1, b, hstart, hend | ⟨d2, hmid, hend⟩⟩ := lawString_parts (d := d) t s
  · exact ((wider hstart).trans (hlaw d1 b)).trans (wider hend)
  · exact ((wider hstart).trans (hlaw d1 b)).trans (((wider hmid).trans (hbal d2 true)).trans (wider hend))

theorem noLaw_within (s : Nat) : Within lawsFlds d (d.noLaw s) := by
  unfold Dev.noLaw; simp (disch := decide)

theorem lawStep_within (t s : Nat) : Within lawsFlds d (d.lawStep t s) := by
  unfold Dev.lawStep
  split
  · exact lawString_within t s
  · exact noLaw_within s

theorem buildLaws_within (t : Nat) : Within lawsFlds d (d.buildLaws t) := Within.of_foldl _ (fun _ s => lawStep_within t s) _ d

theorem lawStep_otherBits {t s k : Nat} (hs : s < 6) (h : s ≠ k) : LawBitsKept s d (d.lawStep t k) := by
  unfold Dev.lawStep
  split
  · exact lawString_otherBits hs h
  · exact noLaw_otherBits hs h

/-- A string under no law has no bit in LAW_ON and BAL_ON after the laws: no other string's law sets it. -/
theorem buildLaws_noLawBits {t s : Nat} (hs : s < 6) (h : d.strExists s = false ∨ d.lawOn = false) :
    bitOf ((d.buildLaws t).get R.MOD.LAW_ON) s = 0 ∧ bitOf ((d.buildLaws t).get R.CAL.BAL_ON) s = 0 := by
  refine foldl_establishes (I := SameCond d) (Q := fun e => bitOf (e.get R.MOD.LAW_ON) s = 0 ∧ bitOf (e.get R.CAL.BAL_ON) s = 0)
    (List.range 6) (List.mem_range.2 hs) (fun e y _ he => he.trans ((lawStep_within t y).regsKept.sameCond (by decide))) ?_ ?_
    (SameCond.refl d)
  · intro e he
    have hno : (e.strExists s && e.lawOn) = false := by
      rw [he.strExists, he.lawOn, Bool.and_eq_false_iff]; exact h
    rw [Dev.lawStep, hno]
    exact noLaw_ownBits hs
  · intro e y _ hy he hQ
    obtain ⟨hlaw, hbal⟩ := lawStep_otherBits (d := e) (t := t) hs (Ne.symm hy)
    exact ⟨hlaw.trans hQ.1, hbal.trans hQ.2⟩

/-! The command of a slot (R220). -/

/-- What the command of a slot writes before it is posted. -/
def slotFlds : List Fld := raiseFlds ++ [I.MOD.LEG_A, I.MOD.LEG_B, I.MOD.GAP_A, I.MOD.GAP_B, R.MOD.STR_TRIM_CNT, I.CELL.REMOVE]

theorem leaveLegs_within (c a b ga gb : Nat) : Within slotFlds d (d.leaveLegs c a b ga gb) := by
  unfold Dev.leaveLegs; simp (disch := decide)

theorem bothLegs_within (c a b dab f : Nat) : Within slotFlds d (d.bothLegs c a b dab f).1 := leaveLegs_within _ _ _ _ _

theorem edgeCmd_within (t c : Nat) (a b : List Edge) (dab f : Nat) : Within slotFlds d (d.edgeCmd t c a b dab f).1 := by
  unfold Dev.edgeCmd
  dsimp only
  split
  · exact leaveLegs_within _ _ _ _ _
  · exact (bothLegs_within _ _ _ _ _).trans ((raise_within _ _ _ _ _).mono (by decide))

theorem pscCmd_within (t s c m shift dab f : Nat) : Within slotFlds d (d.pscCmd t s c m shift dab f).1 := by
  unfold Dev.pscCmd
  dsimp only
  split
  · exact bothLegs_within _ _ _ _ _
  · refine Within.trans ?_ (edgeCmd_within _ _ _ _ _ _)
    simp (disch := decide)

theorem nlmCmd_within (t c dab f : Nat) : Within slotFlds d (d.nlmCmd t c dab f).1 := edgeCmd_within _ _ _ _ _ _

theorem testCmd_within (t c : Nat) : Within slotFlds d (d.testCmd t c).1 := by
  unfold Dev.testCmd
  dsimp only
  split
  · split
    · exact leaveLegs_within _ _ _ _ _
    · exact bothLegs_within _ _ _ _ _
  · split
    · exact bothLegs_within _ _ _ _ _
    · exact pscCmd_within _ _ _ _ _ _ _
    · exact bothLegs_within _ _ _ _ _
    · exact bothLegs_within _ _ _ _ _

theorem restCmd_within (c : Nat) : Within slotFlds d (d.restCmd c).1 := by
  unfold Dev.restCmd
  dsimp only
  split <;> exact bothLegs_within _ _ _ _ _

theorem slotCmd_within (t c : Nat) : Within slotFlds d (d.slotCmd t c).1 := by
  unfold Dev.slotCmd
  dsimp only
  split
  · exact testCmd_within t c
  split
  · exact leaveLegs_within _ _ _ _ _
  split
  · split
    · exact bothLegs_within _ _ _ _ _
    split
    · exact pscCmd_within _ _ _ _ _ _ _
    · exact nlmCmd_within _ _ _ _
  · exact restCmd_within c

/-! Building and posting a command (R217). -/

/-- What posting writes beside the mark that a command is posted. -/
def postFlds : List Fld :=
  [I.CELL.NEXT_BYP, I.CELL.NEXT_REV, I.CELL.NEXT_CRC_E, I.CELL.NEXT_CRC_W, I.CELL.NEXT_WDR, I.MOD.NSW_NEXT, I.MOD.DAB_NEXT] ++
  [I.PERF.CNT, I.PERF.OVF, I.PERF.BYTES]

theorem post_afterMark (c rev : Nat) (cmd : Cmd) : Within postFlds (d.put I.CELL.NEXT_POSTED 1 c) (d.post c rev cmd) := by
  unfold Dev.post
  simp (disch := decide)

/-- The module after the command of slot c is made and before it is posted. -/
def Dev.cellMade (d : Dev) (t c : Nat) : Dev :=
  (d.slotCmd t c).1.onlyIf (d.cellFenced c && d.role c != roleHeld) (fun d => d.put I.CELL.REMOVE 1 c)

/-- The link of slot c takes a command in this frame (R181, R220). -/
def Dev.cellPosts (d : Dev) (c : Nat) : Bool :=
  match d.cellLink c with
  | some ix => d.linkPosts ix && d.posts
  | none => false

theorem cellPosts_of_link {c ix : Nat} (hlink : d.cellLink c = some ix) (hix : d.linkPosts ix = true) (hposts : d.posts = true) :
    d.cellPosts c = true := by
  simp [Dev.cellPosts, hlink, hix, hposts]

theorem buildCell_eq (t c : Nat) :
    d.buildCell t c = if d.cellPosts c then (d.cellMade t c).post c 0 (d.slotCmd t c).2 else d.cellMade t c := by
  unfold Dev.buildCell Dev.cellPosts
  cases d.cellLink c with
  | none => rfl
  | some ix => rfl

theorem cellMade_within (t c : Nat) : Within slotFlds d (d.cellMade t c) := by
  unfold Dev.cellMade
  refine (slotCmd_within t c).trans ?_
  unfold Dev.onlyIf
  split
  · exact Within.of_put _ _ _ _ (by decide) (by decide)
  · exact Within.refl _

/-- What the build of the cells writes. -/
def cellFlds : List Fld := slotFlds ++ postFlds ++ [I.CELL.NEXT_POSTED]

theorem post_within_cellFlds (c rev : Nat) (cmd : Cmd) : Within cellFlds d (d.post c rev cmd) :=
  (Within.of_put d I.CELL.NEXT_POSTED 1 c (by decide) (by decide)).trans ((post_afterMark c rev cmd).mono (by decide))

theorem buildCell_within (t c : Nat) : Within cellFlds d (d.buildCell t c) := by
  have hmade : Within cellFlds d (d.cellMade t c) := (cellMade_within t c).mono (by decide)
  rw [buildCell_eq]
  split
  · exact hmade.trans (post_within_cellFlds c 0 _)
  · exact hmade

theorem post_posted_same (c rev : Nat) (cmd : Cmd) : (d.post c rev cmd).get I.CELL.NEXT_POSTED c = 1 := by
  rw [(post_afterMark c rev cmd).regsKept.get (by decide) (by decide), Dev.get_put_same]
  rfl

theorem post_posted_other {c k rev : Nat} {cmd : Cmd} (hc : c < 144) (hk : k < 144) (h : k ≠ c) :
    (d.post k rev cmd).get I.CELL.NEXT_POSTED c = d.get I.CELL.NEXT_POSTED c := by
  rw [(post_afterMark k rev cmd).regsKept.get (by decide) (by decide), Dev.get_put_ne _ _ _ _ _ _ (by decide) (by decide) (.inr (by omega))]

theorem buildCell_posted_same {t c : Nat} (h : d.cellPosts c = true) : (d.buildCell t c).get I.CELL.NEXT_POSTED c = 1 := by
  rw [buildCell_eq, if_pos h, post_posted_same]

theorem buildCell_posted_other {t c k : Nat} (hc : c < 144) (hk : k < 144) (h : k ≠ c) :
    (d.buildCell t k).get I.CELL.NEXT_POSTED c = d.get I.CELL.NEXT_POSTED c := by
  have hmade : (d.cellMade t k).get I.CELL.NEXT_POSTED c = d.get I.CELL.NEXT_POSTED c :=
    (cellMade_within t k).regsKept.get (by decide) (by decide) c
  rw [buildCell_eq]
  split
  · rw [post_posted_other hc hk h, hmade]
  · exact hmade

/-- The build of cell c, where it is mapped. -/
def Dev.cellStep (t : Nat) (d : Dev) (c : Nat) : Dev := if d.cellUsed c then d.buildCell t c else d

/-- The commands of the mapped cells. -/
def Dev.buildCells (d : Dev) (t : Nat) : Dev := (List.range 144).foldl (Dev.cellStep t) d

theorem cellStep_within (t c : Nat) : Within cellFlds d (d.cellStep t c) := by
  unfold Dev.cellStep
  split
  · exact buildCell_within t c
  · exact Within.refl d

theorem buildCells_within (t : Nat) : Within cellFlds d (d.buildCells t) := Within.of_foldl _ (fun _ c => cellStep_within t c) _ d

theorem SameCond.cellPosts (h : SameCond d e) (c : Nat) : e.cellPosts c = d.cellPosts c := by
  simp only [Dev.cellPosts, h.cellLink, h.linkPosts, h.posts]

theorem buildCells_posted {t c : Nat} (hc : c < 144) (hused : d.cellUsed c = true) (hposts : d.cellPosts c = true) :
    (d.buildCells t).get I.CELL.NEXT_POSTED c = 1 := by
  refine foldl_establishes (I := SameCond d) (Q := fun e => e.get I.CELL.NEXT_POSTED c = 1) (List.range 144) (List.mem_range.2 hc)
    (fun e k _ he => he.trans ((cellStep_within t k).regsKept.sameCond (by decide))) ?_ ?_ (SameCond.refl d)
  · intro e he
    rw [Dev.cellStep, he.cellUsed, if_pos hused, buildCell_posted_same (by rw [he.cellPosts, hposts])]
  · intro e k hk hkc _ hQ
    unfold Dev.cellStep
    split
    · rw [buildCell_posted_other hc (List.mem_range.1 hk) hkc, hQ]
    · exact hQ

/-! The DAB counts (R239) and the LV edges (R307, R308). -/

theorem dabCounts_within : Within [R.MOD.STR_DSAT_CNT] d d.dabCounts :=
  Within.of_foldl _ (fun e s => Within.of_put e R.MOD.STR_DSAT_CNT _ s (by decide) (by decide)) _ d

/-- What the LV edges write of the registers. -/
def lvBuildFlds : List Fld :=
  [R.LVD.HB_DUTY, R.LVD.HB_TRIM_CNT, R.LVD.LV_SAT_CNT, I.LVD.GRP_ST, I.LVD.GRP_GAP, I.PERF.CNT, I.PERF.OVF]

theorem dutyShown_within (ks : List Nat) (v : Nat) : Within lvBuildFlds d (ks.foldl (fun d k => d.put R.LVD.HB_DUTY v k) d) :=
  Within.of_foldl _ (fun e k => Within.of_put e R.LVD.HB_DUTY v k (by decide) (by decide)) _ d

theorem trimsCounted_within (ks : List Nat) (n : Nat) : Within lvBuildFlds d (ks.foldl (fun d k => d.bump R.LVD.HB_TRIM_CNT k n) d) :=
  Within.of_foldl _ (fun e k => Within.of_put e R.LVD.HB_TRIM_CNT _ k (by decide) (by decide)) _ d

theorem groupLeft_within (g st gap : Nat) : Within lvBuildFlds d ((d.put I.LVD.GRP_ST st g).put I.LVD.GRP_GAP gap g) := by
  simp (disch := decide)

theorem lvGroup_regsKept (g : Nat) : RegsKept lvBuildFlds d (d.lvGroup g).1 := by
  unfold Dev.lvGroup
  dsimp only
  split
  · exact (dutyShown_within _ _).regsKept
  · have hperf : ∀ (e : Dev) (n : Nat), Within lvBuildFlds e (e.perf 4 1 g n) := fun e n => (perf_within _ _ _ _).mono (by decide)
    exact ((((dutyShown_within _ _).trans (groupLeft_within _ _ _)).trans (trimsCounted_within _ _)).trans (hperf _ _)).regsKept

theorem lvBuild_regsKept : RegsKept lvBuildFlds d d.lvBuild := by
  unfold Dev.lvBuild
  dsimp only
  refine RegsKept.trans ?_ (Within.of_put _ R.LVD.LV_SAT_CNT _ _ (by decide) (by decide)).regsKept
  exact List.foldlRecOn (motive := fun (p : Dev × Bool) => RegsKept lvBuildFlds d p.1) d.legGroups _ (RegsKept.refl d)
    (fun p hp g _ => hp.trans (lvGroup_regsKept g))

/-! A build past the deadline (R18). -/

/-- The late build of ring r raised, where its commands are posted (R185). -/
def Dev.lateStep (t : Nat) (d : Dev) (r : Nat) : Dev := if d.linkPosts r && d.posts then d.ringRaise t r 12 else d

/-- The late build raised of every ring. -/
def Dev.buildLate (d : Dev) (t : Nat) : Dev := (List.range 6).foldl (Dev.lateStep t) d

/-- What raising the late build writes. -/
def lateFlds : List Fld := R.FELT.RING_EVENTS :: raiseFlds

theorem lateStep_within (t r : Nat) : Within lateFlds d (d.lateStep t r) := by
  unfold Dev.lateStep Dev.ringRaise; simp (disch := decide)

theorem buildLate_within (t : Nat) : Within lateFlds d (d.buildLate t) := Within.of_foldl _ (fun _ r => lateStep_within t r) _ d

theorem lateStep_sticky (t r : Nat) : StickyKept d (d.lateStep t r) := by
  have hevent : StickyKept d (d.setBitOf R.FELT.RING_EVENTS 12 true r) :=
    (Within.of_put (L := [R.FELT.RING_EVENTS]) d _ _ _ (by decide) (by decide)).sticky (by decide)
  unfold Dev.lateStep
  split
  · exact hevent.trans (raise_sticky _ _ _ _ _)
  · exact StickyKept.refl d

theorem buildLate_raised {t r : Nat} (hr : r < 6) (hlink : d.linkPosts r = true) (hposts : d.posts = true) :
    Raised (d.buildLate t) 4 (16 * r + 12) := by
  refine foldl_establishes (I := SameCond d) (Q := fun e => Raised e 4 (16 * r + 12)) (List.range 6) (List.mem_range.2 hr)
    (fun e k _ he => he.trans ((lateStep_within t k).regsKept.sameCond (by decide))) ?_ (fun e k _ _ _ hQ => (lateStep_sticky t k).raised hQ)
    (SameCond.refl d)
  intro e he
  rw [Dev.lateStep, he.linkPosts, he.posts, hlink, hposts]
  exact raise_raised _ _ _ _ _ (by omega)

/-! MODULATOR_BUILD. -/

/-- The build up to its LV edges. -/
def Dev.buildPosted (d : Dev) (t : Nat) : Dev := (((d.put I.MOD.BUILT 1).buildLaws t).buildCells t).dabCounts.lvBuild

/-- The build of a frame at TB ns t. -/
def Dev.modBuild (d : Dev) (t : Nat) : Dev := if d.deadline < t then (d.buildPosted t).buildLate t else d.buildPosted t

/-- What the build writes after the cells. -/
def finishFlds : List Fld := R.MOD.STR_DSAT_CNT :: lvBuildFlds ++ lateFlds

/-- What the build writes. -/
def buildFlds : List Fld := lawsFlds ++ cellFlds ++ finishFlds

theorem buildPosted_afterCells (t : Nat) :
    RegsKept finishFlds (((d.put I.MOD.BUILT 1).buildLaws t).buildCells t) (d.buildPosted t) :=
  (dabCounts_within.regsKept.mono (by decide)).trans (lvBuild_regsKept.mono (by decide))

theorem modBuild_afterCells (t : Nat) : RegsKept finishFlds (((d.put I.MOD.BUILT 1).buildLaws t).buildCells t) (d.modBuild t) := by
  unfold Dev.modBuild
  split
  · exact (buildPosted_afterCells t).trans ((buildLate_within t).regsKept.mono (by decide))
  · exact buildPosted_afterCells t

theorem modBuild_afterLaws (t : Nat) : RegsKept (cellFlds ++ finishFlds) ((d.put I.MOD.BUILT 1).buildLaws t) (d.modBuild t) :=
  ((buildCells_within t).regsKept.mono (by decide)).trans ((modBuild_afterCells t).mono (by decide))

theorem modBuild_afterMark (t : Nat) : RegsKept buildFlds (d.put I.MOD.BUILT 1) (d.modBuild t) :=
  ((buildLaws_within t).regsKept.mono (by decide)).trans ((modBuild_afterLaws t).mono (by decide))

theorem modBuild_regsKept (t : Nat) : RegsKept (I.MOD.BUILT :: buildFlds) d (d.modBuild t) :=
  (Within.of_put d I.MOD.BUILT 1 0 (by decide) (by decide)).regsKept.trans ((modBuild_afterMark t).mono (by decide))

/-! Until its end the build keeps the conditions under which it acts. -/

theorem sameCond_marked : SameCond d (d.put I.MOD.BUILT 1) :=
  (Within.of_put (L := [I.MOD.BUILT]) d _ _ _ (by decide) (by decide)).regsKept.sameCond (by decide)

theorem buildLaws_sameCond (t : Nat) : SameCond d ((d.put I.MOD.BUILT 1).buildLaws t) :=
  sameCond_marked.trans ((buildLaws_within t).regsKept.sameCond (by decide))

theorem buildPosted_sameCond (t : Nat) : SameCond d (d.buildPosted t) :=
  ((buildLaws_sameCond t).trans ((buildCells_within t).regsKept.sameCond (by decide))).trans
    ((buildPosted_afterCells t).sameCond (by decide))

/-! What the build leaves. -/

theorem modBuild_built (t : Nat) : (d.modBuild t).get I.MOD.BUILT = 1 := by
  rw [(modBuild_afterMark t).get (by decide) (by decide), Dev.get_put_same]
  rfl

theorem modBuild_posted {t c : Nat} (hc : c < 144) (hused : d.cellUsed c = true) (hposts : d.cellPosts c = true) :
    (d.modBuild t).get I.CELL.NEXT_POSTED c = 1 := by
  have hlaws := buildLaws_sameCond (d := d) t
  rw [(modBuild_afterCells t).get (by decide) (by decide)]
  exact buildCells_posted hc (by rw [hlaws.cellUsed, hused]) (by rw [hlaws.cellPosts, hposts])

theorem modBuild_noLawBits {t s : Nat} (hs : s < 6) (h : d.strExists s = false ∨ d.lawOn = false) :
    bitOf ((d.modBuild t).get R.MOD.LAW_ON) s = 0 ∧ bitOf ((d.modBuild t).get R.CAL.BAL_ON) s = 0 := by
  rw [(modBuild_afterLaws t).get (by decide) (by decide), (modBuild_afterLaws t).get (by decide) (by decide)]
  exact buildLaws_noLawBits hs (by rw [sameCond_marked.strExists, sameCond_marked.lawOn]; exact h)

theorem modBuild_lateRaised {t r : Nat} (hlate : d.deadline < t) (hr : r < 6) (hlink : d.linkPosts r = true) (hposts : d.posts = true) :
    Raised (d.modBuild t) 4 (16 * r + 12) := by
  have hcond := buildPosted_sameCond (d := d) t
  rw [Dev.modBuild, if_pos hlate]
  exact buildLate_raised hr (by rw [hcond.linkPosts, hlink]) (by rw [hcond.posts, hposts])

theorem exec_modulatorBuild {st : State} (hbuilt : st.dev.is I.MOD.BUILT = false) (hmode : st.dev.inMode [.backup, .boot] = false)
    (hlock : st.dev.is R.TB.PLL_T_LOCK = true) :
    exec .modulatorBuild st = .next { st with dev := (st.dev.modBuild st.clk.ns).settle st.clk.ns } := by
  have hruns : (st.dev.is I.MOD.BUILT || st.dev.inMode [.backup, .boot] || !st.dev.is R.TB.PLL_T_LOCK) = false := by
    rw [hbuilt, hmode, hlock]; rfl
  show execModulatorBuild st = _
  simp only [execModulatorBuild, State.onDev_next, hruns, Bool.false_eq_true, if_false]
  rfl

theorem modulatorBuild_builds {st : State} {s : Nat} (hs : s < 6) (hbuilt : st.dev.is I.MOD.BUILT = false)
    (hmode : st.dev.inMode [.backup, .boot] = false) (hlock : st.dev.is R.TB.PLL_T_LOCK = true) : Does .modulatorBuild st fun d =>
      d.get I.MOD.BUILT = 1 ∧
      (∀ c < 144, ∀ ix, st.dev.cellUsed c = true → st.dev.cellLink c = some ix → st.dev.linkPosts ix = true → st.dev.posts = true →
        d.get I.CELL.NEXT_POSTED c = 1) ∧
      ((st.dev.strExists s = false ∨ st.dev.lawOn = false) → bitOf (d.get R.MOD.LAW_ON) s = 0 ∧ bitOf (d.get R.CAL.BAL_ON) s = 0) ∧
      (st.dev.deadline < st.clk.ns → ∀ r < 6, st.dev.linkPosts r = true → st.dev.posts = true → Raised d 4 (16 * r + 12)) ∧
      Claim.Untouched [wSnap, wStage, wTb, wReam, wMode, wCell, wAfe, wSafe, wPart] st.dev d := by
  refine ⟨_, exec_modulatorBuild hbuilt hmode hlock, modBuild_built _, ?_, modBuild_noLawBits hs, ?_,
    (modBuild_regsKept _).untouched (by decide)⟩
  · exact fun c hc ix hused hlink hix hposts => modBuild_posted hc hused (cellPosts_of_link hlink hix hposts)
  · exact fun hlate r hr hlink hposts => modBuild_lateRaised hlate hr hlink hposts

/-- Settles O35: pass A takes the mean and the freshness of its string once a frame, and the build posts a command to every cell whose
link takes one, leaves out a string under no law, and raises its rings when it is late. -/
theorem frameBuild : Obligations.FrameBuild := fun _ s =>
  ⟨calenderPassA_takesMean, modulatorBuild_builds s.isLt⟩

end Sys2Proof.Machine
end

section
/-! PROOFS. The fuses (R106, R107): a burning only burns, and FRAME_BOUNDARY alone burns. -/
namespace Sys2Proof.Machine
variable {s t : State}

/-! What burning does. -/

theorem bitOf_eq_one_iff (v k : Nat) : bitOf v k = 1 ↔ v.testBit k = true := by
  rw [bitOf, Nat.shiftRight_eq_div_pow, Nat.testBit_eq_decide_div_mod_eq, decide_eq_true_iff]

/-- From one state of the fuses to another, nothing but burning has happened. -/
structure Otp.BurntTo (o o' : Otp) : Prop where
  keyProg : o'.keyProg = o.keyProg
  keyHash : o'.keyHash = o.keyHash
  secVerMin : o.secVerMin ≤ o'.secVerMin
  revoked : ∀ k, bitOf o.revoked k = 1 → bitOf o'.revoked k = 1

theorem Otp.BurntTo.refl (o : Otp) : o.BurntTo o := ⟨rfl, rfl, Nat.le_refl _, fun _ h => h⟩

/-- The fuses of an activation (R107): the floor rises to a maximum, and the revoked keys gain bits. -/
theorem Otp.burntTo_burn (o : Otp) (im : Image) : o.BurntTo (o.burn im) where
  keyProg := rfl
  keyHash := rfl
  secVerMin := by
    simp only [Otp.burn]
    split
    · exact Nat.le_max_left _ _
    · exact Nat.le_refl _
  revoked k h := by
    rw [bitOf_eq_one_iff] at h ⊢
    simp only [Otp.burn, Nat.testBit_or, h, Bool.true_or]

/-! Which commands burn. -/

/-- An outcome, if it is a state, has the fuses of s. -/
def FusesKept (s : State) (o : Host.Outcome State Fault Refusal) : Prop := ∀ t, o = .next t → t.otp = s.otp

theorem fusesKept_next (h : t.otp = s.otp) : FusesKept s (.next t) := by
  rintro _ ⟨⟩
  exact h

/-- Whatever acts on the module alone leaves the fuses. -/
theorem fusesKept_dev (s : State) (d : Dev) : FusesKept s (.next { s with dev := d }) := fusesKept_next rfl

/-- A command whose condition does not hold leaves the fuses. -/
theorem fusesKept_ite {c : Prop} [Decidable c] {a b : State} (ha : a.otp = s.otp) (hb : b.otp = s.otp) :
    FusesKept s (.next (if c then a else b)) :=
  fusesKept_next (by split <;> assumption)

theorem startDeckle_otp (s : State) : s.startDeckle.otp = s.otp := by
  unfold State.startDeckle
  split <;> rfl

theorem tick_otp (s : State) : s.tick.otp = s.otp := by
  unfold State.tick
  split <;> rfl

theorem cspiWriteOp_fusesKept (s : State) (addr : BitVec 16) (ws : List Word) : FusesKept s (s.cspiWriteOp addr ws) := by
  unfold State.cspiWriteOp
  split
  · rintro _ ⟨⟩
  · exact fusesKept_dev s _

/-- The commands that start the clock or set it back write clock and module; every other one but FRAME_BOUNDARY writes the module. -/
theorem exec_fusesKept (s : State) {c : Instr} (hc : c ≠ .frameBoundary) : FusesKept s (exec c s) := by
  cases c with
  | frameBoundary => exact absurd rfl hc
  | cspiWrite4wire addr ws => exact cspiWriteOp_fusesKept s addr ws
  | cspiWriteQuad addr ws => exact cspiWriteOp_fusesKept s addr ws
  | deckleStart => exact fusesKept_next (startDeckle_otp s)
  | bootPllLock => exact fusesKept_ite (startDeckle_otp _) rfl
  | pllTRelock => exact fusesKept_ite (startDeckle_otp _) rfl
  | pllLockRetry => exact fusesKept_next rfl
  | nresetAssert => exact fusesKept_ite rfl rfl
  | watchdogReset => exact fusesKept_ite rfl rfl
  | vinOn vbatOk kaCycles => exact fusesKept_ite rfl rfl
  | _ => exact fusesKept_dev s _

theorem burn_getD (o : Otp) (im : Option Image) : (im.map o.burn).getD o = o ∨ ∃ i, (im.map o.burn).getD o = o.burn i := by
  cases im with
  | none => exact .inl rfl
  | some i => exact .inr ⟨i, rfl⟩

/-- A boundary leaves the fuses, or burns those of the image that it activates. -/
theorem frameBoundary_otp (h : exec .frameBoundary s = .next t) : t.otp = s.otp ∨ ∃ im, t.otp = s.otp.burn im := by
  replace h : execFrameBoundary s = .next t := h
  unfold execFrameBoundary at h
  injection h with h
  subst h
  split
  · exact .inl rfl
  · dsimp only
    exact burn_getD s.otp _

/-- In any step the fuses stay, or a boundary burns them. -/
theorem step_otp (h : step s = .next t) :
    t.otp = s.otp ∨ (∃ im, t.otp = s.otp.burn im) ∧ ∃ r, s.pending = .frameBoundary :: r := by
  unfold step at h
  split at h
  · injection h with h
    subst h
    exact .inl (tick_otp s)
  · next c r hp =>
    by_cases hc : c = .frameBoundary
    · subst hc
      exact (frameBoundary_otp h).imp_right fun hb => ⟨hb, r, hp⟩
    · exact .inl (exec_fusesKept { s with pending := r } hc t h)

/-- Settles O57: a step keeps the fuses, or it is a boundary's, and what it burns is only burnt. -/
theorem fusesOnlyBurn : Obligations.FusesOnlyBurn := by
  intro s t h
  have hstep := step_otp h
  have hburnt : s.otp.BurntTo t.otp := by
    rcases hstep with heq | ⟨⟨im, heq⟩, -⟩
    · rw [heq]; exact .refl _
    · rw [heq]; exact s.otp.burntTo_burn im
  exact ⟨hburnt.keyProg, hburnt.keyHash, hburnt.secVerMin, hburnt.revoked, fun hne => (hstep.resolve_left hne).2⟩

end Sys2Proof.Machine
end

section
/-! PROOFS. What the operations of the Ream and of the flash write and keep: frames that leave the flash and the image records open, the
bytes of the slots, the summary bits and REAM_RESULT. -/
namespace Sys2Proof.Machine
variable {L M : List Fld} {E F : List (Fld × Nat)} {d e : Dev}

/-! Frames. -/

theorem Within.ream_eq (h : Within L d e E) : e.ream = d.ream := by rw [h.rest]
theorem Within.mem_eq (h : Within L d e E) : e.nvm.mem = d.nvm.mem := by rw [h.rest]

/-- A frame of whole fields is a frame beside any elements. -/
theorem Within.addEls (h : Within L d e) : Within L d e E := ⟨fun f hf hL i _ => h.regs f hf hL i rfl, h.rest⟩

/-- A frame but for the flash and the image records, of which it says nothing. -/
def ReamWithin (L : List Fld) (d e : Dev) (E : List (Fld × Nat) := []) : Prop := Within L { d with nvm := e.nvm, ream := e.ream } e E

theorem Within.reamWithin (h : Within L d e E) : ReamWithin L d e E := (h.setNvm e.nvm).setReam e.ream
theorem ReamWithin.ofNvm (h : Within L { d with nvm := e.nvm } e E) : ReamWithin L d e E := h.setReam e.ream
theorem ReamWithin.trans {a b c : Dev} (h : ReamWithin L a b E) (k : ReamWithin L b c E) : ReamWithin L a c E :=
  ((Within.setNvm h c.nvm).setReam c.ream).trans k
theorem ReamWithin.weaken (h : ReamWithin M d e F) (hs : subFlds M L = true) (hE : ∀ p ∈ F, p ∈ E) : ReamWithin L d e E :=
  Within.weaken h hs hE
theorem ReamWithin.get (h : ReamWithin L d e E) {f : Fld} (hf : f.id < 2048) (hL : hasFld L f = false) {i : Nat}
    (hE : hasEl E f i = false) : e.get f i = d.get f i := Within.regs h f hf hL i hE
theorem ReamWithin.onlyIf (c : Bool) {g : Dev → Dev} (h : ReamWithin L d (g d) E) : ReamWithin L d (d.onlyIf c g) E := by
  unfold Dev.onlyIf
  split
  · exact h
  · exact (Within.refl d).reamWithin

theorem setChecked_within (slot : Nat) (im : Option Image) : ReamWithin L d (d.setChecked slot im) E := Within.refl _

/-! The checked configurations. -/

theorem checked_setChecked (slot : Nat) (im : Option Image) : (d.setChecked slot im).checked slot = im := by
  unfold Dev.setChecked Dev.checked
  split <;> rfl

theorem checked_of_ream (h : e.ream = d.ream) (slot : Nat) : e.checked slot = d.checked slot := by
  unfold Dev.checked
  rw [h]

theorem setChecked_mem (slot : Nat) (im : Option Image) : (d.setChecked slot im).nvm.mem = d.nvm.mem := rfl

/-! The bytes of the slots, which starting an operation leaves alone. -/

theorem foldl_mem {α : Type} (g : Dev → α → Dev) (h : ∀ e x, (g e x).nvm.mem = e.nvm.mem) (l : List α) (d : Dev) :
    (l.foldl g d).nvm.mem = d.nvm.mem := by
  induction l generalizing d with
  | nil => rfl
  | cons x l ih => exact (ih (g d x)).trans (h d x)

theorem setJournal_mem (n : Nvm) (which : Nat) (j : Journal) : (n.setJournal which j).mem = n.mem := by
  unfold Nvm.setJournal
  split <;> rfl

theorem countErase_mem (t k : Nat) : (d.countErase t k).nvm.mem = d.nvm.mem := by
  unfold Dev.countErase
  simp only []
  split
  · exact (raise_within _ _ _ _ _).mem_eq
  · rfl

theorem journalStart_mem (t w typ : Nat) (data : List Nat) : (d.journalStart t w typ data).nvm.mem = d.nvm.mem := by
  unfold Dev.journalStart
  exact (foldl_mem _ (fun _ _ => countErase_mem _ _) _ _).trans (setJournal_mem _ _ _)

theorem flashNext_mem (t : Nat) : (d.flashNext t).nvm.mem = d.nvm.mem := by
  unfold Dev.flashNext
  split
  · rfl
  · split
    · rfl
    · simp only []
      split
      · exact journalStart_mem _ _ _ _
      · exact journalStart_mem _ _ _ _
      · exact journalStart_mem _ _ _ _
      · rfl

theorem enqueue_mem (t : Nat) (op : FlashOp) : (d.enqueue t op).nvm.mem = d.nvm.mem := flashNext_mem t

/-! The summary bits (R48). -/

theorem get_put_one (f : Fld) (hw : f.width ≠ 0) (i : Nat) : (d.put f 1 i).get f i = 1 := by
  rw [Dev.get_put_same, Nat.mod_eq_of_lt (Nat.one_lt_two_pow hw)]

theorem get_sumAll (f : Fld) (hf : f.id < 2048) (hw : f.width ≠ 0) {i : Nat} (hi : i < 3) : (d.sumAll f).get f i = 1 := by
  have hne : ∀ (d : Dev) (j : Nat), j < 3 → i ≠ j → (d.put f 1 j).get f i = d.get f i := fun d j hj hij =>
    Dev.get_put_ne d f f 1 j i hf hf (.inr (by omega))
  unfold Dev.sumAll
  obtain rfl | rfl | rfl : i = 2 ∨ i = 1 ∨ i = 0 := by omega
  · rw [get_put_one f hw]
  · rw [hne _ _ (by decide) (by decide), get_put_one f hw]
  · rw [hne _ _ (by decide) (by decide), hne _ _ (by decide) (by decide), get_put_one f hw]

@[simp] theorem get_sumAll_other (f g : Fld) (i : Nat) (hf : f.id < 2048) (hg : g.id < 2048) (h : f.id ≠ g.id) :
    (d.sumAll f).get g i = d.get g i := by
  unfold Dev.sumAll
  simp [hf, hg, h]

/-! REAM_RESULT (R114, R125). -/

/-- What a result writes. -/
def resFlds : List Fld :=
  [R.REAM.RES_OP, R.REAM.RES_SLOT, R.REAM.RES_CODE, R.REAM.RES_DETAIL, R.REAM.RES_OFF_VALID, R.REAM.RES_OFFSET, R.REAM.RESULT_FRAME, R.HIF.SUM_REAM]

/-- REAM_RESULT is that of an operation on a slot, with its error, and REAM is set in every summary. -/
structure ResultIs (d : Dev) (op slot : Nat) (x : Err) : Prop where
  op : d.get R.REAM.RES_OP = op % 2 ^ R.REAM.RES_OP.width
  slot : d.get R.REAM.RES_SLOT = slot % 2 ^ R.REAM.RES_SLOT.width
  code : d.get R.REAM.RES_CODE = x.code % 2 ^ R.REAM.RES_CODE.width
  detail : d.get R.REAM.RES_DETAIL = x.detail % 2 ^ R.REAM.RES_DETAIL.width
  sum : ∀ i < 3, d.get R.HIF.SUM_REAM i = 1

theorem reamResult_within (op slot : Nat) (x : Err) (off : Option Nat) : Within resFlds d (d.reamResult op slot x off) := by
  unfold Dev.reamResult
  simp (disch := decide)

theorem reamResult_resultIs (op slot : Nat) (x : Err) (off : Option Nat) : ResultIs (d.reamResult op slot x off) op slot x := by
  refine ⟨?_, ?_, ?_, ?_, fun i hi => get_sumAll _ (by decide) (by decide) hi⟩
  -- each of the four reads finds the one write of its field
  all_goals
    unfold Dev.reamResult
    simp (disch := decide)

theorem ResultIs.kept {op slot : Nat} {x : Err} (h : ResultIs d op slot x) (k : RegsKept L d e)
    (hL : resFlds.all (fun f => !hasFld L f) = true) : ResultIs e op slot x := by
  have hget : ∀ f ∈ resFlds, ∀ i, e.get f i = d.get f i := fun f hf i =>
    k f ((by decide : ∀ f ∈ resFlds, f.id < 2048) f hf) (by simpa using List.all_eq_true.mp hL f hf) i
  obtain ⟨hop, hslot, hcode, hdetail, hsum⟩ := h
  exact ⟨(hget _ (by decide) _).trans hop, (hget _ (by decide) _).trans hslot, (hget _ (by decide) _).trans hcode,
    (hget _ (by decide) _).trans hdetail, fun i hi => (hget _ (by decide) _).trans (hsum i hi)⟩

end Sys2Proof.Machine
end

section
/-! PROOFS. Swap orders between partner modules (R129). -/
namespace Sys2Proof.Machine
variable {L : List Fld} {E : List (Fld × Nat)} {d e : Dev} {s : State}

/-! Which slot follows an order. -/

/-- A slot can follow an order, as SWAP_ORDER_RX finds it. -/
def Dev.follows (d : Dev) (digest cls slot : Nat) : Bool :=
  d.slotState slot = 3 && (d.checked slot).any (fun im => im.imageDigest = digest && classBy d.ream.active im.structDigest im.mapDigest = cls)

theorem follows_iff {digest cls slot : Nat} : d.follows digest cls slot = true ↔ Claim.CanFollow d slot digest cls := by
  simp [Dev.follows, Claim.CanFollow, Option.any_eq_true]

/-- The slot that follows an order: slot A before slot B. -/
def Dev.follower (d : Dev) (digest cls : Nat) : Option Nat := [0, 1].find? (d.follows digest cls)

theorem follower_eq_some {digest cls : Nat} {slot : Fin 2} (h : Claim.CanFollow d slot digest cls)
    (hfirst : slot = 1 → ¬ Claim.CanFollow d 0 digest cls) : d.follower digest cls = some slot := by
  have hslot := follows_iff.mpr h
  obtain rfl | rfl : slot = 0 ∨ slot = 1 := by omega
  · simp_all [Dev.follower]
  · have hA : d.follows digest cls 0 = false := Bool.eq_false_iff.mpr fun hc => hfirst rfl (follows_iff.mp hc)
    simp_all [Dev.follower]

theorem follower_eq_none {digest cls : Nat} (h : ∀ k : Fin 2, ¬ Claim.CanFollow d k digest cls) : d.follower digest cls = none := by
  have hk : ∀ k : Fin 2, d.follows digest cls k = false := fun k => Bool.eq_false_iff.mpr fun hc => h k (follows_iff.mp hc)
  have hA := hk 0
  have hB := hk 1
  simp_all [Dev.follower]

/-! SWAP_ORDER_RX. -/

/-- The order taken for a slot: the swap is scheduled as ordered, and confirmed. -/
def Dev.takeOrder (d : Dev) (digest target cls slot : Nat) : Dev :=
  ((d.swapSet slot target cls 0).put I.REAM.SWAP_ORD 1).send (.swapConfirm digest)

theorem exec_swapOrderRx (digest : Nat) (target : BitVec 32) (cls : BitVec 2) : exec (.swapOrderRx digest target cls) s = s.onDev fun d =>
    if d.mode != .mirror || 1 < cls.toNat then d
    else (d.follower digest cls.toNat).elim d (d.takeOrder digest target.toNat cls.toNat) := by
  have hfits : ∀ d : Dev, (fun slot : Nat => d.slotState slot = 3 && (match d.checked slot with
      | some im => im.imageDigest = digest && classBy d.ream.active im.structDigest im.mapDigest = cls.toNat
      | none => false)) = d.follows digest cls.toNat := by
    intro d
    funext slot
    unfold Dev.follows
    cases d.checked slot <;> rfl
  show execSwapOrderRx digest target cls s = _
  unfold execSwapOrderRx Dev.follower
  congr 1
  funext d
  dsimp only
  rw [← hfits]
  cases List.find? _ _ <;> rfl

/-- What a scheduled swap, taken as ordered, writes. -/
def orderFlds : List Fld :=
  [R.REAM.SWAP_PEND, R.REAM.SWAP_SLOT, R.REAM.SLOT_SWAP_PEND, I.REAM.SWAP_TARGET, I.REAM.SWAP_CLASS, I.REAM.SWAP_LATE, I.REAM.SWAP_BOOT] ++
  [I.REAM.SWAP_CONF, I.REAM.SWAP_ORD]

theorem swapSet_within (slot target cls late : Nat) : Within orderFlds d (d.swapSet slot target cls late) := by
  unfold Dev.swapSet
  simp (disch := decide)

theorem takeOrder_within (digest target cls slot : Nat) : Within orderFlds d (d.takeOrder digest target cls slot) := by
  unfold Dev.takeOrder
  simp (disch := decide) [swapSet_within]

/-- The swap that an order schedules, with its slot, frame and class. -/
structure Scheduled (d : Dev) (slot target cls : Nat) : Prop where
  pend : d.get R.REAM.SWAP_PEND = 1
  shown : d.get R.REAM.SLOT_SWAP_PEND slot = 1
  slot : d.get R.REAM.SWAP_SLOT = slot % 2 ^ R.REAM.SWAP_SLOT.width
  target : d.get I.REAM.SWAP_TARGET = target % 2 ^ I.REAM.SWAP_TARGET.width
  cls : d.get I.REAM.SWAP_CLASS = cls % 2 ^ I.REAM.SWAP_CLASS.width

theorem takeOrder_scheduled (digest target cls slot : Nat) : Scheduled (d.takeOrder digest target cls slot) slot target cls := by
  constructor
  -- each of the five reads finds the one write of its field
  all_goals
    unfold Dev.takeOrder Dev.swapSet
    simp (disch := decide)

theorem takeOrder_outbox (digest target cls slot : Nat) :
    (d.takeOrder digest target cls slot).outbox = d.outbox ++ [.swapConfirm digest] := rfl

/-- A standby takes the order for the slot that can follow it. -/
theorem swapOrderRx_taken {digest : Nat} {target : BitVec 32} {cls : BitVec 2} {slot : Nat} (hmode : s.dev.mode = .mirror)
    (hcls : cls.toNat ≤ 1) (hslot : s.dev.follower digest cls.toNat = some slot) :
    exec (.swapOrderRx digest target cls) s = .next { s with dev := s.dev.takeOrder digest target.toNat cls.toNat slot } := by
  rw [exec_swapOrderRx, State.onDev_next]
  simp [hmode, hslot, Nat.not_lt.mpr hcls]

theorem swapOrderRx_ignored {digest : Nat} (target : BitVec 32) {cls : BitVec 2}
    (h : (∀ k : Fin 2, ¬ Claim.CanFollow s.dev k digest cls.toNat) ∨ 1 < cls.toNat ∨ s.dev.mode ≠ .mirror) :
    exec (.swapOrderRx digest target cls) s = .next s := by
  rw [exec_swapOrderRx, State.onDev_next]
  rcases h with hnone | hcls | hmode
  · simp [follower_eq_none hnone]
  · simp [hcls]
  · simp [hmode]

/-! SWAP_CONFIRM_RX and SWAP_CONFIRM_TIMEOUT. -/

theorem swapConfirmRx_noted (hpend : s.dev.is R.REAM.SWAP_PEND = true) :
    exec .swapConfirmRx s = .next { s with dev := s.dev.put I.REAM.SWAP_CONF 1 } := by
  show execSwapConfirmRx s = _
  simp [execSwapConfirmRx, hpend]

/-- The pending swap dropped, and refused with E_STRUCT 0xFE. -/
def Dev.swapRefused (d : Dev) : Dev := d.swapClear.reamResult 3 (d.get R.REAM.SWAP_SLOT) (eStruct 0xFE) none

theorem swapConfirmTimeout_refuses (hpend : s.dev.is R.REAM.SWAP_PEND = true) (hconf : s.dev.is I.REAM.SWAP_CONF = false) :
    exec .swapConfirmTimeout s = .next { s with dev := s.dev.swapRefused } := by
  show s.onDev Dev.swapUnconfirmed = _
  simp [Dev.swapUnconfirmed, Dev.swapRefused, hpend, hconf]

/-- What dropping a pending swap writes. -/
def clearFlds : List Fld := [R.REAM.SWAP_PEND, R.REAM.SLOT_SWAP_PEND, I.REAM.SWAP_BOOT]

theorem swapClear_within : Within clearFlds d d.swapClear := by
  unfold Dev.swapClear
  simp (disch := decide)

theorem swapRefused_within : Within (clearFlds ++ resFlds) d d.swapRefused :=
  (swapClear_within.mono (by decide)).trans ((reamResult_within _ _ _ _).mono (by decide))

theorem swapRefused_notPending : d.swapRefused.get R.REAM.SWAP_PEND = 0 := by
  unfold Dev.swapRefused
  rw [(reamResult_within _ _ _ _).regs _ (by decide) (by decide) _ rfl]
  unfold Dev.swapClear
  simp (disch := decide)

/-- Settles O30: the order that a slot can follow is taken and confirmed, no other one changes anything, and a swap whose confirmation does
not come is dropped with its result. -/
theorem orderedSwaps : Obligations.OrderedSwaps := by
  intro s digest target cls slot
  refine ⟨fun hmode hcls hslot hfirst => ?_, swapOrderRx_ignored target, fun hpend => ?_, fun hpend hconf => ?_⟩
  · obtain ⟨hpend, hshown, hsl, htarget, hclass⟩ :=
      takeOrder_scheduled (d := s.dev) digest target.toNat cls.toNat slot
    exact ⟨_, swapOrderRx_taken hmode hcls (follower_eq_some hslot hfirst), hpend, hsl.trans (Nat.mod_eq_of_lt slot.isLt), hshown,
      htarget.trans (Nat.mod_eq_of_lt target.isLt), hclass.trans (Nat.mod_eq_of_lt cls.isLt), takeOrder_outbox _ _ _ _,
      (takeOrder_within _ _ _ _).mono (by decide), rfl, rfl, rfl⟩
  · exact ⟨_, swapConfirmRx_noted hpend, get_put_one _ (by decide) _, Within.of_put _ _ _ _ (by decide) (by decide), rfl, rfl, rfl⟩
  · obtain ⟨hop, -, hcode, hdetail, hsum⟩ :=
      reamResult_resultIs (d := s.dev.swapClear) 3 (s.dev.get R.REAM.SWAP_SLOT) (eStruct 0xFE) none
    exact ⟨_, swapConfirmTimeout_refuses hpend hconf, swapRefused_notPending, hop, hcode, hdetail, hsum,
      swapRefused_within.mono (by decide), rfl, rfl, rfl⟩

end Sys2Proof.Machine
end

section
/-! PROOFS. The verification of a slot, the scrub and the preference record (R109, R114, R115, R118, R119, R131). -/
namespace Sys2Proof.Machine
variable {L : List Fld} {E : List (Fld × Nat)} {d e : Dev} {s : State}

/-! A state given to a slot, and recorded in its descriptor (R109). -/

theorem get_enqueue (t : Nat) (op : FlashOp) {f : Fld} (hf : f.id < 2048) (h : hasFld raiseFlds f = false) (i : Nat) :
    (d.enqueue t op).get f i = d.get f i := (enqueue_within t op).regs f hf h i rfl

theorem setSlot_within (t slot st sd md : Nat) : ReamWithin raiseFlds d (d.setSlot t slot st sd md) [(R.REAM.SLOT_STATE, slot)] := by
  have hput : ReamWithin raiseFlds d (d.put R.REAM.SLOT_STATE st slot) [(R.REAM.SLOT_STATE, slot)] :=
    (Within.of_put_at d _ _ _ (by decide) (by simp [hasEl])).reamWithin
  exact (hput.trans ((setChecked_within slot none).onlyIf _)).trans (.ofNvm (enqueue_within _ _).addEls)

theorem setSlot_state (t slot st sd md : Nat) :
    (d.setSlot t slot st sd md).get R.REAM.SLOT_STATE slot = st % 2 ^ R.REAM.SLOT_STATE.width := by
  unfold Dev.setSlot Dev.recordSlot
  rw [get_enqueue _ _ (by decide) (by decide), ((setChecked_within (L := []) (E := []) slot none).onlyIf _).get (by decide) rfl rfl,
    Dev.get_put_same]

theorem setSlot_mem (t slot st sd md : Nat) : (d.setSlot t slot st sd md).nvm.mem = d.nvm.mem := by
  unfold Dev.setSlot Dev.recordSlot Dev.onlyIf
  rw [enqueue_mem]
  split <;> rfl

theorem showClass_within : Within [R.REAM.SLOT_CLASS] d d.showClass := by
  unfold Dev.showClass
  simp (disch := first | decide | (intros; simp (disch := decide)))

/-! The end of a VERIFY. -/

/-- The fields of a slot's summary that the end of its VERIFY may write. -/
def verifySlotFlds : List Fld :=
  [R.REAM.SLOT_STATE, R.REAM.SLOT_LENGTH, R.REAM.SLOT_IMAGE_ID, R.REAM.SLOT_DECL_CLASS, R.REAM.SLOT_SEC_VER, R.REAM.SLOT_LAST_CODE,
    R.REAM.SLOT_LAST_DETAIL]

/-- Those fields of one slot. -/
def verifyEls (k : Nat) : List (Fld × Nat) := verifySlotFlds.map (fun f => (f, k))

theorem lastCheck_within (k : Nat) (x : Err) : Within L d (d.lastCheck k x) (verifyEls k) := by
  unfold Dev.lastCheck verifyEls
  simp (disch := decide) only [within_put_map, within_self]

theorem showImage_within (k : Nat) (im : Image) : Within L d (d.showImage k im) (verifyEls k) := by
  unfold Dev.showImage verifyEls
  simp (disch := decide) only [within_put_map, within_self]

theorem hasEl_verifyEls {f : Fld} (k i : Nat) (h : hasFld verifySlotFlds f = false) : hasEl (verifyEls k) f i = false :=
  hasEl_map_of_not_hasFld h k i

theorem setSlot_verifyEls (t k st sd md : Nat) : ReamWithin raiseFlds d (d.setSlot t k st sd md) (verifyEls k) :=
  (setSlot_within t k st sd md).weaken (by decide) (by simp [verifyEls, verifySlotFlds])

/-- A slot of state st has passed: the ACTIVE one stays; of another one the image is shown, and it is VERIFIED with that image. -/
def Dev.slotPassed (d : Dev) (t k st : Nat) (im : Image) : Dev :=
  if st = 4 then d else ((d.showImage k im).setSlot t k 3 im.structDigest im.mapDigest).setChecked k (some im)

/-- A slot of state st has failed: the ACTIVE one stays, with SCRUB_ERR and instance 5; another one that holds anything is INVALID. -/
def Dev.slotFailed (d : Dev) (t k st : Nat) : Dev :=
  if st = 4 then (d.put R.REAM.SCRUB_ERR 1).raise t 2 5 0 else d.onlyIf (st != 0) (fun d => d.keepSlot t k 5)

/-- The status of the command, and the last check of the slot, after a VERIFY that passes, and after one that fails. -/
def Dev.verifyPassed (d : Dev) (k : Nat) : Dev := ((d.put R.REAM.CMD_BUSY 0).put R.REAM.CMD_STATE 2).lastCheck k ⟨0, 0⟩
def Dev.verifyFailed (d : Dev) (k : Nat) (x : Err) : Dev :=
  (((d.put R.REAM.CMD_BUSY 0).put R.REAM.CMD_STATE 3).put R.REAM.CMD_FAIL 4).lastCheck k x

/-- What every VERIFY ends with: the classes and the result. -/
def Dev.verifyTail (d : Dev) (k : Nat) (x : Err) (off : Option Nat) : Dev := d.showClass.reamResult 2 k x off

theorem verifyEnd_ok (t k : Nat) (im : Image) : d.verifyEnd t k (.ok im) =
    ((d.verifyPassed k).slotPassed t k (d.slotState k) im).verifyTail k ⟨0, 0⟩ none := by
  simp only [Dev.verifyEnd, Dev.verifyPassed, Dev.verifyTail, Dev.slotPassed, Dev.onlyIf]
  by_cases h : d.slotState k = 4 <;> simp [h]

theorem verifyEnd_error (t k : Nat) (f : Fail) : d.verifyEnd t k (.error f) =
    (((d.verifyFailed k f.err).slotFailed t k (d.slotState k)).verifyTail k f.err f.off).raise t 2 2 0 := by
  simp only [Dev.verifyEnd, Dev.verifyFailed, Dev.verifyTail, Dev.slotFailed]

/-! The slot. -/

theorem slotPassed_within (t k st : Nat) (im : Image) : ReamWithin raiseFlds d (d.slotPassed t k st im) (verifyEls k) := by
  unfold Dev.slotPassed
  split
  · exact (Within.refl d).reamWithin
  · exact ((showImage_within k im).reamWithin.trans (setSlot_verifyEls _ _ _ _ _)).trans (setChecked_within k _)

theorem slotPassed_mem (t k st : Nat) (im : Image) : (d.slotPassed t k st im).nvm.mem = d.nvm.mem := by
  unfold Dev.slotPassed
  split
  · rfl
  · rw [setChecked_mem, setSlot_mem]
    rfl

theorem slotPassed_state (t k st : Nat) (im : Image) :
    (d.slotPassed t k st im).get R.REAM.SLOT_STATE k = if st = 4 then d.get R.REAM.SLOT_STATE k else 3 := by
  unfold Dev.slotPassed
  split
  · rfl
  · rw [(setChecked_within (L := []) (E := []) k _).get (by decide) rfl rfl, setSlot_state]
    rfl

theorem slotPassed_checked (t k : Nat) {st : Nat} (im : Image) (h : st ≠ 4) : (d.slotPassed t k st im).checked k = some im := by
  rw [Dev.slotPassed, if_neg h, checked_setChecked]

theorem slotFailed_within (t k st : Nat) : ReamWithin (R.REAM.SCRUB_ERR :: raiseFlds) d (d.slotFailed t k st) (verifyEls k) := by
  unfold Dev.slotFailed
  split
  · refine Within.reamWithin ?_
    simp (disch := decide)
  · exact ((setSlot_verifyEls _ _ _ _ _).weaken (by decide) (fun _ h => h)).onlyIf _

theorem slotFailed_mem (t k st : Nat) : (d.slotFailed t k st).nvm.mem = d.nvm.mem := by
  unfold Dev.slotFailed Dev.onlyIf
  split
  · exact (raise_within _ _ _ _ _).mem_eq
  · split
    · exact setSlot_mem _ _ _ _ _
    · rfl

theorem slotFailed_active (t k : Nat) : (d.slotFailed t k 4).get R.REAM.SLOT_STATE k = d.get R.REAM.SLOT_STATE k ∧
    (d.slotFailed t k 4).get R.REAM.SCRUB_ERR = 1 ∧ Raised (d.slotFailed t k 4) 2 5 := by
  unfold Dev.slotFailed
  rw [if_pos rfl]
  exact ⟨by simp (disch := decide), by simp (disch := decide), raise_raised _ _ _ _ _ (by decide)⟩

theorem slotFailed_invalid (t k : Nat) {st : Nat} (h4 : st ≠ 4) (h0 : st ≠ 0) : (d.slotFailed t k st).get R.REAM.SLOT_STATE k = 5 := by
  rw [Dev.slotFailed, if_neg h4, Dev.onlyIf, if_pos (by simpa using h0)]
  exact setSlot_state _ _ _ _ _

/-! The classes and the result. -/

/-- What the classes and the result write. -/
def tailFlds : List Fld := R.REAM.SLOT_CLASS :: resFlds

theorem verifyTail_within (k : Nat) (x : Err) (off : Option Nat) : Within tailFlds d (d.verifyTail k x off) :=
  (showClass_within.mono (by decide)).trans ((reamResult_within _ _ _ _).mono (by decide))

/-- A VERIFY of slot k has ended from d in e, with the state and the failure of its command and the error of its result. -/
structure VerifyEnds (d e : Dev) (k st fl : Nat) (x : Err) : Prop where
  busy : e.get R.REAM.CMD_BUSY = 0
  state : e.get R.REAM.CMD_STATE = st
  fail : e.get R.REAM.CMD_FAIL = fl
  result : ResultIs e 2 k x
  mem : e.nvm.mem = d.nvm.mem
  frame : ReamWithin Claim.verifyFlds d e (verifyEls k)

/-- The command's status is set, the slot follows, and the classes and the result end it. -/
theorem VerifyEnds.of_parts {d₁ d₂ : Dev} {k st fl : Nat} {x : Err} (hbusy : d₁.get R.REAM.CMD_BUSY = 0)
    (hstate : d₁.get R.REAM.CMD_STATE = st) (hfail : d₁.get R.REAM.CMD_FAIL = fl)
    (h₁ : Within [R.REAM.CMD_BUSY, R.REAM.CMD_STATE, R.REAM.CMD_FAIL] d d₁ (verifyEls k))
    (h₂ : ReamWithin (R.REAM.SCRUB_ERR :: raiseFlds) d₁ d₂ (verifyEls k)) (hmem : d₂.nvm.mem = d₁.nvm.mem)
    (h₃ : Within (raiseFlds ++ tailFlds) d₂ e) (hres : ResultIs e 2 k x) : VerifyEnds d e k st fl x := by
  have hslot : ReamWithin (R.REAM.SCRUB_ERR :: raiseFlds ++ tailFlds) d₁ e (verifyEls k) :=
    (h₂.weaken (by decide) (fun _ h => h)).trans (h₃.reamWithin.weaken (by decide) (by simp))
  have hget : ∀ f ∈ [R.REAM.CMD_BUSY, R.REAM.CMD_STATE, R.REAM.CMD_FAIL], e.get f = d₁.get f := by
    intro f hf
    simp only [List.mem_cons, List.not_mem_nil, or_false] at hf
    rcases hf with rfl | rfl | rfl <;> exact hslot.get (by decide) (by decide) (hasEl_verifyEls _ _ (by decide))
  exact ⟨(hget _ (by simp)).trans hbusy, (hget _ (by simp)).trans hstate, (hget _ (by simp)).trans hfail, hres,
    (h₃.mem_eq.trans hmem).trans h₁.mem_eq,
    (h₁.reamWithin.weaken (by decide) (fun _ h => h)).trans (hslot.weaken (by decide) (fun _ h => h))⟩

theorem verifyPassed_within (k : Nat) :
    Within [R.REAM.CMD_BUSY, R.REAM.CMD_STATE, R.REAM.CMD_FAIL] d (d.verifyPassed k) (verifyEls k) := by
  unfold Dev.verifyPassed
  rw [(lastCheck_within k _).iff]
  simp (disch := decide)

theorem verifyFailed_within (k : Nat) (x : Err) :
    Within [R.REAM.CMD_BUSY, R.REAM.CMD_STATE, R.REAM.CMD_FAIL] d (d.verifyFailed k x) (verifyEls k) := by
  unfold Dev.verifyFailed
  rw [(lastCheck_within k _).iff]
  simp (disch := decide)

/-- LAST_CODE and LAST_DETAIL are all that the last check writes. -/
theorem get_lastCheck (k : Nat) (x : Err) {f : Fld} (hf : f.id < 2048) (hcode : R.REAM.SLOT_LAST_CODE.id ≠ f.id)
    (hdetail : R.REAM.SLOT_LAST_DETAIL.id ≠ f.id) (i : Nat) : (d.lastCheck k x).get f i = d.get f i := by
  unfold Dev.lastCheck
  rw [Dev.get_put_other _ _ _ _ _ _ (by decide) hf hdetail, Dev.get_put_other _ _ _ _ _ _ (by decide) hf hcode]

theorem verifyPassed_get (k : Nat) : (d.verifyPassed k).get R.REAM.CMD_BUSY = 0 ∧ (d.verifyPassed k).get R.REAM.CMD_STATE = 2 ∧
    (d.verifyPassed k).get R.REAM.CMD_FAIL = d.get R.REAM.CMD_FAIL ∧
    (d.verifyPassed k).get R.REAM.SLOT_STATE k = d.get R.REAM.SLOT_STATE k := by
  unfold Dev.verifyPassed
  simp (disch := decide) [get_lastCheck]
  decide

theorem verifyFailed_get (k : Nat) (x : Err) : (d.verifyFailed k x).get R.REAM.CMD_BUSY = 0 ∧
    (d.verifyFailed k x).get R.REAM.CMD_STATE = 3 ∧ (d.verifyFailed k x).get R.REAM.CMD_FAIL = 4 ∧
    (d.verifyFailed k x).get R.REAM.SLOT_STATE k = d.get R.REAM.SLOT_STATE k := by
  unfold Dev.verifyFailed
  simp (disch := decide) [get_lastCheck]
  decide

/-! The end of a VERIFY. -/

theorem verifyEnd_passes (t k : Nat) (im : Image) :
    VerifyEnds d (d.verifyEnd t k (.ok im)) k 2 (d.get R.REAM.CMD_FAIL) ⟨0, 0⟩ := by
  obtain ⟨hbusy, hstate, hfail, -⟩ := verifyPassed_get (d := d) k
  rw [verifyEnd_ok]
  exact .of_parts hbusy hstate hfail (verifyPassed_within k) ((slotPassed_within _ _ _ _).weaken (by decide) (fun _ h => h))
    (slotPassed_mem _ _ _ _) ((verifyTail_within _ _ _).mono (by decide)) (reamResult_resultIs _ _ _ _)

/-- The slot that passes is VERIFIED with its image, an ACTIVE one stays. -/
theorem verifyEnd_passes_slot (t k : Nat) (im : Image) :
    (d.verifyEnd t k (.ok im)).get R.REAM.SLOT_STATE k = (if d.slotState k = 4 then 4 else 3) ∧
    (d.slotState k ≠ 4 → (d.verifyEnd t k (.ok im)).checked k = some im) := by
  obtain ⟨-, -, -, hslot⟩ := verifyPassed_get (d := d) k
  rw [verifyEnd_ok]
  constructor
  · rw [(verifyTail_within _ _ _).regs _ (by decide) (by decide) _ rfl, slotPassed_state, hslot]
    exact ite_congr rfl (fun h => h) (fun _ => rfl)
  · intro h
    rw [checked_of_ream (verifyTail_within _ _ _).ream_eq, slotPassed_checked _ _ _ h]

theorem verifyEnd_fails (t k : Nat) (f : Fail) : VerifyEnds d (d.verifyEnd t k (.error f)) k 3 4 f.err := by
  obtain ⟨hbusy, hstate, hfail, -⟩ := verifyFailed_get (d := d) k f.err
  rw [verifyEnd_error]
  exact .of_parts hbusy hstate hfail (verifyFailed_within k _) (slotFailed_within _ _ _) (slotFailed_mem _ _ _)
    (((verifyTail_within _ _ _).mono (by decide)).trans ((raise_within _ _ _ _ _).mono (by decide)))
    ((reamResult_resultIs _ _ _ _).kept (raise_within _ _ _ _ _).regsKept (by decide))

/-- What the failing slot is left in, the classes, the result and instance 2 leave alone. -/
theorem verifyEnd_error_get (t k : Nat) (x : Fail) {f : Fld} (hf : f.id < 2048) (hL : hasFld (raiseFlds ++ tailFlds) f = false) (i : Nat) :
    (d.verifyEnd t k (.error x)).get f i = ((d.verifyFailed k x.err).slotFailed t k (d.slotState k)).get f i := by
  have h : Within (raiseFlds ++ tailFlds) ((d.verifyFailed k x.err).slotFailed t k (d.slotState k)) (d.verifyEnd t k (.error x)) := by
    rw [verifyEnd_error]
    exact ((verifyTail_within _ _ _).mono (by decide)).trans ((raise_within _ _ _ _ _).mono (by decide))
  exact h.regs f hf hL i rfl

theorem verifyEnd_fails_raised (t k : Nat) (f : Fail) : Raised (d.verifyEnd t k (.error f)) 2 2 := by
  rw [verifyEnd_error]
  exact raise_raised _ _ _ _ _ (by decide)

/-- The ACTIVE slot that fails stays, with SCRUB_ERR and instance 5. -/
theorem verifyEnd_fails_active (t k : Nat) (f : Fail) (h : d.slotState k = 4) :
    (d.verifyEnd t k (.error f)).get R.REAM.SLOT_STATE k = 4 ∧ (d.verifyEnd t k (.error f)).get R.REAM.SCRUB_ERR = 1 ∧
    Raised (d.verifyEnd t k (.error f)) 2 5 := by
  obtain ⟨-, -, -, hslot⟩ := verifyFailed_get (d := d) k f.err
  obtain ⟨hstate, hscrub, hraised⟩ := slotFailed_active (d := d.verifyFailed k f.err) t k
  rw [verifyEnd_error_get _ _ _ (by decide) (by decide), verifyEnd_error_get _ _ _ (by decide) (by decide), h]
  refine ⟨(hstate.trans hslot).trans h, hscrub, ?_⟩
  rw [verifyEnd_error, h]
  exact (((verifyTail_within k f.err f.off).sticky (by decide)).trans (raise_sticky t 2 2 0 false)).raised hraised

theorem verifyEnd_fails_invalid (t k : Nat) (f : Fail) (h4 : d.slotState k ≠ 4) (h0 : d.slotState k ≠ 0) :
    (d.verifyEnd t k (.error f)).get R.REAM.SLOT_STATE k = 5 := by
  rw [verifyEnd_error_get _ _ _ (by decide) (by decide), slotFailed_invalid _ _ h4 h0]

/-! VERIFY_DONE. -/

theorem flashRead_within (n : Nat) : Within countFlds d (d.flashRead n) := by
  unfold Dev.flashRead
  simp (disch := decide)

/-- VERIFY_DONE of a running VERIFY: the end of it, once the bytes that its checks read are counted. -/
theorem exec_verifyDone (hrun : s.dev.verifying = true) (hon : s.dev.supervised = true) : ∃ n, exec .verifyDone s =
    .next { s with dev := ((s.dev.flashRead n).verifyEnd s.clk.ns (s.dev.get I.REAM.CMD_RUN_SLOT)
      (s.dev.checkSlot s.otp (s.dev.get I.REAM.CMD_RUN_SLOT) false)).settle s.clk.ns } := by
  refine ⟨bytesAt (leNat (s.dev.slotBytes (s.dev.get I.REAM.CMD_RUN_SLOT) 256)) 0x18 4, ?_⟩
  show execVerifyDone s = _
  simp [execVerifyDone, hrun, hon]

/-- Counting the bytes that its checks read leaves the module as the end of a VERIFY finds it. -/
theorem VerifyEnds.of_flashRead {n k st fl : Nat} {x : Err} (h : VerifyEnds (d.flashRead n) e k st fl x) : VerifyEnds d e k st fl x where
  busy := h.busy
  state := h.state
  fail := h.fail
  result := h.result
  mem := h.mem.trans (flashRead_within n).mem_eq
  frame := ((flashRead_within n).reamWithin.weaken (by decide) (by simp)).trans h.frame

theorem slotState_flashRead (n k : Nat) : (d.flashRead n).slotState k = d.slotState k :=
  (flashRead_within n).regs _ (by decide) (by decide) k rfl

/-! SCRUB and PREF_RECORD_TIMEOUT. -/

/-- SCRUB of the active image: its sheets are read, and a damaged one is reported. -/
theorem exec_scrub {im : Image} {k : Nat} (him : s.dev.ream.active = some im) (hk : s.dev.get R.REAM.ACTIVE = k + 1) :
    exec .scrub s = .next { s with dev := if s.dev.scrubOk k im then s.dev.flashRead im.len
      else (((s.dev.flashRead im.len).put R.REAM.SCRUB_ERR 1).raise s.clk.ns 2 5 0).settle s.clk.ns } := by
  show execScrub s = _
  simp only [execScrub, State.onDev_next, him, hk]

theorem exec_prefRecordTimeout (h : s.dev.is I.REAM.PREF_DUE = true) :
    exec .prefRecordTimeout s = .next { s with dev := (s.dev.raise s.clk.ns 2 6 0).settle s.clk.ns } := by
  show execPrefRecordTimeout s = _
  simp only [execPrefRecordTimeout, State.onDev_next, h, if_true]

theorem scrub_damaged_within (t n : Nat) :
    Within (raiseFlds ++ [R.REAM.SCRUB_ERR]) d (((d.flashRead n).put R.REAM.SCRUB_ERR 1).raise t 2 5 0) := by
  simp (disch := decide) [((flashRead_within n).mono (L := raiseFlds ++ [R.REAM.SCRUB_ERR]) (by decide)).iff]

/-- Settles O29: VERIFY_DONE by the outcome of the check, SCRUB by the CRCs, and the preference record by the raising. -/
theorem imageChecks : Obligations.ImageChecks := by
  intro s
  refine ⟨fun hrun hon => ?_, fun im k him hk => ⟨fun hok => ?_, fun hbad => ?_⟩, fun hdue => ?_⟩
  · obtain ⟨n, hx⟩ := exec_verifyDone hrun hon
    refine ⟨_, hx, ?_⟩
    dsimp only
    generalize s.dev.get I.REAM.CMD_RUN_SLOT = k
    have hstate := slotState_flashRead (d := s.dev) n k
    cases s.dev.checkSlot s.otp k false with
    | ok im =>
      obtain ⟨hbusy, hst, -, ⟨hop, hslot, hcode, -, hsum⟩, hmem, hframe⟩ :=
        (verifyEnd_passes (d := s.dev.flashRead n) s.clk.ns k im).of_flashRead
      obtain ⟨hpassed, hchecked⟩ := verifyEnd_passes_slot (d := s.dev.flashRead n) s.clk.ns k im
      rw [hstate] at hpassed hchecked
      refine ⟨hbusy, hop, hslot, hsum, ?_, by simp, hmem, hframe⟩
      rintro _ ⟨⟩
      exact ⟨hst, hcode, hpassed, hchecked⟩
    | error f =>
      obtain ⟨hbusy, hst, hfail, ⟨hop, hslot, hcode, hdetail, hsum⟩, hmem, hframe⟩ :=
        (verifyEnd_fails (d := s.dev.flashRead n) s.clk.ns k f).of_flashRead
      refine ⟨hbusy, hop, hslot, hsum, by simp, ?_, hmem, hframe⟩
      rintro _ ⟨⟩
      exact ⟨hst, hfail, hcode, hdetail, verifyEnd_fails_raised _ _ _, fun h4 => verifyEnd_fails_active _ _ _ (hstate.trans h4),
        fun h4 h0 => verifyEnd_fails_invalid _ _ _ (hstate ▸ h4) (hstate ▸ h0)⟩
  · refine ⟨_, exec_scrub him hk, ?_, rfl, rfl, rfl⟩
    simp only [hok, if_true]
    exact flashRead_within _
  · refine ⟨_, ?_, ?_, raise_raised _ _ _ _ _ (by decide), scrub_damaged_within s.clk.ns im.len⟩
    · rw [exec_scrub him hk]
      simp only [hbad, Bool.false_eq_true, if_false]
    · simp (disch := decide)
  · exact ⟨_, exec_prefRecordTimeout hdue, raise_raised _ _ _ _ _ (by decide), raise_within _ _ _ _ _⟩

end Sys2Proof.Machine
end

section
/-! PROOFS. What the operations of the flash write when they end (R112, R440, R445): the frame of each, and the bytes of the slots. -/
namespace Sys2Proof.Machine
variable {L : List Fld} {E : List (Fld × Nat)} {d e : Dev} {s : State}

/-- The frame of what happens in the flash: the fields of the flash's status, and of the records none but the flash itself. -/
def FlashWithin (d e : Dev) : Prop := Within Claim.flashFlds { d with nvm := e.nvm } e

theorem FlashWithin.trans {a b c : Dev} (h : FlashWithin a b) (k : FlashWithin b c) : FlashWithin a c := Within.thenNvm h k
theorem Within.flashWithin (h : Within L d e) (hs : subFlds L Claim.flashFlds = true) : FlashWithin d e := (h.mono hs).ofNvm
theorem FlashWithin.ofRaise (h : Within raiseFlds { d with nvm := e.nvm } e) : FlashWithin d e := h.mono (by decide)
theorem setNvm_flashWithin (d : Dev) (n : Nvm) : FlashWithin d (d.setNvm n) := setNvm_within d n
theorem put_flashWithin (d : Dev) (f : Fld) (v i : Nat) (hf : f.id < 2048) (h : hasFld Claim.flashFlds f = true) : FlashWithin d (d.put f v i) :=
  (Within.of_put d f v i hf h).ofNvm
theorem FlashWithin.ite {c : Prop} [Decidable c] {a b : Dev} (ha : FlashWithin d a) (hb : FlashWithin d b) :
    FlashWithin d (if c then a else b) := by
  split <;> assumption

theorem FlashWithin.foldl {α : Type} (g : Dev → α → Dev) (h : ∀ e x, FlashWithin e (g e x)) (l : List α) (d : Dev) :
    FlashWithin d (l.foldl g d) := foldl_nvm g h l d

/-! Teasel records and committed records. -/

theorem teaselShow_within : Within Claim.flashFlds d d.teaselShow := by
  unfold Dev.teaselShow
  simp (disch := first | decide | (intros; simp (disch := decide)))

theorem lifeCell_within (t c : Nat) : Within Claim.flashFlds d (d.lifeCell t c) := by
  unfold Dev.lifeCell
  dsimp only
  split <;> simp (disch := decide)

theorem recordWritten_within (t : Nat) : Within Claim.flashFlds d (d.recordWritten t) :=
  teaselShow_within.trans (Within.of_foldl _ (fun _ c => lifeCell_within t c) _ _)

theorem applyCommit_within (typ : Nat) (data : List Nat) : FlashWithin d (d.applyCommit typ data) := by
  unfold Dev.applyCommit
  dsimp only
  split
  · exact setNvm_flashWithin _ _
  · refine (setNvm_flashWithin d { d.nvm with pref := data.getD 0 0 }).trans (Within.flashWithin (L := Claim.flashFlds) ?_ (by decide))
    simp (disch := first | decide | (intros; simp (disch := decide)))
  · exact setNvm_flashWithin _ _
  · exact setNvm_flashWithin _ _

/-! Pages and sectors. -/

/-- A page written is counted, with its bytes (R497, R501). -/
theorem pageCounted_counts (n : Nat) : Within countFlds d ((d.perf 10 1 15).carry 31 n) := by
  simp (disch := decide)

theorem pageCounted_within (n : Nat) : FlashWithin d ((d.perf 10 1 15).carry 31 n) := (pageCounted_counts n).flashWithin (by decide)

theorem programPage_within (slot p : Nat) : FlashWithin d (d.programPage slot p) :=
  (setNvm_flashWithin d _).trans (pageCounted_within _)

theorem setDirty_within (l : List Nat) : FlashWithin d (d.setDirty l) :=
  (setNvm_flashWithin d _).trans (put_flashWithin _ _ _ _ (by decide) (by decide))

/-- The erase of a sector of the slots, counted. -/
def Dev.sectorErased (d : Dev) (t sector : Nat) : Dev :=
  ((d.setNvm { d.nvm with mem := erase d.nvm.mem sector }).countErase t sector).perf 10 2 15

/-- A sector is dirty no more, which the system journal is to record (R441). -/
def Dev.dirtyCleared (d : Dev) (sector : Nat) : Dev :=
  let d1 := d.setDirty (d.nvm.dirty.filter (fun k => k != sector))
  d1.setNvm { d1.nvm with queue := d1.nvm.queue ++ [.commit 4 d1.nvm.dirty] }

theorem eraseSector_eq (t sector : Nat) : d.eraseSector t sector =
    if (d.sectorErased t sector).nvm.dirty.contains sector then (d.sectorErased t sector).dirtyCleared sector else d.sectorErased t sector := rfl

theorem sectorErased_within (t sector : Nat) : FlashWithin d (d.sectorErased t sector) :=
  ((setNvm_flashWithin d _).trans (.ofRaise (countErase_within t sector))).trans ((perf_within _ _ _ _).flashWithin (by decide))

theorem sectorErased_mem (t sector : Nat) : (d.sectorErased t sector).nvm.mem = erase d.nvm.mem sector :=
  (perf_within _ _ _ _).mem_eq.trans (countErase_mem _ _)

theorem dirtyCleared_within (sector : Nat) : FlashWithin d (d.dirtyCleared sector) :=
  (setDirty_within _).trans (setNvm_flashWithin _ _)

theorem dirtyCleared_mem (sector : Nat) : (d.dirtyCleared sector).nvm.mem = d.nvm.mem := rfl

theorem eraseSector_within (t sector : Nat) : FlashWithin d (d.eraseSector t sector) := by
  rw [eraseSector_eq]
  exact .ite ((sectorErased_within t sector).trans (dirtyCleared_within sector)) (sectorErased_within t sector)

theorem eraseSector_mem (t sector : Nat) : (d.eraseSector t sector).nvm.mem = erase d.nvm.mem sector := by
  rw [eraseSector_eq]
  split
  · rw [dirtyCleared_mem, sectorErased_mem]
  · rw [sectorErased_mem]

/-! An operation ends well. -/

theorem opDone_program (t : Nat) (w : Dev → Dev) (slot p : Nat) : d.opDone t w (.program slot p) =
    (if d.nvm.dirty.contains (128 * slot + p / 256) then d.eraseSector t (128 * slot + p / 256) else d).programPage slot p := rfl

/-- A page of a sector that is not dirty is programmed at once. -/
theorem opDone_program_clean (t : Nat) (w : Dev → Dev) {slot p : Nat} (h : d.nvm.dirty.contains (128 * slot + p / 256) = false) :
    d.opDone t w (.program slot p) = d.programPage slot p := by
  rw [opDone_program, h]
  rfl

theorem opDone_teasel (t : Nat) (w : Dev → Dev) (p : Nat) (data : List Nat) : d.opDone t w (.teasel p data) =
    let d := (d.perf 10 1 15).carry 31 pageBytes
    if p + 1 < 293 then d.setNvm { d.nvm with queue := .teasel (p + 1) data :: d.nvm.queue }
    else w (((d.journalCommit 2).setNvm { (d.journalCommit 2).nvm with record := data }).put R.THERM.TEASEL_JSEQ (d.journalCommit 2).nvm.life.seq) := rfl

theorem opDone_within (t : Nat) (op : FlashOp) : FlashWithin d (d.opDone t (Dev.recordWritten t) op) := by
  cases op with
  | commit typ data => exact ((setNvm_flashWithin d _).trans (pageCounted_within _)).trans (applyCommit_within _ _)
  | events l => exact (setNvm_flashWithin d _).trans (pageCounted_within _)
  | teasel p data =>
    rw [opDone_teasel]
    refine (pageCounted_within pageBytes).trans (.ite (setNvm_flashWithin _ _) ?_)
    exact (((setNvm_flashWithin _ _).trans (setNvm_flashWithin _ _)).trans (put_flashWithin _ _ _ _ (by decide) (by decide))).trans
      ((recordWritten_within t).flashWithin (by decide))
  | erase slot k => exact eraseSector_within _ _
  | program slot p =>
    rw [opDone_program]
    exact (FlashWithin.ite (eraseSector_within _ _) (setNvm_flashWithin d d.nvm)).trans (programPage_within _ _)
  | wipe k => exact eraseSector_within _ _

/-! An operation fails, or times out. -/

theorem cmdFail_within (code : Nat) : FlashWithin d (d.cmdFail code) := by
  have hstatus : ∀ e : Dev, Within Claim.flashFlds e
      ((((e.put R.REAM.CMD_BUSY 0).put R.REAM.CMD_STATE 3).put R.REAM.CMD_FAIL code).sumAll R.HIF.SUM_NVM) := by
    intro e
    simp (disch := decide)
  exact (setNvm_flashWithin d _).trans ((hstatus _).flashWithin (by decide))

theorem journalFail_within (w : Nat) : FlashWithin d (d.journalFail w) := setNvm_flashWithin d _

theorem journalFail_mem (w : Nat) : (d.journalFail w).nvm.mem = d.nvm.mem := setJournal_mem _ _ _

/-- The start of a failed record is undone where its sector is retired. -/
theorem retired_within (retire : Bool) (w : Nat) : FlashWithin d (if retire then d.journalFail w else d) :=
  .ite (journalFail_within w) (setNvm_flashWithin d d.nvm)

theorem retired_mem (retire : Bool) (w : Nat) : (if retire then d.journalFail w else d).nvm.mem = d.nvm.mem := by
  split
  · exact journalFail_mem w
  · rfl

theorem opFail_within (t code : Nat) (retire : Bool) (op : FlashOp) : FlashWithin d (d.opFail t code retire op) := by
  cases op with
  | commit typ data => exact .ite ((journalFail_within 0).trans (setNvm_flashWithin _ _)) (setNvm_flashWithin d d.nvm)
  | events l =>
    exact ((retired_within retire 1).trans (setNvm_flashWithin _ _)).trans (put_flashWithin _ _ _ _ (by decide) (by decide))
  | teasel p data => exact (retired_within retire 2).trans ((raise_within _ _ _ _ _).flashWithin (by decide))
  | erase slot k => exact cmdFail_within code
  | program slot p => exact cmdFail_within code
  | wipe k => exact setNvm_flashWithin d d.nvm

theorem opFail_mem (t code : Nat) (retire : Bool) (op : FlashOp) : (d.opFail t code retire op).nvm.mem = d.nvm.mem := by
  cases op with
  | commit typ data =>
    cases retire with
    | true => exact journalFail_mem 0
    | false => rfl
  | events l => exact retired_mem retire 1
  | teasel p data => exact (raise_within _ _ _ _ _).mem_eq.trans (retired_mem retire 2)
  | erase slot k => rfl
  | program slot p => rfl
  | wipe k => rfl

theorem opFail_ofCmd (t code : Nat) (retire : Bool) {op : FlashOp} (h : op.ofCmd = true) : d.opFail t code retire op = d.cmdFail code := by
  cases op with
  | erase slot k => rfl
  | program slot p => rfl
  | commit typ data => cases h
  | events l => cases h
  | teasel p data => cases h
  | wipe k => cases h

/-! The next operation takes no STICKY bit back. -/

theorem setNvm_sticky (d : Dev) (n : Nvm) : StickyKept d (d.setNvm n) := fun _ _ _ h => h

theorem countErase_sticky (t k : Nat) : StickyKept d (d.countErase t k) := by
  unfold Dev.countErase
  dsimp only
  split
  · exact (setNvm_sticky d _).trans (raise_sticky _ _ _ _ _)
  · exact setNvm_sticky d _

theorem journalStart_sticky (t w typ : Nat) (data : List Nat) : StickyKept d (d.journalStart t w typ data) := by
  unfold Dev.journalStart
  exact (setNvm_sticky d _).trans (foldl_sticky _ (fun _ _ => countErase_sticky _ _) _ _)

theorem flashNext_sticky (t : Nat) : StickyKept d (d.flashNext t) := by
  have hbacklog : ∀ (e : Dev) (v : Nat), StickyKept e (e.put R.THERM.EVJ_BACKLOG v) := fun e v =>
    (Within.of_put (L := [R.THERM.EVJ_BACKLOG]) e _ _ _ (by decide) (by decide)).sticky (by decide)
  unfold Dev.flashNext
  split
  · exact .refl d
  · split
    · exact .refl d
    · dsimp only
      split
      · exact (setNvm_sticky d _).trans (journalStart_sticky _ _ _ _)
      · exact ((setNvm_sticky d _).trans (hbacklog _ _)).trans (journalStart_sticky _ _ _ _)
      · exact (setNvm_sticky d _).trans (journalStart_sticky _ _ _ _)
      · exact setNvm_sticky d _

/-! The end of a command. -/

/-- The running command has ended, with a state and a failure, and NVM is set in every summary. -/
structure CmdEnded (d : Dev) (st code : Nat) : Prop where
  busy : d.get R.REAM.CMD_BUSY = 0
  state : d.get R.REAM.CMD_STATE = st
  fail : d.get R.REAM.CMD_FAIL = code
  sum : ∀ i < 3, d.get R.HIF.SUM_NVM i = 1

/-- Raising, starting the next operation and counting leave the end of a command as it is. -/
theorem CmdEnded.kept {st code : Nat} (h : CmdEnded d st code) (k : Within raiseFlds { d with nvm := e.nvm } e) : CmdEnded e st code := by
  obtain ⟨hbusy, hstate, hfail, hsum⟩ := h
  exact ⟨(k.regs _ (by decide) (by decide) _ rfl).trans hbusy, (k.regs _ (by decide) (by decide) _ rfl).trans hstate,
    (k.regs _ (by decide) (by decide) _ rfl).trans hfail, fun i hi => (k.regs _ (by decide) (by decide) i rfl).trans (hsum i hi)⟩

theorem cmdEnded_of_puts (st code : Nat) :
    CmdEnded ((((d.put R.REAM.CMD_BUSY 0).put R.REAM.CMD_STATE st).put R.REAM.CMD_FAIL code).sumAll R.HIF.SUM_NVM)
      (st % 2 ^ R.REAM.CMD_STATE.width) (code % 2 ^ R.REAM.CMD_FAIL.width) := by
  refine ⟨?_, ?_, ?_, fun i hi => get_sumAll _ (by decide) (by decide) hi⟩
  -- each of the three reads finds the one write of its field
  all_goals simp (disch := decide)

theorem cmdFail_ended {code : Nat} (h : code < 2 ^ R.REAM.CMD_FAIL.width) : CmdEnded (d.cmdFail code) 3 code := by
  have hend := cmdEnded_of_puts (d := d.setNvm { d.nvm with queue := d.nvm.queue.filter (fun op => !op.ofCmd) }) 3 code
  rwa [Nat.mod_eq_of_lt h] at hend

/-- What an operation raises when it has failed, and the start of the next one. -/
theorem raiseNext_within (t inst x : Nat) : Within raiseFlds { d with nvm := ((d.raise t 2 inst x).flashNext t).nvm }
    ((d.raise t 2 inst x).flashNext t) := (raise_within _ _ _ _ _).ofNvm.thenNvm (flashNext_within t)

theorem raiseNext_raised (t x : Nat) {inst : Nat} (h : inst < 256) : Raised ((d.raise t 2 inst x).flashNext t) 2 inst :=
  (flashNext_sticky t).raised (raise_raised _ _ _ _ _ h)

theorem raiseNext_mem (t inst x : Nat) : ((d.raise t 2 inst x).flashNext t).nvm.mem = d.nvm.mem :=
  (flashNext_mem t).trans (raise_within _ _ _ _ _).mem_eq

/-! REAM_CMD_DONE. -/

theorem runOp_within (t : Nat) (op : FlashOp) : FlashWithin d (d.runOp t op) := by
  unfold Dev.runOp
  split
  · exact (FlashWithin.ofRaise (journalStart_within _ _ _ _)).trans (opDone_within _ _)
  · exact opDone_within _ _

/-- The module with the command's operations taken out of the flash's records. -/
def Dev.cmdTaken (d : Dev) : Dev :=
  let cur : List FlashOp := match d.nvm.cur with | some op => if d.cmdOwns op then [op] else [] | none => []
  d.setNvm { d.nvm with cur := if cur.isEmpty then d.nvm.cur else none, queue := d.nvm.queue.filter (fun op => !d.cmdOwns op) }

theorem cmdDone_failed (t : Nat) : ∃ x, d.cmdDone t true = ((d.cmdTaken.cmdFail 2).raise t 2 17 x).flashNext t := ⟨_, rfl⟩

/-- A command that ends well has run what was left of it; its status follows, and the next operation. -/
theorem cmdDone_well (t : Nat) : ∃ e, FlashWithin d e ∧ d.cmdDone t false =
    ((((e.put R.REAM.CMD_BUSY 0).put R.REAM.CMD_STATE 2).put R.REAM.CMD_FAIL 0).sumAll R.HIF.SUM_NVM).flashNext t := by
  refine ⟨_, ?_, rfl⟩
  exact ((setNvm_flashWithin d _).trans (.foldl _ (fun _ op => opDone_within t op) _ _)).trans (.foldl _ (fun _ op => runOp_within t op) _ _)

theorem exec_reamCmdDone (failed : Bool) (hbusy : s.dev.get R.REAM.CMD_BUSY = 1) (hop : s.dev.get R.REAM.CMD_OP ≠ 3)
    (hon : s.dev.flashOn = true) : exec (.reamCmdDone failed) s =
      .next { s with dev := (s.dev.cmdDone s.clk.ns failed).settle s.clk.ns } := by
  show execReamCmdDone failed s = _
  simp [execReamCmdDone, Dev.is, hbusy, hop, hon]

/-- REAM_CMD_DONE of a command that fails. -/
theorem cmdDone_fails (t : Nat) : CmdEnded (d.cmdDone t true) 3 2 ∧ Raised (d.cmdDone t true) 2 17 ∧ FlashWithin d (d.cmdDone t true) := by
  obtain ⟨x, hx⟩ := cmdDone_failed (d := d) t
  rw [hx]
  exact ⟨(cmdFail_ended (by decide)).kept (raiseNext_within _ _ _), raiseNext_raised _ _ (by decide),
    ((setNvm_flashWithin d _).trans (cmdFail_within 2)).trans (.ofRaise (raiseNext_within _ _ _))⟩

/-- REAM_CMD_DONE of a command that ends well. -/
theorem cmdDone_ends (t : Nat) : CmdEnded (d.cmdDone t false) 2 0 ∧ FlashWithin d (d.cmdDone t false) := by
  obtain ⟨e, hwithin, he⟩ := cmdDone_well (d := d) t
  have hstatus : Within Claim.flashFlds e ((((e.put R.REAM.CMD_BUSY 0).put R.REAM.CMD_STATE 2).put R.REAM.CMD_FAIL 0).sumAll R.HIF.SUM_NVM) := by
    simp (disch := decide)
  rw [he]
  exact ⟨(cmdEnded_of_puts 2 0).kept (flashNext_within _),
    (hwithin.trans (hstatus.flashWithin (by decide))).trans (.ofRaise (flashNext_within _))⟩

/-! FLASH_OP_TIMEOUT. -/

/-- The module with the operation in progress ended. -/
def Dev.opTaken (d : Dev) : Dev := d.setNvm { d.nvm with cur := none }

/-- What is left of the operation that has timed out: its command fails, if it has one. -/
def Dev.opLate (d : Dev) (t : Nat) (op : FlashOp) : Dev :=
  if d.is R.REAM.CMD_BUSY && d.cmdOwns op then d.opTaken.cmdFail 1 else d.opTaken.opFail t 1 false op

theorem flashTimeout_eq (t : Nat) {op : FlashOp} (h : d.nvm.cur = some op) :
    d.flashTimeout t = ((d.opLate t op).raise t 2 16 (d.nvm.opSector op)).flashNext t := by
  unfold Dev.flashTimeout Dev.opLate Dev.opTaken
  simp only [h]

theorem opLate_within (t : Nat) (op : FlashOp) : FlashWithin d (d.opLate t op) :=
  .ite ((setNvm_flashWithin d _).trans (cmdFail_within 1)) ((setNvm_flashWithin d _).trans (opFail_within _ _ _ _))

theorem opLate_mem (t : Nat) (op : FlashOp) : (d.opLate t op).nvm.mem = d.nvm.mem := by
  unfold Dev.opLate
  split
  · rfl
  · exact opFail_mem _ _ _ _

theorem opLate_ended (t : Nat) {op : FlashOp} (hbusy : d.is R.REAM.CMD_BUSY = true) (hown : d.cmdOwns op = true) :
    CmdEnded (d.opLate t op) 3 1 := by
  unfold Dev.opLate
  rw [hbusy, hown]
  exact cmdFail_ended (by decide)

/-! FLASH_OP_DONE. -/

/-- An operation that has yielded is counted (R497). -/
theorem yielded_within (op : FlashOp) : Within countFlds d (d.yielded op) := by
  unfold Dev.yielded
  split
  · simp (disch := first | decide | (intros; simp (disch := decide)))
  · exact Within.refl d

theorem flashDone_well (t : Nat) (w : Dev → Dev) {op : FlashOp} (h : d.nvm.cur = some op) :
    d.flashDone t false w = ((d.opTaken.opDone t w op).flashNext t).yielded op := by
  unfold Dev.flashDone Dev.opTaken
  simp [h]

theorem flashDone_failed (t : Nat) (w : Dev → Dev) {op : FlashOp} (h : d.nvm.cur = some op) :
    d.flashDone t true w = (((d.opTaken.opFail t 2 true op).raise t 2 17 (d.nvm.opSector op)).flashNext t).yielded op := by
  unfold Dev.flashDone Dev.opTaken
  simp [h]

theorem exec_flashOpDone (failed : Bool) (hon : s.dev.flashOn = true) : exec (.flashOpDone failed) s =
    .next { s with dev := (s.dev.flashDone s.clk.ns failed (Dev.recordWritten s.clk.ns)).settle s.clk.ns } := by
  show execFlashOpDone failed s = _
  simp [execFlashOpDone, hon]

theorem flashDone_well_within (t : Nat) {op : FlashOp} (h : d.nvm.cur = some op) :
    FlashWithin d (d.flashDone t false (Dev.recordWritten t)) := by
  rw [flashDone_well t _ h]
  exact (((setNvm_flashWithin d _).trans (opDone_within _ _)).trans (.ofRaise (flashNext_within _))).trans
    ((yielded_within _).flashWithin (by decide))

theorem flashDone_well_mem (t : Nat) (w : Dev → Dev) {op : FlashOp} (h : d.nvm.cur = some op) :
    (d.flashDone t false w).nvm.mem = (d.opTaken.opDone t w op).nvm.mem := by
  rw [flashDone_well t _ h]
  exact (yielded_within _).mem_eq.trans (flashNext_mem t)

/-- FLASH_OP_DONE of a failed operation of a command: the command has failed, and no byte has changed. -/
theorem flashDone_fails (t : Nat) (w : Dev → Dev) {op : FlashOp} (h : d.nvm.cur = some op) (hcmd : op.ofCmd = true) :
    CmdEnded (d.flashDone t true w) 3 2 ∧ Raised (d.flashDone t true w) 2 17 ∧ (d.flashDone t true w).nvm.mem = d.nvm.mem ∧
    FlashWithin d (d.flashDone t true w) := by
  rw [flashDone_failed t _ h, opFail_ofCmd _ _ _ hcmd]
  refine ⟨((cmdFail_ended (by decide)).kept (raiseNext_within _ _ _)).kept ((yielded_within op).mono (by decide)).ofNvm,
    ((yielded_within op).sticky (by decide)).raised (raiseNext_raised _ _ (by decide)),
    (yielded_within op).mem_eq.trans (raiseNext_mem _ _ _), ?_⟩
  exact (((setNvm_flashWithin d _).trans (cmdFail_within 2)).trans (.ofRaise (raiseNext_within _ _ _))).trans
    ((yielded_within _).flashWithin (by decide))

/-! The bytes of a page and of a sector. -/

/-- n bytes programmed from an address on. -/
def programRun (m : List Host.Cell) (b : Nat) (v : Nat → Byte) (n : Nat) : List Host.Cell :=
  (List.range n).foldl (fun m i => program m (b + i) (v i)) m

theorem programRun_succ (m : List Host.Cell) (b : Nat) (v : Nat → Byte) (n : Nat) :
    programRun m b v (n + 1) = program (programRun m b v n) (b + n) (v n) := by
  simp [programRun, List.range_succ]

theorem programRun_memWf {m : List Host.Cell} (h : memWf m = true) (b : Nat) (v : Nat → Byte) (n : Nat) : memWf (programRun m b v n) = true := by
  induction n with
  | zero => exact h
  | succ n ih => rw [programRun_succ]; exact program_memWf _ _ _ ih

/-- Each byte of the run is the AND of what stood there and what was sent; every other byte stays. -/
theorem byteAt_programRun {m : List Host.Cell} (h : memWf m = true) (b : Nat) (v : Nat → Byte) (n a : Nat) :
    byteAt (programRun m b v n) a = if b ≤ a ∧ a < b + n then byteAt m a &&& v (a - b) else byteAt m a := by
  induction n with
  | zero => rw [if_neg (by omega)]; rfl
  | succ n ih =>
    rw [programRun_succ, byteAt_program _ _ _ _ (programRun_memWf h b v n)]
    by_cases ha : a = b + n
    · subst ha
      rw [if_pos rfl, ih, if_neg (by omega), if_pos (by omega), Nat.add_sub_cancel_left]
    · have hrange : (b ≤ a ∧ a < b + (n + 1)) ↔ (b ≤ a ∧ a < b + n) := by omega
      simp only [ha, if_false, ih, hrange]

theorem byteAt_erase (sector a : Nat) (l : List Host.Cell) :
    byteAt (erase l sector) a = if a / sectorBytes = sector then 255 else byteAt l a := by
  unfold erase
  induction l with
  | nil => simp [byteAt_nil]
  | cons c l ih =>
    rw [List.filter_cons, byteAt_cons]
    by_cases hc : c.1 / sectorBytes = sector
    · rw [if_neg (by simp [hc]), ih]
      by_cases ha : c.1 = a
      · rw [← ha, if_pos hc, if_pos hc]
      · rw [if_neg ha]
    · rw [if_pos (by simp [hc]), byteAt_cons, ih]
      by_cases ha : c.1 = a
      · rw [if_pos ha, if_pos ha, ← ha, if_neg hc]
      · rw [if_neg ha, if_neg ha]

/-- The byte of REAM_XFER that a PROGRAM puts at byte i of a page. -/
def Dev.pageByte (d : Dev) (p i : Nat) : Byte :=
  let x := pageBytes * p - d.get R.REAM.CMD_OFF + i
  BitVec.ofNat 8 (d.get R.REAM.REAM_XFER (x / 4) >>> (8 * (x % 4)))

theorem programPage_mem (slot p : Nat) : (d.programPage slot p).nvm.mem =
    programRun d.nvm.mem (slot * 8388608 + pageBytes * p) (d.pageByte p)
      (min pageBytes (d.get R.REAM.CMD_OFF + d.get R.REAM.CMD_LEN - pageBytes * p)) := (pageCounted_counts _).mem_eq

/-- Settles O28: REAM_CMD_DONE by its outcome, FLASH_OP_TIMEOUT by what is left of the operation, FLASH_OP_DONE by the operation that has
ended. -/
theorem flashOperations : Obligations.FlashOperations := by
  intro s failed op slot p k
  refine ⟨fun hbusy hop hon => ⟨_, exec_reamCmdDone failed hbusy hop hon, ?_⟩, fun hcur => ⟨_, rfl, ?_⟩, fun hon hwf =>
    ⟨fun hcur hclean => ⟨_, exec_flashOpDone false hon, ?_⟩, fun hcur => ⟨_, exec_flashOpDone false hon, ?_⟩,
      fun hcur hcmd => ⟨_, exec_flashOpDone true hon, ?_⟩⟩⟩
  · cases failed with
    | true =>
      obtain ⟨⟨hb, hs, hf, hsum⟩, hraised, hframe⟩ := cmdDone_fails (d := s.dev) s.clk.ns
      exact ⟨hb, hs, hf, hsum, fun _ => hraised, hframe⟩
    | false =>
      obtain ⟨⟨hb, hs, hf, hsum⟩, hframe⟩ := cmdDone_ends (d := s.dev) s.clk.ns
      exact ⟨hb, hs, hf, hsum, fun h => absurd h (by decide), hframe⟩
  · rw [flashTimeout_eq s.clk.ns hcur]
    refine ⟨raiseNext_raised _ _ (by decide), (raiseNext_mem _ _ _).trans (opLate_mem _ _), fun hbusy hown => ?_,
      (opLate_within _ _).trans (.ofRaise (raiseNext_within _ _ _))⟩
    obtain ⟨hb, hs, hf, -⟩ := (opLate_ended s.clk.ns hbusy hown).kept (raiseNext_within s.clk.ns 16 (s.dev.nvm.opSector op))
    exact ⟨hb, hs, hf⟩
  · refine ⟨fun a => ?_, flashDone_well_within _ hcur⟩
    rw [flashDone_well_mem _ _ hcur, opDone_program_clean (d := s.dev.opTaken) _ _ hclean, programPage_mem]
    exact byteAt_programRun hwf _ _ _ a
  · refine ⟨fun a => ?_, flashDone_well_within _ hcur⟩
    rw [flashDone_well_mem _ _ hcur]
    exact (congrArg (byteAt · a) (eraseSector_mem _ _)).trans (byteAt_erase _ _ _)
  · obtain ⟨⟨hb, hs, hf, -⟩, hraised, hmem, hframe⟩ := flashDone_fails s.clk.ns (Dev.recordWritten s.clk.ns) hcur hcmd
    exact ⟨hb, hs, hf, hraised, hmem, hframe⟩

end Sys2Proof.Machine
end

section
/-! PROOFS. REAM_CMD: what an accepted ERASE, PROGRAM, VERIFY or SET_PREF starts (R109 to R111, R113). -/
namespace Sys2Proof.Machine
variable {L : List Fld} {E : List (Fld × Nat)} {d e : Dev} {s : State}

/-! The write. -/

/-- A write of REAM_CMD has no effect but the start of its command: both its fields are WO. -/
theorem writeAct_reamCmd (t : Nat) (src : Source) {slot op : Nat} (hslot : slot < 2) (hop : op < 16) :
    d.writeAct t src (winAddr wReam 0x40) (16 * slot + op) = d.cmdStart t slot op := by
  have hwin : winOf (winAddr wReam 0x40) = some (4, 0x40) := by decide
  have hword : plainWord 4 0x40 (srcIx src) = [(R.REAM.CMD_SLOT, 0), (R.REAM.CMD_OPCODE, 0)] := by
    cases src <;> rfl
  have hbit : bitOf (16 * slot + op) 4 = slot := by
    simp only [bitOf, Nat.shiftRight_eq_div_pow]
    omega
  have hmod : (16 * slot + op) % 16 = op := by omega
  rw [writeAct_eq t src hwin (by decide), hword]
  show d.cmdStart t (bitOf (16 * slot + op) 4) ((16 * slot + op) % 16) = _
  rw [hbit, hmod]

theorem slotIx_lt (slot : Slot) : slotIx slot < 2 := by
  cases slot <;> decide

/-! The status of the command. -/

/-- What a command that starts writes of its own status. -/
def runFlds : List Fld := [R.REAM.CMD_BUSY, R.REAM.CMD_OP, R.REAM.CMD_STATE, R.REAM.CMD_FAIL, I.REAM.CMD_RUN_SLOT]

theorem cmdRun_within (slot op : Nat) : Within runFlds d (d.cmdRun slot op) := by
  unfold Dev.cmdRun
  simp (disch := decide)

theorem cmdRun_started (slot : Nat) {op : Nat} (h : op < 2 ^ R.REAM.CMD_OP.width) : Claim.CmdStarted (d.cmdRun slot op) op := by
  unfold Claim.CmdStarted Dev.cmdRun
  simp (disch := decide) [Nat.mod_eq_of_lt h]

/-- What follows the start leaves the status of the command alone. -/
theorem cmdStarted_kept {op : Nat} (h : Claim.CmdStarted d op) (k : ReamWithin L d e E)
    (hL : runFlds.all (fun f => !hasFld L f) = true) (hE : runFlds.all (fun f => !hasEl E f 0) = true) : Claim.CmdStarted e op := by
  have hget : ∀ f ∈ runFlds, e.get f = d.get f := fun f hf =>
    k.get ((by decide : ∀ f ∈ runFlds, f.id < 2048) f hf) (by simpa using List.all_eq_true.mp hL f hf)
      (by simpa using List.all_eq_true.mp hE f hf)
  obtain ⟨hbusy, hop, hstate, hfail⟩ := h
  exact ⟨(hget _ (by decide)).trans hbusy, (hget _ (by decide)).trans hop, (hget _ (by decide)).trans hstate, (hget _ (by decide)).trans hfail⟩

/-! ERASE. -/

/-- The fields of a slot's summary that ERASE writes. -/
def eraseSlotFlds : List Fld := [R.REAM.SLOT_STATE, R.REAM.SLOT_LENGTH, R.REAM.SLOT_IMAGE_ID, R.REAM.SLOT_DECL_CLASS, R.REAM.SLOT_SEC_VER]

/-- Those fields of one slot. -/
def eraseEls (k : Nat) : List (Fld × Nat) := eraseSlotFlds.map (fun f => (f, k))

/-- Nothing is recorded of the slot. -/
def Dev.slotBlank (d : Dev) (k : Nat) : Dev :=
  (((d.put R.REAM.SLOT_LENGTH 0 k).put R.REAM.SLOT_IMAGE_ID 0 k).put R.REAM.SLOT_DECL_CLASS 0 k).put R.REAM.SLOT_SEC_VER 0 k

/-- What ERASE does after the slot is WRITING: no page is programmed, the classes are shown, and the sectors wait to be erased. -/
def Dev.eraseTail (d : Dev) (t k : Nat) : Dev := ((d.setPages k 0).showClass).enqueueAll t ((List.range 128).map (FlashOp.erase k))

theorem cmdStart_erase (t k : Nat) : d.cmdStart t k 1 = (((d.cmdRun k 1).slotBlank k).setSlot t k 1 0 0).eraseTail t k := rfl

theorem slotBlank_within (k : Nat) : Within L d (d.slotBlank k) (eraseEls k) := by
  unfold Dev.slotBlank eraseEls
  simp (disch := decide) only [within_put_map, within_self]

theorem eraseTail_within (t k : Nat) : ReamWithin (R.REAM.SLOT_CLASS :: raiseFlds) d (d.eraseTail t k) := by
  have hclass : Within (R.REAM.SLOT_CLASS :: raiseFlds) (d.setPages k 0) (d.setPages k 0).showClass := showClass_within.mono (by decide)
  exact .ofNvm (((setNvm_within d _).thenNvm hclass.ofNvm).thenNvm ((enqueueAll_within _ _).mono (by decide)))

theorem eraseTail_ream (t k : Nat) : (d.eraseTail t k).ream = d.ream := by
  have hlast := (enqueueAll_within (d := (d.setPages k 0).showClass) t ((List.range 128).map (FlashOp.erase k))).ream_eq
  exact hlast.trans showClass_within.ream_eq

theorem setSlot_checked_none (t k sd md : Nat) : (d.setSlot t k 1 sd md).checked k = none := by
  have hream : (d.setSlot t k 1 sd md).ream = ((d.put R.REAM.SLOT_STATE 1 k).setChecked k none).ream := (enqueue_within _ _).ream_eq
  rw [checked_of_ream hream, checked_setChecked]

theorem cmdStart_erase_within (t k : Nat) : ReamWithin Claim.cmdFlds d (d.cmdStart t k 1) (eraseEls k) := by
  have hblank : Within Claim.cmdFlds d ((d.cmdRun k 1).slotBlank k) (eraseEls k) :=
    ((cmdRun_within k 1).mono (by decide)).addEls.trans (slotBlank_within k)
  have hstate : ReamWithin Claim.cmdFlds ((d.cmdRun k 1).slotBlank k) (((d.cmdRun k 1).slotBlank k).setSlot t k 1 0 0) (eraseEls k) :=
    (setSlot_within _ _ _ _ _).weaken (by decide) (by simp [eraseEls, eraseSlotFlds])
  rw [cmdStart_erase]
  exact (hblank.reamWithin.trans hstate).trans ((eraseTail_within _ _).weaken (by decide) (by simp))

theorem cmdStart_erase_started (t k : Nat) : Claim.CmdStarted (d.cmdStart t k 1) 1 := by
  have hafter : ReamWithin (R.REAM.SLOT_CLASS :: raiseFlds) (d.cmdRun k 1) (d.cmdStart t k 1) (eraseEls k) := by
    rw [cmdStart_erase]
    exact ((slotBlank_within k).reamWithin.trans ((setSlot_within _ _ _ _ _).weaken (by decide) (by simp [eraseEls, eraseSlotFlds]))).trans
      ((eraseTail_within _ _).weaken (by decide) (by simp))
  refine cmdStarted_kept (cmdRun_started k (by decide)) hafter (by decide) ?_
  simp only [List.all_eq_true, Bool.not_eq_true']
  exact fun f hf => hasEl_map_of_not_hasFld ((by decide : ∀ f ∈ runFlds, hasFld eraseSlotFlds f = false) f hf) _ _

/-- The slot that ERASE leaves: WRITING, with nothing recorded and no checked configuration (R109). -/
theorem cmdStart_erase_slot (t k : Nat) : (d.cmdStart t k 1).get R.REAM.SLOT_STATE k = 1 ∧ (d.cmdStart t k 1).get R.REAM.SLOT_LENGTH k = 0 ∧
    (d.cmdStart t k 1).get R.REAM.SLOT_IMAGE_ID k = 0 ∧ (d.cmdStart t k 1).checked k = none := by
  have hel : ∀ f : Fld, f.id ≠ R.REAM.SLOT_STATE.id → hasEl [(R.REAM.SLOT_STATE, k)] f k = false := fun f hf => by
    simp [hasEl, hf.symm]
  rw [cmdStart_erase, checked_of_ream (eraseTail_ream _ _), setSlot_checked_none, (eraseTail_within _ _).get (by decide) (by decide) rfl,
    (eraseTail_within _ _).get (by decide) (by decide) rfl, (eraseTail_within _ _).get (by decide) (by decide) rfl, setSlot_state,
    (setSlot_within _ _ _ _ _).get (by decide) (by decide) (hel _ (by decide)),
    (setSlot_within _ _ _ _ _).get (by decide) (by decide) (hel _ (by decide))]
  unfold Dev.slotBlank
  simp (disch := decide)

/-! PROGRAM, VERIFY and SET_PREF. -/

theorem cmdStart_program (t k : Nat) : ∃ v l, d.cmdStart t k 2 = ((d.cmdRun k 2).setPages k v).enqueueAll t l := ⟨_, _, rfl⟩

theorem cmdStart_program_starts (t k : Nat) : Claim.CmdStarted (d.cmdStart t k 2) 2 ∧
    Within Claim.cmdFlds { d with nvm := (d.cmdStart t k 2).nvm } (d.cmdStart t k 2) := by
  obtain ⟨v, l, h⟩ := cmdStart_program (d := d) t k
  have hafter : Within raiseFlds { d.cmdRun k 2 with nvm := (((d.cmdRun k 2).setPages k v).enqueueAll t l).nvm }
      (((d.cmdRun k 2).setPages k v).enqueueAll t l) := (setNvm_within _ _).thenNvm (enqueueAll_within t l)
  rw [h]
  exact ⟨cmdStarted_kept (cmdRun_started k (by decide)) (.ofNvm hafter) (by decide) (by decide),
    ((cmdRun_within k 2).mono (by decide)).ofNvm.thenNvm (hafter.mono (by decide))⟩

theorem cmdStart_verify_slot {k : Nat} (hk : k < 2) (t : Nat) : (d.cmdStart t k 3).get I.REAM.CMD_RUN_SLOT = k :=
  (Dev.get_put_same _ _ _ _).trans (Nat.mod_eq_of_lt hk)

theorem cmdStart_setPref_starts (t k : Nat) : Claim.CmdStarted (d.cmdStart t k 4) 4 ∧
    Within Claim.cmdFlds { d with nvm := (d.cmdStart t k 4).nvm } (d.cmdStart t k 4) := by
  have hafter := enqueue_within (d := d.cmdRun k 4) t (.commit 2 [k + 1])
  exact ⟨cmdStarted_kept (cmdRun_started k (by decide)) (.ofNvm hafter) (by decide) (by decide),
    ((cmdRun_within k 4).mono (by decide)).ofNvm.thenNvm (hafter.mono (by decide))⟩

/-! An accepted write of REAM_CMD. -/

/-- The start of the command is what the write comes to, on the module that has counted it. -/
theorem does_reamCmd {c : Instr} {src : Source} {slot : Slot} {op : Nat} {P : Dev → Prop} (hop : op < 16)
    (hx : exec c s = s.hostWrite src (winAddr wReam 0x40) 0xF (16 * slotIx slot + op))
    (h : Accepts s src (winAddr wReam 0x40) (16 * slotIx slot + op))
    (hp : P ((s.dev.counted src).cmdStart s.clk.ns (slotIx slot) op)) : Does c s P := by
  refine does_write hx h ?_
  rwa [writeAct_reamCmd _ _ (slotIx_lt slot) hop]

theorem counted_cmdFlds (src : Source) : Within Claim.cmdFlds d (d.counted src) := (counted_within src).mono (by decide)

/-- Settles O3: each of the four commands is a write of REAM_CMD, and starts as its OP has it. -/
theorem reamCommandWrites : Obligations.ReamCommandWrites := by
  intro s src slot
  refine ⟨fun h => does_reamCmd (by decide) rfl h ?_, fun h => does_reamCmd (by decide) rfl h ?_,
    fun h => does_reamCmd (by decide) rfl h ?_, fun h => does_reamCmd (by decide) rfl h ?_⟩
  · obtain ⟨hstate, hlength, hid, hchecked⟩ := cmdStart_erase_slot (d := s.dev.counted src) s.clk.ns (slotIx slot)
    exact ⟨cmdStart_erase_started _ _, hstate, hlength, hid, hchecked,
      (counted_cmdFlds src).addEls.reamWithin.trans (cmdStart_erase_within _ _)⟩
  · obtain ⟨hstarted, hwithin⟩ := cmdStart_program_starts (d := s.dev.counted src) s.clk.ns (slotIx slot)
    exact ⟨hstarted, (counted_cmdFlds src).ofNvm.thenNvm hwithin⟩
  · exact ⟨cmdRun_started _ (by decide), cmdStart_verify_slot (slotIx_lt slot) _, (counted_cmdFlds src).trans ((cmdRun_within _ 3).mono (by decide))⟩
  · obtain ⟨hstarted, hwithin⟩ := cmdStart_setPref_starts (d := s.dev.counted src) s.clk.ns (slotIx slot)
    exact ⟨hstarted, (counted_cmdFlds src).ofNvm.thenNvm hwithin⟩

end Sys2Proof.Machine
end

section
/-! PROOFS. What a transition of the modes records (R139), and the limits and counts that make one due (R135, R150, R154, R276, R282). -/
namespace Sys2Proof.Machine
variable {L : List Fld} {E : List (Fld × Nat)} {d e : Dev} {s : State}

/-! The records of a transition. -/

/-- Nothing waits for a transition of the mode that is left. -/
def Dev.duesCleared (d : Dev) : Dev := dueFlds.foldl (fun d f => d.put f 0) d

theorem duesCleared_within : Within dueFlds d d.duesCleared := by
  unfold Dev.duesCleared dueFlds
  simp (disch := decide)

theorem modeSet_eq (m : Mode) (cause : Nat) : d.modeSet m cause =
    ((((((((d.duesCleared.put R.MODE.PREV (d.get R.MODE.STATE)).put R.MODE.STATE m.code).put R.MODE.ENTRY_CAUSE cause).put
      R.MODE.MODE_FRAMES 1).bump R.MODE.TRANS_CNT).put R.MODE.RET_MODE 0).put R.MODE.PRE_PHASE 0).sumAll R.HIF.SUM_MODE) := rfl

theorem ofCode_code (m : Mode) : Mode.ofCode (m.code % 2 ^ R.MODE.STATE.width) = m := by
  cases m <;> rfl

theorem modeSet_mode (m : Mode) (cause : Nat) : (d.modeSet m cause).mode = m := by
  have hstate : (d.modeSet m cause).get R.MODE.STATE = m.code % 2 ^ R.MODE.STATE.width := by
    rw [modeSet_eq]
    simp (disch := decide)
  rw [Dev.mode, hstate, ofCode_code]

/-- The count of transitions goes on from what it was, and stops at the end of its field. -/
theorem modeSet_counts (m : Mode) (cause : Nat) : (d.modeSet m cause).get R.MODE.TRANS_CNT =
    min (d.get R.MODE.TRANS_CNT + 1) (2 ^ R.MODE.TRANS_CNT.width - 1) := by
  have hkept : d.duesCleared.get R.MODE.TRANS_CNT = d.get R.MODE.TRANS_CNT := duesCleared_within.regs _ (by decide) (by decide) _ rfl
  rw [modeSet_eq]
  simp (disch := decide) [hkept]

theorem modeSet_within (m : Mode) (cause : Nat) :
    Within (dueFlds ++ [R.MODE.STATE, R.MODE.PREV, R.MODE.ENTRY_CAUSE, R.MODE.MODE_FRAMES, R.MODE.TRANS_CNT, R.MODE.RET_MODE,
      R.MODE.PRE_PHASE, R.HIF.SUM_MODE]) d (d.modeSet m cause) := by
  rw [modeSet_eq]
  simp (disch := decide) [duesCleared_within.mono]

/-- Settles O24: each record is read off the one write of it, the count by its saturation. -/
theorem modeEntryRecords : Obligations.ModeEntryRecords := by
  intro d m cause hcause
  refine ⟨modeSet_mode m cause, ?_, ?_, ?_, modeSet_counts m cause, ?_, modeSet_within m cause⟩
  · rw [modeSet_eq]
    simp (disch := decide)
    rfl
  · rw [modeSet_eq]
    simp (disch := decide)
    exact Nat.mod_eq_of_lt (Nat.lt_trans hcause (by decide))
  · rw [modeSet_eq]
    simp (disch := decide)
  · intro i hi
    exact get_sumAll _ (by decide) (by decide) hi

/-! The time limits. -/

theorem modeLimit_reached (t inst : Nat) {m : Mode} (hmode : d.mode = m) (hdue : d.get I.MODE.DUE_LIMIT = 0) :
    d.modeLimit t m inst = ((d.put I.MODE.DUE_LIMIT 1).raise t 3 inst 0).settle t := by
  simp [Dev.modeLimit, Dev.is, hmode, hdue]

theorem modeLimit_other (t inst : Nat) {m : Mode} (hmode : d.mode ≠ m) : d.modeLimit t m inst = d := by
  simp [Dev.modeLimit, hmode]

theorem limitReached (t : Nat) {inst : Nat} (h : inst < 256) :
    Claim.LimitReached d ((d.put I.MODE.DUE_LIMIT 1).raise t 3 inst 0) inst :=
  ⟨by simp (disch := decide), raise_raised _ _ _ _ _ h, by simp (disch := decide)⟩

/-- A command that reports a limit of mode m, in that mode and for the first time. -/
theorem does_modeLimit {c : Instr} {m : Mode} {inst : Nat} (hx : exec c s = s.onDev fun d => d.modeLimit s.clk.ns m inst) (h : inst < 256)
    (hmode : s.dev.mode = m) (hdue : s.dev.get I.MODE.DUE_LIMIT = 0) : Does c s fun d => Claim.LimitReached s.dev d inst := by
  refine ⟨(s.dev.put I.MODE.DUE_LIMIT 1).raise s.clk.ns 3 inst 0, ?_, limitReached s.clk.ns h⟩
  rw [hx, State.onDev_next, modeLimit_reached s.clk.ns inst hmode hdue]

/-- The same command in another mode. -/
theorem modeLimit_ignored {c : Instr} {m : Mode} {inst : Nat} (hx : exec c s = s.onDev fun d => d.modeLimit s.clk.ns m inst)
    (hmode : s.dev.mode ≠ m) : exec c s = .next s := by
  rw [hx, State.onDev_next, modeLimit_other s.clk.ns inst hmode]

/-! The counts. -/

/-- A command that sets one bit and nothing else. -/
theorem gives_put_one {c : Instr} {f : Fld} (hx : exec c s = .next { s with dev := s.dev.put f 1 }) (hf : f.id < 2048) (hw : f.width ≠ 0) :
    Gives c s fun t => t.dev.get f = 1 ∧ Frame [f] s t :=
  ⟨_, hx, get_put_one f hw 0, Within.of_put _ f 1 0 hf (by simp [hasFld]), rfl, rfl, rfl⟩

theorem exec_syncHoldReached (hmode : s.dev.mode = .sync) (hrun : s.dev.get R.MODE.SYNC_HOLD ≤ s.dev.get I.MODE.SYNC_RUN) :
    exec .syncHoldReached s = .next { s with dev := s.dev.put I.MODE.DUE_SYNC_EXIT 1 } := by
  show execSyncHoldReached s = _
  simp [execSyncHoldReached, hmode, hrun]

theorem exec_rtRecoverReached (hmode : s.dev.mode = .rideThrough) (hrun : s.dev.get R.MODE.RT_RECOVER ≤ s.dev.get I.MODE.RT_RUN) :
    exec .rtRecoverReached s = .next { s with dev := s.dev.put I.MODE.DUE_RT_EXIT 1 } := by
  show execRtRecoverReached s = _
  simp [execRtRecoverReached, hmode, hrun]

theorem exec_gridFault (hdet : 0 < s.dev.get R.CE.GM_DET)
    (hrun : s.dev.get R.CE.GM_DET ≤ (if s.dev.is I.CE.BUSY then s.dev.get I.CE.F_OUT else s.dev.get R.CE.OUT_BAND_RUN)) :
    exec .gridFault s = .next { s with dev := s.dev.put R.CE.GRID_FAULT 1 } := by
  show execGridFault s = _
  simp [execGridFault, Dev.gridTake, hdet, hrun]

/-- The ramp is reported done; in STOPPING it also makes the transition due. -/
def Dev.rampEnd (d : Dev) : Dev := (d.put R.CE.RAMP_DONE 1).onlyIf (d.mode = .stopping) (fun d => d.put I.MODE.DUE_RAMP 1)

theorem exec_rampDone (hrun : 10 ≤ s.dev.get I.MODE.RAMP_RUN) : exec .rampDone s = .next { s with dev := s.dev.rampEnd } := by
  show execRampDone s = _
  simp [execRampDone, Dev.rampEnd, hrun]

theorem rampEnd_stopping (h : d.mode = .stopping) : d.rampEnd = (d.put R.CE.RAMP_DONE 1).put I.MODE.DUE_RAMP 1 := by
  simp [Dev.rampEnd, Dev.onlyIf, h]

theorem rampEnd_other (h : d.mode ≠ .stopping) : d.rampEnd = d.put R.CE.RAMP_DONE 1 := by
  simp [Dev.rampEnd, Dev.onlyIf, h]

theorem rampDone_gives (hrun : 10 ≤ s.dev.get I.MODE.RAMP_RUN) : Gives .rampDone s fun t =>
    t.dev.get R.CE.RAMP_DONE = 1 ∧ (s.dev.mode = .stopping → t.dev.get I.MODE.DUE_RAMP = 1) ∧
    (s.dev.mode ≠ .stopping → Frame [R.CE.RAMP_DONE] s t) ∧ Frame [R.CE.RAMP_DONE, I.MODE.DUE_RAMP] s t := by
  refine ⟨_, exec_rampDone hrun, ?_⟩
  by_cases hmode : s.dev.mode = .stopping
  · rw [rampEnd_stopping hmode]
    exact ⟨by simp (disch := decide), fun _ => get_put_one _ (by decide) _, fun h => absurd hmode h, by simp (disch := decide), rfl, rfl, rfl⟩
  · rw [rampEnd_other hmode]
    exact ⟨get_put_one _ (by decide) _, fun h => absurd h hmode, fun _ => ⟨by simp (disch := decide), rfl, rfl, rfl⟩,
      by simp (disch := decide), rfl, rfl, rfl⟩

/-- Settles O23: the limits by whether their mode is in force, the counts by the one bit that each sets. -/
theorem limitsAndCounts : Obligations.LimitsAndCounts :=
  ⟨fun s => ⟨does_modeLimit rfl (by decide), does_modeLimit rfl (by decide), does_modeLimit rfl (by decide), does_modeLimit rfl (by decide),
    modeLimit_ignored rfl, modeLimit_ignored rfl, modeLimit_ignored rfl, modeLimit_ignored rfl⟩,
  fun s => ⟨fun hmode hrun => gives_put_one (exec_syncHoldReached hmode hrun) (by decide) (by decide),
    fun hmode hrun => gives_put_one (exec_rtRecoverReached hmode hrun) (by decide) (by decide),
    rampDone_gives,
    fun hdet hrun => gives_put_one (exec_gridFault hdet hrun) (by decide) (by decide)⟩⟩

end Sys2Proof.Machine
end

section
/-! PROOFS. What power-up, power-fail and a reset leave (R133, R140, R143, R144, R146, R147, R154, R355). -/
namespace Sys2Proof.Machine
variable {L : List Fld} {E : List (Fld × Nat)} {d e : Dev} {s : State}

/-! Registers set one after the other over a list. -/

/-- A fold is within a frame when its step is, for the elements of its list. -/
theorem Within.of_foldl_mem {α : Type} {g : Dev → α → Dev} (l : List α) (h : ∀ e, ∀ x ∈ l, Within L e (g e x) E) (d : Dev) :
    Within L d (l.foldl g d) E :=
  List.foldlRecOn (motive := fun e => Within L d e E) l g (Within.refl d) fun e he x hx => he.trans (h e x hx)

theorem hasFld_of_mem {f : Fld} (h : f ∈ L) : hasFld L f = true := by
  simp only [hasFld, List.any_eq_true, beq_iff_eq]
  exact ⟨f, h, rfl⟩

theorem keep_within (old : Dev) (f : Fld) (n : Nat) (hf : f.id < 2048) (h : hasFld L f = true) : Within L d (d.keep old f n) E :=
  Within.of_foldl _ (fun e i => Within.of_put e f _ i hf h) _ _

/-- What is kept of a field of one element stands as it did, cut to the field's width. -/
theorem get_keep_one (old : Dev) (f : Fld) : (d.keep old f 1).get f = old.get f % 2 ^ f.width := Dev.get_put_same _ _ _ _

/-- Setting registers one after the other leaves the flash alone. -/
theorem forN_nvm {n : Nat} {g : Dev → Nat → Dev} (h : ∀ e i, (g e i).nvm = e.nvm) : (d.forN n g).nvm = d.nvm :=
  List.foldlRecOn (motive := fun e => e.nvm = d.nvm) _ g rfl fun e he i _ => (h e i).trans he

theorem keep_nvm (old : Dev) (f : Fld) (n : Nat) : (d.keep old f n).nvm = d.nvm := by
  unfold Dev.keep
  exact forN_nvm fun _ _ => rfl

theorem showSlots_nvm : d.showSlots.nvm = d.nvm := by
  unfold Dev.showSlots
  exact forN_nvm fun _ _ => rfl

theorem showSlots_within : Within Claim.slotFlds d d.showSlots := by
  unfold Dev.showSlots
  simp (disch := first | decide | (intros; simp (disch := decide)))

/-! Everything at its reset value but for a list of registers, the flash and retention. -/

/-- The module at its reset values, with its flash and retention, the free values drawn, and what it had sent. -/
def resetDev (n : Nvm) (r : Retention) (k : Nat) (o : List Out := []) : Dev := { Dev.reset with nvm := n, ret := r, draws := k, outbox := o }

/-- A frame from the reset values is one from them with the flash and the retention that the module ends with. -/
theorem Within.fromReset {n : Nvm} {r : Retention} {k : Nat} {o : List Out} (h : Within L (resetDev n r k o) e) :
    Within L { Dev.reset with nvm := e.nvm, ret := e.ret } e := by
  have hret : e.ret = r := by rw [h.rest]; rfl
  rw [hret]
  exact ⟨h.regs, by rw [h.ofNvm.rest]; rfl⟩

/-- A register that the frame leaves is at its reset value. -/
theorem Within.get_reset {n : Nvm} {r : Retention} {k : Nat} {o : List Out} (h : Within L (resetDev n r k o) e) {f : Fld} (hf : f.id < 2048)
    (hL : hasFld L f = false) (i : Nat) : e.get f i = f.reset := h.regs f hf hL i rfl

/-! VIN_ON. -/

/-- The registers that power-up writes. -/
def powerFlds : List Fld := Claim.slotFlds ++ [R.PART.STRAP, I.MODE.VBAT_BAD, R.LVD.DRV_EN_PIN, R.MODE.KA_CNT_LO, R.MODE.KA_CNT_HI]

/-- The keep-alive count after ka more cycles. -/
def Retention.counted (r : Retention) (ka : Nat) : Retention := { r with kaCnt := (r.kaCnt + ka) % 2 ^ 48 }

/-- The module as power-up leaves it. -/
def Dev.poweredUp (d : Dev) (vbatOk : Bool) (ka : Nat) : Dev :=
  let n := (d.ret.kaCnt + ka) % 2 ^ 48
  (((((resetDev d.nvm (d.ret.counted ka) d.draws).showSlots.put R.PART.STRAP (d.get R.PART.STRAP)).flag I.MODE.VBAT_BAD (!vbatOk)).keep d
    R.LVD.DRV_EN_PIN 1).put R.MODE.KA_CNT_LO n).put R.MODE.KA_CNT_HI (n / 2 ^ 32)

theorem exec_vinOn (vbatOk : Bool) (ka : Nat) (hmode : s.dev.mode = .backup) :
    exec (.vinOn vbatOk ka) s = .next { s with clk := ⟨0, 0, 0, 0⟩, dev := s.dev.poweredUp vbatOk ka } := by
  show execVinOn vbatOk ka s = _
  simp [execVinOn, hmode, Dev.poweredUp, resetDev, Retention.counted, Dev.reset]

theorem poweredUp_within (vbatOk : Bool) (ka : Nat) :
    Within powerFlds (resetDev d.nvm (d.ret.counted ka) d.draws) (d.poweredUp vbatOk ka) := by
  have hkeep : ∀ e : Dev, Within powerFlds e (e.keep d R.LVD.DRV_EN_PIN 1) := fun e => keep_within d _ 1 (by decide) (by decide)
  unfold Dev.poweredUp
  simp (disch := decide) [(hkeep _).iff, showSlots_within.mono]

theorem poweredUp_vbatBad (vbatOk : Bool) (ka : Nat) : (d.poweredUp vbatOk ka).get I.MODE.VBAT_BAD = (!vbatOk).toNat := by
  have hkeep : ∀ e : Dev, (e.keep d R.LVD.DRV_EN_PIN 1).get I.MODE.VBAT_BAD = e.get I.MODE.VBAT_BAD := fun e =>
    (keep_within (L := [R.LVD.DRV_EN_PIN]) (E := []) d _ 1 (by decide) (by decide)).regs _ (by decide) (by decide) _ rfl
  unfold Dev.poweredUp Dev.flag
  simp (disch := decide) [hkeep]
  cases vbatOk <;> rfl

theorem poweredUp_nvm (vbatOk : Bool) (ka : Nat) : (d.poweredUp vbatOk ka).nvm = d.nvm := by
  unfold Dev.poweredUp Dev.flag
  simp only [Dev.put_nvm, keep_nvm, showSlots_nvm]
  rfl

theorem poweredUp_kaCnt (vbatOk : Bool) (ka : Nat) : (d.poweredUp vbatOk ka).ret.kaCnt = (d.ret.kaCnt + ka) % 2 ^ 48 := by
  rw [(poweredUp_within vbatOk ka).rest]
  rfl

theorem vinOn_gives (vbatOk : Bool) (ka : Nat) (hmode : s.dev.mode = .backup) : Gives (.vinOn vbatOk ka) s fun t =>
    t.dev.get R.MODE.STATE = 1 ∧ t.dev.get I.MODE.BOOT_STEP = 1 ∧ t.dev.get I.MODE.VBAT_BAD = (!vbatOk).toNat ∧
    t.dev.ret.kaCnt = (s.dev.ret.kaCnt + ka) % 2 ^ 48 ∧ t.dev.nvm = s.dev.nvm ∧ t.clk = ⟨0, 0, 0, 0⟩ ∧ t.otp = s.otp ∧ t.pending = s.pending ∧
    Within powerFlds { Dev.reset with nvm := t.dev.nvm, ret := t.dev.ret } t.dev := by
  have h := poweredUp_within (d := s.dev) vbatOk ka
  exact ⟨_, exec_vinOn vbatOk ka hmode, h.get_reset (by decide) (by decide) 0, h.get_reset (by decide) (by decide) 0, poweredUp_vbatBad vbatOk ka,
    poweredUp_kaCnt vbatOk ka, poweredUp_nvm vbatOk ka, rfl, rfl, rfl, h.fromReset⟩

/-! POWER_FAIL. -/

theorem markDirty_mem (t k : Nat) : (d.markDirty t k).nvm.mem = d.nvm.mem := by
  unfold Dev.markDirty
  exact (enqueue_mem _ _).trans (raise_within _ _ _ _ _).mem_eq

theorem abandonErase_mem (t : Nat) : (d.abandonErase t).nvm.mem = d.nvm.mem := by
  unfold Dev.abandonErase
  split
  · split
    · exact markDirty_mem _ _
    · rfl
  · rfl

theorem flashPowerFail_mem (t : Nat) (x : Entry) : (d.flashPowerFail t x).nvm.mem = d.nvm.mem := abandonErase_mem t

theorem flashPowerFail_pfail (t : Nat) (x : Entry) : (d.flashPowerFail t x).nvm.pfail = some x := rfl

theorem retainLoss_nvm (t : Nat) : (d.retainLoss t).nvm = d.nvm := rfl

theorem powerFail_eq (t : Nat) : ∃ x, d.powerFail t =
    ((((if ((d.put I.LVD.POWER_FAIL 1).settle t).partnerMirrors then ((d.put I.LVD.POWER_FAIL 1).settle t).put I.FELT.STOPPED 1
      else ((d.put I.LVD.POWER_FAIL 1).settle t).tripIssue t 3).raise t 3 6 0).retainLoss t).flashPowerFail t x) := by
  unfold Dev.powerFail
  dsimp only
  exact ⟨_, rfl⟩

/-- No byte of the slots changes on the way to BACKUP. -/
theorem powerFail_mem (t : Nat) : (d.powerFail t).nvm.mem = d.nvm.mem := by
  obtain ⟨x, hx⟩ := powerFail_eq (d := d) t
  have hsettled : ((d.put I.LVD.POWER_FAIL 1).settle t).nvm.mem = d.nvm.mem := (settle_within (d := d.put I.LVD.POWER_FAIL 1) t).mem_eq
  rw [hx, flashPowerFail_mem, retainLoss_nvm, (raise_within _ _ _ _ _).mem_eq]
  split
  · rw [Dev.put_nvm, hsettled]
  · rw [(tripIssue_within _ _).mem_eq, hsettled]

theorem powerFail_pfail (t : Nat) : (d.powerFail t).nvm.pfail.isSome = true := by
  obtain ⟨x, hx⟩ := powerFail_eq (d := d) t
  rw [hx, flashPowerFail_pfail]
  rfl

/-- The registers that BACKUP writes. -/
def backupFlds : List Fld := [R.PART.STRAP, R.LVD.DRV_EN_PIN, R.MODE.PREV, R.MODE.STATE, I.MODE.BOOT_STEP]

theorem backedUp_eq : d.backedUp = (((((resetDev d.nvm.restart d.ret d.draws d.outbox).keep d R.PART.STRAP 1).keep d R.LVD.DRV_EN_PIN 1).put
    R.MODE.PREV d.mode.code).put R.MODE.STATE Mode.backup.code).put I.MODE.BOOT_STEP 0 := rfl

theorem backedUp_within : Within backupFlds (resetDev d.nvm.restart d.ret d.draws d.outbox) d.backedUp := by
  have hkeep : ∀ f ∈ backupFlds, ∀ e : Dev, Within backupFlds e (e.keep d f 1) := fun f hf e =>
    keep_within d f 1 ((by decide : ∀ f ∈ backupFlds, f.id < 2048) f hf) (hasFld_of_mem hf)
  rw [backedUp_eq]
  simp (disch := decide) [(hkeep _ _ _).iff]

/-! What a restart leaves of the flash's records. -/
@[simp] theorem Nvm.restart_mem (n : Nvm) : n.restart.mem = n.mem := rfl
@[simp] theorem Nvm.restart_pfail (n : Nvm) : n.restart.pfail = n.pfail := rfl
@[simp] theorem Nvm.restart_queue (n : Nvm) : n.restart.queue = [] := rfl
@[simp] theorem Nvm.restart_cur (n : Nvm) : n.restart.cur = none := rfl

theorem backedUp_nvm : d.backedUp.nvm = d.nvm.restart := by
  rw [backedUp_eq]
  simp only [Dev.put_nvm, keep_nvm]
  rfl

theorem backedUp_mode : d.backedUp.get R.MODE.STATE = 0 ∧ d.backedUp.get I.MODE.BOOT_STEP = 0 := by
  rw [backedUp_eq]
  simp (disch := decide)
  decide

theorem exec_powerFail (hmode : s.dev.mode ≠ .backup) :
    exec .powerFail s = .next { s with dev := (s.dev.powerFail s.clk.ns).backedUp } := by
  show execPowerFail s = _
  simp [execPowerFail, hmode]

/-- Settles O20: power-up and BACKUP are each the reset values with a few registers set. -/
theorem powerUpAndDown : Obligations.PowerUpAndDown := by
  refine fun s vbatOk ka => ⟨vinOn_gives vbatOk ka, fun hmode => ?_⟩
  obtain ⟨hstate, hstep⟩ := backedUp_mode (d := s.dev.powerFail s.clk.ns)
  refine ⟨_, exec_powerFail hmode, hstate, hstep, ?_, ?_, ?_, ?_, rfl, rfl, rfl, backedUp_within.fromReset⟩
  -- the four records of the flash
  all_goals simp only [backedUp_nvm, Nvm.restart_mem, Nvm.restart_pfail, Nvm.restart_queue, Nvm.restart_cur, powerFail_mem, powerFail_pfail]

end Sys2Proof.Machine
end

section
/-! PROOFS. nRESET and the watchdog (R146, R147, R154, R355): what a reset keeps, and the boot sequence that follows. -/
namespace Sys2Proof.Machine
variable {L : List Fld} {E : List (Fld × Nat)} {d e : Dev} {s : State}

/-! What a reset keeps. -/

/-- The reset values with the kept registers put back. -/
def Dev.keptOver (old : Dev) (base : Dev) : Dev := keptFlds.foldl (fun e p => e.keep old p.1 p.2) base

/-- The fields of the kept registers. -/
def keptNames : List Fld := keptFlds.map (fun p => p.1)

theorem keptFlds_id_lt : ∀ p ∈ keptFlds, p.1.id < 2048 := by decide

theorem keptOver_within : Within keptNames d (e.keptOver d) :=
  Within.of_foldl_mem _ (fun _ p hp => keep_within _ _ _ (keptFlds_id_lt p hp) (hasFld_of_mem (List.mem_map_of_mem hp))) _

/-- A kept register of one element, whose field stands once in the list, is as it was. -/
theorem get_keptOver {f : Fld} (hmem : (f, 1) ∈ keptFlds) (honce : ∀ p ∈ keptFlds, p ≠ (f, 1) → p.1.id ≠ f.id) :
    (e.keptOver d).get f = e.get f % 2 ^ f.width := by
  refine foldl_establishes (I := fun _ => True) (Q := fun a => a.get f = e.get f % 2 ^ f.width) keptFlds hmem
    (fun _ _ _ _ => trivial) (fun _ _ => get_keep_one e f) (fun e' p hp hne _ h => ?_) trivial
  have hkeep : Within [p.1] e' (e'.keep e p.1 p.2) := keep_within _ _ _ (keptFlds_id_lt p hp) (by simp [hasFld])
  rw [hkeep.regs f (keptFlds_id_lt _ hmem) (by simpa [hasFld] using honce p hp hne) 0 rfl]
  exact h

/-! A restart. -/

/-- The fields of the LV port's status that a restart shows again. -/
def portFlds : List Fld := [R.LVD.HB_OUT, R.LVD.HB_FIT, R.LVD.HB_FLT]

theorem hbStatus_port (k : Nat) : Within portFlds d (d.hbStatus k) := by
  unfold Dev.hbStatus
  simp (disch := decide)

theorem restart_eq : d.restart =
    (d.keptOver (resetDev d.nvm.restart d.ret d.draws)).showSlots.forN 8 (fun d k => d.hbStatus k) := rfl

/-- What follows the registers put back: the slots and the port. -/
theorem restart_shows : Within (Claim.slotFlds ++ portFlds) (d.keptOver (resetDev d.nvm.restart d.ret d.draws)) d.restart := by
  have hport : ∀ e k, Within (Claim.slotFlds ++ portFlds) e (Dev.hbStatus e k) := fun e k => (hbStatus_port k).mono (by decide)
  rw [restart_eq]
  simp (disch := exact hport) [showSlots_within.mono (L := Claim.slotFlds ++ portFlds) (by decide)]

theorem restart_within : Within (Claim.slotFlds ++ keptNames ++ portFlds) (resetDev d.nvm.restart d.ret d.draws) d.restart :=
  (keptOver_within.mono (by decide)).trans (restart_shows.mono (by decide))

theorem restart_mem : d.restart.nvm.mem = d.nvm.mem := by
  rw [restart_within.mem_eq]
  rfl

/-- A kept register of one element, which neither the slots nor the port show. -/
theorem get_restart_kept {f : Fld} (hmem : (f, 1) ∈ keptFlds) (honce : ∀ p ∈ keptFlds, p ≠ (f, 1) → p.1.id ≠ f.id)
    (hL : hasFld (Claim.slotFlds ++ portFlds) f = false) : d.restart.get f = d.get f % 2 ^ f.width := by
  rw [restart_shows.regs f (keptFlds_id_lt _ hmem) hL 0 rfl, get_keptOver hmem honce]

/-! NRESET_ASSERT. -/

/-- The module held in reset by its pin. -/
def Dev.held (d : Dev) : Dev := (d.restart.put I.MODE.NRST 1).put I.MODE.IN_RESET 1

/-- The registers that the reset writes. -/
def resetFlds : List Fld := Claim.slotFlds ++ keptNames ++ [I.MODE.IN_RESET, R.LVD.HB_OUT, R.LVD.HB_FIT, R.LVD.HB_FLT]

theorem exec_nresetAssert (hmode : s.dev.mode ≠ .backup) (hnrst : s.dev.get I.MODE.NRST = 0) : exec .nresetAssert s =
    .next { s with clk := { s.clk with sub := 0, cyc := 0 }, dev := s.dev.held.settle s.clk.ns } := by
  show execNresetAssert s = _
  simp [execNresetAssert, Dev.is, hmode, hnrst, Dev.held, Clock.afterReset]

theorem held_within : Within resetFlds (resetDev d.nvm.restart d.ret d.draws) d.held := by
  unfold Dev.held
  simp (disch := decide) [restart_within.mono (L := resetFlds) (by decide)]

theorem held_get_kept {f : Fld} (hmem : (f, 1) ∈ keptFlds) (honce : ∀ p ∈ keptFlds, p ≠ (f, 1) → p.1.id ≠ f.id)
    (hL : hasFld (Claim.slotFlds ++ portFlds) f = false) (hnrst : I.MODE.NRST.id ≠ f.id) (hin : I.MODE.IN_RESET.id ≠ f.id) :
    d.held.get f = d.get f % 2 ^ f.width := by
  have hf : f.id < 2048 := keptFlds_id_lt _ hmem
  unfold Dev.held
  rw [Dev.get_put_other _ _ _ _ _ _ (by decide) hf hin, Dev.get_put_other _ _ _ _ _ _ (by decide) hf hnrst, get_restart_kept hmem honce hL]

theorem held_pin : d.held.get I.MODE.IN_RESET = 1 ∧ d.held.get I.MODE.NRST = 1 := by
  unfold Dev.held
  simp (disch := decide)

/-! The boot sequence again. -/

theorem bootAgain_boots {cause : Nat} (h : cause < 2 ^ I.MODE.CAUSE.width) : Claim.BootAgain (d.bootAgain cause) cause := by
  unfold Claim.BootAgain Dev.bootAgain Dev.sigPulseStart
  simp (disch := decide) [Nat.mod_eq_of_lt h]
  decide

theorem bootAgain_within (cause : Nat) : Within Claim.bootFlds d (d.bootAgain cause) := by
  unfold Dev.bootAgain Dev.sigPulseStart
  simp (disch := decide)

/-- The reset pin's own state stays. -/
theorem bootAgain_nrst (cause : Nat) : (d.bootAgain cause).get I.MODE.NRST = d.get I.MODE.NRST := by
  unfold Dev.bootAgain Dev.sigPulseStart
  simp (disch := decide)

/-! NRESET_RELEASE, NRESET_STUCK and NRESET_UNMASK. -/

theorem nresetRelease_boots (h : s.dev.get I.MODE.NRST = 1) : Does .nresetRelease s fun d =>
    d.get I.MODE.NRST = 0 ∧ Claim.BootAgain d 3 ∧ Within Claim.bootFlds s.dev d := by
  refine ⟨(s.dev.put I.MODE.NRST 0).bootAgain 3, ?_, ?_, bootAgain_boots (by decide), ?_⟩
  · show execNresetRelease s = _
    simp [execNresetRelease, h]
  · rw [bootAgain_nrst]
    exact Dev.get_put_same _ _ _ _
  · rw [(bootAgain_within 3).iff]
    simp (disch := decide)

/-- The pin is judged stuck: it is masked, and that is shown. -/
def Dev.stuck (d : Dev) : Dev :=
  ((((d.put I.MODE.NRST 2).bootAgain 4).put R.MODE.NRST_MASKED 1).put R.MODE.RST_STUCK 1).sumAll R.HIF.SUM_RST_STUCK

def stuckFlds : List Fld := Claim.bootFlds ++ [R.MODE.NRST_MASKED, R.MODE.RST_STUCK, R.HIF.SUM_RST_STUCK]

theorem stuck_within : Within stuckFlds d d.stuck := by
  unfold Dev.stuck
  simp (disch := decide) [((bootAgain_within _).mono (L := stuckFlds) (by decide)).iff]

theorem stuck_get : d.stuck.get I.MODE.NRST = 2 ∧ d.stuck.get I.MODE.IN_RESET = 0 ∧ d.stuck.get I.MODE.BOOT_STEP = 2 ∧
    d.stuck.get I.MODE.CAUSE = 4 ∧ d.stuck.get R.MODE.NRST_MASKED = 1 ∧ d.stuck.get R.MODE.RST_STUCK = 1 := by
  obtain ⟨hreset, hstep, hcause, -, -⟩ := bootAgain_boots (d := d.put I.MODE.NRST 2) (cause := 4) (by decide)
  unfold Dev.stuck
  simp (disch := decide) [bootAgain_nrst, hreset, hstep, hcause]
  decide

theorem nresetStuck_masks (h : s.dev.get I.MODE.NRST = 1) : Does .nresetStuck s fun d =>
    d.get I.MODE.NRST = 2 ∧ d.get I.MODE.IN_RESET = 0 ∧ d.get I.MODE.BOOT_STEP = 2 ∧ d.get I.MODE.CAUSE = 4 ∧ d.get R.MODE.NRST_MASKED = 1 ∧
    d.get R.MODE.RST_STUCK = 1 ∧ (∀ i < 3, d.get R.HIF.SUM_RST_STUCK i = 1) ∧ Raised d 3 4 ∧
    Within (raiseFlds ++ Claim.bootFlds ++ [R.MODE.NRST_MASKED, R.MODE.RST_STUCK, R.HIF.SUM_RST_STUCK]) s.dev d := by
  refine ⟨s.dev.stuck.raise s.clk.ns 3 4 0, ?_, ?_⟩
  · show execNresetStuck s = _
    simp [execNresetStuck, h, Dev.stuck]
  · obtain ⟨hnrst, hreset, hstep, hcause, hmasked, hstuck⟩ := stuck_get (d := s.dev)
    simp (disch := decide) only [Dev.get_raise]
    exact ⟨hnrst, hreset, hstep, hcause, hmasked, hstuck, fun i hi => get_sumAll _ (by decide) (by decide) hi, raise_raised _ _ _ _ _ (by decide),
      (stuck_within.mono (by decide)).trans ((raise_within _ _ _ _ _).mono (by decide))⟩

theorem nresetUnmask_gives (h : s.dev.get I.MODE.NRST = 2) : Gives .nresetUnmask s fun t =>
    t.dev.get I.MODE.NRST = 0 ∧ t.dev.get R.MODE.NRST_MASKED = 0 ∧ Frame [I.MODE.NRST, R.MODE.NRST_MASKED] s t := by
  refine ⟨{ s with dev := (s.dev.put I.MODE.NRST 0).put R.MODE.NRST_MASKED 0 }, ?_, ?_, ?_, ?_, rfl, rfl, rfl⟩
  · show execNresetUnmask s = _
    simp [execNresetUnmask, h]
  all_goals simp (disch := decide)

/-! The watchdog. -/

theorem watchdogHalf_raises (h : s.dev.supervised = true) : Does .watchdogHalf s fun d => Raised d 15 6 ∧ Within raiseFlds s.dev d := by
  refine ⟨s.dev.raise s.clk.ns 15 6 0, ?_, raise_raised _ _ _ _ _ (by decide), raise_within _ _ _ _ _⟩
  show execWatchdogHalf s = _
  simp [execWatchdogHalf, h]

/-- The module that the watchdog has reset, in BOOT again. -/
def Dev.afterWatchdog (d : Dev) (t : Nat) : Dev := (d.restart.bootAgain 5).raise t 3 10 0

theorem exec_watchdogReset (h : s.dev.supervised = true) : exec .watchdogReset s =
    .next { s with clk := { s.clk with sub := 0, cyc := 0 }, dev := (s.dev.afterWatchdog s.clk.ns).settle s.clk.ns } := by
  show execWatchdogReset s = _
  simp [execWatchdogReset, h, Dev.afterWatchdog, Clock.afterReset]

theorem afterWatchdog_get (t : Nat) : (d.afterWatchdog t).get I.MODE.BOOT_STEP = 2 ∧ (d.afterWatchdog t).get I.MODE.CAUSE = 5 ∧
    (d.afterWatchdog t).get R.MODE.STATE = 1 := by
  obtain ⟨-, hstep, hcause, -, -⟩ := bootAgain_boots (d := d.restart) (cause := 5) (by decide)
  have hstate : (d.restart.bootAgain 5).get R.MODE.STATE = 1 := by
    rw [(bootAgain_within 5).regs _ (by decide) (by decide) _ rfl]
    exact restart_within.get_reset (by decide) (by decide) 0
  unfold Dev.afterWatchdog
  simp (disch := decide) only [Dev.get_raise, hstep, hcause, hstate, and_self]

theorem afterWatchdog_mem (t : Nat) : (d.afterWatchdog t).nvm.mem = d.nvm.mem := by
  unfold Dev.afterWatchdog
  rw [(raise_within _ _ _ _ _).mem_eq, (bootAgain_within 5).mem_eq, restart_mem]

/-- Settles O21: the reset by what it keeps and the reset values, the pin's commands and the watchdog by the boot sequence they start. -/
theorem resets : Obligations.Resets := by
  intro s
  refine ⟨fun hmode hnrst => ?_, nresetRelease_boots, nresetStuck_masks, nresetUnmask_gives, watchdogHalf_raises, fun hon => ?_⟩
  · have h := held_within (d := s.dev)
    obtain ⟨hin, hpin⟩ := held_pin (d := s.dev)
    refine ⟨_, exec_nresetAssert hmode hnrst, hin, hpin, h.get_reset (by decide) (by decide) 0, ?_, by rw [h.rest]; rfl,
      held_get_kept (by decide) (by decide) (by decide) (by decide) (by decide),
      held_get_kept (by decide) (by decide) (by decide) (by decide) (by decide), h.fromReset⟩
    rw [h.mem_eq]
    rfl
  · obtain ⟨hstep, hcause, hstate⟩ := afterWatchdog_get (d := s.dev) s.clk.ns
    exact ⟨_, exec_watchdogReset hon, hstep, hcause, hstate, raise_raised _ _ _ _ _ (by decide), afterWatchdog_mem _⟩

end Sys2Proof.Machine
end

section
/-! PROOFS. The steps of BOOT (R114, R140, R143, R154, R393, R443), each with its failure. -/
namespace Sys2Proof.Machine
variable {L M : List Fld} {E : List (Fld × Nat)} {d e : Dev} {s : State}

theorem bootAt_iff {n : Nat} : d.bootAt n = true ↔ d.get I.MODE.BOOT_STEP = n ∧ d.supervised = true := by
  simp [Dev.bootAt]

theorem supervised_iff : d.supervised = true ↔ d.mode ≠ .backup ∧ d.get I.MODE.IN_RESET = 0 := by
  simp [Dev.supervised, Dev.is]

/-! Step 1. -/

/-- Step 1 is complete. -/
def Dev.railsUp (d : Dev) : Dev := (((d.put I.MODE.BOOT_STEP 2).put R.AFE.CONV_OK 15).put R.SAFE.YSUP_OK 1).sigPulseStart

theorem bootRailsUp_does (h : s.dev.bootAt 1 = true) : Does .bootRailsUp s fun d =>
    d.get I.MODE.BOOT_STEP = 2 ∧ d.get R.AFE.CONV_OK = 15 ∧ d.get R.SAFE.YSUP_OK = 1 ∧ d.get R.FLT.SIGOK_STATE = sigPulse ∧ d.get R.FLT.SIGOK_PIN = 0 ∧
    Within [I.MODE.BOOT_STEP, R.AFE.CONV_OK, R.SAFE.YSUP_OK, R.FLT.SIGOK_STATE, R.FLT.SIGOK_PIN] s.dev d := by
  refine ⟨s.dev.railsUp, ?_, ?_⟩
  · show execBootRailsUp s = _
    simp [execBootRailsUp, h, Dev.railsUp]
  · unfold Dev.railsUp Dev.sigPulseStart
    simp (disch := decide)
    decide

/-! Step 2: the locks. -/

/-- The three PLLs locked, and instance 8 lowered, as step 4 is reached. -/
def Dev.lockReached (d : Dev) : Dev := (d.allLocked.lower 3 8).put I.MODE.BOOT_STEP 4

theorem lockReached_within :
    Within [R.TB.PLL_T_LOCK, R.TB.PLL_N_LOCK, R.TB.PLL_S_LOCK, R.TB.ROOT_OK, R.TB.DOMAIN_OK, I.MODE.BOOT_STEP] d d.lockReached := by
  unfold Dev.lockReached Dev.allLocked Dev.clkStat
  simp (disch := decide)

theorem get_lower (cls inst : Nat) (f : Fld) (i : Nat) : (d.lower cls inst).get f i = d.get f i := rfl

theorem lockReached_get : d.lockReached.get I.MODE.BOOT_STEP = 4 ∧ d.lockReached.get R.TB.PLL_T_LOCK = 1 ∧
    d.lockReached.get R.TB.PLL_N_LOCK = 1 ∧ d.lockReached.get R.TB.PLL_S_LOCK = 1 ∧ d.lockReached.get R.TB.ROOT_OK = 1 := by
  unfold Dev.lockReached Dev.allLocked Dev.clkStat
  simp (disch := decide) [get_lower]
  decide

/-! Step 3: retention (R143). -/

/-- Retention with nothing in it. -/
def Retention.cleared : Retention := ⟨0, 0, 0, 0, [0, 0, 0, 0, 0, 0, 0, 0], 0, 0⟩

/-- The host's words loaded from retention. -/
def Dev.retUsers (d : Dev) (r : Retention) : Dev := d.forN 8 (fun d i => d.put R.MODE.RET_USER (r.user.getD i 0) i)

/-- The registers loaded from retention, with the cause and the count of this boot, and whether it was valid. -/
def Dev.retLoaded (d : Dev) (r : Retention) (cause cnt : Nat) (ok : Bool) : Dev :=
  let d1 := d.retain { r with stateWord := r.stateWord % 2 ^ 8 + 2 ^ 8 * cause + 2 ^ 16 * cnt }
  let d2 := (((d1.put R.TB.TB_RATE r.tbRate).put R.MODE.LAST_CAUSE cause).put R.MODE.BOOT_CNT cnt).flag R.MODE.RET_VALID ok
  let d3 := (d2.put R.MODE.BACKUP_KA_LO r.backupKa).put R.MODE.BACKUP_KA_HI (r.backupKa / 2 ^ 32)
  ((d3.retUsers r).put I.MODE.VBAT_BAD 0).put I.MODE.CAUSE 0

theorem bootRetention_valid (t : Nat) (h : Claim.RetValid d) : ∃ cause cnt, d.bootRetention t = d.retLoaded d.ret cause cnt true := by
  obtain ⟨hcrc, hvbat⟩ := h
  have hok : (decide (d.ret.crc = crc32 d.ret.bytes) && !d.is I.MODE.VBAT_BAD) = true := by simp [hcrc, Dev.is, hvbat]
  simp only [Dev.bootRetention, hok, if_true]
  exact ⟨_, _, rfl⟩

theorem bootRetention_invalid (t : Nat) (h : ¬ Claim.RetValid d) :
    ∃ cause cnt, d.bootRetention t = (d.retLoaded .cleared cause cnt false).raise t 3 9 0 := by
  have hok : (decide (d.ret.crc = crc32 d.ret.bytes) && !d.is I.MODE.VBAT_BAD) = false := by
    simpa [Claim.RetValid, Dev.is, not_and] using h
  simp only [Dev.bootRetention, hok, Bool.false_eq_true, if_false]
  exact ⟨_, _, rfl⟩

/-- The registers that loading retention writes. -/
def retFlds : List Fld :=
  [R.TB.TB_RATE, R.MODE.LAST_CAUSE, R.MODE.BOOT_CNT, R.MODE.RET_VALID, R.MODE.BACKUP_KA_LO, R.MODE.BACKUP_KA_HI, R.MODE.RET_USER] ++
  [I.MODE.VBAT_BAD, I.MODE.CAUSE]

theorem retUsers_within (r : Retention) : Within [R.MODE.RET_USER] d (d.retUsers r) := by
  unfold Dev.retUsers
  simp (disch := first | decide | (intros; simp (disch := decide)))

theorem retLoaded_regsKept (r : Retention) (cause cnt : Nat) (ok : Bool) : RegsKept retFlds d (d.retLoaded r cause cnt ok) := by
  have h : Within retFlds (d.retain { r with stateWord := r.stateWord % 2 ^ 8 + 2 ^ 8 * cause + 2 ^ 16 * cnt }) (d.retLoaded r cause cnt ok) := by
    unfold Dev.retLoaded
    simp (disch := decide) [((retUsers_within r).mono (L := retFlds) (by decide)).iff]
  exact h.regsKept

theorem retLoaded_get (r : Retention) (cause cnt : Nat) (ok : Bool) :
    (d.retLoaded r cause cnt ok).get R.MODE.RET_VALID = ok.toNat ∧
    (d.retLoaded r cause cnt ok).get R.TB.TB_RATE = r.tbRate % 2 ^ R.TB.TB_RATE.width := by
  have huser : ∀ (e : Dev) (f : Fld), f.id < 2048 → hasFld [R.MODE.RET_USER] f = false → (e.retUsers r).get f = e.get f :=
    fun e f hf hL => (retUsers_within r).regs f hf hL 0 rfl
  unfold Dev.retLoaded Dev.flag
  simp (disch := decide) [huser]
  cases ok <;> rfl

/-- What step 3 may write. -/
theorem bootRetention_regsKept (t : Nat) : RegsKept (raiseFlds ++ retFlds) d (d.bootRetention t) := by
  by_cases hvalid : Claim.RetValid d
  · obtain ⟨cause, cnt, h⟩ := bootRetention_valid t hvalid
    rw [h]
    exact (retLoaded_regsKept _ _ _ _).mono (by decide)
  · obtain ⟨cause, cnt, h⟩ := bootRetention_invalid t hvalid
    rw [h]
    exact ((retLoaded_regsKept _ _ _ _).mono (by decide)).trans ((raise_within _ _ _ _ _).regsKept.mono (by decide))

theorem bootRetention_taken (t : Nat) (h : Claim.RetValid d) : (d.bootRetention t).get R.MODE.RET_VALID = 1 ∧
    (d.bootRetention t).get R.TB.TB_RATE = d.ret.tbRate % 2 ^ R.TB.TB_RATE.width := by
  obtain ⟨cause, cnt, heq⟩ := bootRetention_valid t h
  rw [heq]
  exact retLoaded_get _ _ _ _

theorem bootRetention_cleared (t : Nat) (h : ¬ Claim.RetValid d) : (d.bootRetention t).get R.MODE.RET_VALID = 0 ∧
    (d.bootRetention t).get R.TB.TB_RATE = 0 ∧ Raised (d.bootRetention t) 3 9 := by
  obtain ⟨cause, cnt, heq⟩ := bootRetention_invalid t h
  obtain ⟨hvalid, hrate⟩ := retLoaded_get (d := d) .cleared cause cnt false
  rw [heq]
  simp (disch := decide) only [Dev.get_raise]
  exact ⟨hvalid, hrate, raise_raised _ _ _ _ _ (by decide)⟩

/-! The start of the Deckle. -/

/-- The registers that the start of the Deckle writes. -/
def startFlds : List Fld :=
  [R.TB.DECKLE_RUN, I.TB.FIRST, I.TB.LEN, I.TB.NEXT_LEN, I.TB.BND_NS, I.TB.BND_FRAC, R.TB.TF, R.TB.TF_OVR]

theorem deckleStart_within (c : Clock) : Within startFlds d (d.deckleStart c) := by
  unfold Dev.deckleStart Dev.deckleCtl
  simp (disch := decide)

theorem deckleStart_runs (c : Clock) : (d.deckleStart c).is R.TB.DECKLE_RUN = true := by
  unfold Dev.is Dev.deckleStart Dev.deckleCtl
  simp (disch := decide)

theorem startDeckle_within (s : State) (d : Dev) : Within startFlds d (State.startDeckle { s with dev := d }).dev := by
  unfold State.startDeckle
  split
  · exact deckleStart_within _
  · exact Within.refl _

/-- TB goes on, and the fuses and the queue stay. -/
theorem startDeckle_frame (s : State) (d : Dev) :
    (State.startDeckle { s with dev := d }).clk.ns = s.clk.ns ∧ (State.startDeckle { s with dev := d }).clk.frac = s.clk.frac ∧
    (State.startDeckle { s with dev := d }).otp = s.otp ∧ (State.startDeckle { s with dev := d }).pending = s.pending := by
  unfold State.startDeckle
  split <;> exact ⟨rfl, rfl, rfl, rfl⟩

/-- With PLL_T locked and the supervisor running the Deckle runs, whether it ran already or starts. -/
theorem startDeckle_runs (s : State) (hlock : d.get R.TB.PLL_T_LOCK = 1) (hon : d.supervised = true) :
    (State.startDeckle { s with dev := d }).dev.is R.TB.DECKLE_RUN = true := by
  obtain ⟨hmode, hreset⟩ := supervised_iff.mp hon
  unfold State.startDeckle
  split
  · exact deckleStart_runs _
  · next h => simpa [Dev.mayStart, Dev.is, hlock, hmode, hreset] using h

/-! BOOT_PLL_LOCK. -/

/-- The module once its clocks are locked and retention is taken. -/
def Dev.lockedBoot (d : Dev) (t : Nat) : Dev := (d.lockReached.bootRetention t).settle t

theorem exec_bootPllLock (h : s.dev.bootAt 2 = true) :
    exec .bootPllLock s = .next (State.startDeckle { s with dev := s.dev.lockedBoot s.clk.ns }) := by
  show execBootPllLock s = _
  simp [execBootPllLock, h, Dev.lockedBoot, Dev.lockReached]

theorem lockedBoot_regsKept (t : Nat) : RegsKept (retFlds ++ settleFlds) d.lockReached (d.lockedBoot t) :=
  ((bootRetention_regsKept t).mono (by decide)).trans ((settle_within t).regsKept.mono (by decide))

theorem RegsKept.supervised (h : RegsKept L d e) (hstate : hasFld L R.MODE.STATE = false) (hreset : hasFld L I.MODE.IN_RESET = false) :
    e.supervised = d.supervised := by
  unfold Dev.supervised Dev.mode Dev.is
  rw [h _ (by decide) hstate, h _ (by decide) hreset]

theorem lockedBoot_supervised (t : Nat) : (d.lockedBoot t).supervised = d.supervised :=
  ((lockedBoot_regsKept t).supervised (by decide) (by decide)).trans (lockReached_within.regsKept.supervised (by decide) (by decide))

/-- The locks leave retention as valid, or as invalid, as it was. -/
theorem retValid_lockReached : Claim.RetValid d.lockReached ↔ Claim.RetValid d := by
  have hvbat : d.lockReached.get I.MODE.VBAT_BAD = d.get I.MODE.VBAT_BAD := lockReached_within.regs _ (by decide) (by decide) _ rfl
  unfold Claim.RetValid
  rw [hvbat]
  rfl

theorem bootPllLock_gives (h : s.dev.bootAt 2 = true) : Gives .bootPllLock s fun t =>
    t.dev.get I.MODE.BOOT_STEP = 4 ∧ t.dev.get R.TB.PLL_T_LOCK = 1 ∧ t.dev.get R.TB.PLL_N_LOCK = 1 ∧ t.dev.get R.TB.PLL_S_LOCK = 1 ∧
    t.dev.get R.TB.ROOT_OK = 1 ∧ t.dev.is R.TB.DECKLE_RUN = true ∧
    (Claim.RetValid s.dev → t.dev.get R.MODE.RET_VALID = 1 ∧ t.dev.get R.TB.TB_RATE = s.dev.ret.tbRate % 2 ^ R.TB.TB_RATE.width) ∧
    (¬ Claim.RetValid s.dev → t.dev.get R.MODE.RET_VALID = 0 ∧ t.dev.get R.TB.TB_RATE = 0 ∧ Raised t.dev 3 9) ∧
    t.clk.ns = s.clk.ns ∧ t.clk.frac = s.clk.frac ∧ t.otp = s.otp ∧ t.pending = s.pending := by
  obtain ⟨-, hon⟩ := bootAt_iff.mp h
  obtain ⟨hstep, hT, hN, hS, hroot⟩ := lockReached_get (d := s.dev)
  have hlocked := lockedBoot_regsKept (d := s.dev) s.clk.ns
  have hstart := startDeckle_within s (s.dev.lockedBoot s.clk.ns)
  have hkept := (hlocked.mono (L := retFlds ++ settleFlds ++ startFlds) (by decide)).trans (hstart.regsKept.mono (by decide))
  have hafter := ((settle_within (d := s.dev.lockReached.bootRetention s.clk.ns) s.clk.ns).regsKept.mono (L := settleFlds ++ startFlds)
    (by decide)).trans (hstart.regsKept.mono (by decide))
  refine ⟨_, exec_bootPllLock h, (hkept.get (by decide) (by decide) 0).trans hstep, (hkept.get (by decide) (by decide) 0).trans hT,
    (hkept.get (by decide) (by decide) 0).trans hN, (hkept.get (by decide) (by decide) 0).trans hS,
    (hkept.get (by decide) (by decide) 0).trans hroot,
    startDeckle_runs s ((hlocked.get (by decide) (by decide) 0).trans hT) ((lockedBoot_supervised _).trans hon), fun hvalid => ?_, fun hbad => ?_,
    startDeckle_frame s _⟩
  · obtain ⟨hret, hrate⟩ := bootRetention_taken s.clk.ns (retValid_lockReached.mpr hvalid)
    exact ⟨(hafter.get (by decide) (by decide) 0).trans hret, (hafter.get (by decide) (by decide) 0).trans hrate⟩
  · obtain ⟨hret, hrate, hraised⟩ := bootRetention_cleared s.clk.ns (mt retValid_lockReached.mp hbad)
    exact ⟨(hafter.get (by decide) (by decide) 0).trans hret, (hafter.get (by decide) (by decide) 0).trans hrate,
      (hstart.sticky (by decide)).raised (settle_raised _ hraised)⟩

theorem pllLockTimeout_does (h : s.dev.bootAt 2 = true) : Does .pllLockTimeout s fun d =>
    Raised d 3 8 ∧ d.get I.MODE.BOOT_STEP = 2 ∧ Within raiseFlds s.dev d := by
  refine ⟨s.dev.raise s.clk.ns 3 8 0 true, ?_, raise_raised _ _ _ _ _ (by decide), ?_, raise_within _ _ _ _ _⟩
  · show execPllLockTimeout s = _
    simp [execPllLockTimeout, h]
  · rw [Dev.get_raise _ _ _ _ _ _ _ (by decide) (by decide)]
    exact (bootAt_iff.mp h).1

/-! JOURNAL_RECOVERED: the stages of the recovery (R443). -/

/-- No register outside a list and no byte of the slots differs; the records may. -/
structure BytesKept (L : List Fld) (d e : Dev) : Prop where
  regs : RegsKept L d e
  mem : e.nvm.mem = d.nvm.mem

theorem BytesKept.refl (d : Dev) : BytesKept L d d := ⟨RegsKept.refl d, rfl⟩
theorem BytesKept.trans {a b c : Dev} (h : BytesKept L a b) (k : BytesKept L b c) : BytesKept L a c :=
  ⟨h.regs.trans k.regs, k.mem.trans h.mem⟩
theorem BytesKept.mono (h : BytesKept M d e) (hs : subFlds M L = true) : BytesKept L d e := ⟨h.regs.mono hs, h.mem⟩
theorem Within.bytesKept (h : Within L d e) : BytesKept L d e := ⟨h.regsKept, h.mem_eq⟩

/-- The records of the flash replaced, with the same bytes in the slots, and what follows. -/
theorem BytesKept.afterSetNvm (n : Nvm) (h : n.mem = d.nvm.mem) (k : Within L (d.setNvm n) e) : BytesKept L d e :=
  ⟨k.regsKept, k.mem_eq.trans h⟩

/-- The records of the journals. -/
def Nvm.records (n : Nvm) : List JRec := n.sys.recs ++ n.evj.recs ++ n.life.recs

/-- The started records, which were never committed, dropped. -/
def Nvm.startedDropped (n : Nvm) : Nvm :=
  let drop (j : Journal) : Journal := { j with recs := j.recs.filter (fun r => r.mark != 0x7F) }
  { n with sys := drop n.sys, evj := drop n.evj, life := drop n.life }

/-- The records not committed are dropped and counted, and what is damaged is reported. -/
def Dev.recordsJudged (d : Dev) (t : Nat) : Dev :=
  let k := (d.nvm.records.filter (fun r => r.mark = 0x7F)).length
  (d.nvm.records.filter (fun r => r.mark = 0x3F && r.crc != crc32 (payload r.typ r.data))).foldl (fun d r => d.raise t 2 20 r.typ)
    (((d.setNvm d.nvm.startedDropped).put R.THERM.JRN_ROLLBACK (min k 65535)).onlyIf (k != 0) (fun d => d.raise t 2 18 (min k 65535)))

/-- The recorded dirty sectors are in force, and the flash may work. -/
def Dev.dirtyRestored (d : Dev) : Dev := (d.setDirty d.nvm.dirtyJ).put I.THERM.JRN_DONE 1

/-- The power-fail record goes to the event journal. -/
def Dev.powerFailQueued (d : Dev) : Dev :=
  match d.nvm.pfail with
  | some x => (d.setNvm { d.nvm with pfail := none }).queueEvent x
  | none => d

/-- The histograms of a Teasel record. -/
def Dev.binsRestored (d : Dev) (data : List Nat) : Dev :=
  d.forN 144 (fun d c =>
    (d.forN 64 (fun d b => d.put I.THERM.BIN_CNT (data.getD (65 * c + b) 0) (64 * c + b))).put I.THERM.OP_MS (data.getD (65 * c + 64) 0) c)

/-- The last Teasel record and its histograms. -/
def Dev.teaselRestored (d : Dev) : Dev :=
  match d.nvm.life.valid 0x20 with
  | some r => ((d.setNvm { d.nvm with record := r.data }).put R.THERM.TEASEL_JSEQ r.jseq).binsRestored r.data
  | none => d

/-- The dirty sectors wait to be erased again, and the flash starts. -/
def Dev.flashResumed (d : Dev) (t : Nat) : Dev :=
  ((d.setNvm { d.nvm with queue := d.nvm.queue ++ d.nvm.dirty.map FlashOp.wipe }).teaselShow).flashNext t

theorem journalRecover_eq (t : Nat) : d.journalRecover t =
    (((d.recordsJudged t).dirtyRestored).powerFailQueued.teaselRestored).flashResumed t := rfl

/-- What the recovery writes after the flash may work. -/
def resumeFlds : List Fld := Claim.flashFlds ++ [I.THERM.BIN_CNT, I.THERM.OP_MS]

/-- What the recovery writes. -/
def recoverFlds : List Fld := [R.THERM.JRN_ROLLBACK, I.THERM.JRN_DONE] ++ resumeFlds

theorem recordsJudged_kept (t : Nat) : BytesKept (R.THERM.JRN_ROLLBACK :: raiseFlds) d (d.recordsJudged t) := by
  unfold Dev.recordsJudged
  refine .afterSetNvm d.nvm.startedDropped rfl ?_
  simp (disch := first | decide | (intros; simp (disch := decide)))

theorem dirtyRestored_kept : BytesKept [R.THERM.DIRTY_CNT, I.THERM.JRN_DONE] d d.dirtyRestored := by
  unfold Dev.dirtyRestored Dev.setDirty
  refine .afterSetNvm { d.nvm with dirty := d.nvm.dirtyJ } rfl ?_
  simp (disch := decide)

theorem dirtyRestored_done : d.dirtyRestored.get I.THERM.JRN_DONE = 1 := get_put_one _ (by decide) 0

theorem powerFailQueued_kept : BytesKept resumeFlds d d.powerFailQueued := by
  unfold Dev.powerFailQueued
  split
  · exact .afterSetNvm { d.nvm with pfail := none } rfl ((queueEvent_within _).mono (by decide))
  · exact .refl d

theorem binsRestored_within (data : List Nat) : Within resumeFlds d (d.binsRestored data) := by
  unfold Dev.binsRestored
  simp (disch := first | decide | (intros; simp (disch := first | decide | (intros; simp (disch := decide)))))

theorem teaselRestored_kept : BytesKept resumeFlds d d.teaselRestored := by
  unfold Dev.teaselRestored
  split
  · next r _ =>
    refine .afterSetNvm { d.nvm with record := r.data } rfl ?_
    rw [(binsRestored_within _).iff]
    simp (disch := decide)
  · exact .refl d

theorem flashNext_kept (t : Nat) : BytesKept raiseFlds d (d.flashNext t) :=
  ⟨fun f hf hL i => (flashNext_within t).regs f hf hL i rfl, flashNext_mem t⟩

theorem flashResumed_kept (t : Nat) : BytesKept resumeFlds d (d.flashResumed t) := by
  refine BytesKept.trans ?_ ((flashNext_kept t).mono (by decide))
  exact .afterSetNvm { d.nvm with queue := d.nvm.queue ++ d.nvm.dirty.map FlashOp.wipe } rfl (teaselShow_within.mono (by decide))

/-- What follows once the flash may work. -/
theorem journalRecover_afterDone (t : Nat) : BytesKept resumeFlds (d.recordsJudged t).dirtyRestored (d.journalRecover t) := by
  rw [journalRecover_eq]
  exact (powerFailQueued_kept.trans teaselRestored_kept).trans (flashResumed_kept t)

theorem journalRecover_kept (t : Nat) : BytesKept recoverFlds d (d.journalRecover t) :=
  (((recordsJudged_kept t).mono (by decide)).trans (dirtyRestored_kept.mono (by decide))).trans ((journalRecover_afterDone t).mono (by decide))

theorem journalRecovered_does (h : s.dev.bootAt 4 = true) : Does .journalRecovered s fun d =>
    d.get I.MODE.BOOT_STEP = 5 ∧ d.get I.THERM.JRN_DONE = 1 ∧ d.nvm.mem = s.dev.nvm.mem := by
  have hkept := journalRecover_kept (d := s.dev.put I.MODE.BOOT_STEP 5) s.clk.ns
  refine ⟨(s.dev.put I.MODE.BOOT_STEP 5).journalRecover s.clk.ns, ?_, ?_, ?_, hkept.mem⟩
  · show execJournalRecovered s = _
    simp [execJournalRecovered, h]
  · rw [hkept.regs.get (by decide) (by decide)]
    exact Dev.get_put_same _ _ _ _
  · rw [(journalRecover_afterDone s.clk.ns).regs.get (by decide) (by decide)]
    exact dirtyRestored_done

/-! SORREL_SELF_TEST_DONE (R393). -/

/-- The latches are released, and the outcome of the self-test stands. -/
def Dev.testJudged (d : Dev) (passed : Bool) : Dev :=
  (((d.put I.MODE.BOOT_STEP 6).fill I.SAFE.RBL 0).put I.SAFE.RB_STUCK 0).flag I.SAFE.STF (!passed)

/-- What the outcome entails: the cross-check is released, or instance 20 is raised. -/
def Dev.testEnds (d : Dev) (t : Nat) (passed : Bool) (diag : Nat) : Dev :=
  if passed then (d.fill I.SAFE.XCHK 0).lower 10 20 else d.raise t 10 20 diag true

theorem exec_sorrelSelfTestDone (passed : Bool) (diag : BitVec 16) (h : s.dev.bootAt 5 = true) : exec (.sorrelSelfTestDone passed diag) s =
    .next { s with dev := ((s.dev.testJudged passed).testEnds s.clk.ns passed diag.toNat).settle s.clk.ns } := by
  show execSorrelSelfTestDone passed diag s = _
  simp only [execSorrelSelfTestDone, State.onDev_next, h, if_true]
  rfl

theorem fill_within (f : Fld) (v : Nat) (hf : f.id < 2048) (h : hasFld L f = true) : Within L d (d.fill f v) :=
  Within.of_foldl _ (fun e i => Within.of_put e f v i hf h) _ _

theorem testJudged_within (passed : Bool) : Within [I.MODE.BOOT_STEP, I.SAFE.STF, I.SAFE.RBL, I.SAFE.RB_STUCK] d (d.testJudged passed) := by
  unfold Dev.testJudged
  have hfill : ∀ e : Dev, Within [I.MODE.BOOT_STEP, I.SAFE.STF, I.SAFE.RBL, I.SAFE.RB_STUCK] e (e.fill I.SAFE.RBL 0) := fun e =>
    fill_within _ _ (by decide) (by decide)
  simp (disch := decide) [(hfill _).iff]

theorem testJudged_get (passed : Bool) :
    (d.testJudged passed).get I.MODE.BOOT_STEP = 6 ∧ (d.testJudged passed).get I.SAFE.STF = (!passed).toNat := by
  have hfill : ∀ e : Dev, (e.fill I.SAFE.RBL 0).get I.MODE.BOOT_STEP = e.get I.MODE.BOOT_STEP := fun e =>
    (fill_within (L := [I.SAFE.RBL]) _ _ (by decide) (by decide)).regs _ (by decide) (by decide) _ rfl
  unfold Dev.testJudged Dev.flag
  simp (disch := decide) [hfill]
  cases passed <;> decide

theorem testEnds_within (t : Nat) (passed : Bool) (diag : Nat) : Within (I.SAFE.XCHK :: raiseFlds) d (d.testEnds t passed diag) := by
  unfold Dev.testEnds
  split
  · rw [within_lower]
    exact fill_within _ _ (by decide) (by decide)
  · exact (raise_within _ _ _ _ _).mono (by decide)

theorem testEnds_raised (t diag : Nat) : Raised (d.testEnds t false diag) 10 20 := raise_raised _ _ _ _ _ (by decide)

theorem sorrelSelfTestDone_does (passed : Bool) (diag : BitVec 16) (h : s.dev.bootAt 5 = true) : Does (.sorrelSelfTestDone passed diag) s fun d =>
    d.get I.MODE.BOOT_STEP = 6 ∧ d.get I.SAFE.STF = (!passed).toNat ∧ (passed = false → Raised d 10 20) ∧
    Within (raiseFlds ++ [I.MODE.BOOT_STEP, I.SAFE.STF, I.SAFE.RBL, I.SAFE.RB_STUCK, I.SAFE.XCHK]) s.dev d := by
  obtain ⟨hstep, hstf⟩ := testJudged_get (d := s.dev) passed
  have hends := testEnds_within (d := s.dev.testJudged passed) s.clk.ns passed diag.toNat
  refine ⟨_, exec_sorrelSelfTestDone passed diag h, (hends.regs _ (by decide) (by decide) _ rfl).trans hstep,
    (hends.regs _ (by decide) (by decide) _ rfl).trans hstf, ?_, ((testJudged_within passed).mono (by decide)).trans (hends.mono (by decide))⟩
  rintro rfl
  exact testEnds_raised _ _

/-! REAM_LOAD_DONE (R116). -/

theorem reamLoadDone_does (h : s.dev.bootAt 6 = true) : Does .reamLoadDone s fun d => d.get I.MODE.BOOT_STEP = 8 := by
  refine ⟨s.dev.bootFinish s.otp s.clk.ns, ?_, Dev.get_put_same _ _ _ _⟩
  show execReamLoadDone s = _
  simp [execReamLoadDone, h]

/-! REAM_CHECK_TIMEOUT (R114). -/

theorem bootFail_eq (t k : Nat) (x : Fail) : d.bootFail t k x =
    (((d.reamResult 1 k x.err x.off).lastCheck k x.err).onlyIf (d.slotState k = 3 || d.slotState k = 4) (fun d => d.keepSlot t k 5)).showClass := rfl

/-- What the failure of a slot in BOOT writes after its result: the slot's state, recorded, and the classes. -/
theorem bootFail_afterResult (t k : Nat) (x : Fail) :
    ReamWithin (R.REAM.SLOT_CLASS :: raiseFlds) ((d.reamResult 1 k x.err x.off).lastCheck k x.err) (d.bootFail t k x) [(R.REAM.SLOT_STATE, k)] := by
  rw [bootFail_eq]
  exact (((setSlot_within t k 5 _ _).weaken (by decide) (fun _ h => h)).onlyIf _).trans ((showClass_within.mono (by decide)).reamWithin)

/-- What is neither the slot's state, the classes nor what a record started may raise. -/
theorem get_bootFail (t k : Nat) (x : Fail) {f : Fld} (hf : f.id < 2048) (hL : hasFld (R.REAM.SLOT_CLASS :: raiseFlds) f = false)
    (hstate : R.REAM.SLOT_STATE.id ≠ f.id) (i : Nat) :
    (d.bootFail t k x).get f i = ((d.reamResult 1 k x.err x.off).lastCheck k x.err).get f i :=
  (bootFail_afterResult t k x).get hf hL (by simp [hasEl, hstate])

/-- LAST_CODE and LAST_DETAIL of the slot, and the code of the result. -/
theorem bootFail_codes (t k : Nat) (x : Fail) : (d.bootFail t k x).get R.REAM.SLOT_LAST_CODE k = x.err.code % 256 ∧
    (d.bootFail t k x).get R.REAM.SLOT_LAST_DETAIL k = x.err.detail % 256 ∧ (d.bootFail t k x).get R.REAM.RES_CODE = x.err.code % 256 := by
  obtain ⟨-, -, hcode, -, -⟩ := reamResult_resultIs (d := d) 1 k x.err x.off
  have hlast : ∀ e : Dev, (e.lastCheck k x.err).get R.REAM.SLOT_LAST_CODE k = x.err.code % 2 ^ R.REAM.SLOT_LAST_CODE.width ∧
      (e.lastCheck k x.err).get R.REAM.SLOT_LAST_DETAIL k = x.err.detail % 2 ^ R.REAM.SLOT_LAST_DETAIL.width := by
    intro e
    unfold Dev.lastCheck
    simp (disch := decide)
  simp (disch := decide) only [get_bootFail]
  exact ⟨(hlast _).1, (hlast _).2, (get_lastCheck _ _ (by decide) (by decide) (by decide) _).trans hcode⟩

/-- The steps of BOOT and the slots tried are no part of it. -/
theorem bootFail_boot (t k : Nat) (x : Fail) : (d.bootFail t k x).get I.MODE.BOOT_STEP = d.get I.MODE.BOOT_STEP ∧
    (d.bootFail t k x).get I.REAM.BOOT_TRIED = d.get I.REAM.BOOT_TRIED := by
  have hres := reamResult_within (d := d) 1 k x.err x.off
  simp (disch := decide) only [get_bootFail, get_lastCheck]
  exact ⟨hres.regs _ (by decide) (by decide) _ rfl, hres.regs _ (by decide) (by decide) _ rfl⟩

/-- The slot whose check has taken too long, in BOOT. -/
def Dev.bootLate (d : Dev) (t k : Nat) : Dev := (d.setBitOf I.REAM.BOOT_TRIED k true).bootFail t k ⟨eAuth 8, none⟩

/-- The first slot tried is marked alone. -/
theorem bootLate_tried (t : Nat) {k : Nat} (hk : k < 2) (h : d.get I.REAM.BOOT_TRIED = 0) : (d.bootLate t k).get I.REAM.BOOT_TRIED = 2 ^ k := by
  unfold Dev.bootLate Dev.setBitOf
  rw [(bootFail_boot t k _).2, Dev.get_put_same, h]
  obtain rfl | rfl : k = 0 ∨ k = 1 := by omega
  · rfl
  · rfl

theorem lt_of_mem_bootOrder {k : Nat} (h : k ∈ d.bootOrder) : k < 2 := by
  unfold Dev.bootOrder at h
  split at h <;> simp at h <;> omega

/-- In BOOT, with another slot left to try. -/
theorem exec_reamCheckTimeout_boot {k : Nat} (h : s.dev.bootAt 6 = true)
    (hfind : s.dev.bootOrder.find? (fun k => bitOf (s.dev.get I.REAM.BOOT_TRIED) k = 0) = some k)
    (hleft : (s.dev.bootLate s.clk.ns k).get I.REAM.BOOT_TRIED ≠ 3) :
    exec .reamCheckTimeout s = .next { s with dev := (s.dev.bootLate s.clk.ns k).settle s.clk.ns } := by
  unfold Dev.bootLate at hleft ⊢
  show execReamCheckTimeout s = _
  simp only [execReamCheckTimeout, State.onDev_next, h, if_true, hfind, hleft, if_false]

theorem reamCheckTimeout_boot {k : Nat} (h : s.dev.bootAt 6 = true)
    (hfind : s.dev.bootOrder.find? (fun k => bitOf (s.dev.get I.REAM.BOOT_TRIED) k = 0) = some k) (hnone : s.dev.get I.REAM.BOOT_TRIED = 0) :
    Does .reamCheckTimeout s fun d =>
      bitOf (d.get I.REAM.BOOT_TRIED) k = 1 ∧ d.get R.REAM.SLOT_LAST_CODE k = 11 ∧ d.get R.REAM.SLOT_LAST_DETAIL k = 8 ∧ d.get R.REAM.RES_CODE = 11 ∧
      d.get I.MODE.BOOT_STEP = 6 := by
  have hk : k < 2 := lt_of_mem_bootOrder (List.mem_of_find?_eq_some hfind)
  have htried := bootLate_tried s.clk.ns hk hnone
  have hstep : (s.dev.bootLate s.clk.ns k).get I.MODE.BOOT_STEP = 6 := by
    rw [Dev.bootLate, (bootFail_boot _ _ _).1, ← (bootAt_iff.mp h).1]
    exact Dev.get_put_other _ _ _ _ _ _ (by decide) (by decide) (by decide)
  obtain ⟨hcode, hdetail, hres⟩ := bootFail_codes (d := s.dev.setBitOf I.REAM.BOOT_TRIED k true) s.clk.ns k ⟨eAuth 8, none⟩
  obtain rfl | rfl : k = 0 ∨ k = 1 := by omega
  all_goals exact ⟨_, exec_reamCheckTimeout_boot h hfind (by rw [htried]; decide), by rw [htried]; decide, hcode, hdetail, hres, hstep⟩

/-- A VERIFY that has taken too long, out of BOOT's loading. -/
theorem reamCheckTimeout_verify (hboot : s.dev.bootAt 6 = false) (hrun : s.dev.verifying = true) (hon : s.dev.supervised = true) :
    Does .reamCheckTimeout s fun d => d.get R.REAM.CMD_BUSY = 0 ∧ d.get R.REAM.CMD_STATE = 3 ∧ d.get R.REAM.CMD_FAIL = 4 ∧
      d.get R.REAM.RES_OP = 2 ∧ d.get R.REAM.RES_CODE = 11 ∧ Raised d 2 2 := by
  obtain ⟨hbusy, hstate, hfail, ⟨hop, -, hcode, -, -⟩, -, -⟩ :=
    verifyEnd_fails (d := s.dev) s.clk.ns (s.dev.get I.REAM.CMD_RUN_SLOT) ⟨eAuth 8, none⟩
  refine ⟨_, ?_, hbusy, hstate, hfail, hop, hcode, verifyEnd_fails_raised _ _ _⟩
  show execReamCheckTimeout s = _
  simp [execReamCheckTimeout, hboot, hrun, hon]

/-- Settles O22: each step by what it writes, and its failure by the raising or the record that it leaves. -/
theorem bootSequence : Obligations.BootSequence :=
  ⟨fun _ => ⟨bootRailsUp_does, bootPllLock_gives, rfl, pllLockTimeout_does⟩,
    fun _ passed diag => ⟨journalRecovered_does, sorrelSelfTestDone_does passed diag, reamLoadDone_does,
      fun _ h hfind hnone => reamCheckTimeout_boot h hfind hnone, reamCheckTimeout_verify⟩⟩

end Sys2Proof.Machine
end

section
/-! PROOFS. The operations of the links (06_felt_links.md): frames that leave the management requests open, the change of a ring's or a
Gen1 link's state, DISCOVER, and the raisings of the links. -/
namespace Sys2Proof.Machine
variable {L M : List Fld} {E F : List (Fld × Nat)} {d e : Dev}

/-! Frames. -/

theorem hasFld_false_of_sub {f : Fld} (hs : subFlds M L = true) (hL : hasFld L f = false) : hasFld M f = false := by
  cases hM : hasFld M f with
  | false => rfl
  | true => rw [hasFld_of_sub hs hM] at hL; exact absurd hL (by decide)

/-- A frame of fields and of one index of more fields is a frame of all of them. -/
theorem Within.wholeFlds {fs : List Fld} {i : Nat} (h : Within M d e (fs.map (fun f => (f, i)))) (hM : subFlds M L = true)
    (hfs : subFlds fs L = true) : Within L d e E :=
  ⟨fun f hf hL j _ => h.regs f hf (hasFld_false_of_sub hM hL) j (hasEl_map_of_not_hasFld (hasFld_false_of_sub hfs hL) i j), h.rest⟩

/-- A frame but for the management requests, of which it says nothing. -/
def MgtWithin (L : List Fld) (d e : Dev) (E : List (Fld × Nat) := []) : Prop := Within L { d with mgt := e.mgt } e E

theorem Within.mgt_eq (h : Within L d e E) : e.mgt = d.mgt := by rw [h.rest]
theorem Within.mgtWithin (h : Within L d e E) : MgtWithin L d e E := h.setMgt e.mgt
theorem MgtWithin.refl (d : Dev) : MgtWithin L d d E := Within.refl d
theorem MgtWithin.trans {a b c : Dev} (h : MgtWithin L a b E) (k : MgtWithin L b c E) : MgtWithin L a c E := (Within.setMgt h c.mgt).trans k
theorem MgtWithin.weaken (h : MgtWithin M d e F) (hs : subFlds M L = true) (hE : ∀ p ∈ F, p ∈ E) : MgtWithin L d e E := Within.weaken h hs hE
theorem MgtWithin.mono (h : MgtWithin M d e) (hs : subFlds M L = true) : MgtWithin L d e E := Within.mono h hs
theorem MgtWithin.regsKept (h : MgtWithin L d e) : RegsKept L d e := fun f hf hL i => Within.regs h f hf hL i rfl
theorem MgtWithin.wholeFlds {fs : List Fld} {i : Nat} (h : MgtWithin M d e (fs.map (fun f => (f, i)))) (hM : subFlds M L = true)
    (hfs : subFlds fs L = true) : MgtWithin L d e E := Within.wholeFlds h hM hfs

theorem MgtWithin.foldl {α : Type} (g : Dev → α → Dev) (h : ∀ e x, MgtWithin L e (g e x) E) (l : List α) (d : Dev) :
    MgtWithin L d (l.foldl g d) E := by
  induction l generalizing d with
  | nil => exact MgtWithin.refl d
  | cons x l ih => exact (h d x).trans (ih (g d x))

/-! Reading after writing. -/

theorem setBitOf_bit_same (f : Fld) {k : Nat} (b : Bool) (i : Nat) (hk : k < f.width) :
    bitOf ((d.setBitOf f k b i).get f i) k = b.toNat := by
  cases b with
  | false => exact setBitOf_bit_cleared f i hk
  | true => rw [Dev.setBitOf, Dev.get_put_same, bitOf_mod _ _ _ hk, bitOf_setBit, if_pos rfl]; rfl

@[simp] theorem Dev.get_setBitOf_other (d : Dev) (f g : Fld) (k : Nat) (b : Bool) (i j : Nat) (hf : f.id < 2048) (hg : g.id < 2048)
    (h : f.id ≠ g.id) : (d.setBitOf f k b i).get g j = d.get g j := Dev.get_put_other d f g _ i j hf hg h

/-! The state of a ring (R175, R181). -/

/-- What a ring's change of state writes of the ring alone. -/
def ringOwnFlds : List Fld := [I.FELT.LANES, I.FELT.STABLE_RUN, I.FELT.TRAIN_RAISED, R.FELT.RING_STATE, R.FELT.RING_UNSUPERVISED]

/-- Those fields of ring r. -/
def ringEls (r : Nat) : List (Fld × Nat) := ringOwnFlds.map (fun f => (f, r))

theorem ringTo_within (r st : Nat) : Within [R.FELT.RING_OK, R.FELT.RING_SINGLE] d (d.ringTo r st) (ringEls r) := by
  unfold Dev.ringTo Dev.flag ringEls
  simp (disch := decide) only [within_put_map, within_setBitOf, within_self]

/-- What a ring's change of state writes, of any ring. -/
def ringToFlds : List Fld := [R.FELT.RING_OK, R.FELT.RING_SINGLE] ++ ringOwnFlds

theorem ringTo_flds (r st : Nat) : Within ringToFlds d (d.ringTo r st) :=
  (ringTo_within r st).wholeFlds (by decide) (by decide)

theorem ringTo_state (r st : Nat) : (d.ringTo r st).get R.FELT.RING_STATE r = st % 8 := by
  unfold Dev.ringTo
  simp (disch := decide) [Fld.width, R.FELT.RING_STATE]

theorem ringTo_ok {r : Nat} (st : Nat) (hr : r < 6) :
    bitOf ((d.ringTo r st).get R.FELT.RING_OK) r = (decide (st = ringReady) || decide (st = ringSingle)).toNat := by
  unfold Dev.ringTo
  simp (disch := decide) only [Dev.get_put_other, Dev.get_flag_other, Dev.get_setBitOf_other]
  exact setBitOf_bit_same R.FELT.RING_OK _ 0 hr

theorem ringTo_single {r : Nat} (st : Nat) (hr : r < 6) :
    bitOf ((d.ringTo r st).get R.FELT.RING_SINGLE) r = (decide (st = ringSingle)).toNat := by
  unfold Dev.ringTo
  simp (disch := decide) only [Dev.get_put_other, Dev.get_flag_other]
  exact setBitOf_bit_same R.FELT.RING_SINGLE _ 0 hr

/-! The state of a Gen1 link. -/

/-- What a Gen1 link's change of state writes. -/
def lfToFlds : List Fld := [R.FELT.LF_STATE, R.FELT.LF_UP, I.FELT.LF_RUN, I.FELT.TRAIN_RAISED]

theorem lfTo_within (n st : Nat) : Within lfToFlds d (d.lfTo n st) := by
  unfold Dev.lfTo
  simp (disch := decide)

theorem lfTo_state (n st : Nat) : (d.lfTo n st).get R.FELT.LF_STATE n = st % 4 := by
  unfold Dev.lfTo
  simp (disch := decide) [Fld.width, R.FELT.LF_STATE]

theorem lfTo_up {n : Nat} (st : Nat) (hn : n < 16) : bitOf ((d.lfTo n st).get R.FELT.LF_UP) n = (decide (st = lfUp)).toNat := by
  unfold Dev.lfTo
  simp (disch := decide) only [Dev.get_put_other]
  exact setBitOf_bit_same R.FELT.LF_UP _ 0 hn

/-! The slots of a link. -/

theorem mem_slotsOn {ix c : Nat} : c ∈ d.slotsOn ix ↔ c < 144 ∧ d.cellUsed c = true ∧ d.cellLink c = some ix := by
  simp [Dev.slotsOn]

theorem SameCond.slotsOn (h : SameCond d e) (ix : Nat) : e.slotsOn ix = d.slotsOn ix := by
  simp only [Dev.slotsOn, h.cellUsed, h.cellLink]

/-! DISCOVER (R181, R192). -/

/-- Every identity bit of the cells of a link cleared. -/
def Dev.forgetIds (d : Dev) (ix : Nat) : Dev := (d.slotsOn ix).foldl (fun d c => d.put I.CELL.ID_BITS 0 c) d

theorem forgetIds_within (ix : Nat) : Within [I.CELL.ID_BITS] d (d.forgetIds ix) :=
  Within.of_foldl _ (fun e c => Within.of_put e I.CELL.ID_BITS 0 c (by decide) (by decide)) _ d

theorem forgetIds_cleared {ix c : Nat} (hc : c ∈ d.slotsOn ix) : (d.forgetIds ix).get I.CELL.ID_BITS c = 0 := by
  refine foldl_establishes (I := fun _ => True) (Q := fun e => e.get I.CELL.ID_BITS c = 0) (d.slotsOn ix) hc (fun _ _ _ _ => trivial)
    (fun e _ => Dev.get_put_same e _ 0 c) (fun e y hy hyc _ hQ => ?_) trivial
  have hc144 := (mem_slotsOn.mp hc).1
  have hy144 := (mem_slotsOn.mp hy).1
  rwa [Dev.get_put_ne _ _ _ _ _ _ (by decide) (by decide) (.inr (by omega))]

theorem discoverReset_within (ix : Nat) : MgtWithin [I.CELL.ID_BITS] d (d.discoverReset ix) := (forgetIds_within ix).setMgt _

theorem discoverReset_cleared {ix c : Nat} (hc : c ∈ d.slotsOn ix) : (d.discoverReset ix).get I.CELL.ID_BITS c = 0 := forgetIds_cleared hc

/-- A request waits that reads an identity word of slot c on link ix. -/
def AsksIdentity (d : Dev) (ix c a : Nat) : Prop :=
  ∃ q ∈ d.mgt, q.link = ix ∧ q.slot = c ∧ q.op = 1 ∧ q.addr = a ∧ q.why = 0 ∧ q.sent = none

theorem ask_mgt (ix hop op addr data slot why : Nat) :
    (d.ask ix hop op addr data slot why).mgt = d.mgt ++ [⟨ix, hop, op, addr, data, (d.get I.FELT.TAG + 1) % 256, slot, why, none⟩] := rfl

theorem ask_within (ix hop op addr data slot why : Nat) : MgtWithin [I.FELT.TAG] d (d.ask ix hop op addr data slot why) :=
  (Within.of_put (L := [I.FELT.TAG]) d I.FELT.TAG _ 0 (by decide) (by decide)).setMgt _

theorem ask_asks (ix hop a c : Nat) : AsksIdentity (d.ask ix hop 1 a 0 c 0) ix c a :=
  ⟨⟨ix, hop, 1, a, 0, (d.get I.FELT.TAG + 1) % 256, c, 0, none⟩, by simp [ask_mgt], rfl, rfl, rfl, rfl, rfl, rfl⟩

theorem AsksIdentity.ask {ix c a : Nat} (h : AsksIdentity d ix c a) (ix' hop op addr data slot why : Nat) :
    AsksIdentity (d.ask ix' hop op addr data slot why) ix c a := by
  obtain ⟨q, hq, hrest⟩ := h
  exact ⟨q, by simp [ask_mgt, hq], hrest⟩

/-- The three reads of a slot on link ix, each of its hop. -/
def Dev.askWords (d : Dev) (ix c : Nat) : Dev := [0, 4, 8].foldl (fun d a => d.ask ix (d.get R.CELL.HOP c) 1 a 0 c 0) d

theorem askIdentity_none {c : Nat} (h : d.cellLink c = none) : d.askIdentity c = d := by
  simp [Dev.askIdentity, h]

theorem askIdentity_some {c ix : Nat} (h : d.cellLink c = some ix) : d.askIdentity c = d.askWords ix c := by
  simp [Dev.askIdentity, h, Dev.askWords]

theorem askIdentity_within (c : Nat) : MgtWithin [I.FELT.TAG] d (d.askIdentity c) := by
  cases h : d.cellLink c with
  | none => rw [askIdentity_none h]; exact MgtWithin.refl d
  | some ix => rw [askIdentity_some h]; exact MgtWithin.foldl _ (fun e a => ask_within _ _ _ _ _ _ _) _ d

theorem askWords_asks {ix c a : Nat} (ha : a ∈ [0, 4, 8]) : AsksIdentity (d.askWords ix c) ix c a :=
  foldl_establishes (I := fun _ => True) (Q := fun e => AsksIdentity e ix c a) [0, 4, 8] ha (fun _ _ _ _ => trivial)
    (fun _ _ => ask_asks _ _ _ _) (fun _ _ _ _ _ hQ => hQ.ask _ _ _ _ _ _ _) trivial

theorem AsksIdentity.askIdentity {ix c a : Nat} (h : AsksIdentity d ix c a) (k : Nat) : AsksIdentity (d.askIdentity k) ix c a := by
  cases hk : d.cellLink k with
  | none => rwa [askIdentity_none hk]
  | some jx =>
    rw [askIdentity_some hk]
    exact List.foldlRecOn (motive := fun e => AsksIdentity e ix c a) [0, 4, 8] _ h (fun _ he _ _ => he.ask _ _ _ _ _ _ _)

theorem discover_within (ix : Nat) : MgtWithin [I.CELL.ID_BITS, I.FELT.TAG] d (d.discover ix) :=
  ((discoverReset_within ix).mono (by decide)).trans (MgtWithin.foldl _ (fun _ c => (askIdentity_within c).mono (by decide)) _ _)

/-- DISCOVER forgets what it read of each cell of the link. -/
theorem discover_cleared {ix c : Nat} (hc : c ∈ d.slotsOn ix) : (d.discover ix).get I.CELL.ID_BITS c = 0 := by
  have hasks : MgtWithin [I.FELT.TAG] (d.discoverReset ix) (d.discover ix) := MgtWithin.foldl _ (fun _ c => askIdentity_within c) _ _
  rw [hasks.regsKept.get (by decide) (by decide), discoverReset_cleared hc]

/-- DISCOVER asks every cell of the link for each identity word. -/
theorem discover_asks {ix c a : Nat} (hc : c ∈ d.slotsOn ix) (ha : a ∈ [0, 4, 8]) : AsksIdentity (d.discover ix) ix c a := by
  refine foldl_establishes (I := SameCond d) (Q := fun e => AsksIdentity e ix c a) (d.slotsOn ix) hc
    (fun e k _ he => he.trans ((askIdentity_within k).regsKept.sameCond (by decide))) (fun e he => ?_)
    (fun _ k _ _ _ hQ => hQ.askIdentity k) ((discoverReset_within ix).regsKept.sameCond (by decide))
  rw [askIdentity_some (by rw [he.cellLink, (mem_slotsOn.mp hc).2.2])]
  exact askWords_asks ha

/-! A link to TRAIN (R181). -/

/-- The index of a Gen1 link is no ring's. -/
theorem lf_not_ring (n : Nat) : ¬ 6 + n < 6 := by omega

theorem toTrain_ring {r : Nat} (hr : r < 6) : d.toTrain r = ((d.discoverReset r).put I.FELT.LANES 0 r).ringTo r ringTrain := by
  simp [Dev.toTrain, hr]

theorem toTrain_lf (n : Nat) : d.toTrain (6 + n) = ((d.discoverReset (6 + n)).put I.FELT.LANES 0 (6 + n)).lfTo n lfTrain := by
  simp only [Dev.toTrain, if_neg (lf_not_ring n), Nat.add_sub_cancel_left]

theorem toTrain_ring_within {r : Nat} (hr : r < 6) :
    MgtWithin [I.CELL.ID_BITS, R.FELT.RING_OK, R.FELT.RING_SINGLE] d (d.toTrain r) (ringEls r) := by
  have hlanes : Within [I.CELL.ID_BITS, R.FELT.RING_OK, R.FELT.RING_SINGLE] (d.discoverReset r) ((d.discoverReset r).put I.FELT.LANES 0 r)
      (ringEls r) := Within.of_put_at _ _ _ _ (by decide) (hasEl_map_of_hasFld (by decide) r)
  rw [toTrain_ring hr]
  exact ((discoverReset_within r).mono (by decide)).trans (hlanes.trans ((ringTo_within r _).weaken (by decide) (fun _ h => h))).mgtWithin

theorem toTrain_lf_within (n : Nat) : MgtWithin ([I.CELL.ID_BITS, I.FELT.LANES] ++ lfToFlds) d (d.toTrain (6 + n)) := by
  rw [toTrain_lf]
  exact ((discoverReset_within _).mono (by decide)).trans
    ((Within.of_put _ _ _ _ (by decide) (by decide)).trans ((lfTo_within n _).mono (by decide))).mgtWithin

theorem toTrain_ring_state {r : Nat} (hr : r < 6) : (d.toTrain r).get R.FELT.RING_STATE r = ringTrain ∧
    bitOf ((d.toTrain r).get R.FELT.RING_OK) r = 0 := by
  rw [toTrain_ring hr]
  exact ⟨ringTo_state r ringTrain, ringTo_ok ringTrain hr⟩

theorem toTrain_ring_lanes {r : Nat} (hr : r < 6) : (d.toTrain r).get I.FELT.LANES r = 0 := by
  have hto : ∀ e : Dev, (e.ringTo r ringTrain).get I.FELT.LANES r = e.get I.FELT.LANES r := by
    intro e
    unfold Dev.ringTo
    simp (disch := decide)
  rw [toTrain_ring hr, hto, Dev.get_put_same]
  rfl

theorem toTrain_lf_state (n : Nat) : (d.toTrain (6 + n)).get R.FELT.LF_STATE n = lfTrain := by
  rw [toTrain_lf]
  exact lfTo_state n lfTrain

/-! The raisings of the links (R185). -/

/-- What the raising of a link's instance writes. -/
def linkRaiseFlds : List Fld := [R.FELT.RING_EVENTS, R.FELT.LF_EVENTS] ++ raiseFlds

theorem ringRaise_within (t r e : Nat) (held : Bool) : Within linkRaiseFlds d (d.ringRaise t r e held) := by
  unfold Dev.ringRaise
  simp (disch := decide)
theorem lfRaise_within (t n g : Nat) : Within linkRaiseFlds d (d.lfRaise t n g) := by
  unfold Dev.lfRaise
  simp (disch := decide)
theorem ringState_within (t r e : Nat) : Within linkRaiseFlds d (d.ringState t r e) := by
  unfold Dev.ringState
  simp (disch := decide)
theorem lfState_within (t n g : Nat) : Within linkRaiseFlds d (d.lfState t n g) := by
  unfold Dev.lfState
  simp (disch := decide)

theorem ringRaise_raised (t : Nat) {r e : Nat} (held : Bool) (hr : r < 6) (he : e < 16) : Raised (d.ringRaise t r e held) 4 (16 * r + e) :=
  raise_raised _ _ _ _ _ (by omega)
theorem lfRaise_raised (t : Nat) {n g : Nat} (hn : n < 16) (hg : g < 4) : Raised (d.lfRaise t n g) 4 (96 + 4 * n + g) :=
  raise_raised _ _ _ _ _ (by omega)

theorem ringRaise_sticky (t r e : Nat) (held : Bool) : StickyKept d (d.ringRaise t r e held) := by
  have hevent : Within [R.FELT.RING_EVENTS] d (d.setBitOf R.FELT.RING_EVENTS e true r) := Within.of_put d _ _ _ (by decide) (by decide)
  exact (hevent.sticky (by decide)).trans (raise_sticky _ _ _ _ _)

theorem linkRaise_ring (t : Nat) {r : Nat} (e : Nat) (g : Option Nat) (hr : r < 6) : d.linkRaise t r e g = d.ringRaise t r e := by
  simp [Dev.linkRaise, hr]
theorem linkRaise_lf (t n e g : Nat) : d.linkRaise t (6 + n) e (some g) = d.lfRaise t n g := by
  simp only [Dev.linkRaise, if_neg (lf_not_ring n), Nat.add_sub_cancel_left]

end Sys2Proof.Machine
end

section
/-! PROOFS. RETRAIN, ASYM_CLR and CLR_GO: accepted writes of words that hold no field a write sets (R176, R181, R214). -/
namespace Sys2Proof.Machine
variable {L : List Fld} {E : List (Fld × Nat)} {d e : Dev} {s : State}

/-! The write of a word of commands. -/

/-- A write of the field's word leaves the field as it is: it is not of the access types RW and W1C, or it is staged. -/
def Fld.inert (f : Fld) : Bool :=
  match f.acc with
  | .rw => !f.direct
  | .w1c => false
  | _ => true

theorem fieldWrite_inert {p : Fld × Nat} (h : p.1.inert = true) (val : Nat) : d.fieldWrite p val = d := by
  unfold Fld.inert at h
  unfold Dev.fieldWrite
  cases hacc : p.1.acc <;> simp_all

/-- All that a write of such a word does is the action of its window. -/
theorem writeAct_inert (t : Nat) (src : Source) {a w o : Nat} (val : Nat) (ha : winOf a = some (w, o)) (hw : w < 18)
    (h : ∀ p ∈ plainWord w o (srcIx src), p.1.inert = true) : d.writeAct t src a val = d.windowAct d t src w o val := by
  have hfold : (plainWord w o (srcIx src)).foldl (fun d p => d.fieldWrite p val) d = d :=
    List.foldlRecOn (motive := fun e => e = d) _ _ rfl (fun e he p hp => by rw [fieldWrite_inert (h p hp), he])
  rw [writeAct_eq t src ha hw, hfold]

theorem mem_winFields_of_mem_plainWord {w o i : Nat} {p : Fld × Nat} (h : p ∈ plainWord w o i) : p.1 ∈ winFields w := by
  simp only [plainWord, List.mem_filterMap, Option.map_eq_some_iff] at h
  obtain ⟨f, hf, k, -, rfl⟩ := h
  exact hf

/-! FR_CTL. -/

theorem winOf_ringCtl (r : Fin 6) : winOf (winAddr wFelt (0x128 + 0x40 * r)) = some (6, 0x128 + 0x40 * r.val) := by
  revert r
  decide

theorem ringCtl_inert (src : Source) (r : Fin 6) : ∀ p ∈ plainWord 6 (0x128 + 0x40 * r) (srcIx src), p.1.inert = true := by
  revert r
  cases src <;> decide

theorem groupAt_ringCtl (r : Fin 6) : groupAt (0x128 + 0x40 * r) 0x100 0x40 6 = some (r.val, 0x28) := by
  revert r
  decide

theorem writeAct_retrain (t : Nat) (src : Source) (r : Fin 6) : d.writeAct t src (winAddr wFelt (0x128 + 0x40 * r)) 1 = d.retrain r := by
  rw [writeAct_inert t src 1 (winOf_ringCtl r) (by decide) (ringCtl_inert src r)]
  simp [Dev.windowAct, groupAt_ringCtl, Dev.onlyIf, bitOf]

theorem writeAct_asymClr (t : Nat) (src : Source) (r : Fin 6) : d.writeAct t src (winAddr wFelt (0x128 + 0x40 * r)) 2 = d.asymClear r := by
  rw [writeAct_inert t src 2 (winOf_ringCtl r) (by decide) (ringCtl_inert src r)]
  simp [Dev.windowAct, groupAt_ringCtl, Dev.onlyIf, bitOf]

theorem retrain_trains {r : Nat} (hrelay : d.get R.FELT.RING_STATE r ≠ ringRelay) (hen : d.is I.FELT.RING_EN r = true) :
    d.retrain r = d.toTrain r := by
  simp [Dev.retrain, hrelay, hen]

theorem retrain_does {src : Source} {r : Fin 6} (h : Accepts s src (winAddr wFelt (0x128 + 0x40 * r)) 1)
    (hrelay : s.dev.get R.FELT.RING_STATE r ≠ ringRelay) (hen : s.dev.is I.FELT.RING_EN r = true) : Does (.retrain src r) s fun d =>
      d.get R.FELT.RING_STATE r = ringTrain ∧ d.get I.FELT.LANES r = 0 ∧ bitOf (d.get R.FELT.RING_OK) r = 0 ∧
      Within (countFlds ++ [I.CELL.ID_BITS, R.FELT.RING_OK, R.FELT.RING_SINGLE]) { s.dev with mgt := d.mgt } d (ringEls r) := by
  refine does_write rfl h ?_
  have hcounted : MgtWithin (countFlds ++ [I.CELL.ID_BITS, R.FELT.RING_OK, R.FELT.RING_SINGLE]) s.dev (s.dev.counted src) (ringEls r) :=
    ((counted_within src).mono (by decide)).mgtWithin
  obtain ⟨hstate, hok⟩ := toTrain_ring_state (d := s.dev.counted src) r.isLt
  rw [writeAct_retrain, retrain_trains (by rwa [get_counted _ _ _ (by decide) (by decide)])
    (by rwa [Dev.is, get_counted _ _ _ (by decide) (by decide)])]
  exact ⟨hstate, toTrain_ring_lanes r.isLt, hok, hcounted.trans ((toTrain_ring_within r.isLt).weaken (by decide) (fun _ hp => hp))⟩

/-- The fields of a ring's latched asymmetry. -/
def asymFlds : List Fld := [R.FELT.RING_ASYM_ACTIVE, R.FELT.RING_HOLD, R.FELT.RING_ASYM_SEG, R.FELT.RING_ASYM_DELTA]

theorem asymClear_within (r : Nat) : Within L d (d.asymClear r) (asymFlds.map (fun f => (f, r))) := by
  unfold Dev.asymClear
  simp (disch := decide) only [within_put_map, within_self]

theorem asymClear_cleared (r : Nat) : ∀ f ∈ asymFlds, (d.asymClear r).get f r = 0 := by
  intro f hf
  unfold Dev.asymClear
  simp only [asymFlds, List.mem_cons, List.not_mem_nil, or_false] at hf
  obtain rfl | rfl | rfl | rfl := hf
  all_goals simp (disch := decide)

theorem asymClr_does {src : Source} {r : Fin 6} (h : Accepts s src (winAddr wFelt (0x128 + 0x40 * r)) 2) : Does (.asymClr src r) s fun d =>
    (∀ f ∈ asymFlds, d.get f r = 0) ∧ Within countFlds s.dev d (asymFlds.map (fun f => (f, r.val))) := by
  refine does_write rfl h ?_
  rw [writeAct_asymClr]
  exact ⟨asymClear_cleared r, (counted_within src).addEls.trans (asymClear_within r)⟩

/-! CLR_GO. -/

theorem winOf_cellCtl (c : Fin 144) : winOf (winAddr wCell (0x3C + 0x40 * c)) = some (7, 0x3C + 0x40 * c.val) := by
  revert c
  decide

theorem cell_inert : ∀ f ∈ winFields 7, f.inert = true := by decide

theorem writeAct_clrGo (t : Nat) (src : Source) (c : Fin 144) (mask : Nat) :
    d.writeAct t src (winAddr wCell (0x3C + 0x40 * c)) (65536 * mask + 1) = d.clrGo c mask := by
  have hslot : (0x3C + 0x40 * c.val) / 0x40 = c := by omega
  have hword : (0x3C + 0x40 * c.val) % 0x40 = 0x3C := by omega
  have hgo : (65536 * mask + 1) % 2 = 1 := by omega
  have hmask : (65536 * mask + 1) / 65536 = mask := by omega
  rw [writeAct_inert t src _ (winOf_cellCtl c) (by decide) (fun p hp => cell_inert _ (mem_winFields_of_mem_plainWord hp))]
  simp [Dev.windowAct, hslot, hword, hgo, hmask]

theorem clrGo_eq {c ix : Nat} (mask : Nat) (h : d.cellLink c = some ix) :
    d.clrGo c mask = (d.ask ix (d.get R.CELL.HOP c) 2 0x44 mask c 2).put R.CELL.CLR_RESULT 1 c := by
  simp [Dev.clrGo, h]

theorem cellLink_counted (src : Source) (c : Nat) : (d.counted src).cellLink c = d.cellLink c :=
  ((counted_within src).regsKept.sameCond (by decide)).cellLink c

/-- The request that CLR_GO queues. -/
theorem clrGo_mgt {c ix : Nat} (mask : Nat) (h : d.cellLink c = some ix) :
    (d.clrGo c mask).mgt = d.mgt ++ [⟨ix, d.get R.CELL.HOP c, 2, 0x44, mask, (d.get I.FELT.TAG + 1) % 256, c, 2, none⟩] := by
  rw [clrGo_eq mask h]
  rfl

/-- The frame of CLR_GO: beside the request, the last TAG and the slot's result. -/
theorem clrGo_within {c ix : Nat} (mask : Nat) (h : d.cellLink c = some ix) :
    MgtWithin (countFlds ++ [I.FELT.TAG]) d (d.clrGo c mask) [(R.CELL.CLR_RESULT, c)] := by
  rw [clrGo_eq mask h]
  exact ((ask_within _ _ _ _ _ _ _).mono (by decide)).trans (Within.of_put_at _ _ _ _ (by decide) (by simp [hasEl])).mgtWithin

theorem clrGo_does {src : Source} {c : Fin 144} {mask : BitVec 16} {ix : Nat}
    (h : Accepts s src (winAddr wCell (0x3C + 0x40 * c)) (65536 * mask.toNat + 1)) (hlink : s.dev.cellLink c = some ix) :
    Does (.clrGo src c mask) s fun d => d.get R.CELL.CLR_RESULT c = 1 ∧
      (∃ q : MgtReq, d.mgt = s.dev.mgt ++ [q] ∧ q.link = ix ∧ q.hop = s.dev.get R.CELL.HOP c ∧ q.op = 2 ∧ q.addr = 0x44 ∧ q.data = mask.toNat ∧
        q.slot = c ∧ q.sent = none) ∧
      Within (countFlds ++ [I.FELT.TAG]) { s.dev with mgt := d.mgt } d [(R.CELL.CLR_RESULT, c)] := by
  refine does_write rfl h ?_
  have hlink' : (s.dev.counted src).cellLink c = some ix := by rw [cellLink_counted, hlink]
  have hframe : MgtWithin (countFlds ++ [I.FELT.TAG]) s.dev ((s.dev.counted src).clrGo c mask.toNat) [(R.CELL.CLR_RESULT, c)] :=
    ((counted_within src).mono (by decide)).mgtWithin.trans (clrGo_within _ hlink')
  have hmgt := clrGo_mgt mask.toNat hlink'
  rw [(counted_within src).mgt_eq] at hmgt
  rw [writeAct_clrGo]
  refine ⟨?_, ⟨_, hmgt, rfl, get_counted _ _ _ (by decide) (by decide), rfl, rfl, rfl, rfl, rfl⟩, hframe⟩
  rw [clrGo_eq _ hlink', Dev.get_put_same]
  rfl

/-- Settles O2: each of the three is a write of a word of commands alone, whose window then retrains the ring, clears its asymmetry or
queues the request. -/
theorem ringAndCellWrites : Obligations.RingAndCellWrites := fun _ _ _ _ _ =>
  ⟨retrain_does, asymClr_does, fun _ => clrGo_does⟩

end Sys2Proof.Machine
end

section
/-! PROOFS. The states of the rings and of the Gen1 links (R181, R185): alignment, DISCOVER, lost lanes and markers, training and
calibration. -/
namespace Sys2Proof.Machine
variable {L : List Fld} {d e : Dev} {s : State}

/-! A direction of a ring is broken (R181, R185). -/

theorem broken_ready (t e : Nat) {r : Nat} (hstate : d.get R.FELT.RING_STATE r = ringReady) (hopen : d.is R.FELT.RING_OPEN r = false) :
    d.broken t r e = (d.ringTo r ringSingle).ringRaise t r e := by
  simp [Dev.broken, hstate, hopen]

/-- What a closed ring in READY comes to that breaks a direction. -/
structure Broken (d e : Dev) (r inst : Nat) : Prop where
  state  : e.get R.FELT.RING_STATE r = ringSingle
  single : bitOf (e.get R.FELT.RING_SINGLE) r = 1
  raised : Raised e 4 (16 * r + inst)
  frame  : Within Claim.ringFlds d e

theorem broken_breaks (t : Nat) {r inst : Nat} (hr : r < 6) (hinst : inst < 16) (hstate : d.get R.FELT.RING_STATE r = ringReady)
    (hopen : d.is R.FELT.RING_OPEN r = false) : Broken d (d.broken t r inst) r inst := by
  have hraise := ringRaise_within (d := d.ringTo r ringSingle) t r inst false
  rw [broken_ready t inst hstate hopen]
  exact {
    state := (hraise.regsKept.get (by decide) (by decide) _).trans (ringTo_state r ringSingle)
    single := by rw [hraise.regsKept.get (by decide) (by decide)]; exact ringTo_single ringSingle hr
    raised := ringRaise_raised t false hr hinst
    frame := ((ringTo_flds r _).mono (by decide)).trans (hraise.mono (by decide)) }

/-! MARKER_TIMEOUT. -/

theorem markerTimeout_east {r : Fin 6} (hstate : s.dev.get R.FELT.RING_STATE r = ringReady) (hopen : s.dev.is R.FELT.RING_OPEN r = false)
    (hseen : s.dev.is I.FELT.SEEN_E r = false) : Does (.markerTimeout (.ring r) .eastGoing) s fun d =>
      d.get R.FELT.RING_STATE r = ringSingle ∧ bitOf (d.get R.FELT.RING_SINGLE) r = 1 ∧ Raised d 4 (16 * r) ∧
      Within Claim.ringFlds s.dev d := by
  obtain ⟨hsingle, hbit, hraised, hframe⟩ := broken_breaks s.clk.ns (inst := 0) r.isLt (by decide) hstate hopen
  refine ⟨_, ?_, hsingle, hbit, hraised, hframe⟩
  show execMarkerTimeout (.ring r) .eastGoing s = _
  simp [execMarkerTimeout, hseen]

theorem markerTimeout_west {r : Fin 6} (hstate : s.dev.get R.FELT.RING_STATE r = ringReady) (hopen : s.dev.is R.FELT.RING_OPEN r = false)
    (hseen : s.dev.is I.FELT.SEEN_W r = false) : Does (.markerTimeout (.ring r) .westGoing) s fun d =>
      d.get R.FELT.RING_STATE r = ringSingle ∧ bitOf (d.get R.FELT.RING_SINGLE) r = 1 ∧ Raised d 4 (16 * r + 1) ∧
      Within Claim.ringFlds s.dev d := by
  obtain ⟨hsingle, hbit, hraised, hframe⟩ := broken_breaks s.clk.ns (inst := 1) r.isLt (by decide) hstate hopen
  refine ⟨_, ?_, hsingle, hbit, hraised, hframe⟩
  show execMarkerTimeout (.ring r) .westGoing s = _
  simp [execMarkerTimeout, hseen]

theorem allLost_ring (t : Nat) {r : Nat} (hr : r < 6) (hstate : d.get R.FELT.RING_STATE r ∈ [ringDiscover, ringCal, ringReady, ringSingle]) :
    d.allLost t r = (d.toTrain r).ringRaise t r 2 := by
  simp only [List.mem_cons, List.not_mem_nil, or_false] at hstate
  simp [Dev.allLost, hr, hstate, or_assoc]

theorem allLost_lf (t n : Nat) (hstate : d.get R.FELT.LF_STATE n ∈ [lfCal, lfUp]) :
    d.allLost t (6 + n) = (d.toTrain (6 + n)).lfRaise t n 0 := by
  simp only [List.mem_cons, List.not_mem_nil, or_false] at hstate
  rw [Dev.allLost, if_neg (lf_not_ring n), Nat.add_sub_cancel_left]
  simp [hstate]

theorem toTrain_ring_flds {r : Nat} (hr : r < 6) : MgtWithin Claim.ringFlds d (d.toTrain r) :=
  (toTrain_ring_within hr).wholeFlds (by decide) (by decide)

/-- A ring without any marker. -/
theorem markerTimeout_all {r : Fin 6} (heast : s.dev.is I.FELT.SEEN_E r = false) (hwest : s.dev.is I.FELT.SEEN_W r = false)
    (hturned : s.dev.is I.FELT.TURNED r = false) (hstate : s.dev.get R.FELT.RING_STATE r ∈ [ringDiscover, ringCal, ringReady, ringSingle]) :
    Does (.markerTimeout (.ring r) .all) s fun d =>
      d.get R.FELT.RING_STATE r = ringTrain ∧ bitOf (d.get R.FELT.RING_OK) r = 0 ∧ Raised d 4 (16 * r + 2) ∧
      Within Claim.ringFlds { s.dev with mgt := d.mgt } d := by
  have hraise := ringRaise_within (d := s.dev.toTrain r) s.clk.ns r 2 false
  obtain ⟨htrain, hok⟩ := toTrain_ring_state (d := s.dev) r.isLt
  refine ⟨(s.dev.toTrain r).ringRaise s.clk.ns r 2, ?_, (hraise.regsKept.get (by decide) (by decide) _).trans htrain, ?_,
    ringRaise_raised _ _ r.isLt (by decide), (toTrain_ring_flds r.isLt).trans (hraise.mono (by decide)).mgtWithin⟩
  · show execMarkerTimeout (.ring r) .all s = _
    simp [execMarkerTimeout, heast, hwest, hturned, allLost_ring _ r.isLt hstate]
  · rwa [hraise.regsKept.get (by decide) (by decide)]

/-- A Gen1 link without a marker. -/
theorem markerTimeout_lf {n : Fin 16} (miss : Missing) (hseen : s.dev.is I.FELT.LF_SEEN n = false)
    (hstate : s.dev.get R.FELT.LF_STATE n ∈ [lfCal, lfUp]) : Does (.markerTimeout (.gen1 n) miss) s fun d =>
      d.get R.FELT.LF_STATE n = lfTrain ∧ Raised d 4 (96 + 4 * n) ∧ Within Claim.ringFlds { s.dev with mgt := d.mgt } d := by
  have hraise := lfRaise_within (d := s.dev.toTrain (6 + n)) s.clk.ns n 0
  refine ⟨(s.dev.toTrain (6 + n)).lfRaise s.clk.ns n 0, ?_, (hraise.regsKept.get (by decide) (by decide) _).trans (toTrain_lf_state n),
    lfRaise_raised _ n.isLt (by decide), ((toTrain_lf_within n).mono (by decide)).trans (hraise.mono (by decide)).mgtWithin⟩
  show execMarkerTimeout (.gen1 n) miss s = _
  simp [execMarkerTimeout, hseen, allLost_lf _ _ hstate]

/-! LANE_ALIGNED and DISCOVER_RETRY. -/

theorem exec_laneAligned_ring {r : Fin 6} (hstate : s.dev.get R.FELT.RING_STATE r = ringTrain) : exec (.laneAligned (.ring r)) s =
    .next { s with dev := ((s.dev.put I.FELT.LANES 1 r).ringTo r ringDiscover).discover r } := by
  show execLaneAligned (.ring r) s = _
  simp [execLaneAligned, linkIx, hstate]

theorem laneAligned_ring {r : Fin 6} (hstate : s.dev.get R.FELT.RING_STATE r = ringTrain) : Gives (.laneAligned (.ring r)) s fun t =>
    t.dev.get R.FELT.RING_STATE r = ringDiscover ∧ t.dev.get I.FELT.LANES r = 1 ∧ Claim.Kept s t ∧
    Within (Claim.ringFlds ++ [I.FELT.TAG]) { s.dev with mgt := t.dev.mgt } t.dev := by
  have hlanes : Within (Claim.ringFlds ++ [I.FELT.TAG]) s.dev (s.dev.put I.FELT.LANES 1 r) := Within.of_put _ _ _ _ (by decide) (by decide)
  have hto := ringTo_flds (d := s.dev.put I.FELT.LANES 1 r) r ringDiscover
  have hasks := discover_within (d := (s.dev.put I.FELT.LANES 1 r).ringTo r ringDiscover) r
  refine ⟨_, exec_laneAligned_ring hstate, ?_, ?_, ⟨rfl, rfl, rfl⟩,
    (hlanes.trans (hto.mono (by decide))).mgtWithin.trans (hasks.mono (by decide))⟩
  · exact (hasks.regsKept.get (by decide) (by decide) _).trans (ringTo_state _ _)
  · refine (hasks.regsKept.get (by decide) (by decide) _).trans ?_
    unfold Dev.ringTo
    simp (disch := decide) [Fld.width, I.FELT.LANES]

theorem exec_laneAligned_lf {n : Fin 16} (hstate : s.dev.get R.FELT.LF_STATE n = lfTrain) : exec (.laneAligned (.gen1 n)) s =
    .next { s with dev := (s.dev.put I.FELT.LANES 1 (6 + n)).discover (6 + n) } := by
  show execLaneAligned (.gen1 n) s = _
  simp [execLaneAligned, linkIx, hstate]

/-- What the claims of a Gen1 link say of a slot whose node is asked. -/
theorem AsksIdentity.asked {ix c a : Nat} (h : AsksIdentity d ix c a) :
    ∃ q ∈ d.mgt, q.link = ix ∧ q.slot = c ∧ q.op = 1 ∧ q.addr = a ∧ q.sent = none := by
  obtain ⟨q, hq, hlink, hslot, hop, haddr, -, hsent⟩ := h
  exact ⟨q, hq, hlink, hslot, hop, haddr, hsent⟩

theorem laneAligned_lf {n : Fin 16} (hstate : s.dev.get R.FELT.LF_STATE n = lfTrain) : Gives (.laneAligned (.gen1 n)) s fun t =>
    t.dev.get I.FELT.LANES (6 + n) = 1 ∧ Claim.Kept s t ∧
    (∀ c ∈ s.dev.slotsOn (6 + n), ∃ q ∈ t.dev.mgt, q.link = 6 + n.val ∧ q.slot = c ∧ q.op = 1 ∧ q.addr = 0 ∧ q.sent = none) ∧
    Within [I.FELT.LANES, I.CELL.ID_BITS, I.FELT.TAG] { s.dev with mgt := t.dev.mgt } t.dev := by
  have hlanes : Within [I.FELT.LANES] s.dev (s.dev.put I.FELT.LANES 1 (6 + n)) := Within.of_put _ _ _ _ (by decide) (by decide)
  have hasks := discover_within (d := s.dev.put I.FELT.LANES 1 (6 + n)) (6 + n)
  refine ⟨_, exec_laneAligned_lf hstate, ?_, ⟨rfl, rfl, rfl⟩, fun c hc => (discover_asks ?_ (by decide)).asked,
    (hlanes.mono (by decide)).mgtWithin.trans (hasks.mono (by decide))⟩
  · rw [hasks.regsKept.get (by decide) (by decide), Dev.get_put_same]
    rfl
  · rwa [(hlanes.regsKept.sameCond (by decide)).slotsOn]

theorem discoverRetry_ring {r : Fin 6} (hstate : s.dev.get R.FELT.RING_STATE r = ringDiscover) : Gives (.discoverRetry (.ring r)) s fun t =>
    (∀ c ∈ s.dev.slotsOn r, t.dev.get I.CELL.ID_BITS c = 0 ∧ ∀ a ∈ [0, 4, 8],
      ∃ q ∈ t.dev.mgt, q.link = r.val ∧ q.slot = c ∧ q.op = 1 ∧ q.addr = a ∧ q.why = 0 ∧ q.sent = none) ∧
    Claim.Kept s t ∧ Within [I.CELL.ID_BITS, I.FELT.TAG] { s.dev with mgt := t.dev.mgt } t.dev := by
  refine ⟨{ s with dev := s.dev.discover r }, ?_, fun c hc => ⟨discover_cleared hc, fun a ha => discover_asks hc ha⟩, ⟨rfl, rfl, rfl⟩,
    discover_within _⟩
  show execDiscoverRetry (.ring r) s = _
  simp [execDiscoverRetry, hstate]

theorem discoverRetry_lf {n : Fin 16} (hstate : s.dev.get R.FELT.LF_STATE n = lfTrain) (hlanes : s.dev.is I.FELT.LANES (6 + n) = true) :
    Gives (.discoverRetry (.gen1 n)) s fun t =>
      (∀ c ∈ s.dev.slotsOn (6 + n), ∃ q ∈ t.dev.mgt, q.link = 6 + n.val ∧ q.slot = c ∧ q.op = 1 ∧ q.addr = 0 ∧ q.sent = none) ∧
      Claim.Kept s t ∧ Within [I.CELL.ID_BITS, I.FELT.TAG] { s.dev with mgt := t.dev.mgt } t.dev := by
  refine ⟨{ s with dev := s.dev.discover (6 + n) }, ?_, fun c hc => (discover_asks hc (by decide)).asked, ⟨rfl, rfl, rfl⟩,
    discover_within _⟩
  show execDiscoverRetry (.gen1 n) s = _
  simp [execDiscoverRetry, hstate, hlanes]

/-! COMMA_LOSS. -/

/-- The module after instance 13 of a ring whose lane is out. -/
def Dev.laneOut (d : Dev) (t r : Nat) : Dev := (d.put I.FELT.LANES 0 r).ringRaise t r 13

theorem laneOut_within (t r : Nat) : Within (I.FELT.LANES :: linkRaiseFlds) d (d.laneOut t r) :=
  (Within.of_put d I.FELT.LANES 0 r (by decide) (by decide)).trans ((ringRaise_within t r 13 false).mono (by decide))

theorem commaLoss_ring {r : Fin 6} (side : Side) (hstate : s.dev.get R.FELT.RING_STATE r = ringReady)
    (hopen : s.dev.is R.FELT.RING_OPEN r = false) : Does (.commaLoss (.ring r) side) s fun d =>
      d.get I.FELT.LANES r = 0 ∧ d.get R.FELT.RING_STATE r = ringSingle ∧ Raised d 4 (16 * r + 13) ∧
      Raised d 4 (16 * r + if side = .w then 0 else 1) ∧ Within Claim.ringFlds s.dev d := by
  have hout := laneOut_within (d := s.dev) s.clk.ns r
  have hinst : (if side = .w then 0 else 1) < 16 := by split <;> decide
  have hstate' : (s.dev.laneOut s.clk.ns r).get R.FELT.RING_STATE r = ringReady :=
    (hout.regsKept.get (by decide) (by decide) _).trans hstate
  have hopen' : (s.dev.laneOut s.clk.ns r).is R.FELT.RING_OPEN r = false := by
    rwa [Dev.is, hout.regsKept.get (by decide) (by decide)]
  have hbroken := broken_breaks s.clk.ns r.isLt hinst hstate' hopen'
  refine ⟨_, ?_, ?_, hbroken.state, ?_, hbroken.raised, (hout.mono (by decide)).trans hbroken.frame⟩
  · show execCommaLoss (.ring r) side s = _
    simp [execCommaLoss, linkIx, hstate, ringReady, ringDown, Dev.laneOut]
  · rw [broken_ready _ _ hstate' hopen', (ringRaise_within _ _ _ _).regsKept.get (by decide) (by decide)]
    unfold Dev.ringTo Dev.laneOut
    simp (disch := decide) [(ringRaise_within _ _ _ _).regsKept.get]
  · rw [broken_ready _ _ hstate' hopen']
    have hraised : Raised (s.dev.laneOut s.clk.ns r) 4 (16 * r + 13) := ringRaise_raised _ _ r.isLt (by decide)
    exact (((ringTo_flds r ringSingle).sticky (by decide)).trans (ringRaise_sticky _ _ _ _)).raised hraised

theorem commaLoss_lf (n : Fin 16) (side : Side) : Gives (.commaLoss (.gen1 n) side) s fun t =>
    t.dev.get I.FELT.LANES (6 + n) = 0 ∧ Frame [I.FELT.LANES] s t :=
  ⟨_, rfl, Dev.get_put_same _ _ 0 _, Within.of_put _ _ _ _ (by decide) (by decide), rfl, rfl, rfl⟩

/-! TRAIN_TIMEOUT. -/

/-- The raising marked, so that the present TRAIN raises no other. -/
theorem trainRaised_marks {ix inst : Nat} (h : Within linkRaiseFlds d e) (hraised : Raised e 4 inst) :
    (e.put I.FELT.TRAIN_RAISED 1 ix).get I.FELT.TRAIN_RAISED ix = 1 ∧ Raised (e.put I.FELT.TRAIN_RAISED 1 ix) 4 inst ∧
    Within Claim.ringFlds d (e.put I.FELT.TRAIN_RAISED 1 ix) := by
  have hmark : Within [I.FELT.TRAIN_RAISED] e (e.put I.FELT.TRAIN_RAISED 1 ix) := Within.of_put _ _ _ _ (by decide) (by decide)
  exact ⟨get_put_one _ (by decide) _, (hmark.sticky (by decide)).raised hraised, (h.mono (by decide)).trans (hmark.mono (by decide))⟩

theorem trainTimeout_ring {r : Fin 6} (hstate : s.dev.get R.FELT.RING_STATE r = ringTrain) (hfirst : s.dev.is I.FELT.TRAIN_RAISED r = false) :
    Does (.trainTimeout (.ring r)) s fun d =>
      d.get I.FELT.TRAIN_RAISED r = 1 ∧ Raised d 4 (16 * r + 2) ∧ Within Claim.ringFlds s.dev d := by
  refine ⟨_, ?_, trainRaised_marks (ringRaise_within s.clk.ns r 2 false) (ringRaise_raised _ _ r.isLt (by decide))⟩
  show execTrainTimeout (.ring r) s = _
  simp [execTrainTimeout, linkIx, hstate, hfirst, linkRaise_ring]

theorem trainTimeout_lf {n : Fin 16} (hstate : s.dev.get R.FELT.LF_STATE n = lfTrain)
    (hfirst : s.dev.is I.FELT.TRAIN_RAISED (6 + n) = false) : Does (.trainTimeout (.gen1 n)) s fun d =>
      d.get I.FELT.TRAIN_RAISED (6 + n) = 1 ∧ Raised d 4 (96 + 4 * n) ∧ Within Claim.ringFlds s.dev d := by
  refine ⟨_, ?_, trainRaised_marks (lfRaise_within s.clk.ns n 0) (lfRaise_raised _ n.isLt (by decide))⟩
  show execTrainTimeout (.gen1 n) s = _
  simp [execTrainTimeout, linkIx, hstate, hfirst, linkRaise_lf]

/-! CAL_SETTLE_DONE. -/

/-- What recording the residual writes (R174). -/
def refFlds : List Fld := [I.FELT.RHO_REF, I.FELT.HAS_REF, R.FELT.RING_RHO]

theorem recordRef_within (r : Nat) : Within refFlds d (d.recordRef r) := by
  unfold Dev.recordRef
  simp (disch := decide)

theorem recordRef_get (r : Nat) : (d.recordRef r).get I.FELT.RHO_REF r = d.get I.FELT.RHO_NOW r % 2 ^ I.FELT.RHO_REF.width ∧
    (d.recordRef r).get I.FELT.HAS_REF r = 1 := by
  unfold Dev.recordRef
  simp (disch := decide)

theorem calSettleDone_ready {r : Fin 6} (hstate : s.dev.get R.FELT.RING_STATE r = ringCal)
    (hrun : s.dev.get R.FELT.CAL_SETTLE ≤ s.dev.get I.FELT.STABLE_RUN r) (heast : s.dev.is R.FELT.RING_EAST_OK r = true)
    (hwest : s.dev.is R.FELT.RING_WEST_OK r = true) : Does (.calSettleDone (.ring r)) s fun d =>
      d.get R.FELT.RING_STATE r = ringReady ∧ bitOf (d.get R.FELT.RING_OK) r = 1 ∧
      d.get I.FELT.RHO_REF r = s.dev.get I.FELT.RHO_NOW r % 2 ^ I.FELT.RHO_REF.width ∧ d.get I.FELT.HAS_REF r = 1 ∧
      Within (Claim.ringFlds ++ refFlds) s.dev d := by
  have hto := ringTo_flds (d := s.dev.recordRef r) r ringReady
  obtain ⟨href, hhas⟩ := recordRef_get (d := s.dev) r
  refine ⟨(s.dev.recordRef r).ringTo r ringReady, ?_, ringTo_state _ _, ringTo_ok ringReady r.isLt,
    (hto.regsKept.get (by decide) (by decide) _).trans href, (hto.regsKept.get (by decide) (by decide) _).trans hhas,
    ((recordRef_within r).mono (by decide)).trans (hto.mono (by decide))⟩
  show execCalSettleDone (.ring r) s = _
  simp [execCalSettleDone, Nat.not_lt.mpr hrun, hstate, heast, hwest]

theorem calSettleDone_single {r : Fin 6} (hstate : s.dev.get R.FELT.RING_STATE r = ringCal)
    (hrun : s.dev.get R.FELT.CAL_SETTLE ≤ s.dev.get I.FELT.STABLE_RUN r) (heast : s.dev.is R.FELT.RING_EAST_OK r = false) :
    Gives (.calSettleDone (.ring r)) s fun t => t.dev.get R.FELT.RING_STATE r = ringSingle ∧ Frame Claim.ringFlds s t := by
  refine ⟨{ s with dev := s.dev.ringTo r ringSingle }, ?_, ringTo_state _ _, (ringTo_flds r _).mono (by decide), rfl, rfl, rfl⟩
  show execCalSettleDone (.ring r) s = _
  simp [execCalSettleDone, Nat.not_lt.mpr hrun, hstate, heast]

theorem calSettleDone_lf {n : Fin 16} (hstate : s.dev.get R.FELT.LF_STATE n = lfCal)
    (hrun : s.dev.get R.FELT.CAL_SETTLE ≤ s.dev.get I.FELT.LF_RUN n) : Gives (.calSettleDone (.gen1 n)) s fun t =>
      t.dev.get R.FELT.LF_STATE n = lfUp ∧ bitOf (t.dev.get R.FELT.LF_UP) n = 1 ∧ Frame Claim.ringFlds s t := by
  refine ⟨{ s with dev := s.dev.lfTo n lfUp }, ?_, lfTo_state _ _, lfTo_up lfUp n.isLt, (lfTo_within n _).mono (by decide), rfl, rfl, rfl⟩
  show execCalSettleDone (.gen1 n) s = _
  simp [execCalSettleDone, hstate, hrun]

/-- Settles O38: each change of a ring's or a Gen1 link's state by the one write of the state that it comes to. -/
theorem ringAndLinkStates : Obligations.RingAndLinkStates :=
  ⟨fun _ _ side => ⟨laneAligned_ring, discoverRetry_ring, commaLoss_ring side, trainTimeout_ring,
      fun hstate hrun => ⟨calSettleDone_ready hstate hrun, calSettleDone_single hstate hrun⟩⟩,
    fun _ n side miss => ⟨laneAligned_lf, discoverRetry_lf, commaLoss_lf n side, trainTimeout_lf, calSettleDone_lf,
      markerTimeout_lf miss⟩⟩

end Sys2Proof.Machine
end

section
/-! PROOFS. MARKER_RX (R171, R173, R181): what each part of taking a marker writes, and that none of it takes back the loop time and the
direction's close. -/
namespace Sys2Proof.Machine
variable {L : List Fld} {d e : Dev} {s : State}

/-! The arrival at a port (R185, R186). -/

/-- The counters of a port's errors. -/
def portErrFlds : List Fld := countFlds ++
  [R.FELT.RING_CODE_W, R.FELT.RING_CODE_E, R.FELT.RING_CRC_W, R.FELT.RING_CRC_E, R.FELT.LF_CODE, R.FELT.LF_CRC, I.FELT.WIN_ERR]

theorem portErrors_within (ix : Nat) (west : Bool) (viol : Nat) (bad : Bool) : Within portErrFlds d (d.portErrors ix west viol bad) := by
  unfold Dev.portErrors
  cases west <;> simp (disch := decide)

theorem carryIn_within (ix : Nat) (west : Bool) (n : Nat) : Within [I.PERF.BYTES] d (d.carryIn ix west n) := by
  unfold Dev.carryIn
  simp (disch := decide)

/-- The module that has counted a marker at its port. -/
def Dev.heard (d : Dev) (ix : Nat) (west : Bool) (viol : Nat) (bad : Bool) : Dev := (d.portErrors ix west viol bad).carryIn ix west 16

theorem heard_within (ix : Nat) (west : Bool) (viol : Nat) (bad : Bool) : Within portErrFlds d (d.heard ix west viol bad) :=
  (portErrors_within _ _ _ _).trans ((carryIn_within _ _ _).mono (by decide))

/-- The module that has counted a valid marker. -/
def Dev.heardValid (d : Dev) (ix : Nat) (west : Bool) (viol : Nat) : Dev := (d.heard ix west viol false).perf 0 2 ix

theorem heardValid_within (ix : Nat) (west : Bool) (viol : Nat) : Within portErrFlds d (d.heardValid ix west viol) :=
  (heard_within _ _ _ _).trans ((perf_within _ _ _ _).mono (by decide))

theorem markerRx_invalid {link : Link} {side : Side} {m : BitVec 120} {q : BitVec 24} {viol : BitVec 8}
    (h : s.dev.markerValid m.toNat viol.toNat = false) : Gives (.markerRx link side m q viol) s fun t => Frame portErrFlds s t := by
  refine ⟨{ s with dev := s.dev.heard (linkIx link) (side = .w) viol.toNat true }, ?_, heard_within _ _ _ _, rfl, rfl, rfl⟩
  show execMarkerRx link side m q viol s = _
  simp [execMarkerRx, h, Dev.heard]

/-! The epoch and the end of DISCOVER (R179, R181). -/

theorem setEpoch_within : Within [R.FELT.OWN_EPOCH] d d.setEpoch := by
  unfold Dev.setEpoch
  simp (disch := decide)

/-- What the end of DISCOVER writes. -/
def discoveredFlds : List Fld := R.FELT.OWN_EPOCH :: ringToFlds ++ lfToFlds

theorem discovered_within (ix : Nat) : Within discoveredFlds d (d.discovered ix) := by
  have hepoch : Within discoveredFlds d d.setEpoch := setEpoch_within.mono (by decide)
  have hring : Within discoveredFlds d (d.setEpoch.ringTo ix ringCal) := hepoch.trans ((ringTo_flds ix _).mono (by decide))
  have hlf : Within discoveredFlds d (d.setEpoch.lfTo (ix - 6) lfCal) := hepoch.trans ((lfTo_within _ _).mono (by decide))
  unfold Dev.discovered
  simp only [within_ite, hring, hlf, within_self, ite_self]

/-! The checks of a frame (R171 to R176, R185). -/

/-- What judging the asymmetry of a ring writes. -/
def judgeFlds : List Fld := [R.FELT.RING_ASYM_ACTIVE, R.FELT.RING_ASYM_SEG, R.FELT.RING_ASYM_DELTA, R.FELT.RING_HOLD] ++ linkRaiseFlds

theorem ringRaise_judge (t r k : Nat) (held : Bool) : Within judgeFlds d (d.ringRaise t r k held) := (ringRaise_within _ _ _ _).mono (by decide)

theorem asymJudge_within (t r : Nat) : Within judgeFlds d (d.asymJudge t r) := by
  unfold Dev.asymJudge
  extract_lets now active new
  split
  · exact Within.refl d
  split
  · simp (disch := decide) [(ringRaise_judge _ _ _ _).iff]
  · simp (disch := decide) [(ringRaise_judge _ _ _ _).iff]

theorem segments_within (r : Nat) : Within [R.FELT.SEG_RTT] d (d.segments r) := by
  refine Within.of_foldl _ (fun e i => ?_) _ d
  split
  · exact Within.of_put _ _ _ _ (by decide) (by decide)
  · exact Within.refl e

/-- What the checks of a ring's frame write. -/
def checkFlds : List Fld := [R.FELT.SEG_RTT, I.FELT.ASYM_DONE, I.FELT.STABLE_RUN] ++ judgeFlds

theorem asymCheck_within (t r : Nat) : Within checkFlds d (d.asymCheck t r) := by
  have hseg : Within checkFlds d (d.segments r) := (segments_within r).mono (by decide)
  have hjudge : ∀ e : Dev, Within checkFlds e (e.asymJudge t r) := fun e => (asymJudge_within t r).mono (by decide)
  have hraise : ∀ e : Dev, Within checkFlds e (e.ringRaise t r 7) := fun e => (ringRaise_within t r 7 false).mono (by decide)
  unfold Dev.asymCheck
  simp (disch := decide) [(hjudge _).iff, (hraise _).iff, hseg]

theorem l1Check_within (t ix : Nat) : Within linkRaiseFlds d (d.l1Check t ix) := by
  unfold Dev.l1Check
  split
  · simp (disch := exact fun _ => ringState_within _ _ _)
  · simp (disch := exact fun _ => lfState_within _ _ _)

theorem residual_within (r : Nat) : Within [I.FELT.RHO_NOW, R.FELT.RING_RHO] d (d.residual r) := by
  unfold Dev.residual
  simp (disch := decide)

/-- What the hop count of a returned marker writes. -/
def hopFlds : List Fld := [R.FELT.RING_HOPS, I.FELT.HOPS_OK] ++ discoveredFlds ++ linkRaiseFlds

theorem hopCheck_within (t r m : Nat) : Within hopFlds d (d.hopCheck t r m) := by
  have hdone : ∀ e : Dev, Within hopFlds e (e.discovered r) := fun e => (discovered_within r).mono (by decide)
  have hraise : ∀ e : Dev, Within hopFlds e (e.ringRaise t r 4) := fun e => (ringRaise_within t r 4 false).mono (by decide)
  unfold Dev.hopCheck
  simp (disch := decide) [(hdone _).iff, (hraise _).iff]

theorem ownDiff_within (r : Nat) (west : Bool) (q : Nat) :
    Within [I.FELT.OWN_WP, I.FELT.OWN_WP_OK, I.FELT.OWN_EP, I.FELT.OWN_EP_OK] d (d.ownDiff r west q) := by
  unfold Dev.ownDiff
  simp (disch := decide)

/-! What a marker writes. -/

/-- What a marker of a ring or of a Gen1 link writes beside its raisings. -/
def markerOwnFlds : List Fld :=
  [I.FELT.SEEN_E, I.FELT.SEEN_W, R.FELT.RING_LOOP_E, R.FELT.RING_LOOP_W, I.FELT.LF_SEEN, R.FELT.LF_RTT, R.FELT.RING_EVENTS, R.FELT.LF_EVENTS] ++
  [I.FELT.RTT_LAST_E, I.FELT.RTT_LAST_W, I.FELT.EPS_E, I.FELT.EPS_W, I.FELT.OWN_WP, I.FELT.OWN_WP_OK, I.FELT.OWN_EP, I.FELT.OWN_EP_OK] ++
  [I.FELT.L1_MEAS, I.FELT.RHO_NOW, R.FELT.RING_RHO, R.FELT.RING_HOPS, I.FELT.HOPS_OK, R.FELT.SEG_RTT, I.FELT.ASYM_DONE] ++
  [R.FELT.RING_ASYM_ACTIVE, R.FELT.RING_ASYM_SEG, R.FELT.RING_ASYM_DELTA, R.FELT.RING_HOLD] ++ discoveredFlds ++ portErrFlds

/-- The same with what its raisings write. -/
def markerFlds : List Fld := raiseFlds ++ markerOwnFlds

/-- What a raising writes is no matter for the windows that are left alone. -/
theorem RegsKept.untouched_beside {W : List Nat} {M : List Fld} (h : RegsKept (raiseFlds ++ M) d e) (hW : apart W M = true) :
    Claim.Untouched W d e := by
  intro w hw f hf hr i
  simp only [apart, List.all_eq_true, Bool.and_eq_true, decide_eq_true_eq, Bool.or_eq_true, Bool.not_eq_true'] at hW
  obtain ⟨hid, hout⟩ := hW w hw f hf
  have hM : hasFld M f = false := hout.resolve_left (by simp [hr])
  refine h f hid ?_ i
  simp only [hasFld, List.any_append, Bool.or_eq_false_iff] at hr hM ⊢
  exact ⟨hr, hM⟩

theorem markerFlds_untouched (h : Within markerFlds d e) :
    Claim.Untouched [wSnap, wStage, wTb, wReam, wMode, wCell, wMod, wCal, wCe, wLvd, wAfe, wSafe, wPart, wNet] d e :=
  h.regsKept.untouched_beside (by decide +kernel)

/-! The marker of a ring (R171, R173). -/

/-- What the boundary error of a direction writes. -/
def errorFlds : List Fld := [I.FELT.RTT_LAST_E, I.FELT.RTT_LAST_W, I.FELT.EPS_E, I.FELT.EPS_W]

theorem eastError_within (r q m : Nat) : Within errorFlds d (d.eastError r q m) := by
  unfold Dev.eastError Dev.rttEast
  simp (disch := decide)
theorem westError_within (r q m : Nat) : Within errorFlds d (d.westError r q m) := by
  unfold Dev.westError Dev.rttWest
  simp (disch := decide)

/-- The direction that closes with a marker at a port. -/
def seenFld (west : Bool) : Fld := if west then I.FELT.SEEN_E else I.FELT.SEEN_W
/-- The loop time of that direction. -/
def loopFld (west : Bool) : Fld := if west then R.FELT.RING_LOOP_E else R.FELT.RING_LOOP_W

/-- A marker that came round: its boundary error, the direction's close and its loop time. -/
def Dev.looped (d : Dev) (r : Nat) (west : Bool) (m q : Nat) : Dev :=
  (((if west then d.eastError r q m else d.westError r q m).put (seenFld west) 1 r).put (loopFld west) q r)

theorem looped_within (r : Nat) (west : Bool) (m q : Nat) :
    Within (errorFlds ++ [I.FELT.SEEN_E, I.FELT.SEEN_W, R.FELT.RING_LOOP_E, R.FELT.RING_LOOP_W]) d (d.looped r west m q) := by
  have herror : Within errorFlds d (if west then d.eastError r q m else d.westError r q m) := by
    split
    · exact eastError_within r q m
    · exact westError_within r q m
  have hclose : ∀ e : Dev, Within [I.FELT.SEEN_E, I.FELT.SEEN_W, R.FELT.RING_LOOP_E, R.FELT.RING_LOOP_W] e
      ((e.put (seenFld west) 1 r).put (loopFld west) q r) := fun e => by
    cases west <;> exact (Within.of_put _ _ _ _ (by decide) (by decide)).trans (Within.of_put _ _ _ _ (by decide) (by decide))
  exact (herror.mono (by decide)).trans ((hclose _).mono (by decide))

theorem looped_get (r : Nat) (west : Bool) (m q : Nat) :
    (d.looped r west m q).get (seenFld west) r = 1 ∧ (d.looped r west m q).get (loopFld west) r = q % 2 ^ 24 := by
  unfold Dev.looped
  cases west <;> exact ⟨(Dev.get_put_other _ _ _ _ _ _ (by decide) (by decide) (by decide)).trans (get_put_one _ (by decide) _),
    Dev.get_put_same _ _ _ _⟩

/-- What follows the closing of a direction: the own difference, the measured latency, the residual and the checks. -/
def Dev.afterLoop (d : Dev) (t r : Nat) (west : Bool) (m q : Nat) (first : Bool) : Dev :=
  ((((((d.ownDiff r west q).loopTime r q first).l1Check t r).residual r).hopCheck t r m).asymCheck t r)

theorem ringMarker_eq (t r : Nat) (west : Bool) {m : Nat} (q : Nat) (h : bytesAt m 10 1 < 128) :
    ∃ first, d.ringMarker t r west m q = (d.looped r west m q).afterLoop t r west m q first := by
  refine ⟨!d.is I.FELT.SEEN_E r && !d.is I.FELT.SEEN_W r && !d.is I.FELT.TURNED r, ?_⟩
  unfold Dev.ringMarker
  simp only [Nat.not_le.mpr h, decide_false]
  cases west <;> rfl

/-- What follows the closing of a direction may write. -/
def afterLoopFlds : List Fld :=
  [I.FELT.OWN_WP, I.FELT.OWN_WP_OK, I.FELT.OWN_EP, I.FELT.OWN_EP_OK, I.FELT.L1_MEAS, I.FELT.RHO_NOW, R.FELT.RING_RHO] ++ hopFlds ++ checkFlds

theorem afterLoop_within (t r : Nat) (west : Bool) (m q : Nat) (first : Bool) : Within afterLoopFlds d (d.afterLoop t r west m q first) := by
  have htime : ∀ e : Dev, Within afterLoopFlds e (e.loopTime r q first) := fun e => Within.of_put _ _ _ _ (by decide) (by decide)
  have hdiff : Within afterLoopFlds d (d.ownDiff r west q) := (ownDiff_within r west q).mono (by decide)
  have hlatency : ∀ e : Dev, Within afterLoopFlds e (e.l1Check t r) := fun e => (l1Check_within t r).mono (by decide)
  have hrest : ∀ e : Dev, Within afterLoopFlds e (((e.residual r).hopCheck t r m).asymCheck t r) := fun e =>
    ((residual_within r).mono (by decide)).trans (((hopCheck_within t r m).mono (by decide)).trans ((asymCheck_within t r).mono (by decide)))
  exact hdiff.trans ((htime _).trans ((hlatency _).trans (hrest _)))

theorem ringMarker_within (t r : Nat) (west : Bool) {m : Nat} (q : Nat) (h : bytesAt m 10 1 < 128) :
    Within markerFlds d (d.ringMarker t r west m q) := by
  obtain ⟨first, heq⟩ := ringMarker_eq (d := d) t r west q h
  rw [heq]
  exact ((looped_within r west m q).mono (by decide)).trans ((afterLoop_within _ _ _ _ _ _).mono (by decide))

theorem ringMarker_get (t r : Nat) (west : Bool) {m : Nat} (q : Nat) (h : bytesAt m 10 1 < 128) :
    (d.ringMarker t r west m q).get (seenFld west) r = 1 ∧ (d.ringMarker t r west m q).get (loopFld west) r = q % 2 ^ 24 := by
  obtain ⟨first, heq⟩ := ringMarker_eq (d := d) t r west q h
  obtain ⟨hseen, hloop⟩ := looped_get (d := d) r west m q
  have hafter := afterLoop_within (d := d.looped r west m q) t r west m q first
  rw [heq]
  refine ⟨(hafter.regsKept.get ?_ ?_ _).trans hseen, (hafter.regsKept.get ?_ ?_ _).trans hloop⟩
  all_goals cases west <;> decide

theorem not_relay_of_linkOwned {r : Nat} (hr : r < 6) (h : d.linkOwned r = true) : d.get R.FELT.RING_STATE r ≠ ringRelay := by
  simp only [Dev.linkOwned, hr, if_true, Bool.and_eq_true, bne_iff_ne] at h
  exact h.2

theorem exec_markerRx_ring {r : Fin 6} {side : Side} {m : BitVec 120} {q : BitVec 24} {viol : BitVec 8}
    (hvalid : s.dev.markerValid m.toNat viol.toNat = true) (hown : s.dev.linkOwned r = true) : exec (.markerRx (.ring r) side m q viol) s =
      .next { s with dev :=
        ((s.dev.heardValid r (side = .w) viol.toNat).ringMarker s.clk.ns r (side = .w) m.toNat q.toNat).settle s.clk.ns } := by
  show execMarkerRx (.ring r) side m q viol s = _
  simp [execMarkerRx, linkIx, hvalid, hown, not_relay_of_linkOwned r.isLt hown, Dev.heardValid, Dev.heard]

theorem markerRx_ring {r : Fin 6} {side : Side} {m : BitVec 120} {q : BitVec 24} {viol : BitVec 8}
    (hvalid : s.dev.markerValid m.toNat viol.toNat = true) (hown : s.dev.linkOwned r = true) (hway : bytesAt m.toNat 10 1 < 128) :
    Does (.markerRx (.ring r) side m q viol) s fun d =>
      d.get (if side = .w then I.FELT.SEEN_E else I.FELT.SEEN_W) r = 1 ∧
      d.get (if side = .w then R.FELT.RING_LOOP_E else R.FELT.RING_LOOP_W) r = q.toNat ∧
      Claim.Untouched [wSnap, wStage, wTb, wReam, wMode, wCell, wMod, wCal, wCe, wLvd, wAfe, wSafe, wPart, wNet] s.dev d := by
  obtain ⟨hseen, hloop⟩ := ringMarker_get (d := s.dev.heardValid r (side = .w) viol.toNat) s.clk.ns r (side = .w) q.toNat hway
  simp only [seenFld, loopFld, decide_eq_true_eq] at hseen hloop
  refine ⟨_, exec_markerRx_ring hvalid hown, hseen, hloop.trans (Nat.mod_eq_of_lt q.isLt), ?_⟩
  exact markerFlds_untouched (((heardValid_within _ _ _).mono (by decide)).trans (ringMarker_within _ _ _ _ hway))

/-! The marker of a Gen1 link (R182). -/

theorem lfRtt_within (n : Nat) : Within [R.FELT.LF_RTT] d (d.lfRtt n) := by
  unfold Dev.lfRtt
  split
  · exact Within.of_put _ _ _ _ (by decide) (by decide)
  · exact Within.refl d

/-- What follows the loop time of a Gen1 link. -/
def lfAfterFlds : List Fld := R.FELT.LF_RTT :: linkRaiseFlds ++ discoveredFlds

theorem lfMarker_afterLoop (t n q : Nat) :
    Within lfAfterFlds ((d.put I.FELT.LF_SEEN 1 n).put I.FELT.L1_MEAS q (6 + n)) (d.lfMarker t n q) :=
  ((lfRtt_within n).mono (by decide)).trans (((l1Check_within t _).mono (by decide)).trans ((discovered_within _).mono (by decide)))

theorem lfMarker_within (t n q : Nat) : Within markerFlds d (d.lfMarker t n q) :=
  (Within.of_put _ _ _ _ (by decide) (by decide)).trans ((Within.of_put _ _ _ _ (by decide) (by decide)).trans
    ((lfMarker_afterLoop t n q).mono (by decide)))

theorem lfMarker_get (t n q : Nat) : (d.lfMarker t n q).get I.FELT.LF_SEEN n = 1 ∧ (d.lfMarker t n q).get I.FELT.L1_MEAS (6 + n) = q % 2 ^ 24 := by
  have hafter := lfMarker_afterLoop (d := d) t n q
  rw [hafter.regsKept.get (by decide) (by decide), hafter.regsKept.get (by decide) (by decide)]
  exact ⟨(Dev.get_put_other _ _ _ _ _ _ (by decide) (by decide) (by decide)).trans (get_put_one _ (by decide) _), Dev.get_put_same _ _ _ _⟩

theorem exec_markerRx_lf {n : Fin 16} {side : Side} {m : BitVec 120} {q : BitVec 24} {viol : BitVec 8}
    (hvalid : s.dev.markerValid m.toNat viol.toNat = true) (hown : s.dev.linkOwned (6 + n) = true) : exec (.markerRx (.gen1 n) side m q viol) s =
      .next { s with dev := ((s.dev.heardValid (6 + n) (side = .w) viol.toNat).lfMarker s.clk.ns n q.toNat).settle s.clk.ns } := by
  show execMarkerRx (.gen1 n) side m q viol s = _
  simp only [execMarkerRx, State.onDev_next, linkIx, hvalid, hown, lf_not_ring, decide_false, Bool.and_false, Bool.false_and, Bool.not_true,
    Bool.or_false, Bool.false_eq_true, if_false, Dev.heardValid, Dev.heard]

theorem markerRx_lf {n : Fin 16} {side : Side} {m : BitVec 120} {q : BitVec 24} {viol : BitVec 8}
    (hvalid : s.dev.markerValid m.toNat viol.toNat = true) (hown : s.dev.linkOwned (6 + n) = true) :
    Does (.markerRx (.gen1 n) side m q viol) s fun d =>
      d.get I.FELT.LF_SEEN n = 1 ∧ d.get I.FELT.L1_MEAS (6 + n) = q.toNat ∧
      Claim.Untouched [wSnap, wStage, wTb, wReam, wMode, wCell, wMod, wCal, wCe, wLvd, wAfe, wSafe, wPart, wNet] s.dev d := by
  obtain ⟨hseen, hloop⟩ := lfMarker_get (d := s.dev.heardValid (6 + n) (side = .w) viol.toNat) s.clk.ns n q.toNat
  refine ⟨_, exec_markerRx_lf hvalid hown, hseen, hloop.trans (Nat.mod_eq_of_lt q.isLt), ?_⟩
  exact markerFlds_untouched (((heardValid_within _ _ _).mono (by decide)).trans (lfMarker_within _ _ _))

/-- Settles O37: a valid marker by the direction or the link that it closes, which no check after it takes back; an invalid one by the
counters of its port; a missing one by the state it leaves the ring in. -/
theorem markers : Obligations.Markers := fun _ _ _ _ _ _ _ _ =>
  ⟨markerRx_ring, markerRx_lf, markerRx_invalid, fun hstate hopen => ⟨markerTimeout_east hstate hopen, markerTimeout_west hstate hopen⟩,
    markerTimeout_all⟩

end Sys2Proof.Machine
end

section
/-! PROOFS. The error windows (R185, R493), the silent cell (R186) and the end of a management request (R214, R216). -/
namespace Sys2Proof.Machine
variable {L : List Fld} {d e : Dev} {s : State}

/-! LINK_ERR_WINDOW of a ring's port and of a Gen1 link. -/

/-- The next window of a port starts at 0 after what the window that ends raises. -/
theorem winErr_restarts {port inst : Nat} (h : Within linkRaiseFlds d e) (hraised : Raised e 4 inst) :
    (e.put I.FELT.WIN_ERR 0 port).get I.FELT.WIN_ERR port = 0 ∧ Raised (e.put I.FELT.WIN_ERR 0 port) 4 inst ∧
    Within (Claim.ringFlds ++ [I.FELT.WIN_ERR]) d (e.put I.FELT.WIN_ERR 0 port) := by
  have hwin : Within [I.FELT.WIN_ERR] e (e.put I.FELT.WIN_ERR 0 port) := Within.of_put _ _ _ _ (by decide) (by decide)
  exact ⟨Dev.get_put_same _ _ 0 _, (hwin.sticky (by decide)).raised hraised, (h.mono (by decide)).trans (hwin.mono (by decide))⟩

theorem errWindow_over {t ix port : Nat} (h : d.get R.FELT.ERR_THR < d.get I.FELT.WIN_ERR port) :
    d.errWindow t ix port = (d.linkRaise t ix 3 (some 1)).put I.FELT.WIN_ERR 0 port := by
  simp [Dev.errWindow, h]

theorem exec_linkErrWindow_ring (r : Fin 6) (side : Side) : exec (.linkErrWindow (.ring r side)) s =
    .next { s with dev := (s.dev.errWindow s.clk.ns r (2 * r.val + if side = .w then 1 else 0)).settle s.clk.ns } := by
  cases side <;> rfl

theorem linkErrWindow_ring (r : Fin 6) (side : Side)
    (h : s.dev.get R.FELT.ERR_THR < s.dev.get I.FELT.WIN_ERR (2 * r.val + if side = .w then 1 else 0)) :
    Does (.linkErrWindow (.ring r side)) s fun d =>
      d.get I.FELT.WIN_ERR (2 * r.val + if side = .w then 1 else 0) = 0 ∧ Raised d 4 (16 * r + 3) ∧
      Within (Claim.ringFlds ++ [I.FELT.WIN_ERR]) s.dev d := by
  refine ⟨_, exec_linkErrWindow_ring r side, ?_⟩
  rw [errWindow_over h, linkRaise_ring _ _ _ r.isLt]
  exact winErr_restarts (ringRaise_within _ _ _ _) (ringRaise_raised _ _ r.isLt (by decide))

theorem linkErrWindow_lf (n : Fin 16) (h : s.dev.get R.FELT.ERR_THR < s.dev.get I.FELT.WIN_ERR (12 + n)) :
    Does (.linkErrWindow (.gen1 n)) s fun d =>
      d.get I.FELT.WIN_ERR (12 + n) = 0 ∧ Raised d 4 (96 + 4 * n + 1) ∧ Within (Claim.ringFlds ++ [I.FELT.WIN_ERR]) s.dev d := by
  refine ⟨s.dev.errWindow s.clk.ns (6 + n) (12 + n), rfl, ?_⟩
  rw [errWindow_over h, linkRaise_lf]
  exact winErr_restarts (lfRaise_within _ _ _) (lfRaise_raised _ n.isLt (by decide))

/-! LINK_ERR_WINDOW of a port of the network. -/

/-- What the changes of an operation of the network show: FENCED, UTC_OFF, and TIME and NET of the summaries. -/
def Dev.netShown (old d : Dev) : Dev :=
  let d1 := d.netStatus
  let d2 := if d1.timeSig = old.timeSig then d1 else d1.sumAll R.HIF.SUM_TIME
  if d2.netSig = old.netSig then d2 else d2.sumAll R.HIF.SUM_NET

theorem netDo_eq (t : Nat) (g : Dev → Dev) : d.netDo t g = (Dev.netShown d (g d)).settle t := rfl

/-- Those fields. -/
def netShownFlds : List Fld := [R.NET.FENCED, R.NET.UTC_OFF, R.HIF.SUM_TIME, R.HIF.SUM_NET]

theorem netStatus_within : Within netShownFlds d d.netStatus :=
  (Within.of_put _ _ _ _ (by decide) (by decide)).trans (Within.of_put _ _ _ _ (by decide) (by decide))

theorem netShown_within (old : Dev) : Within netShownFlds d (Dev.netShown old d) := by
  unfold Dev.netShown
  simp (disch := decide) [netStatus_within]

theorem netErrWindow_over {p : Nat} (t : Nat) (hused : d.portUsed p = true) (h : d.get R.NET.ERR_THR < d.get I.NET.WIN_ERR p) :
    d.netErrWindow t p = (d.raise t 13 (2 + p) (d.get I.NET.WIN_ERR p)).put I.NET.WIN_ERR 0 p := by
  simp [Dev.netErrWindow, hused, h]

theorem exec_linkErrWindow_net (p : Fin 2) : exec (.linkErrWindow (.net p)) s =
    .next { s with dev := (Dev.netShown s.dev (s.dev.netErrWindow s.clk.ns p)).settle s.clk.ns } := by
  show execLinkErrWindow (.net p) s = _
  simp only [execLinkErrWindow, State.onDev_next, netDo_eq]

theorem linkErrWindow_net {p : Fin 2} (hused : s.dev.portUsed p = true) (h : s.dev.get R.NET.ERR_THR < s.dev.get I.NET.WIN_ERR p) :
    Does (.linkErrWindow (.net p)) s fun d =>
      d.get I.NET.WIN_ERR p = 0 ∧ Raised d 13 (2 + p) ∧
      Within (raiseFlds ++ [I.NET.WIN_ERR, R.NET.FENCED, R.NET.UTC_OFF, R.HIF.SUM_TIME, R.HIF.SUM_NET]) s.dev d := by
  have hraised : Raised (s.dev.raise s.clk.ns 13 (2 + p) (s.dev.get I.NET.WIN_ERR p)) 13 (2 + p) := raise_raised _ _ _ _ _ (by omega)
  have hwin : Within [I.NET.WIN_ERR] (s.dev.raise s.clk.ns 13 (2 + p) (s.dev.get I.NET.WIN_ERR p)) (s.dev.netErrWindow s.clk.ns p) := by
    rw [netErrWindow_over _ hused h]
    exact Within.of_put _ _ _ _ (by decide) (by decide)
  have hshown := netShown_within (d := s.dev.netErrWindow s.clk.ns p) s.dev
  refine ⟨_, exec_linkErrWindow_net p, ?_, ((hwin.sticky (by decide)).trans (hshown.sticky (by decide))).raised hraised,
    ((raise_within _ _ _ _ _).mono (by decide)).trans ((hwin.mono (by decide)).trans (hshown.mono (by decide)))⟩
  rw [hshown.regsKept.get (by decide) (by decide), netErrWindow_over _ hused h, Dev.get_put_same]
  rfl

/-! CELL_LINK_LOSS (R186). -/

theorem exec_cellLinkLoss {c : Fin 144} (hused : s.dev.cellUsed c = true) (hever : s.dev.is I.CELL.EVER c = true)
    (hmiss : s.dev.get R.FELT.CELL_LINK_TIMEOUT ≤ s.dev.get R.CELL.MISS_RUN c) : exec (.cellLinkLoss c) s =
      .next { s with dev := (((s.dev.put I.CELL.LOST 1 c).put I.CELL.REMOVE 1 c).raise s.clk.ns 5 c (c + 256 * 2) true).settle s.clk.ns } := by
  show execCellLinkLoss c s = _
  simp [execCellLinkLoss, hused, hever, hmiss]

theorem cellLinkLoss_does {c : Fin 144} (hused : s.dev.cellUsed c = true) (hever : s.dev.is I.CELL.EVER c = true)
    (hmiss : s.dev.get R.FELT.CELL_LINK_TIMEOUT ≤ s.dev.get R.CELL.MISS_RUN c) : Does (.cellLinkLoss c) s fun d =>
      d.get I.CELL.LOST c = 1 ∧ d.get I.CELL.REMOVE c = 1 ∧ Raised d 5 c ∧ Within raiseFlds s.dev d [(I.CELL.LOST, c), (I.CELL.REMOVE, c)] := by
  refine ⟨_, exec_cellLinkLoss hused hever hmiss, ?_, ?_, raise_raised _ _ _ _ _ (by omega), ?_⟩
  · rw [Dev.get_raise _ _ _ _ _ _ _ (by decide) (by decide), Dev.get_put_other _ _ _ _ _ _ (by decide) (by decide) (by decide),
      get_put_one _ (by decide)]
  · rw [Dev.get_raise _ _ _ _ _ _ _ (by decide) (by decide), get_put_one _ (by decide)]
  · exact ((Within.of_put_at _ _ _ _ (by decide) (by simp [hasEl])).trans (Within.of_put_at _ _ _ _ (by decide) (by simp [hasEl]))).trans
      (raise_within _ _ _ _ _).addEls

/-! The end of a management request (R214, R216). -/

/-- The request is no longer outstanding. -/
def Dev.mgtDone (d : Dev) (q : MgtReq) : Dev := { d with mgt := d.mgt.erase q }

/-- The result of a clear shown at its slot. -/
theorem clrResult_ends (q : MgtReq) {v : Nat} (hv : v < 256) (h : Within raiseFlds (d.mgtDone q) e) :
    (e.put R.CELL.CLR_RESULT v q.slot).mgt = d.mgt.erase q ∧ (e.put R.CELL.CLR_RESULT v q.slot).get R.CELL.CLR_RESULT q.slot = v ∧
    Within raiseFlds { d with mgt := (e.put R.CELL.CLR_RESULT v q.slot).mgt } (e.put R.CELL.CLR_RESULT v q.slot) [(R.CELL.CLR_RESULT, q.slot)] := by
  have hmgt : (e.put R.CELL.CLR_RESULT v q.slot).mgt = d.mgt.erase q := h.mgt_eq
  refine ⟨hmgt, (Dev.get_put_same _ _ _ _).trans (Nat.mod_eq_of_lt hv), ?_⟩
  rw [hmgt]
  exact h.addEls.trans (Within.of_put_at _ _ _ _ (by decide) (by simp [hasEl]))

/-- What an error or a silence raises stays raised with the result shown. -/
theorem clrResult_raised (t : Nat) (q : MgtReq) (code v : Nat) :
    Raised ((d.mgtError t q.slot code).put R.CELL.CLR_RESULT v q.slot) 5 150 := by
  have hput : Within [R.CELL.CLR_RESULT] (d.mgtError t q.slot code) ((d.mgtError t q.slot code).put R.CELL.CLR_RESULT v q.slot) :=
    Within.of_put _ _ _ _ (by decide) (by decide)
  exact (hput.sticky (by decide)).raised (raise_raised _ _ _ _ _ (by decide))

theorem mgtAnswered_clear_refused (t data : Nat) {q : MgtReq} (hwhy : q.why = 2) :
    d.mgtAnswered t q 5 data = (d.mgtError t q.slot (bitsOf data 7 0)).put R.CELL.CLR_RESULT 3 q.slot := by
  simp [Dev.mgtAnswered, hwhy]

theorem mgtAnswered_clear_taken (t data : Nat) {q : MgtReq} {op : Nat} (hwhy : q.why = 2) (hop : op ≠ 5) :
    d.mgtAnswered t q op data = d.put R.CELL.CLR_RESULT 2 q.slot := by
  simp [Dev.mgtAnswered, hwhy, hop]

/-- An answer to a clear, by its OP. -/
theorem mgtAnswered_clear (t data : Nat) {q : MgtReq} (op : Nat) (hwhy : q.why = 2) :
    ((d.mgtDone q).mgtAnswered t q op data).mgt = d.mgt.erase q ∧
    ((d.mgtDone q).mgtAnswered t q op data).get R.CELL.CLR_RESULT q.slot = (if op = 5 then 3 else 2) ∧
    (op = 5 → Raised ((d.mgtDone q).mgtAnswered t q op data) 5 150) ∧
    Within raiseFlds { d with mgt := ((d.mgtDone q).mgtAnswered t q op data).mgt } ((d.mgtDone q).mgtAnswered t q op data)
      [(R.CELL.CLR_RESULT, q.slot)] := by
  by_cases hop : op = 5
  · subst hop
    rw [mgtAnswered_clear_refused _ _ hwhy]
    obtain ⟨hmgt, hresult, hframe⟩ := clrResult_ends (d := d) q (v := 3) (by decide) (raise_within t 5 150 (q.slot + 256 * bitsOf data 7 0) false)
    exact ⟨hmgt, hresult, fun _ => clrResult_raised _ _ _ _, hframe⟩
  · rw [mgtAnswered_clear_taken _ _ hwhy hop, if_neg hop]
    obtain ⟨hmgt, hresult, hframe⟩ := clrResult_ends (d := d) q (v := 2) (by decide) (Within.refl _)
    exact ⟨hmgt, hresult, fun h => absurd h hop, hframe⟩

theorem exec_mgtResponseRx {link : Link} {hop : BitVec 6} {op tag : BitVec 8} {addr : BitVec 32} {data : Word} {q : MgtReq}
    (hfind : s.dev.mgt.find? (fun q => q.link = linkIx link && q.hop = hop.toNat && q.tag = tag.toNat && q.addr = addr.toNat && q.sent.isSome) =
      some q) (hlo : 3 ≤ op.toNat) (hhi : op.toNat ≤ 5) : exec (.mgtResponseRx link hop op tag addr data) s =
    .next { s with dev :=
      (((s.dev.carryIn (linkIx link) false 20).mgtDone q).mgtAnswered s.clk.ns q op.toNat data.toNat).settle s.clk.ns } := by
  have hmgt : (s.dev.carryIn (linkIx link) false 20).mgt = s.dev.mgt := (carryIn_within _ _ _).mgt_eq
  show execMgtResponseRx link hop op tag addr data s = _
  simp only [execMgtResponseRx, State.onDev_next, hmgt, hfind]
  simp [Nat.not_lt.mpr hlo, Nat.not_lt.mpr hhi, Dev.mgtDone, hmgt]

theorem mgtResponseRx_does {link : Link} {hop : BitVec 6} {op tag : BitVec 8} {addr : BitVec 32} {data : Word} {q : MgtReq}
    (hfind : s.dev.mgt.find? (fun q => q.link = linkIx link && q.hop = hop.toNat && q.tag = tag.toNat && q.addr = addr.toNat && q.sent.isSome) =
      some q) (hwhy : q.why = 2) (hlo : 3 ≤ op.toNat) (hhi : op.toNat ≤ 5) : Does (.mgtResponseRx link hop op tag addr data) s fun d =>
      d.mgt = s.dev.mgt.erase q ∧ d.get R.CELL.CLR_RESULT q.slot = (if op = 5 then 3 else 2) ∧ (op = 5 → Raised d 5 150) ∧
      Within raiseFlds { s.dev with mgt := d.mgt } d [(R.CELL.CLR_RESULT, q.slot)] := by
  have hcarry := carryIn_within (d := s.dev) (linkIx link) false 20
  have hop5 : op = 5 ↔ op.toNat = 5 := BitVec.toNat_inj.symm
  obtain ⟨hmgt, hresult, hraised, hframe⟩ :=
    mgtAnswered_clear (d := s.dev.carryIn (linkIx link) false 20) s.clk.ns data.toNat op.toNat hwhy
  simp only [hop5]
  refine ⟨_, exec_mgtResponseRx hfind hlo hhi, ?_, hresult, hraised, ?_⟩
  · rw [hmgt, hcarry.mgt_eq]
  · exact ((hcarry.mono (by decide)).addEls.setMgt _).trans hframe

theorem exec_mgtTimeout {c : Fin 144} {q : MgtReq} (hfind : s.dev.mgt.find? (fun q => q.slot = c.val && q.sent.isSome) = some q)
    (hwhy : q.why = 2) : exec (.mgtTimeout c) s =
      .next { s with dev := (((s.dev.mgtDone q).mgtError s.clk.ns q.slot 0xFF).put R.CELL.CLR_RESULT 4 q.slot).settle s.clk.ns } := by
  show execMgtTimeout c s = _
  simp only [execMgtTimeout, State.onDev_next, hfind, Dev.mgtLost, hwhy]
  rfl

theorem mgtTimeout_does {c : Fin 144} {q : MgtReq} (hfind : s.dev.mgt.find? (fun q => q.slot = c.val && q.sent.isSome) = some q)
    (hwhy : q.why = 2) : Does (.mgtTimeout c) s fun d =>
      d.mgt = s.dev.mgt.erase q ∧ d.get R.CELL.CLR_RESULT q.slot = 4 ∧ Raised d 5 150 ∧
      Within raiseFlds { s.dev with mgt := d.mgt } d [(R.CELL.CLR_RESULT, q.slot)] := by
  obtain ⟨hmgt, hresult, hframe⟩ :=
    clrResult_ends (d := s.dev) q (v := 4) (by decide) (raise_within s.clk.ns 5 150 (q.slot + 256 * 0xFF) false)
  exact ⟨_, exec_mgtTimeout hfind hwhy, hmgt, hresult, clrResult_raised _ _ _ _, hframe⟩

/-- Settles O39: an error window by the raising of its port and the count that starts again, the silent cell by its removal and raising,
and a clear by the result that its answer or its silence gives. -/
theorem linkFaults : Obligations.LinkFaults := fun _ r n side _ _ _ _ _ _ _ _ _ =>
  ⟨linkErrWindow_ring r side, linkErrWindow_lf n, linkErrWindow_net, cellLinkLoss_does, mgtResponseRx_does, mgtTimeout_does⟩

end Sys2Proof.Machine
end

section
/-! PROOFS. The requests of the modulator and of the LV drive that wait for a boundary (R236, R240, R322, R324). -/
namespace Sys2Proof.Machine
variable {d : Dev} {s : State}

/-! Joined lists of fields. -/

theorem subFlds_append_left (M N : List Fld) : subFlds M (M ++ N) = true := by
  simp only [subFlds, hasFld, List.all_eq_true, List.any_eq_true, beq_iff_eq]
  exact fun f hf => ⟨f, List.mem_append_left N hf, rfl⟩

theorem subFlds_append_right (M N : List Fld) : subFlds N (M ++ N) = true := by
  simp only [subFlds, hasFld, List.all_eq_true, List.any_eq_true, beq_iff_eq]
  exact fun f hf => ⟨f, List.mem_append_right M hf, rfl⟩

/-! A request that waits. -/

/-- The request of element i waits in `due`, the time of its write in `ns`: OUT_REQ and RET_REQ of a slot, TEST_GO, HB_CLR of a
half-bridge and LVT_GO are this of their own two fields. -/
def Dev.awaits (d : Dev) (due ns : Fld) (t i : Nat) : Dev := (d.put due 1 i).put ns t i

/-- `due` marks a request and `ns` has its time: different fields, the one not empty and the other of 64 bits. -/
structure RequestFlds (due ns : Fld) : Prop where
  due_id : due.id < 2048
  ns_id : ns.id < 2048
  apart : ns.id ≠ due.id
  due_width : due.width ≠ 0
  ns_width : ns.width = 64

theorem awaits_due {due ns : Fld} (hf : RequestFlds due ns) (t i : Nat) : (d.awaits due ns t i).get due i = 1 := by
  rw [Dev.awaits, Dev.get_put_other _ _ _ _ _ _ hf.ns_id hf.due_id hf.apart, get_put_one due hf.due_width]

theorem awaits_time {due ns : Fld} (hf : RequestFlds due ns) (t i : Nat) : (d.awaits due ns t i).get ns i = t % 2 ^ 64 := by
  rw [Dev.awaits, Dev.get_put_same, hf.ns_width]

/-- A request writes its element of the two fields. -/
theorem awaits_within {L : List Fld} {due ns : Fld} (hf : RequestFlds due ns) (t i : Nat) :
    Within L d (d.awaits due ns t i) ([due, ns].map (fun f => (f, i))) :=
  (within_put_map hf.ns_id (by simp [hasFld])).2 ((within_put_map hf.due_id (by simp [hasFld])).2 (.refl d))

/-- An accepted write that comes to a request. -/
theorem does_request {c : Instr} {src : Source} {a val i : Nat} {due ns : Fld} (hx : exec c s = s.hostWrite src a 0xF val)
    (hf : RequestFlds due ns) (hact : ∀ d : Dev, d.writeAct s.clk.ns src a val = d.awaits due ns s.clk.ns i) (h : Accepts s src a val) :
    Does c s fun d => d.get due i = 1 ∧ d.get ns i = s.clk.ns % 2 ^ 64 ∧ Within countFlds s.dev d ([due, ns].map (fun f => (f, i))) := by
  refine does_write hx h ?_
  rw [hact]
  exact ⟨awaits_due hf _ _, awaits_time hf _ _, (counted_within src).addEls.trans (awaits_within hf _ _)⟩

/-- An accepted write that comes to setting one bit. -/
theorem does_put_one {c : Instr} {src : Source} {a val : Nat} {f : Fld} (hx : exec c s = s.hostWrite src a 0xF val)
    (hf : f.id < 2048) (hw : f.width ≠ 0) (hact : ∀ d : Dev, d.writeAct s.clk.ns src a val = d.put f 1) (h : Accepts s src a val) :
    Does c s fun d => d.get f = 1 ∧ Within (countFlds ++ [f]) s.dev d := by
  refine does_write hx h ?_
  rw [hact]
  exact ⟨get_put_one f hw 0, ((counted_within src).mono (subFlds_append_left _ _)).trans (.of_put _ f 1 0 hf (by simp [hasFld]))⟩

/-- A frame of element 0 of some fields is a frame of the whole fields. -/
theorem Does.wholeFlds {c : Instr} {fs : List Fld} {P Q : Dev → Prop}
    (h : Does c s fun d => P d ∧ Q d ∧ Within countFlds s.dev d (fs.map (fun f => (f, 0)))) :
    Does c s fun d => P d ∧ Q d ∧ Within (countFlds ++ fs) s.dev d := by
  obtain ⟨d, hd, hp, hq, hframe⟩ := h
  exact ⟨d, hd, hp, hq, hframe.wholeFlds (subFlds_append_left _ _) (subFlds_append_right _ _)⟩

/-! The words of the requests lie above every setting of their windows. -/

/-- A field of one element stands in the word of its own offset alone. -/
theorem off_of_elem_single {f : Fld} {i o k : Nat} (h1 : f.n1 = 1) (h2 : f.n2 = 1) (h : f.elem i o = some k) : o = f.off := by
  unfold Fld.elem at h
  simp only [h1, h2, bne_self_eq_false, Bool.false_and, Bool.false_eq_true, if_false, if_true, Option.ite_none_left_eq_some,
    Option.ite_none_right_eq_some, Bool.and_eq_true, decide_eq_true_eq] at h
  obtain ⟨hle, ⟨-, hword⟩, -⟩ := h
  omega

/-- Where every field that a write of its word sets has one element and lies below an offset, no word from there on holds one. -/
theorem plainWord_inert {w o low : Nat} (i : Nat) (h : ∀ f ∈ winFields w, f.inert = true ∨ (f.n1 = 1 ∧ f.n2 = 1 ∧ f.off < low))
    (hlow : low ≤ o) : ∀ p ∈ plainWord w o i, p.1.inert = true := by
  intro p hp
  simp only [plainWord, List.mem_filterMap, Option.map_eq_some_iff] at hp
  obtain ⟨f, hf, k, hk, rfl⟩ := hp
  obtain hinert | ⟨h1, h2, hbelow⟩ := h f hf
  · exact hinert
  · have := off_of_elem_single h1 h2 hk
    omega

theorem mod_settings_below : ∀ f ∈ winFields 8, f.inert = true ∨ (f.n1 = 1 ∧ f.n2 = 1 ∧ f.off < 0x3C) := by decide

theorem lvd_settings_below : ∀ f ∈ winFields 11, f.inert = true ∨ (f.n1 = 1 ∧ f.n2 = 1 ∧ f.off < 0x48) := by decide

/-! SLOT_CTL (R236). -/

theorem outReq_eq (t c : Nat) : d.outReq t c = d.awaits I.MOD.OUT_DUE I.MOD.OUT_NS t c := rfl
theorem retReq_eq (t c : Nat) : d.retReq t c = d.awaits I.MOD.RET_DUE I.MOD.RET_NS t c := rfl

theorem winOf_slotCtl (c : Fin 144) : winOf (winAddr wMod (0x1008 + 0x10 * c)) = some (8, 0x1008 + 0x10 * c.val) := by
  revert c
  decide

theorem groupAt_slotCtl (c : Fin 144) : groupAt (0x1008 + 0x10 * c) 0x1000 0x10 144 = some (c.val, 8) := by
  revert c
  decide

theorem writeAct_slotCtl (t : Nat) (src : Source) (c : Fin 144) (val : Nat) : d.writeAct t src (winAddr wMod (0x1008 + 0x10 * c)) val =
    if val % 2 = 1 then d.awaits I.MOD.OUT_DUE I.MOD.OUT_NS t c
    else if bitOf val 1 = 1 then d.awaits I.MOD.RET_DUE I.MOD.RET_NS t c else d := by
  have hword : 0x1008 + 0x10 * c.val ≠ 0x3C := by omega
  rw [writeAct_inert t src val (winOf_slotCtl c) (by decide) (plainWord_inert _ mod_settings_below (by omega))]
  simp only [Dev.windowAct, hword, if_false, groupAt_slotCtl, outReq_eq, retReq_eq]

/-! TEST_CTL (R240). -/

theorem winOf_testCtl : winOf (winAddr wMod 0x3C) = some (8, 0x3C) := by decide

theorem writeAct_testCtl (t : Nat) (src : Source) (val : Nat) : d.writeAct t src (winAddr wMod 0x3C) val =
    if val % 2 = 1 then d.awaits I.MOD.TEST_DUE I.MOD.TEST_NS t 0 else if bitOf val 1 = 1 then d.put I.MOD.TEST_END 1 else d :=
  writeAct_inert t src val winOf_testCtl (by decide) (plainWord_inert _ mod_settings_below (Nat.le_refl _))

/-! HB_CLR (R322). -/

theorem winOf_hbCtl (k : Fin 8) : winOf (winAddr wLvd (0x110 + 0x20 * k)) = some (11, 0x110 + 0x20 * k.val) := by
  revert k
  decide

theorem groupAt_hbCtl (k : Fin 8) : groupAt (0x110 + 0x20 * k) 0x100 0x20 8 = some (k.val, 0x10) := by
  revert k
  decide

theorem writeAct_hbCtl (t : Nat) (src : Source) (k : Fin 8) (val : Nat) : d.writeAct t src (winAddr wLvd (0x110 + 0x20 * k)) val =
    if val % 2 = 1 then d.awaits I.LVD.HBC_DUE I.LVD.HBC_NS t k else d := by
  have hword : 0x110 + 0x20 * k.val ≠ 0x48 := by omega
  rw [writeAct_inert t src val (winOf_hbCtl k) (by decide) (plainWord_inert _ lvd_settings_below (by omega))]
  simp only [Dev.windowAct, hword, if_false, groupAt_hbCtl, Dev.awaits]

/-! LVT_CTL (R324). -/

theorem winOf_lvtCtl : winOf (winAddr wLvd 0x48) = some (11, 0x48) := by decide

theorem writeAct_lvtCtl (t : Nat) (src : Source) (val : Nat) : d.writeAct t src (winAddr wLvd 0x48) val =
    if val % 2 = 1 then d.awaits I.LVD.LVT_DUE I.LVD.LVT_NS t 0 else if bitOf val 1 = 1 then d.put I.LVD.LVT_END 1 else d :=
  writeAct_inert t src val winOf_lvtCtl (by decide) (plainWord_inert _ lvd_settings_below (Nat.le_refl _))

/-! The two fields of each request. -/

theorem requestFlds_out : RequestFlds I.MOD.OUT_DUE I.MOD.OUT_NS := by constructor <;> decide
theorem requestFlds_ret : RequestFlds I.MOD.RET_DUE I.MOD.RET_NS := by constructor <;> decide
theorem requestFlds_test : RequestFlds I.MOD.TEST_DUE I.MOD.TEST_NS := by constructor <;> decide
theorem requestFlds_hbc : RequestFlds I.LVD.HBC_DUE I.LVD.HBC_NS := by constructor <;> decide
theorem requestFlds_lvt : RequestFlds I.LVD.LVT_DUE I.LVD.LVT_NS := by constructor <;> decide

/-- Settles O5: each is a write of a word that holds no setting, and its window then marks the request with its time, or the stop of a
test. -/
theorem boundaryRequests : Obligations.BoundaryRequests := fun _ src c k =>
  ⟨does_request rfl requestFlds_out (fun _ => writeAct_slotCtl _ src c 1),
    does_request rfl requestFlds_ret (fun _ => writeAct_slotCtl _ src c 2),
    fun h => (does_request rfl requestFlds_test (fun _ => writeAct_testCtl _ src 1) h).wholeFlds,
    does_put_one rfl (by decide) (by decide) (fun _ => writeAct_testCtl _ src 2),
    does_request rfl requestFlds_hbc (fun _ => writeAct_hbCtl _ src k 1),
    fun h => (does_request rfl requestFlds_lvt (fun _ => writeAct_lvtCtl _ src 1) h).wholeFlds,
    does_put_one rfl (by decide) (by decide) (fun _ => writeAct_lvtCtl _ src 2)⟩

end Sys2Proof.Machine
end

section
/-! PROOFS. The channels of the LV drive (R309, R311, R314): what turning a channel off or on and requesting a turn-on write of the
channel and of its half-bridge's status, and that they leave the other channels alone. -/
namespace Sys2Proof.Machine
variable {L : List Fld} {d e : Dev}

theorem Dev.get_zero_of_not_is {f : Fld} {i : Nat} (h : d.is f i = false) : d.get f i = 0 := by
  simpa [Dev.is] using h

theorem Dev.is_congr {f : Fld} {i : Nat} (h : e.get f i = d.get f i) : e.is f i = d.is f i := by
  rw [Dev.is, Dev.is, h]

/-! The own fields of a channel. -/

/-- What turning a channel off writes of the channel. -/
def channelFlds : List Fld := [I.LVD.CH_REQ, I.LVD.CH_ON, I.LVD.CH_SNK, I.LVD.CH_SOFT]

/-- Those fields of channel c. -/
def channelEls (c : Nat) : List (Fld × Nat) := channelFlds.map (fun f => (f, c))

/-- Elements at one index have none at another. -/
theorem hasEl_map_other (fs : List Fld) {c i : Nat} (hc : c < 16) (hi : i < 16) (h : i ≠ c) (f : Fld) :
    hasEl (fs.map (fun f => (f, c))) f i = false := by
  have hne : (c % 65536 == i % 65536) = false := by rw [beq_eq_false_iff_ne]; omega
  simp [hasEl, hne]

/-! Turning off. -/

theorem turnOff_channel (c : Nat) (soft : Bool) : Within portFlds d (d.turnOff c soft) (channelEls c) := by
  unfold Dev.turnOff Dev.flag channelEls
  simp (disch := decide) only [within_ite, (hbStatus_port _).addEls.iff, within_put_map, within_self, ite_self]

/-- Turning a channel off leaves what another channel's fields hold, and every field that is neither a channel's nor the status's. -/
theorem get_turnOff_other {c i : Nat} (hc : c < 16) (hi : i < 16) (h : i ≠ c) (soft : Bool) {f : Fld} (hf : f.id < 2048)
    (hp : hasFld portFlds f = false) : (d.turnOff c soft).get f i = d.get f i :=
  (turnOff_channel c soft).regs f hf hp i (hasEl_map_other channelFlds hc hi h f)

/-- The channel is off and no turn-on of it is held. -/
structure ChannelOff (d : Dev) (c : Nat) : Prop where
  on : d.get I.LVD.CH_ON c = 0
  req : d.get I.LVD.CH_REQ c = 0

theorem ChannelOff.kept {c : Nat} (h : ChannelOff d c) (k : RegsKept L d e) (hL : hasFld L I.LVD.CH_ON = false)
    (hL' : hasFld L I.LVD.CH_REQ = false) : ChannelOff e c :=
  ⟨(k.get (by decide) hL c).trans h.on, (k.get (by decide) hL' c).trans h.req⟩

theorem hbStatus_get (k : Nat) {f : Fld} (hf : f.id < 2048) (h : hasFld portFlds f = false) (i : Nat) : (d.hbStatus k).get f i = d.get f i :=
  (hbStatus_port k).regs f hf h i rfl

theorem turnOff_off (c : Nat) (soft : Bool) : ChannelOff (d.turnOff c soft) c := by
  unfold Dev.turnOff
  by_cases hon : d.is I.LVD.CH_ON c = true
  · rw [if_pos hon]
    constructor <;> simp (disch := decide) [hbStatus_get]
  · have hoff : d.get I.LVD.CH_ON c = 0 := Dev.get_zero_of_not_is (by simpa using hon)
    rw [if_neg hon]
    constructor <;> simp (disch := decide) [hoff]

/-- A channel that is off stays off when any channel is turned off. -/
theorem ChannelOff.turnOff {c : Nat} (h : ChannelOff d c) (hc : c < 16) {j : Nat} (hj : j < 16) (soft : Bool) : ChannelOff (d.turnOff j soft) c := by
  by_cases hcj : c = j
  · exact hcj ▸ turnOff_off c soft
  · exact ⟨(get_turnOff_other hj hc hcj soft (by decide) (by decide)).trans h.on,
      (get_turnOff_other hj hc hcj soft (by decide) (by decide)).trans h.req⟩

theorem bothOff_off {k : Nat} (hk : k < 8) : ChannelOff (d.bothOff k) (2 * k) ∧ ChannelOff (d.bothOff k) (2 * k + 1) :=
  ⟨(turnOff_off _ _).turnOff (by omega) (by omega) _, turnOff_off _ _⟩

/-! A soft turn-off (R314). -/

/-- The channel is off and a soft turn-off of it runs. -/
structure SoftOff (d : Dev) (c : Nat) : Prop where
  on : d.get I.LVD.CH_ON c = 0
  soft : d.get I.LVD.CH_SOFT c = 1

theorem SoftOff.kept {c : Nat} (h : SoftOff d c) (k : RegsKept L d e) (hL : hasFld L I.LVD.CH_ON = false)
    (hL' : hasFld L I.LVD.CH_SOFT = false) : SoftOff e c :=
  ⟨(k.get (by decide) hL c).trans h.on, (k.get (by decide) hL' c).trans h.soft⟩

theorem turnOff_softOff {c : Nat} (hon : d.is I.LVD.CH_ON c = true) : SoftOff (d.turnOff c true) c := by
  unfold Dev.turnOff
  rw [if_pos hon]
  constructor <;> simp (disch := decide) [hbStatus_get, Dev.flag]

/-- Turning off again a channel that is off starts nothing and ends no soft turn-off of it. -/
theorem SoftOff.turnOff {c : Nat} (h : SoftOff d c) (hc : c < 16) {j : Nat} (hj : j < 16) (soft : Bool) : SoftOff (d.turnOff j soft) c := by
  by_cases hcj : c = j
  · subst hcj
    have hoff : ¬ d.is I.LVD.CH_ON c = true := by simp [Dev.is, h.on]
    unfold Dev.turnOff
    rw [if_neg hoff]
    constructor <;> simp (disch := decide) [h.on, h.soft]
  · exact ⟨(get_turnOff_other hj hc hcj soft (by decide) (by decide)).trans h.on,
      (get_turnOff_other hj hc hcj soft (by decide) (by decide)).trans h.soft⟩

/-- The channels of a list turned off, one after the other. -/
def Dev.channelsOff (d : Dev) (l : List Nat) (soft : Bool) : Dev := l.foldl (fun d c => d.turnOff c soft) d

/-- What turning channels off writes, of any channel. -/
def channelsFlds : List Fld := portFlds ++ channelFlds

theorem turnOff_flds (c : Nat) (soft : Bool) : Within channelsFlds d (d.turnOff c soft) :=
  (turnOff_channel c soft).wholeFlds (by decide) (by decide)

theorem channelsOff_flds (l : List Nat) (soft : Bool) : Within channelsFlds d (d.channelsOff l soft) :=
  Within.of_foldl _ (fun _ c => turnOff_flds c soft) l d

theorem SoftOff.channelsOff {c : Nat} (h : SoftOff d c) (hc : c < 16) {l : List Nat} (hl : ∀ j ∈ l, j < 16) (soft : Bool) :
    SoftOff (d.channelsOff l soft) c :=
  List.foldlRecOn (motive := fun e => SoftOff e c) l _ h (fun _ he j hj => he.turnOff hc (hl j hj) soft)

theorem channelsOff_softOff {c : Nat} (hon : d.is I.LVD.CH_ON c = true) {l : List Nat} (hc : c ∈ l) (hl : ∀ j ∈ l, j < 16) :
    SoftOff (d.channelsOff l true) c := by
  have hc16 := hl c hc
  have hnext : ∀ e, ∀ j ∈ l, e.is I.LVD.CH_ON c = true ∨ SoftOff e c →
      (e.turnOff j true).is I.LVD.CH_ON c = true ∨ SoftOff (e.turnOff j true) c := by
    intro e j hj he
    rcases he with he | he
    · by_cases hcj : c = j
      · exact .inr (hcj ▸ turnOff_softOff he)
      · rw [Dev.is_congr (get_turnOff_other (hl j hj) hc16 hcj true (by decide) (by decide))]
        exact .inl he
    · exact .inr (he.turnOff hc16 (hl j hj) true)
  have hhere : ∀ e : Dev, e.is I.LVD.CH_ON c = true ∨ SoftOff e c → SoftOff (e.turnOff c true) c := fun e he =>
    he.elim turnOff_softOff (fun h => h.turnOff hc16 hc16 true)
  exact foldl_establishes (I := fun e => e.is I.LVD.CH_ON c = true ∨ SoftOff e c) (Q := fun e => SoftOff e c) l hc hnext hhere
    (fun e j hj _ _ hQ => hQ.turnOff hc16 (hl j hj) true) (.inl hon)

/-! A request, and turning on (R309, R311). -/

/-- What a request writes beside the channel's own. -/
def requestFlds : List Fld := R.LVD.HB_BST_HOLD_CNT :: countFlds

theorem request_channel (c : Nat) : Within requestFlds d (d.request c) [(I.LVD.CH_REQ, c)] := by
  unfold Dev.request
  simp (disch := first | decide | simp [hasEl]) only [within_ite, within_bump, within_perf, within_put_at, within_self, ite_self]

theorem get_request {f : Fld} (hf : f.id < 2048) (h : hasFld (I.LVD.CH_REQ :: requestFlds) f = false) (c i : Nat) :
    (d.request c).get f i = d.get f i :=
  ((request_channel c).wholeFlds (E := []) (fs := [I.LVD.CH_REQ]) (subFlds_append_right [I.LVD.CH_REQ] _) (by decide)).regs f hf h i rfl

theorem turnOn_channel (c : Nat) : Within portFlds d (d.turnOn c) [(I.LVD.CH_ON, c), (I.LVD.CH_REQ, c), (I.LVD.CH_SNK, c)] := by
  unfold Dev.turnOn
  rw [(hbStatus_port _).addEls.iff]
  simp (disch := first | decide | simp [hasEl]) only [within_put_at, within_self]

end Sys2Proof.Machine
end

section
/-! PROOFS. The channel faults of the LV drive (R312 to R314, R316, R324): the latch, the short circuit with its soft turn-off, the
timeouts and the conflict. -/
namespace Sys2Proof.Machine
variable {L : List Fld} {d e : Dev} {s : State}

/-! The latch (R321). -/

/-- What latching writes beside the latch itself. -/
def latchRestFlds : List Fld := [R.LVD.HB_FLT_CNT, R.LVD.HB_RETRY_EXH, I.LVD.RETRY_PEND, I.LVD.RETRY_DUE] ++ portFlds ++ raiseFlds

/-- What latching writes. -/
def latchFlds : List Fld := R.LVD.HB_LATCH :: latchRestFlds

theorem latch_afterBit (t k bit : Nat) : Within latchRestFlds (d.setBitOf R.LVD.HB_LATCH bit true k) (d.latch t k bit) := by
  unfold Dev.latch
  simp (disch := decide) only [within_ite, within_put, within_raise, ((hbStatus_port _).mono (L := latchRestFlds) (by decide)).iff, within_perf,
    within_bump, within_self, ite_self]

theorem latch_within (t k bit : Nat) : Within latchFlds d (d.latch t k bit) :=
  (Within.of_put _ _ _ _ (by decide) (by decide)).trans ((latch_afterBit t k bit).mono (subFlds_append_right [R.LVD.HB_LATCH] _))

theorem latch_latched (t k : Nat) {bit : Nat} (h : bit < 7) : bitOf ((d.latch t k bit).get R.LVD.HB_LATCH k) bit = 1 := by
  rw [(latch_afterBit t k bit).regsKept.get (by decide) (by decide), setBitOf_bit_same _ _ _ h]
  rfl

/-- A fault of a channel latched, and its instance raised. -/
def Dev.channelFault (d : Dev) (t ch bit inst : Nat) : Dev := (d.latch t (ch / 2) bit).raise t 8 (16 * (ch / 2) + inst) ch

theorem channelFault_within (t ch bit inst : Nat) : Within latchFlds d (d.channelFault t ch bit inst) :=
  (latch_within t _ bit).trans ((raise_within _ _ _ _ _).mono (by decide))

/-- What such a fault leaves, after `e` has done its part to the channel of `d`. -/
theorem channelFault_faults (t : Nat) {ch bit inst : Nat} (hch : ch < 16) (hbit : bit < 7) (hinst : inst < 16) (h : Within Claim.lvFlds d e) :
    bitOf ((e.channelFault t ch bit inst).get R.LVD.HB_LATCH (ch / 2)) bit = 1 ∧ Raised (e.channelFault t ch bit inst) 8 (16 * (ch / 2) + inst) ∧
    Within Claim.lvFlds d (e.channelFault t ch bit inst) := by
  refine ⟨?_, raise_raised _ _ _ _ _ (by omega), h.trans ((channelFault_within t ch bit inst).mono (by decide))⟩
  rw [Dev.channelFault, Dev.get_raise _ _ _ _ _ _ _ (by decide) (by decide), latch_latched _ _ hbit]

/-! SC_DETECT (R313 to R315). -/

/-- The channels that a detection in channel ch turns off softly: both of every half-bridge of the leg group. -/
def Dev.softChannels (d : Dev) (ch : Nat) : List Nat := (d.legMembers (ch / 2)).flatMap (fun j => [2 * j, 2 * j + 1])

/-- The half-bridges of the short group outside the leg group. -/
def Dev.restMembers (d : Dev) (ch : Nat) : List Nat :=
  (d.shortMembers (d.shortGrp (ch / 2))).filter (fun j => !(d.legMembers (ch / 2)).contains j)

/-- The channels of those that are turned off hard: the high sides, and but for the active short the low sides. -/
def Dev.hardChannels (d : Dev) (ch : Nat) : List Nat :=
  (d.restMembers ch).map (fun j => 2 * j + 1) ++ if d.activeShort (d.shortGrp (ch / 2)) then [] else (d.restMembers ch).map (fun j => 2 * j)

theorem scTurnOff_eq (ch : Nat) : d.scTurnOff ch =
    (((d.channelsOff (d.softChannels ch) true).channelsOff (d.hardChannels ch) false).put I.LVD.DET_WAIT 1 (d.shortGrp (ch / 2))).put
      I.LVD.SAFE_ON 0 (d.shortGrp (ch / 2)) := by
  have hsoft : d.channelsOff (d.softChannels ch) true =
      (d.legMembers (ch / 2)).foldl (fun d j => (d.turnOff (2 * j) true).turnOff (2 * j + 1) true) d := by
    simp [Dev.channelsOff, Dev.softChannels, List.foldl_flatMap]
  have hhard : ∀ e : Dev, e.channelsOff (d.hardChannels ch) false =
      if d.activeShort (d.shortGrp (ch / 2)) then (d.restMembers ch).foldl (fun d j => d.turnOff (2 * j + 1) false) e
      else (d.restMembers ch).foldl (fun d j => d.turnOff (2 * j) false)
        ((d.restMembers ch).foldl (fun d j => d.turnOff (2 * j + 1) false) e) := by
    intro e
    unfold Dev.channelsOff Dev.hardChannels
    split <;> simp [List.foldl_map]
  rw [hsoft, hhard]
  rfl

theorem lt_of_mem_legMembers {k j : Nat} (h : j ∈ d.legMembers k) : j < 8 := by
  simp only [Dev.legMembers, List.mem_filter, List.mem_range] at h
  exact h.1

theorem mem_legMembers_self {k : Nat} (hk : k < 8) (hused : d.hbUsed k = true) : k ∈ d.legMembers k := by
  simp [Dev.legMembers, hk, hused]

theorem mem_softChannels_self {ch : Nat} (hch : ch < 16) (hused : d.hbUsed (ch / 2) = true) : ch ∈ d.softChannels ch := by
  have hside : ch = 2 * (ch / 2) ∨ ch = 2 * (ch / 2) + 1 := by omega
  exact List.mem_flatMap.2 ⟨ch / 2, mem_legMembers_self (by omega) hused, by simpa using hside⟩

theorem lt_of_mem_softChannels {ch c : Nat} (h : c ∈ d.softChannels ch) : c < 16 := by
  obtain ⟨j, hj, hc⟩ := List.mem_flatMap.1 h
  have hlt := lt_of_mem_legMembers hj
  simp only [List.mem_cons, List.not_mem_nil, or_false] at hc
  omega

theorem lt_of_mem_hardChannels {ch c : Nat} (h : c ∈ d.hardChannels ch) : c < 16 := by
  have hrest : ∀ j ∈ d.restMembers ch, j < 8 := by
    intro j hj
    simp only [Dev.restMembers, Dev.shortMembers, List.mem_filter, List.mem_range] at hj
    exact hj.1.1
  have hc : ∃ j ∈ d.restMembers ch, c = 2 * j + 1 ∨ c = 2 * j := by
    rcases List.mem_append.1 h with h | h
    · obtain ⟨j, hj, rfl⟩ := List.mem_map.1 h
      exact ⟨j, hj, .inl rfl⟩
    · split at h
      · exact absurd h (List.not_mem_nil)
      · obtain ⟨j, hj, rfl⟩ := List.mem_map.1 h
        exact ⟨j, hj, .inr rfl⟩
  obtain ⟨j, hj, hc⟩ := hc
  have hlt := hrest j hj
  omega

/-- What the turning off of a short group writes. -/
def scFlds : List Fld := [I.LVD.DET_WAIT, I.LVD.SAFE_ON] ++ channelsFlds

theorem scTurnOff_within (ch : Nat) : Within scFlds d (d.scTurnOff ch) := by
  rw [scTurnOff_eq]
  simp (disch := decide) only [within_put]
  exact ((channelsOff_flds _ _).trans (channelsOff_flds _ _)).mono (subFlds_append_right _ _)

/-- The channel in which the detection is made is turned off softly, whatever is turned off beside it. -/
theorem scTurnOff_softOff {ch : Nat} (hch : ch < 16) (hon : d.is I.LVD.CH_ON ch = true) (hused : d.hbUsed (ch / 2) = true) :
    SoftOff (d.scTurnOff ch) ch := by
  have hoff : SoftOff ((d.channelsOff (d.softChannels ch) true).channelsOff (d.hardChannels ch) false) ch :=
    (channelsOff_softOff hon (mem_softChannels_self hch hused) (fun _ => lt_of_mem_softChannels)).channelsOff hch
      (fun _ => lt_of_mem_hardChannels) false
  rw [scTurnOff_eq]
  refine hoff.kept (L := [I.LVD.DET_WAIT, I.LVD.SAFE_ON]) (Within.regsKept ?_) (by decide) (by decide)
  simp (disch := decide) only [within_put, within_self]

/-- A detection latched with its time, before the channels are turned off. -/
def Dev.scLatch (d : Dev) (t ch bit time : Nat) : Dev := (d.latch t (ch / 2) bit).put R.LVD.CH_SC_TIME time ch

theorem scLatch_within (t ch bit time : Nat) : Within (R.LVD.CH_SC_TIME :: latchFlds) d (d.scLatch t ch bit time) :=
  ((latch_within t _ bit).mono (subFlds_append_right [R.LVD.CH_SC_TIME] _)).trans (.of_put _ _ _ _ (by decide) (by decide))

theorem exec_scDetect {ch : Fin 16} (sc2 : Bool) (scTime : BitVec 24) (hon : s.dev.is I.LVD.CH_ON ch = true)
    (htest : s.dev.lvtTests ch = false) : exec (.scDetect ch sc2 scTime) s =
      .next { s with dev := (((s.dev.scLatch s.clk.ns ch (2 * sc2.toNat + ch.val % 2) scTime.toNat).scTurnOff ch).raise s.clk.ns 8
        (16 * (ch.val / 2) + sc2.toNat) (ch.val % 2)).settle s.clk.ns } := by
  show execScDetect ch sc2 scTime s = _
  simp [execScDetect, hon, htest, Dev.scLatch]

theorem scDetect_does {ch : Fin 16} (sc2 : Bool) (scTime : BitVec 24) (hon : s.dev.is I.LVD.CH_ON ch = true)
    (htest : s.dev.lvtTests ch = false) (hused : s.dev.hbUsed (ch.val / 2) = true) : Does (.scDetect ch sc2 scTime) s fun d =>
      d.get I.LVD.CH_ON ch = 0 ∧ d.get I.LVD.CH_SOFT ch = 1 ∧ bitOf (d.get R.LVD.HB_LATCH (ch.val / 2)) (2 * sc2.toNat + ch.val % 2) = 1 ∧
      d.get R.LVD.CH_SC_TIME ch = scTime.toNat ∧ Raised d 8 (16 * (ch.val / 2) + sc2.toNat) ∧ Within Claim.lvFlds s.dev d := by
  have hsc := sc2.toNat_le
  have hlatch := scLatch_within (d := s.dev) s.clk.ns ch (2 * sc2.toNat + ch.val % 2) scTime.toNat
  have hoff : SoftOff ((s.dev.scLatch s.clk.ns ch (2 * sc2.toNat + ch.val % 2) scTime.toNat).scTurnOff ch) ch := by
    refine scTurnOff_softOff ch.isLt ?_ ?_
    · rw [Dev.is_congr (hlatch.regsKept.get (by decide) (by decide) _), hon]
    · rw [Dev.hbUsed, hlatch.regsKept.get (by decide) (by decide), ← Dev.hbUsed, hused]
  have hsafe := scTurnOff_within (d := s.dev.scLatch s.clk.ns ch (2 * sc2.toNat + ch.val % 2) scTime.toNat) ch
  refine ⟨_, exec_scDetect sc2 scTime hon htest, ?_, ?_, ?_, ?_, raise_raised _ _ _ _ _ (by omega),
    ((hlatch.mono (by decide)).trans (hsafe.mono (by decide))).trans ((raise_within _ _ _ _ _).mono (by decide))⟩
  · rw [Dev.get_raise _ _ _ _ _ _ _ (by decide) (by decide), hoff.on]
  · rw [Dev.get_raise _ _ _ _ _ _ _ (by decide) (by decide), hoff.soft]
  · rw [Dev.get_raise _ _ _ _ _ _ _ (by decide) (by decide), hsafe.regsKept.get (by decide) (by decide), Dev.scLatch,
      Dev.get_put_other _ _ _ _ _ _ (by decide) (by decide) (by decide), latch_latched _ _ (by omega)]
  · rw [Dev.get_raise _ _ _ _ _ _ _ (by decide) (by decide), hsafe.regsKept.get (by decide) (by decide), Dev.scLatch, Dev.get_put_same]
    exact Nat.mod_eq_of_lt scTime.isLt

/-! SOFT_TURNOFF_TIMEOUT, HS_TO and GON_TIMEOUT (R312, R314, R324). -/

theorem exec_softTurnoffTimeout_test {ch : Fin 16} (hsoft : s.dev.is I.LVD.CH_SOFT ch = true) (htest : s.dev.lvtTests ch = true) :
    exec (.softTurnoffTimeout ch) s =
      .next { s with dev := ((s.dev.put I.LVD.CH_SNK 1 ch).put R.LVD.LVT_RESULT 3).settle s.clk.ns } := by
  show execSoftTurnoffTimeout ch s = _
  simp [execSoftTurnoffTimeout, hsoft, htest]

/-- The self-test outlasted shows 3, too slow: the model's choice (log 209). -/
theorem softTurnoffTimeout_test {ch : Fin 16} (hsoft : s.dev.is I.LVD.CH_SOFT ch = true) (htest : s.dev.lvtTests ch = true) :
    Does (.softTurnoffTimeout ch) s fun d =>
      d.get I.LVD.CH_SNK ch = 1 ∧ d.get R.LVD.LVT_RESULT = 3 ∧ Within [R.LVD.LVT_RESULT] s.dev d [(I.LVD.CH_SNK, ch)] := by
  refine ⟨_, exec_softTurnoffTimeout_test hsoft htest, ?_, Dev.get_put_same _ _ 3 _,
    (Within.of_put_at _ _ _ _ (by decide) (by simp [hasEl])).trans (.of_put _ _ _ _ (by decide) (by decide))⟩
  rw [Dev.get_put_other _ _ _ _ _ _ (by decide) (by decide) (by decide), get_put_one _ (by decide)]

theorem exec_softTurnoffTimeout {ch : Fin 16} (hsoft : s.dev.is I.LVD.CH_SOFT ch = true) (htest : s.dev.lvtTests ch = false) :
    exec (.softTurnoffTimeout ch) s =
      .next { s with dev := ((s.dev.put I.LVD.CH_SNK 1 ch).channelFault s.clk.ns ch 4 2).settle s.clk.ns } := by
  show execSoftTurnoffTimeout ch s = _
  simp [execSoftTurnoffTimeout, hsoft, htest, Dev.channelFault]

theorem softTurnoffTimeout_does {ch : Fin 16} (hsoft : s.dev.is I.LVD.CH_SOFT ch = true) (htest : s.dev.lvtTests ch = false) :
    Does (.softTurnoffTimeout ch) s fun d => d.get I.LVD.CH_SNK ch = 1 ∧ bitOf (d.get R.LVD.HB_LATCH (ch.val / 2)) 4 = 1 ∧
      Raised d 8 (16 * (ch.val / 2) + 2) ∧ Within Claim.lvFlds s.dev d := by
  refine ⟨_, exec_softTurnoffTimeout hsoft htest, ?_,
    channelFault_faults _ ch.isLt (by decide) (by decide) (.of_put _ _ _ _ (by decide) (by decide))⟩
  rw [(channelFault_within _ _ _ _).regsKept.get (by decide) (by decide), get_put_one _ (by decide)]

theorem exec_hsTo {ch : Fin 16} (hreq : s.dev.is I.LVD.CH_REQ ch = true) : exec (.hsTo ch) s =
    .next { s with dev := ((s.dev.put I.LVD.CH_REQ 0 ch).channelFault s.clk.ns ch 4 2).settle s.clk.ns } := by
  show execHsTo ch s = _
  simp [execHsTo, hreq, Dev.channelFault]

theorem hsTo_does {ch : Fin 16} (hreq : s.dev.is I.LVD.CH_REQ ch = true) : Does (.hsTo ch) s fun d =>
    d.get I.LVD.CH_REQ ch = 0 ∧ bitOf (d.get R.LVD.HB_LATCH (ch.val / 2)) 4 = 1 ∧ Raised d 8 (16 * (ch.val / 2) + 2) ∧
    Within Claim.lvFlds s.dev d := by
  refine ⟨_, exec_hsTo hreq, ?_, channelFault_faults _ ch.isLt (by decide) (by decide) (.of_put _ _ _ _ (by decide) (by decide))⟩
  rw [(channelFault_within _ _ _ _).regsKept.get (by decide) (by decide), Dev.get_put_same, Nat.zero_mod]

theorem exec_gonTimeout {ch : Fin 16} (hon : s.dev.is I.LVD.CH_ON ch = true) : exec (.gonTimeout ch) s =
    .next { s with dev := ((s.dev.turnOff ch false).channelFault s.clk.ns ch (5 + ch.val % 2) 3).settle s.clk.ns } := by
  show execGonTimeout ch s = _
  simp [execGonTimeout, hon, Dev.channelFault]

theorem gonTimeout_does {ch : Fin 16} (hon : s.dev.is I.LVD.CH_ON ch = true) : Does (.gonTimeout ch) s fun d =>
    d.get I.LVD.CH_ON ch = 0 ∧ bitOf (d.get R.LVD.HB_LATCH (ch.val / 2)) (5 + ch.val % 2) = 1 ∧ Raised d 8 (16 * (ch.val / 2) + 3) ∧
    Within Claim.lvFlds s.dev d := by
  refine ⟨_, exec_gonTimeout hon, ?_, channelFault_faults _ ch.isLt (by omega) (by decide) ((turnOff_flds _ _).mono (by decide))⟩
  rw [(channelFault_within _ _ _ _).regsKept.get (by decide) (by decide), (turnOff_off _ _).on]

/-! ST_CONFLICT (R312). -/

/-- Both channels of a half-bridge refused, marked and counted. -/
def Dev.conflict (d : Dev) (k : Nat) : Dev := ((d.bothOff k).put I.LVD.CONFL 1 k).bump R.LVD.HB_CONFLICT_CNT k

theorem bothOff_flds (k : Nat) : Within channelsFlds d (d.bothOff k) := (turnOff_flds _ _).trans (turnOff_flds _ _)

theorem conflict_afterOff (k : Nat) : Within [I.LVD.CONFL, R.LVD.HB_CONFLICT_CNT] (d.bothOff k) (d.conflict k) :=
  (Within.of_put _ _ _ _ (by decide) (by decide)).trans (.of_put _ _ _ _ (by decide) (by decide))

theorem conflict_counted (k : Nat) : (d.conflict k).get R.LVD.HB_CONFLICT_CNT k = satAdd 16 (d.get R.LVD.HB_CONFLICT_CNT k) 1 % 65536 := by
  have hcnt : ((d.bothOff k).put I.LVD.CONFL 1 k).get R.LVD.HB_CONFLICT_CNT k = d.get R.LVD.HB_CONFLICT_CNT k := by
    rw [Dev.get_put_other _ _ _ _ _ _ (by decide) (by decide) (by decide), (bothOff_flds k).regsKept.get (by decide) (by decide)]
  rw [Dev.conflict, Dev.bump, Dev.get_put_same, hcnt]
  rfl

theorem exec_stConflict {hb : Fin 8} (hlow : s.dev.is I.LVD.CH_REQ (2 * hb) = true) (hhigh : s.dev.is I.LVD.CH_REQ (2 * hb + 1) = true) :
    exec (.stConflict hb) s = .next { s with dev := ((s.dev.conflict hb).raise s.clk.ns 8 (16 * hb + 4) 0).settle s.clk.ns } := by
  show execStConflict hb s = _
  simp [execStConflict, hlow, hhigh, Dev.conflict]

theorem stConflict_does {hb : Fin 8} (hlow : s.dev.is I.LVD.CH_REQ (2 * hb) = true) (hhigh : s.dev.is I.LVD.CH_REQ (2 * hb + 1) = true) :
    Does (.stConflict hb) s fun d =>
      d.get I.LVD.CH_REQ (2 * hb) = 0 ∧ d.get I.LVD.CH_REQ (2 * hb + 1) = 0 ∧ d.get I.LVD.CH_ON (2 * hb) = 0 ∧ d.get I.LVD.CH_ON (2 * hb + 1) = 0 ∧
      d.get R.LVD.HB_CONFLICT_CNT hb = satAdd 16 (s.dev.get R.LVD.HB_CONFLICT_CNT hb) 1 % 65536 ∧ Raised d 8 (16 * hb + 4) ∧
      Within Claim.lvFlds s.dev d := by
  have hoff := bothOff_off (d := s.dev) hb.isLt
  have hkept : ∀ {c}, ChannelOff (s.dev.bothOff hb) c → ChannelOff ((s.dev.conflict hb).raise s.clk.ns 8 (16 * hb + 4) 0) c := fun h =>
    (h.kept (conflict_afterOff _).regsKept (by decide) (by decide)).kept (raise_within _ _ _ _ _).regsKept (by decide) (by decide)
  have hl := hkept hoff.1
  have hh := hkept hoff.2
  refine ⟨_, exec_stConflict hlow hhigh, hl.req, hh.req, hl.on, hh.on, ?_, raise_raised _ _ _ _ _ (by omega), ?_⟩
  · rw [Dev.get_raise _ _ _ _ _ _ _ (by decide) (by decide), conflict_counted]
  · exact (((bothOff_flds _).mono (by decide)).trans ((conflict_afterOff _).mono (by decide))).trans ((raise_within _ _ _ _ _).mono (by decide))

/-! SOFT_TURNOFF_END (R314, R316). -/

/-- What the gate monitors show. -/
def monitorFlds : List Fld := [R.LVD.HB_GM_L, R.LVD.HB_GM_H, I.LVD.GM_SEEN]

/-- The two gate monitors of half-bridge k as the pads show them. -/
def Dev.monitor (gm : Nat) (d : Dev) (k : Nat) : Dev := (d.put R.LVD.HB_GM_L (bitOf gm (2 * k)) k).put R.LVD.HB_GM_H (bitOf gm (2 * k + 1)) k

theorem setMonitors_eq (gm : Nat) : d.setMonitors gm =
    ((List.range 8).foldl (Dev.monitor gm) d).onlyIf (gm != 0) (fun d => d.put I.LVD.GM_SEEN 1) := rfl

theorem monitor_els (gm k : Nat) : Within L d (d.monitor gm k) [(R.LVD.HB_GM_L, k), (R.LVD.HB_GM_H, k)] :=
  (Within.of_put_at _ _ _ _ (by decide) (by simp [hasEl])).trans (.of_put_at _ _ _ _ (by decide) (by simp [hasEl]))

theorem monitor_flds (gm k : Nat) : Within monitorFlds d (d.monitor gm k) :=
  (Within.of_put _ _ _ _ (by decide) (by decide)).trans (.of_put _ _ _ _ (by decide) (by decide))

theorem setMonitors_within (gm : Nat) : Within monitorFlds d (d.setMonitors gm) := by
  rw [setMonitors_eq, within_onlyIf _ _ (fun _ => .of_put _ _ _ _ (by decide) (by decide))]
  exact Within.of_foldl _ (fun _ k => monitor_flds gm k) _ d

/-- The two gate monitors of half-bridge j show what `gm` says. -/
def Shows (gm j : Nat) (d : Dev) : Prop := d.get R.LVD.HB_GM_L j = bitOf gm (2 * j) ∧ d.get R.LVD.HB_GM_H j = bitOf gm (2 * j + 1)

theorem bitOf_mod_two (v i : Nat) : bitOf v i % 2 ^ 1 = bitOf v i := Nat.mod_mod _ _

theorem monitor_shows (gm j : Nat) : Shows gm j (d.monitor gm j) := by
  constructor
  · rw [Dev.monitor, Dev.get_put_other _ _ _ _ _ _ (by decide) (by decide) (by decide), Dev.get_put_same]
    exact bitOf_mod_two _ _
  · rw [Dev.monitor, Dev.get_put_same]
    exact bitOf_mod_two _ _

theorem setMonitors_shows (gm : Nat) {j : Nat} (hj : j < 8) : Shows gm j (d.setMonitors gm) := by
  have hall : Shows gm j ((List.range 8).foldl (Dev.monitor gm) d) := by
    refine foldl_establishes (I := fun _ => True) _ (List.mem_range.2 hj) (fun _ _ _ _ => trivial) (fun _ _ => monitor_shows gm j) ?_ trivial
    intro e y hy hyj _ hQ
    have hy8 := List.mem_range.1 hy
    have hne := hasEl_map_other [R.LVD.HB_GM_L, R.LVD.HB_GM_H] (c := y) (by omega) (by omega) (Ne.symm hyj)
    have hkept := monitor_els (d := e) (L := []) gm y
    exact ⟨(hkept.regs _ (by decide) rfl j (hne _)).trans hQ.1, (hkept.regs _ (by decide) rfl j (hne _)).trans hQ.2⟩
  rw [setMonitors_eq, Dev.onlyIf]
  split
  · exact ⟨(Dev.get_put_other _ _ _ _ _ _ (by decide) (by decide) (by decide)).trans hall.1,
      (Dev.get_put_other _ _ _ _ _ _ (by decide) (by decide) (by decide)).trans hall.2⟩
  · exact hall

theorem softEnd_els (c : Nat) : Within [R.LVD.LVT_RESULT] d (d.softEnd c) [(I.LVD.CH_SOFT, c)] := by
  unfold Dev.softEnd
  simp (disch := first | decide | simp [hasEl] | exact fun _ => .of_put _ _ _ _ (by decide) (by decide)) only
    [within_ite, within_onlyIf, within_put_at, within_self, ite_self]

theorem softEnd_ended (c : Nat) : (d.softEnd c).get I.LVD.CH_SOFT c = 0 := by
  unfold Dev.softEnd
  split
  · next h => exact Dev.get_zero_of_not_is (by simpa using h)
  · unfold Dev.onlyIf
    split <;> simp (disch := decide)

/-- A soft turn-off of channel c ends where its gate monitor reports off. -/
def Dev.softEndStep (gm : Nat) (d : Dev) (c : Nat) : Dev := if bitOf gm c = 0 then d.softEnd c else d

/-- Every soft turn-off whose gate monitor reports off ends. -/
def Dev.softEnds (d : Dev) (gm : Nat) : Dev := (List.range 16).foldl (Dev.softEndStep gm) d

theorem softEndStep_els (gm c : Nat) : Within [R.LVD.LVT_RESULT] d (d.softEndStep gm c) [(I.LVD.CH_SOFT, c)] := by
  unfold Dev.softEndStep
  split
  · exact softEnd_els c
  · exact .refl d

theorem softEnds_within (gm : Nat) : Within [I.LVD.CH_SOFT, R.LVD.LVT_RESULT] d (d.softEnds gm) :=
  Within.of_foldl _ (fun _ c => (softEndStep_els gm c).wholeFlds (fs := [I.LVD.CH_SOFT]) (by decide) (by decide)) _ d

theorem softEndStep_other (gm : Nat) {c i : Nat} (hc : c < 16) (hi : i < 16) (h : c ≠ i) :
    (d.softEndStep gm c).get I.LVD.CH_SOFT i = d.get I.LVD.CH_SOFT i :=
  (softEndStep_els gm c).regs _ (by decide) (by decide) i (hasEl_map_other [I.LVD.CH_SOFT] hc hi h.symm _)

theorem softEnds_soft (gm : Nat) {i : Nat} (hi : i < 16) :
    (d.softEnds gm).get I.LVD.CH_SOFT i = if bitOf gm i = 0 then 0 else d.get I.LVD.CH_SOFT i := by
  split
  · next h =>
    have hhere : ∀ e : Dev, (e.softEndStep gm i).get I.LVD.CH_SOFT i = 0 := by
      intro e
      rw [Dev.softEndStep, if_pos h, softEnd_ended]
    exact foldl_establishes (I := fun _ => True) (Q := fun e => e.get I.LVD.CH_SOFT i = 0) _ (List.mem_range.2 hi) (fun _ _ _ _ => trivial)
      (fun e _ => hhere e) (fun _ _ hy hyi _ hQ => (softEndStep_other gm (List.mem_range.1 hy) hi hyi).trans hQ) trivial
  · next h =>
    refine List.foldlRecOn (motive := fun e => e.get I.LVD.CH_SOFT i = d.get I.LVD.CH_SOFT i) (List.range 16) (Dev.softEndStep gm) rfl ?_
    intro e he c hc
    by_cases hci : c = i
    · rw [hci, Dev.softEndStep, if_neg h, he]
    · rw [softEndStep_other gm (List.mem_range.1 hc) hi hci, he]

theorem softTurnoffEnd_does (gm : BitVec 16) : Does (.softTurnoffEnd gm) s fun d =>
    (∀ j < 8, d.get R.LVD.HB_GM_L j = bitOf gm.toNat (2 * j) ∧ d.get R.LVD.HB_GM_H j = bitOf gm.toNat (2 * j + 1)) ∧
    (∀ i < 16, d.get I.LVD.CH_SOFT i = if bitOf gm.toNat i = 0 then 0 else s.dev.get I.LVD.CH_SOFT i) ∧
    Within [R.LVD.HB_GM_L, R.LVD.HB_GM_H, I.LVD.GM_SEEN, I.LVD.CH_SOFT, R.LVD.LVT_RESULT] s.dev d := by
  have hmon := setMonitors_within (d := s.dev) gm.toNat
  have hends := softEnds_within (d := s.dev.setMonitors gm.toNat) gm.toNat
  refine ⟨(s.dev.setMonitors gm.toNat).softEnds gm.toNat, rfl, fun j hj => ?_, fun i hi => ?_,
    (hmon.mono (by decide)).trans (hends.mono (by decide))⟩
  · obtain ⟨hlow, hhigh⟩ := setMonitors_shows (d := s.dev) gm.toNat hj
    exact ⟨(hends.regsKept.get (by decide) (by decide) _).trans hlow, (hends.regsKept.get (by decide) (by decide) _).trans hhigh⟩
  · rw [softEnds_soft _ hi, hmon.regsKept.get (by decide) (by decide)]

end Sys2Proof.Machine
end

section
/-! PROOFS. The supplies of the LV drive, its retry and its enable input (R303, R305, R321, R323). -/
namespace Sys2Proof.Machine
variable {L : List Fld} {d e : Dev} {s : State}

/-! The supplies (R303, R305). -/

theorem railFld_lt (rail : Rail) : (railFld rail).id < 2048 := by cases rail <;> decide

theorem hasFld_lvFlds_rail (rail : Rail) : hasFld Claim.lvFlds (railFld rail) = true := by cases rail <;> decide

theorem railInst_lt (rail : Rail) : railInst rail < 16 := by cases rail <;> decide

/-- The supply shown good or bad, and with it the status of its half-bridge. -/
def Dev.railShown (d : Dev) (rail : Rail) (v k : Nat) : Dev := (d.put (railFld rail) v k).hbStatus k

theorem railShown_within (rail : Rail) (v k : Nat) : Within Claim.lvFlds d (d.railShown rail v k) :=
  (Within.of_put d _ v k (railFld_lt rail) (hasFld_lvFlds_rail rail)).trans ((hbStatus_port k).mono (by decide))

theorem railShown_get (rail : Rail) (v k : Nat) : (d.railShown rail v k).get (railFld rail) k = v % 2 ^ (railFld rail).width := by
  rw [Dev.railShown, hbStatus_get _ (railFld_lt rail) (by cases rail <;> decide), Dev.get_put_same]

/-- What a supply's fault does to what it feeds: the high side off, or the bootstrap's start awaited again. -/
def Dev.railLost (d : Dev) (rail : Rail) (k : Nat) : Dev :=
  match rail with
  | .bst => d.turnOff (2 * k + 1) false
  | .vlp => d.put I.LVD.BST_SEEN 0 k
  | .vln => d

/-- What that writes. -/
def railLostFlds : List Fld := I.LVD.BST_SEEN :: channelsFlds

theorem railLost_within (rail : Rail) (k : Nat) : Within railLostFlds d (d.railLost rail k) := by
  cases rail with
  | bst => exact (turnOff_flds _ _).mono (by decide)
  | vlp => exact .of_put _ _ _ _ (by decide) (by decide)
  | vln => exact .refl d

theorem exec_supplyFault {hb : Fin 8} (rail : Rail) (hused : s.dev.hbUsed hb = true) : exec (.supplyFault hb rail) s =
    .next { s with dev := (((s.dev.railShown rail 0 hb).railLost rail hb).raise s.clk.ns 8 (16 * hb + railInst rail) 0 true).settle s.clk.ns } := by
  show execSupplyFault hb rail s = _
  cases rail <;> simp [execSupplyFault, hused, Dev.onlyIf, Dev.railShown, Dev.railLost]

theorem supplyFault_does {hb : Fin 8} (rail : Rail) (hused : s.dev.hbUsed hb = true) : Does (.supplyFault hb rail) s fun d =>
    d.get (railFld rail) hb = 0 ∧ Raised d 8 (16 * hb + railInst rail) ∧
    (rail = .bst → d.get I.LVD.CH_ON (2 * hb + 1) = 0 ∧ d.get I.LVD.CH_REQ (2 * hb + 1) = 0) ∧ Within Claim.lvFlds s.dev d := by
  have hinst := railInst_lt rail
  have hlost := railLost_within (d := s.dev.railShown rail 0 hb) rail hb
  refine ⟨_, exec_supplyFault rail hused, ?_, raise_raised _ _ _ _ _ (by omega), ?_,
    ((railShown_within rail 0 _).trans (hlost.mono (by decide))).trans ((raise_within _ _ _ _ _).mono (by decide))⟩
  · rw [Dev.get_raise _ _ _ _ _ _ _ (railFld_lt rail) (by cases rail <;> decide),
      hlost.regsKept.get (railFld_lt rail) (by cases rail <;> decide), railShown_get, Nat.zero_mod]
  · rintro rfl
    have hoff := (turnOff_off (d := s.dev.railShown .bst 0 hb) (2 * hb + 1) false).kept
      (raise_within s.clk.ns 8 (16 * hb + railInst .bst) 0 true).regsKept (by decide) (by decide)
    exact ⟨hoff.on, hoff.req⟩

/-- What a good supply writes beside what it shows. -/
def Dev.railRestored (d : Dev) (rail : Rail) (k : Nat) : Dev := d.onlyIf (rail = .bst) (fun d => d.put I.LVD.BST_SEEN 1 k)

theorem railRestored_within (rail : Rail) (k : Nat) : Within [I.LVD.BST_SEEN] d (d.railRestored rail k) := by
  rw [Dev.railRestored, within_onlyIf _ _ (fun _ => .of_put _ _ _ _ (by decide) (by decide))]
  exact .refl d

/-- An instance that is lowered is held by nothing. -/
theorem lower_released {cls inst : Nat} {a : Active} (ha : a ∈ (d.lower cls inst).active) (hcls : a.cls = cls) (hinst : a.inst = inst) :
    a.held = false := by
  obtain ⟨b, -, rfl⟩ := List.mem_map.1 ha
  split
  · rfl
  · next h =>
    rw [if_neg h] at hcls hinst
    exact absurd ⟨hcls, hinst⟩ h

theorem supplyGood_does (hb : Fin 8) (rail : Rail) : Does (.supplyGood hb rail) s fun d =>
    d.get (railFld rail) hb = 1 ∧ (∀ a ∈ d.active, a.cls = 8 → a.inst = 16 * hb + railInst rail → a.held = false) ∧ Within Claim.lvFlds s.dev d := by
  have hrest := railRestored_within (d := s.dev.railShown rail 1 hb) rail hb
  refine ⟨((s.dev.railShown rail 1 hb).railRestored rail hb).lower 8 (16 * hb + railInst rail), rfl, ?_, fun _ => lower_released, ?_⟩
  · rw [get_lower, hrest.regsKept.get (railFld_lt rail) (by cases rail <;> decide), railShown_get]
    cases rail <;> rfl
  · rw [within_lower]
    exact (railShown_within rail 1 _).trans (hrest.mono (by decide))

theorem exec_bstStartTimeout {hb : Fin 8} (hused : s.dev.hbUsed hb = true) (hvlp : s.dev.is R.LVD.HB_VLP_OK hb = true)
    (hseen : s.dev.is I.LVD.BST_SEEN hb = false) : exec (.bstStartTimeout hb) s =
      .next { s with dev := (s.dev.raise s.clk.ns 8 (16 * hb + 7) 1 true).settle s.clk.ns } := by
  show execBstStartTimeout hb s = _
  simp [execBstStartTimeout, hused, hvlp, hseen]

theorem bstStartTimeout_does {hb : Fin 8} (hused : s.dev.hbUsed hb = true) (hvlp : s.dev.is R.LVD.HB_VLP_OK hb = true)
    (hseen : s.dev.is I.LVD.BST_SEEN hb = false) :
    Does (.bstStartTimeout hb) s fun d => Raised d 8 (16 * hb + 7) ∧ Within raiseFlds s.dev d :=
  ⟨_, exec_bstStartTimeout hused hvlp hseen, raise_raised _ _ _ _ _ (by omega), raise_within _ _ _ _ _⟩

/-! RETRY_WAIT_EXPIRY (R321). -/

theorem exec_retryWaitExpiry {hb : Fin 8} (hpend : s.dev.is I.LVD.RETRY_PEND hb = true) :
    exec (.retryWaitExpiry hb) s = .next { s with dev := s.dev.put I.LVD.RETRY_DUE 1 hb } := by
  show execRetryWaitExpiry hb s = _
  simp [execRetryWaitExpiry, hpend]

theorem retryWaitExpiry_gives {hb : Fin 8} (hpend : s.dev.is I.LVD.RETRY_PEND hb = true) : Gives (.retryWaitExpiry hb) s fun t =>
    t.dev.get I.LVD.RETRY_DUE hb = 1 ∧ Frame [] s t [(I.LVD.RETRY_DUE, hb)] :=
  ⟨_, exec_retryWaitExpiry hpend, get_put_one _ (by decide) _, .of_put_at _ _ _ _ (by decide) (by simp [hasEl]), rfl, rfl, rfl⟩

/-! DRV_EN (R323). -/

theorem drvEnFall_does : Does .drvEnFall s fun d => d.get R.LVD.DRV_EN_PIN = 0 ∧ d.get R.LVD.DRV_EN_LOW = 1 ∧ Raised d 8 132 ∧
    Within (raiseFlds ++ [R.LVD.DRV_EN_PIN, R.LVD.DRV_EN_LOW]) s.dev d := by
  refine ⟨((s.dev.put R.LVD.DRV_EN_PIN 0).put R.LVD.DRV_EN_LOW 1).raise s.clk.ns 8 132 0, rfl, ?_, ?_, raise_raised _ _ _ _ _ (by decide),
    ((Within.of_put _ _ _ _ (by decide) (by decide)).trans (.of_put _ _ _ _ (by decide) (by decide))).trans
      ((raise_within _ _ _ _ _).mono (by decide))⟩
  · rw [Dev.get_raise _ _ _ _ _ _ _ (by decide) (by decide), Dev.get_put_other _ _ _ _ _ _ (by decide) (by decide) (by decide),
      Dev.get_put_same, Nat.zero_mod]
  · rw [Dev.get_raise _ _ _ _ _ _ _ (by decide) (by decide), get_put_one _ (by decide)]

/-- What clearing the latches of a half-bridge writes of it. -/
def clearFldsOf : List Fld := [R.LVD.HB_LATCH, I.LVD.RETRY_PEND, I.LVD.RETRY_DUE, R.LVD.HB_RETRY_EXH]

/-- Those fields of half-bridge k. -/
def clearEls (k : Nat) : List (Fld × Nat) := clearFldsOf.map (fun f => (f, k))

/-- The clear of R323 at half-bridge k. -/
def Dev.legacyStep (d : Dev) (k : Nat) : Dev := (d.clearLatches k).put R.LVD.HB_RETRY_EXH 0 k

theorem clearLatches_els (k : Nat) : Within portFlds d (d.clearLatches k) (clearEls k) := by
  unfold Dev.clearLatches clearEls
  simp (disch := decide) only [within_ite, (hbStatus_port _).addEls.iff, within_put_map, within_self, ite_self]

theorem legacyStep_els (k : Nat) : Within portFlds d (d.legacyStep k) (clearEls k) := by
  unfold Dev.legacyStep clearEls
  rw [within_put_map (by decide) (by decide)]
  exact clearLatches_els k

theorem legacyStep_flds (k : Nat) : Within (clearFldsOf ++ portFlds) d (d.legacyStep k) :=
  (legacyStep_els k).wholeFlds (by decide) (by decide)

theorem softIn_kept (h : RegsKept L d e) (hL : hasFld L I.LVD.CH_SOFT = false) (j : Nat) : e.softIn j = d.softIn j := by
  simp only [Dev.softIn, Dev.is, h.get (f := I.LVD.CH_SOFT) (by decide) hL]

theorem legacyStep_softIn (k j : Nat) : (d.legacyStep k).softIn j = d.softIn j :=
  softIn_kept (legacyStep_flds k).regsKept (by decide) j

theorem legacyStep_clears {k : Nat} (h : d.softIn k = false) : (d.legacyStep k).get R.LVD.HB_LATCH k = 0 := by
  unfold Dev.legacyStep Dev.clearLatches
  simp (disch := decide) [h, hbStatus_get]

theorem legacyStep_keeps {k : Nat} (h : d.softIn k = true) (j : Nat) : (d.legacyStep k).get R.LVD.HB_LATCH j = d.get R.LVD.HB_LATCH j := by
  unfold Dev.legacyStep Dev.clearLatches
  simp (disch := decide) [h]

theorem legacyStep_other {k j : Nat} (hk : k < 8) (hj : j < 8) (h : k ≠ j) :
    (d.legacyStep k).get R.LVD.HB_LATCH j = d.get R.LVD.HB_LATCH j :=
  (legacyStep_els k).regs _ (by decide) (by decide) j (hasEl_map_other clearFldsOf (by omega) (by omega) h.symm _)

/-- The clear of R323 at every half-bridge. -/
def Dev.legacyClear (d : Dev) : Dev := (List.range 8).foldl Dev.legacyStep d

theorem legacyClear_within : Within (clearFldsOf ++ portFlds) d d.legacyClear := Within.of_foldl _ (fun _ k => legacyStep_flds k) _ d

theorem legacyClear_clears {j : Nat} (hj : j < 8) (h : d.softIn j = false) : d.legacyClear.get R.LVD.HB_LATCH j = 0 :=
  foldl_establishes (I := fun e => e.softIn j = false) (Q := fun e => e.get R.LVD.HB_LATCH j = 0) _ (List.mem_range.2 hj)
    (fun _ k _ he => (legacyStep_softIn k j).trans he) (fun _ he => legacyStep_clears he)
    (fun _ _ hk hkj _ hQ => (legacyStep_other (List.mem_range.1 hk) hj hkj).trans hQ) h

theorem legacyClear_keeps {j : Nat} (hj : j < 8) (h : d.softIn j = true) : d.legacyClear.get R.LVD.HB_LATCH j = d.get R.LVD.HB_LATCH j := by
  refine (List.foldlRecOn (motive := fun e => e.softIn j = true ∧ e.get R.LVD.HB_LATCH j = d.get R.LVD.HB_LATCH j) (List.range 8)
    Dev.legacyStep ⟨h, rfl⟩ ?_).2
  intro e he k hk
  refine ⟨(legacyStep_softIn k j).trans he.1, ?_⟩
  by_cases hkj : k = j
  · subst hkj
    rw [legacyStep_keeps he.1, he.2]
  · rw [legacyStep_other (List.mem_range.1 hk) hj hkj, he.2]

/-- DRV_EN high again, and the clear of R323 done. -/
def Dev.legacyCleared (d : Dev) : Dev := (d.put R.LVD.DRV_EN_PIN 1).legacyClear.put R.LVD.LEGACY_DONE 1

theorem exec_drvEnRise_clears (hleg : s.dev.is R.LVD.LEGACY_CLR = true) : ∃ x, exec (.drvEnRise true) s =
    .next { s with dev := (s.dev.legacyCleared.raise s.clk.ns 8 133 x).settle s.clk.ns } := by
  show ∃ x, execDrvEnRise true s = _
  simp only [execDrvEnRise, State.onDev_next, hleg, Bool.and_self, if_true]
  exact ⟨_, rfl⟩

theorem drvEnRise_clears (hleg : s.dev.is R.LVD.LEGACY_CLR = true) : Does (.drvEnRise true) s fun d =>
    d.get R.LVD.DRV_EN_PIN = 1 ∧ d.get R.LVD.LEGACY_DONE = 1 ∧ (∀ j < 8, s.dev.softIn j = false → d.get R.LVD.HB_LATCH j = 0) ∧
    (∀ j < 8, s.dev.softIn j = true → d.get R.LVD.HB_LATCH j = s.dev.get R.LVD.HB_LATCH j) ∧
    Raised d 8 133 ∧ Within (Claim.lvFlds ++ [R.LVD.DRV_EN_PIN, R.LVD.LEGACY_DONE]) s.dev d := by
  obtain ⟨x, hx⟩ := exec_drvEnRise_clears hleg
  have hpin : Within [R.LVD.DRV_EN_PIN] s.dev (s.dev.put R.LVD.DRV_EN_PIN 1) := .of_put _ _ _ _ (by decide) (by decide)
  have hclear := legacyClear_within (d := s.dev.put R.LVD.DRV_EN_PIN 1)
  have hdone : Within (R.LVD.LEGACY_DONE :: raiseFlds) (s.dev.put R.LVD.DRV_EN_PIN 1).legacyClear (s.dev.legacyCleared.raise s.clk.ns 8 133 x) :=
    (Within.of_put _ _ _ _ (by decide) (by decide)).trans ((raise_within _ _ _ _ _).mono (by decide))
  have hsoft : ∀ j, (s.dev.put R.LVD.DRV_EN_PIN 1).softIn j = s.dev.softIn j := softIn_kept hpin.regsKept (by decide)
  refine ⟨_, hx, ?_, ?_, fun j hj h => ?_, fun j hj h => ?_, raise_raised _ _ _ _ _ (by decide),
    ((hpin.mono (by decide)).trans (hclear.mono (by decide))).trans (hdone.mono (by decide))⟩
  · rw [hdone.regsKept.get (by decide) (by decide), hclear.regsKept.get (by decide) (by decide), get_put_one _ (by decide)]
  · rw [Dev.get_raise _ _ _ _ _ _ _ (by decide) (by decide), Dev.legacyCleared, get_put_one _ (by decide)]
  · rw [hdone.regsKept.get (by decide) (by decide), legacyClear_clears hj ((hsoft j).trans h)]
  · rw [hdone.regsKept.get (by decide) (by decide), legacyClear_keeps hj ((hsoft j).trans h), hpin.regsKept.get (by decide) (by decide)]

theorem drvEnRise_noClear {lowTenUs : Bool} (h : s.dev.is R.LVD.LEGACY_CLR = false ∨ lowTenUs = false) :
    exec (.drvEnRise lowTenUs) s = .next { s with dev := (s.dev.put R.LVD.DRV_EN_PIN 1).settle s.clk.ns } := by
  have hcond : (s.dev.is R.LVD.LEGACY_CLR && lowTenUs) = false := by rcases h with h | h <;> simp [h]
  show execDrvEnRise lowTenUs s = _
  simp only [execDrvEnRise, State.onDev_next, hcond, Bool.false_eq_true, if_false]

/-- Settles O41: each channel fault by what it does to the channel and then the latch and the raising that they share, each supply by the
field that shows it, and DRV_EN_RISE by the clear of each half-bridge, which none of the others takes back. -/
theorem driveFaults : Obligations.DriveFaults :=
  ⟨fun _ _ sc2 scTime gm _ => ⟨scDetect_does sc2 scTime, softTurnoffTimeout_test, softTurnoffTimeout_does, hsTo_does, gonTimeout_does,
      stConflict_does, softTurnoffEnd_does gm⟩,
    fun _ hb rail _ => ⟨supplyFault_does rail, supplyGood_does hb rail, bstStartTimeout_does, retryWaitExpiry_gives, drvEnFall_does,
      drvEnRise_clears, fun h => ⟨_, drvEnRise_noClear h, get_put_one _ (by decide) _, .of_put _ _ _ _ (by decide) (by decide)⟩⟩⟩

end Sys2Proof.Machine
end

section
/-! PROOFS. The switching of the LV drive (R309 to R311, R334): the scheduled edge, the held turn-on, and the sequences that the carrier
triggers. -/
namespace Sys2Proof.Machine
variable {L : List Fld} {d e : Dev} {s : State}

/-! LV_EDGE (R309, R310). -/

/-- What a leg state writes of the two channels and beside them. -/
def legFlds : List Fld := requestFlds ++ channelsFlds

theorem request_flds (c : Nat) : Within legFlds d (d.request c) :=
  (request_channel c).wholeFlds (fs := [I.LVD.CH_REQ]) (by decide) (by decide)

theorem applyLeg_flds (k st : Nat) : Within legFlds d (d.applyLeg k st) := by
  have hoff : ∀ (e : Dev) (c : Nat), Within legFlds e (e.turnOff c false) := fun e c => (turnOff_flds c false).mono (by decide)
  unfold Dev.applyLeg
  split
  · exact (hoff _ _).trans (request_flds _)
  · exact (hoff _ _).trans (request_flds _)
  · exact (hoff _ _).trans (hoff _ _)

/-- A leg state leaves the other half-bridges' channels on or off as they were. -/
theorem applyLeg_other {k st i : Nat} (hk : k < 8) (hi : i < 16) (hlow : i ≠ 2 * k) (hhigh : i ≠ 2 * k + 1) :
    (d.applyLeg k st).get I.LVD.CH_ON i = d.get I.LVD.CH_ON i := by
  have hoffLow : ∀ e : Dev, (e.turnOff (2 * k) false).get I.LVD.CH_ON i = e.get I.LVD.CH_ON i := fun e =>
    get_turnOff_other (by omega) hi hlow false (by decide) (by decide)
  have hoffHigh : ∀ e : Dev, (e.turnOff (2 * k + 1) false).get I.LVD.CH_ON i = e.get I.LVD.CH_ON i := fun e =>
    get_turnOff_other (by omega) hi hhigh false (by decide) (by decide)
  unfold Dev.applyLeg
  split
  · rw [get_request (by decide) (by decide), hoffLow]
  · rw [get_request (by decide) (by decide), hoffHigh]
  · rw [hoffHigh, hoffLow]

/-- The low side is off but in state N, the high side but in state P. -/
theorem applyLeg_off {k : Nat} (hk : k < 8) (st : Nat) :
    (st ≠ 2 → (d.applyLeg k st).get I.LVD.CH_ON (2 * k) = 0) ∧ (st ≠ 1 → (d.applyLeg k st).get I.LVD.CH_ON (2 * k + 1) = 0) := by
  unfold Dev.applyLeg
  split
  · exact ⟨fun _ => by rw [get_request (by decide) (by decide), (turnOff_off _ _).on], fun h => absurd rfl h⟩
  · exact ⟨fun h => absurd rfl h, fun _ => by rw [get_request (by decide) (by decide), (turnOff_off _ _).on]⟩
  · obtain ⟨hlow, hhigh⟩ := bothOff_off (d := d) hk
    exact ⟨fun _ => hlow.on, fun _ => hhigh.on⟩

/-- The edge at one half-bridge of the group. -/
def Dev.edgeStep (st : Nat) (d : Dev) (k : Nat) : Dev :=
  (d.put I.LVD.SEQ_ST st k).onlyIf (d.get I.LVD.HOLD k = 0 && d.seqDrives) (fun d => d.applyLeg k st)

theorem lvEdge_eq (x : LvEdge) : d.lvEdge x = (d.legMembers x.grp).foldl (Dev.edgeStep x.st) { d with lvEdges := d.lvEdges.erase x } := rfl

theorem edgeStep_held {st k : Nat} (h : (decide (d.get I.LVD.HOLD k = 0) && d.seqDrives) = false) :
    d.edgeStep st k = d.put I.LVD.SEQ_ST st k := by
  rw [Dev.edgeStep, Dev.onlyIf, h]
  rfl

theorem edgeStep_driven {st k : Nat} (h : (decide (d.get I.LVD.HOLD k = 0) && d.seqDrives) = true) :
    d.edgeStep st k = (d.put I.LVD.SEQ_ST st k).applyLeg k st := by
  rw [Dev.edgeStep, Dev.onlyIf, h]
  rfl

theorem edgeStep_flds (st k : Nat) : Within (I.LVD.SEQ_ST :: legFlds) d (d.edgeStep st k) := by
  unfold Dev.edgeStep
  rw [within_onlyIf (L := I.LVD.SEQ_ST :: legFlds) _ _ (fun _ => (applyLeg_flds k st).mono (by decide))]
  exact .of_put _ _ _ _ (by decide) (by decide)

theorem seqDrives_kept (h : RegsKept L d e) (hrun : hasFld L I.LVD.LVT_RUN = false) (hact : hasFld L I.LVD.LVT_ACT = false) :
    e.seqDrives = d.seqDrives := by
  rw [Dev.seqDrives, Dev.is, h.get (by decide) hrun, h.get (by decide) hact, ← Dev.is, ← Dev.seqDrives]

/-- The sequence of half-bridge k has gone to state st, and where `free` holds the channel that st does not turn on is off. -/
structure EdgePlaced (free : Prop) (st k : Nat) (d : Dev) : Prop where
  seq : d.get I.LVD.SEQ_ST k = st % 4
  low : free → st ≠ 2 → d.get I.LVD.CH_ON (2 * k) = 0
  high : free → st ≠ 1 → d.get I.LVD.CH_ON (2 * k + 1) = 0

theorem edgeStep_placed (st : Nat) {k : Nat} (hk : k < 8) : EdgePlaced (d.get I.LVD.HOLD k = 0 ∧ d.seqDrives = true) st k (d.edgeStep st k) := by
  by_cases h : (decide (d.get I.LVD.HOLD k = 0) && d.seqDrives) = true
  · obtain ⟨hlow, hhigh⟩ := applyLeg_off (d := d.put I.LVD.SEQ_ST st k) hk st
    rw [edgeStep_driven h]
    refine ⟨?_, fun _ => hlow, fun _ => hhigh⟩
    rw [(applyLeg_flds k st).regsKept.get (by decide) (by decide), Dev.get_put_same]
    rfl
  · rw [edgeStep_held (by simpa using h)]
    have hheld : ¬ (d.get I.LVD.HOLD k = 0 ∧ d.seqDrives = true) := by simpa using h
    exact ⟨Dev.get_put_same _ _ st _, fun hfree => absurd hfree hheld, fun hfree => absurd hfree hheld⟩

theorem edgeStep_other {st y k : Nat} (hy : y < 8) (hk : k < 8) (h : y ≠ k) {free : Prop} {st' : Nat} (hp : EdgePlaced free st' k d) :
    EdgePlaced free st' k (d.edgeStep st y) := by
  have hput : ∀ {f : Fld} {i : Nat}, f.id < 2048 → I.LVD.SEQ_ST.id ≠ f.id ∨ y % 65536 ≠ i % 65536 →
      (d.put I.LVD.SEQ_ST st y).get f i = d.get f i := fun hf hne => Dev.get_put_ne _ _ _ _ _ _ (by decide) hf hne
  have hseq : (d.edgeStep st y).get I.LVD.SEQ_ST k = d.get I.LVD.SEQ_ST k := by
    unfold Dev.edgeStep Dev.onlyIf
    split
    · rw [(applyLeg_flds y st).regsKept.get (by decide) (by decide), hput (by decide) (.inr (by omega))]
    · exact hput (by decide) (.inr (by omega))
  have hon : ∀ i, i < 16 → i ≠ 2 * y → i ≠ 2 * y + 1 → (d.edgeStep st y).get I.LVD.CH_ON i = d.get I.LVD.CH_ON i := by
    intro i hi hlow hhigh
    unfold Dev.edgeStep Dev.onlyIf
    split
    · rw [applyLeg_other hy hi hlow hhigh, hput (by decide) (.inl (by decide))]
    · exact hput (by decide) (.inl (by decide))
  exact ⟨hseq.trans hp.seq, fun hf hst => (hon _ (by omega) (by omega) (by omega)).trans (hp.low hf hst),
    fun hf hst => (hon _ (by omega) (by omega) (by omega)).trans (hp.high hf hst)⟩

theorem lvEdge_within (x : LvEdge) : Within (I.LVD.SEQ_ST :: legFlds) { d with lvEdges := d.lvEdges.erase x } (d.lvEdge x) := by
  rw [lvEdge_eq]
  exact Within.of_foldl _ (fun _ k => edgeStep_flds x.st k) _ _

theorem Within.lvEdges_eq {E : List (Fld × Nat)} (h : Within L d e E) : e.lvEdges = d.lvEdges := by rw [h.rest]

theorem lvEdge_lvEdges (x : LvEdge) : (d.lvEdge x).lvEdges = d.lvEdges.erase x := (lvEdge_within x).lvEdges_eq

/-- The edge is placed at every half-bridge of its group. -/
theorem lvEdge_placed (x : LvEdge) {k : Nat} (hk : k ∈ d.legMembers x.grp) :
    EdgePlaced (d.get I.LVD.HOLD k = 0 ∧ d.seqDrives = true) x.st k (d.lvEdge x) := by
  have hk8 := lt_of_mem_legMembers hk
  rw [lvEdge_eq]
  refine foldl_establishes (I := fun e => RegsKept (I.LVD.SEQ_ST :: legFlds) d e) _ hk
    (fun e y _ he => he.trans (edgeStep_flds x.st y).regsKept) (fun e he => ?_)
    (fun e y hy hyk _ hQ => edgeStep_other (lt_of_mem_legMembers hy) hk8 hyk hQ) (fun _ _ _ _ => rfl)
  have hplaced := edgeStep_placed (d := e) x.st hk8
  rwa [he.get (by decide) (by decide), seqDrives_kept he (by decide) (by decide)] at hplaced

theorem exec_lvEdge {hb : Fin 8} {x : LvEdge} (hfind : s.dev.lvEdges.find? (fun x => x.grp = s.dev.legGroup hb) = some x) :
    exec (.lvEdge hb) s = .next { s with dev := s.dev.lvEdge x } := by
  show execLvEdge hb s = _
  simp only [execLvEdge, State.onDev_next, hfind]

theorem lvEdge_gives {hb : Fin 8} {x : LvEdge} (hfind : s.dev.lvEdges.find? (fun x => x.grp = s.dev.legGroup hb) = some x) :
    Gives (.lvEdge hb) s fun t =>
      t.dev.lvEdges = s.dev.lvEdges.erase x ∧
      (∀ k ∈ s.dev.legMembers x.grp, t.dev.get I.LVD.SEQ_ST k = x.st % 4 ∧
        (s.dev.get I.LVD.HOLD k = 0 → s.dev.seqDrives = true →
          (x.st ≠ 2 → t.dev.get I.LVD.CH_ON (2 * k) = 0) ∧ (x.st ≠ 1 → t.dev.get I.LVD.CH_ON (2 * k + 1) = 0))) ∧
      Claim.Kept s t ∧
      Within (countFlds ++ [I.LVD.SEQ_ST, I.LVD.CH_ON, I.LVD.CH_REQ, I.LVD.CH_SNK, I.LVD.CH_SOFT, R.LVD.HB_BST_HOLD_CNT, R.LVD.HB_FIT, R.LVD.HB_FLT,
        R.LVD.HB_OUT]) { s.dev with lvEdges := t.dev.lvEdges } t.dev := by
  refine ⟨_, exec_lvEdge hfind, lvEdge_lvEdges x, fun k hk => ?_, ⟨rfl, rfl, rfl⟩, ?_⟩
  · obtain ⟨hseq, hlow, hhigh⟩ := lvEdge_placed x hk
    exact ⟨hseq, fun hhold hdrives => ⟨hlow ⟨hhold, hdrives⟩, hhigh ⟨hhold, hdrives⟩⟩⟩
  · rw [lvEdge_lvEdges]
    exact (lvEdge_within x).mono (by decide)

/-! INCOMING_TURN_ON (R311). -/

/-- The held turn-on of a channel takes place where the channel is allowed, and the other one is off and its gate monitor reports off. -/
def Dev.turnHeld (d : Dev) (gm ch other : Nat) : Dev :=
  if d.is I.LVD.CH_REQ ch && d.allowed ch && !d.is I.LVD.CH_ON other && bitOf gm other = 0 then d.turnOn ch else d

/-- The held turn-on of half-bridge k, unless both of its channels are requested. -/
def Dev.turnIncoming (d : Dev) (gm k : Nat) : Dev :=
  if d.is I.LVD.CH_REQ (2 * k) && d.is I.LVD.CH_REQ (2 * k + 1) then d.setMonitors gm
  else ((d.setMonitors gm).turnHeld gm (2 * k) (2 * k + 1)).turnHeld gm (2 * k + 1) (2 * k)

theorem exec_incomingTurnOn (hb : Fin 8) (gm : BitVec 16) : exec (.incomingTurnOn hb gm) s =
    .next { s with dev := s.dev.turnIncoming gm.toNat hb } := rfl

theorem turnHeld_unrequested {c : Nat} (gm other : Nat) (h : d.is I.LVD.CH_REQ c = false) : d.turnHeld gm c other = d := by
  rw [Dev.turnHeld, h]
  rfl

theorem turnHeld_turns {gm c other : Nat} (hreq : d.is I.LVD.CH_REQ c = true) (hallowed : d.allowed c = true)
    (hother : d.is I.LVD.CH_ON other = false) (hgm : bitOf gm other = 0) : d.turnHeld gm c other = d.turnOn c := by
  simp [Dev.turnHeld, hreq, hallowed, hother, hgm]

theorem turnHeld_waits {gm c other : Nat} (h : d.allowed c = false ∨ d.is I.LVD.CH_ON other = true ∨ bitOf gm other = 1) :
    d.turnHeld gm c other = d := by
  unfold Dev.turnHeld
  rcases h with h | h | h <;> simp [h]

theorem turnOn_req_other {c i : Nat} (hc : c < 16) (hi : i < 16) (h : c ≠ i) : (d.turnOn c).get I.LVD.CH_REQ i = d.get I.LVD.CH_REQ i :=
  (turnOn_channel c).regs _ (by decide) (by decide) i (hasEl_map_other [I.LVD.CH_ON, I.LVD.CH_REQ, I.LVD.CH_SNK] hc hi h.symm _)

theorem turnHeld_req_other {gm c other i : Nat} (hc : c < 16) (hi : i < 16) (h : c ≠ i) :
    (d.turnHeld gm c other).is I.LVD.CH_REQ i = d.is I.LVD.CH_REQ i := by
  unfold Dev.turnHeld
  split
  · exact Dev.is_congr (turnOn_req_other hc hi h)
  · rfl

theorem is_setMonitors (gm : Nat) {f : Fld} (hf : f.id < 2048) (h : hasFld monitorFlds f = false) (i : Nat) :
    (d.setMonitors gm).is f i = d.is f i := Dev.is_congr ((setMonitors_within gm).regsKept.get hf h i)

theorem allowed_setMonitors (gm c : Nat) : (d.setMonitors gm).allowed c = d.allowed c := by
  have hkept := (setMonitors_within (d := d) gm).regsKept
  simp only [Dev.allowed, Dev.chEnabled, Dev.hbUsed, Dev.shortGrp, hkept.get (f := R.LVD.HB_CFG) (by decide) (by decide),
    hkept.get (f := I.LVD.HOLD) (by decide) (by decide), hkept.get (f := I.LVD.SAFE_ON) (by decide) (by decide)]
  rfl

/-- Of a half-bridge one of whose channels alone is requested, that channel alone may turn on. -/
theorem turnIncoming_one {k : Fin 8} (gm : Nat) (side : Fin 2) (hreq : d.is I.LVD.CH_REQ (2 * k.val + side) = true)
    (hother : d.is I.LVD.CH_REQ (2 * k.val + (1 - side)) = false) :
    d.turnIncoming gm k = (d.setMonitors gm).turnHeld gm (2 * k.val + side) (2 * k.val + (1 - side)) := by
  have hmon := is_setMonitors (d := d) gm (f := I.LVD.CH_REQ) (by decide) (by decide)
  have hk := k.isLt
  unfold Dev.turnIncoming
  match side with
  | 0 =>
    have hhigh : d.is I.LVD.CH_REQ (2 * k.val + 1) = false := hother
    rw [hhigh, Bool.and_false, if_neg Bool.false_ne_true, turnHeld_unrequested]
    · rfl
    · rw [turnHeld_req_other (by omega) (by omega) (by omega), hmon, hhigh]
  | 1 =>
    have hlow : d.is I.LVD.CH_REQ (2 * k.val) = false := hother
    rw [hlow, Bool.false_and, if_neg Bool.false_ne_true, turnHeld_unrequested _ _ ((hmon _).trans hlow)]
    rfl

theorem hbStatus_out (k : Nat) : (d.hbStatus k).get R.LVD.HB_OUT k =
    if d.is I.LVD.CH_ON (2 * k + 1) then 1 else if d.is I.LVD.CH_ON (2 * k) then 2 else 0 := by
  unfold Dev.hbStatus
  simp (disch := decide) only [Dev.get_setBitOf_other, Dev.get_flag_other, Dev.get_put_same]
  split
  · rfl
  · split <;> rfl

theorem turnOn_get (c : Nat) : (d.turnOn c).get I.LVD.CH_ON c = 1 ∧ (d.turnOn c).get I.LVD.CH_REQ c = 0 := by
  unfold Dev.turnOn
  constructor <;> simp (disch := decide) [hbStatus_get]

/-- A half-bridge shows the channel that turns on, its other channel being off. -/
theorem turnOn_out (k : Fin 8) (side : Fin 2) (hother : d.is I.LVD.CH_ON (2 * k.val + (1 - side)) = false) :
    (d.turnOn (2 * k.val + side)).get R.LVD.HB_OUT k = 2 - side := by
  have hk : (2 * k.val + side.val) / 2 = k.val := by omega
  have hon : ∀ i, (((d.put I.LVD.CH_ON 1 (2 * k.val + side)).put I.LVD.CH_REQ 0 (2 * k.val + side)).put I.LVD.CH_SNK 0 (2 * k.val + side)).is
      I.LVD.CH_ON i = (d.put I.LVD.CH_ON 1 (2 * k.val + side)).is I.LVD.CH_ON i := by
    intro i
    apply Dev.is_congr
    simp (disch := decide) only [Dev.get_put_other]
  rw [Dev.turnOn, hk, hbStatus_out, hon, hon]
  match side with
  | 0 =>
    have hhigh : (d.put I.LVD.CH_ON 1 (2 * k.val)).is I.LVD.CH_ON (2 * k.val + 1) = false :=
      (Dev.is_congr (Dev.get_put_ne _ _ _ _ _ _ (by decide) (by decide) (.inr (by omega)))).trans hother
    have hlow : (d.put I.LVD.CH_ON 1 (2 * k.val)).is I.LVD.CH_ON (2 * k.val) = true := by
      simp [Dev.is, Fld.width, I.LVD.CH_ON]
    simp [hhigh, hlow]
  | 1 =>
    have hhigh : (d.put I.LVD.CH_ON 1 (2 * k.val + 1)).is I.LVD.CH_ON (2 * k.val + 1) = true := by
      simp [Dev.is, Fld.width, I.LVD.CH_ON]
    simp [hhigh]

theorem incomingTurnOn_turns {hb : Fin 8} {gm : BitVec 16} {side : Fin 2} (hreq : s.dev.is I.LVD.CH_REQ (2 * hb.val + side) = true)
    (hidle : s.dev.is I.LVD.CH_REQ (2 * hb.val + (1 - side)) = false) (hallowed : s.dev.allowed (2 * hb.val + side) = true)
    (hother : s.dev.is I.LVD.CH_ON (2 * hb.val + (1 - side)) = false) (hgm : bitOf gm.toNat (2 * hb.val + (1 - side)) = 0) :
    Gives (.incomingTurnOn hb gm) s fun t => t.dev.get I.LVD.CH_ON (2 * hb.val + side) = 1 ∧ t.dev.get I.LVD.CH_REQ (2 * hb.val + side) = 0 ∧
      t.dev.get R.LVD.HB_OUT hb = 2 - side ∧
      Frame [R.LVD.HB_GM_L, R.LVD.HB_GM_H, I.LVD.GM_SEEN, R.LVD.HB_OUT, R.LVD.HB_FIT, R.LVD.HB_FLT] s t
        [(I.LVD.CH_ON, 2 * hb.val + side), (I.LVD.CH_REQ, 2 * hb.val + side), (I.LVD.CH_SNK, 2 * hb.val + side)] := by
  have hmon := fun (f : Fld) (hf : f.id < 2048) (h : hasFld monitorFlds f = false) => is_setMonitors (d := s.dev) gm.toNat hf h
  have hoff := (hmon I.LVD.CH_ON (by decide) (by decide) _).trans hother
  have hturn := turnHeld_turns ((hmon I.LVD.CH_REQ (by decide) (by decide) _).trans hreq) ((allowed_setMonitors _ _).trans hallowed) hoff hgm
  obtain ⟨hon, hdone⟩ := turnOn_get (d := s.dev.setMonitors gm.toNat) (2 * hb.val + side)
  refine ⟨_, exec_incomingTurnOn hb gm, ?_⟩
  rw [turnIncoming_one _ side hreq hidle, hturn]
  refine ⟨hon, hdone, turnOn_out hb side hoff, ?_, rfl, rfl, rfl⟩
  exact ((setMonitors_within _).mono (by decide)).trans ((turnOn_channel _).weaken (by decide) (fun _ h => h))

theorem incomingTurnOn_waits {hb : Fin 8} {gm : BitVec 16} {side : Fin 2} (hreq : s.dev.is I.LVD.CH_REQ (2 * hb.val + side) = true)
    (hidle : s.dev.is I.LVD.CH_REQ (2 * hb.val + (1 - side)) = false)
    (h : s.dev.allowed (2 * hb.val + side) = false ∨ s.dev.is I.LVD.CH_ON (2 * hb.val + (1 - side)) = true ∨
      bitOf gm.toNat (2 * hb.val + (1 - side)) = 1) :
    Gives (.incomingTurnOn hb gm) s fun t => Frame [R.LVD.HB_GM_L, R.LVD.HB_GM_H, I.LVD.GM_SEEN] s t := by
  rw [← allowed_setMonitors gm.toNat, ← is_setMonitors gm.toNat (f := I.LVD.CH_ON) (by decide) (by decide)] at h
  refine ⟨_, exec_incomingTurnOn hb gm, ?_⟩
  rw [turnIncoming_one _ side hreq hidle, turnHeld_waits h]
  exact ⟨setMonitors_within _, rfl, rfl, rfl⟩

/-! LV_CARRIER_EVENT (R310, R334, R335). -/

/-- What a trigger writes of its sequencer. -/
def triggerOwnFlds : List Fld :=
  [I.AFE.DROPS, I.AFE.FRAME_RUN, I.AFE.LATE_RUN, I.AFE.QTRIG_NS, I.AFE.READY_NS, I.AFE.RUN_FAIL, I.AFE.STEP, I.AFE.TRIG_NS, I.AFE.WAIT,
    R.AFE.SEQ_BUSY, R.AFE.SEQ_QUEUED, R.AFE.SEQ_TRIG_OVR]

/-- Those fields of sequencer n. -/
def triggerEls (n : Nat) : List (Fld × Nat) := triggerOwnFlds.map (fun f => (f, n))

theorem seqStart_els (n tt ready : Nat) (frame : Bool) : Within raiseFlds d (d.seqStart n tt ready frame) (triggerEls n) := by
  unfold Dev.seqStart Dev.flag triggerEls
  simp (disch := decide) only [within_put_map, within_self]

theorem seqDrop_els {fs : List Fld} (t n : Nat) (hover : hasFld fs R.AFE.SEQ_TRIG_OVR = true) (hdrop : hasFld fs I.AFE.DROPS = true) :
    Within raiseFlds d (d.seqDrop t n) (fs.map (fun f => (f, n))) := by
  have hcount : Within raiseFlds d (((d.bump R.AFE.SEQ_TRIG_OVR n).bump I.AFE.DROPS n).perf 5 3 n) (fs.map (fun f => (f, n))) := by
    rw [within_perf _ _ _ _ (by decide)]
    exact (within_put_map (by decide) hdrop).2 ((within_put_map (by decide) hover).2 (.refl d))
  unfold Dev.seqDrop
  split
  · exact hcount.trans (raise_within _ _ _ _ _).addEls
  · exact hcount

theorem trigger_els (t n : Nat) (frame : Bool) : Within raiseFlds d (d.trigger t n frame) (triggerEls n) := by
  unfold Dev.trigger
  split
  · exact .refl d
  · split
    · exact seqStart_els _ _ _ _
    · split
      · unfold triggerEls
        simp (disch := decide) only [within_put_map, within_self]
      · exact seqDrop_els _ _ (by decide) (by decide)

/-- A sequencer that a trigger finds idle, with entries and the front end running, is busy after it. -/
theorem trigger_starts (t : Nat) {n : Nat} (frame : Bool) (hruns : d.afeRuns = true) (hent : d.get R.AFE.SEQ_NENT n ≠ 0)
    (hidle : d.is R.AFE.SEQ_BUSY n = false) : (d.trigger t n frame).get R.AFE.SEQ_BUSY n = 1 := by
  have hstart : d.trigger t n frame = d.seqStart n t (t + 2 * d.get R.AFE.SEQ_DLY n) frame := by
    simp [Dev.trigger, hruns, hent, hidle]
  rw [hstart, Dev.seqStart]
  simp (disch := decide)

/-- A run under way goes on: a trigger that comes meanwhile is queued or dropped. -/
theorem trigger_goesOn (t : Nat) {n : Nat} (frame : Bool) (h : d.get R.AFE.SEQ_BUSY n = 1) : (d.trigger t n frame).get R.AFE.SEQ_BUSY n = 1 := by
  have hbusy : d.is R.AFE.SEQ_BUSY n = true := by simp [Dev.is, h]
  unfold Dev.trigger
  rw [hbusy, Bool.not_true, if_neg Bool.false_ne_true]
  split
  · exact h
  · split
    · simp (disch := decide) [h]
    · have hdrop := (seqDrop_els (d := d) (fs := [R.AFE.SEQ_TRIG_OVR, I.AFE.DROPS]) t n (by decide) (by decide)).regs
        R.AFE.SEQ_BUSY (by decide) (by decide) n (hasEl_map_of_not_hasFld (by decide) _ _)
      rw [hdrop, h]

/-- A sequencer is triggered where it has entries and one of the sources is its own. -/
def Dev.triggerStep (t : Nat) (srcs : List Nat) (frame : Bool) (d : Dev) (n : Nat) : Dev :=
  if d.get R.AFE.SEQ_NENT n != 0 && srcs.contains (d.get R.AFE.SEQ_TRIG_SRC n) then d.trigger t n frame else d

theorem triggerAll_eq (t : Nat) (srcs : List Nat) (frame : Bool) :
    d.triggerAll t srcs frame = (List.range 8).foldl (Dev.triggerStep t srcs frame) d := rfl

theorem triggerStep_els (t : Nat) (srcs : List Nat) (frame : Bool) (n : Nat) : Within raiseFlds d (d.triggerStep t srcs frame n) (triggerEls n) := by
  unfold Dev.triggerStep
  split
  · exact trigger_els t n frame
  · exact .refl d

/-- What triggering sequencers writes, of any sequencer. -/
def triggerFlds : List Fld := raiseFlds ++ triggerOwnFlds

theorem triggerStep_flds (t : Nat) (srcs : List Nat) (frame : Bool) (n : Nat) : Within triggerFlds d (d.triggerStep t srcs frame n) :=
  (triggerStep_els t srcs frame n).wholeFlds (subFlds_append_left _ _) (subFlds_append_right _ _)

theorem triggerAll_within (t : Nat) (srcs : List Nat) (frame : Bool) : Within triggerFlds d (d.triggerAll t srcs frame) := by
  rw [triggerAll_eq]
  exact Within.of_foldl _ (fun _ n => triggerStep_flds t srcs frame n) _ d

theorem triggerStep_busy_other {t : Nat} {srcs : List Nat} {frame : Bool} {k n : Nat} (hk : k < 8) (hn : n < 8) (h : k ≠ n) :
    (d.triggerStep t srcs frame k).get R.AFE.SEQ_BUSY n = d.get R.AFE.SEQ_BUSY n :=
  (triggerStep_els t srcs frame k).regs _ (by decide) (by decide) n (hasEl_map_other triggerOwnFlds (by omega) (by omega) h.symm _)

theorem afeRuns_kept (h : Within L d e) (hL : hasFld L R.MODE.STATE = false) : e.afeRuns = d.afeRuns := by
  rw [Dev.afeRuns, Dev.mode, h.ream_eq, h.regsKept.get (by decide) hL, ← Dev.mode, ← Dev.afeRuns]

theorem triggerStep_starts (t : Nat) {srcs : List Nat} (frame : Bool) {n : Nat} (hruns : d.afeRuns = true) (hent : d.get R.AFE.SEQ_NENT n ≠ 0)
    (hsrc : d.get R.AFE.SEQ_TRIG_SRC n ∈ srcs) (hbusy : d.is R.AFE.SEQ_BUSY n = false ∨ d.get R.AFE.SEQ_BUSY n = 1) :
    (d.triggerStep t srcs frame n).get R.AFE.SEQ_BUSY n = 1 := by
  have hstep : d.triggerStep t srcs frame n = d.trigger t n frame := by simp [Dev.triggerStep, hent, hsrc]
  rw [hstep]
  exact hbusy.elim (trigger_starts t frame hruns hent) (trigger_goesOn t frame)

/-- Every idle sequencer of a source that triggers is busy after it. -/
theorem triggerAll_starts (t : Nat) {srcs : List Nat} (frame : Bool) {n : Nat} (hn : n < 8) (hruns : d.afeRuns = true)
    (hent : d.get R.AFE.SEQ_NENT n ≠ 0) (hsrc : d.get R.AFE.SEQ_TRIG_SRC n ∈ srcs) (hidle : d.is R.AFE.SEQ_BUSY n = false) :
    (d.triggerAll t srcs frame).get R.AFE.SEQ_BUSY n = 1 := by
  have hhere : ∀ e, Within triggerFlds d e ∧ (e.is R.AFE.SEQ_BUSY n = false ∨ e.get R.AFE.SEQ_BUSY n = 1) →
      (e.triggerStep t srcs frame n).get R.AFE.SEQ_BUSY n = 1 := by
    rintro e ⟨he, hbusy⟩
    refine triggerStep_starts t frame ((afeRuns_kept he (by decide)).trans hruns) ?_ ?_ hbusy
    · rwa [he.regsKept.get (by decide) (by decide)]
    · rwa [he.regsKept.get (by decide) (by decide)]
  rw [triggerAll_eq]
  refine foldl_establishes (Q := fun e => e.get R.AFE.SEQ_BUSY n = 1)
    (I := fun e => Within triggerFlds d e ∧ (e.is R.AFE.SEQ_BUSY n = false ∨ e.get R.AFE.SEQ_BUSY n = 1)) _ (List.mem_range.2 hn)
    (fun e k hk he => ⟨he.1.trans (triggerStep_flds t srcs frame k), ?_⟩) hhere
    (fun e k hk hkn _ hQ => (triggerStep_busy_other (List.mem_range.1 hk) hn hkn).trans hQ) ⟨.refl d, .inl hidle⟩
  by_cases hkn : k = n
  · exact .inr (hkn ▸ hhere e he)
  · have hsame : (e.triggerStep t srcs frame k).get R.AFE.SEQ_BUSY n = e.get R.AFE.SEQ_BUSY n := triggerStep_busy_other (List.mem_range.1 hk) hn hkn
    rw [Dev.is_congr hsame, hsame]
    exact he.2

theorem lvCarrierEvent_does (peak : Bool) : Does (.lvCarrierEvent peak) s fun d => Within (raiseFlds ++ [I.AFE.DROPS, I.AFE.FRAME_RUN,
    I.AFE.LATE_RUN, I.AFE.QTRIG_NS, I.AFE.READY_NS, I.AFE.RUN_FAIL, I.AFE.STEP, I.AFE.TRIG_NS, I.AFE.WAIT, R.AFE.SEQ_BUSY, R.AFE.SEQ_QUEUED,
    R.AFE.SEQ_TRIG_OVR]) s.dev d ∧
    ∀ n < 8, s.dev.afeRuns = true → s.dev.get R.AFE.SEQ_NENT n ≠ 0 → s.dev.get R.AFE.SEQ_TRIG_SRC n ∈ (if peak then [3, 4] else [2, 4]) →
      s.dev.is R.AFE.SEQ_BUSY n = false → d.get R.AFE.SEQ_BUSY n = 1 :=
  ⟨s.dev.triggerAll s.clk.ns (if peak then [3, 4] else [2, 4]) false, rfl, triggerAll_within _ _ _,
    fun _ hn hruns hent hsrc hidle => triggerAll_starts _ _ hn hruns hent hsrc hidle⟩

/-- Settles O42: an edge by the leg state that each half-bridge of its group takes, the held turn-on by the one channel that is requested,
and the carrier's event by the trigger of each sequencer bound to it. -/
theorem lvSwitching : Obligations.LvSwitching := fun _ _ _ _ _ peak =>
  ⟨lvEdge_gives, fun hreq hidle => ⟨incomingTurnOn_turns hreq hidle, incomingTurnOn_waits hreq hidle⟩, lvCarrierEvent_does peak⟩

end Sys2Proof.Machine
end

section
/-! PROOFS. Stage 1 of the control engine (R267): the cut of the AFE results (R339), and what the front end writes after it. -/
namespace Sys2Proof.Machine
variable {d : Dev} {s : State}

/-! The AFE cut. -/

/-- The results of every sequencer taken as they stand. -/
def Dev.cutTaken (d : Dev) : Dev := d.forN 128 (fun d r => d.put I.CE.AFE_CUT (d.get I.AFE.GOOD r) r)

/-- A frame-triggered sequencer judged: stale where its run of the frame is missing or failed. -/
def Dev.cutStep (t : Nat) (d : Dev) (n : Nat) : Dev :=
  if d.get R.AFE.SEQ_NENT n = 0 || d.get R.AFE.SEQ_TRIG_SRC n != 1 then d
  else
    let ok : Bool := d.get I.AFE.GOT_RUN n = 1
    let d2 := ((d.flag R.AFE.SEQ_STALE (!ok) n).setBitOf R.AFE.STAT_STALE n (!ok)).bump R.AFE.SEQ_STALE_CNT n (!ok).toNat
    if ok then d2 else d2.raise t 9 (72 + n) (if d.get I.AFE.GOT_RUN n = 2 then 1 else 0)

theorem afeCut_eq (t : Nat) : d.afeCut t = (List.range 8).foldl (Dev.cutStep t) d.cutTaken := rfl

theorem cutTaken_within : Within [I.CE.AFE_CUT] d d.cutTaken :=
  Within.of_foldl _ (fun e r => Within.of_put e I.CE.AFE_CUT _ r (by decide) (by decide)) _ d

theorem cutTaken_get {r : Nat} (hr : r < 128) : d.cutTaken.get I.CE.AFE_CUT r = d.get I.AFE.GOOD r % 2 ^ 32 := by
  unfold Dev.cutTaken Dev.forN
  refine foldl_establishes (I := fun e => e.get I.AFE.GOOD r = d.get I.AFE.GOOD r)
    (Q := fun e => e.get I.CE.AFE_CUT r = d.get I.AFE.GOOD r % 2 ^ 32) (List.range 128) (List.mem_range.2 hr) ?_ ?_ ?_ rfl
  · intro e k _ he
    rwa [Dev.get_put_other _ _ _ _ _ _ (by decide) (by decide) (by decide)]
  · intro e he
    rw [Dev.get_put_same, he]
    rfl
  · intro e k hk hkr _ hQ
    have hlt := List.mem_range.1 hk
    rwa [Dev.get_put_ne _ _ _ _ _ _ (by decide) (by decide) (.inr (by omega))]

/-- What judging a sequencer writes beside its own SEQ_STALE. -/
def cutRestFlds : List Fld := raiseFlds ++ [R.AFE.STAT_STALE, R.AFE.SEQ_STALE_CNT]

/-- What the AFE cut writes after it has taken the results. -/
def cutFlds : List Fld := R.AFE.SEQ_STALE :: cutRestFlds

theorem cutStep_els (t n : Nat) : Within cutRestFlds d (d.cutStep t n) [(R.AFE.SEQ_STALE, n)] := by
  have hown : hasEl [(R.AFE.SEQ_STALE, n)] R.AFE.SEQ_STALE n = true := by simp [hasEl]
  unfold Dev.cutStep
  split
  · exact .refl d
  · simp (disch := first | decide | exact hown)

theorem cutStep_within (t n : Nat) : Within cutFlds d (d.cutStep t n) :=
  Within.wholeFlds (fs := [R.AFE.SEQ_STALE]) (cutStep_els t n) (by decide) (by decide)

theorem cutStep_sticky (t n : Nat) : StickyKept d (d.cutStep t n) := by
  unfold Dev.cutStep
  split
  · exact .refl d
  · dsimp only
    have hmark : StickyKept d (((d.flag R.AFE.SEQ_STALE (!decide (d.get I.AFE.GOT_RUN n = 1)) n).setBitOf R.AFE.STAT_STALE n
        (!decide (d.get I.AFE.GOT_RUN n = 1))).bump R.AFE.SEQ_STALE_CNT n (!decide (d.get I.AFE.GOT_RUN n = 1)).toNat) :=
      Within.sticky (L := [R.AFE.SEQ_STALE, R.AFE.STAT_STALE, R.AFE.SEQ_STALE_CNT]) (by simp (disch := decide)) (by decide)
    split
    · exact hmark
    · exact hmark.trans (raise_sticky _ _ _ _ _)

/-- What the cut says of a sequencer of the frame: stale and raised, unless it has a good run. -/
structure CutJudged (got n : Nat) (d : Dev) : Prop where
  stale  : d.get R.AFE.SEQ_STALE n = if got = 1 then 0 else 1
  raised : got ≠ 1 → Raised d 9 (72 + n)

theorem cutStep_judges {t n : Nat} (hn : n < 8) (hent : d.get R.AFE.SEQ_NENT n ≠ 0) (hsrc : d.get R.AFE.SEQ_TRIG_SRC n = 1) :
    CutJudged (d.get I.AFE.GOT_RUN n) n (d.cutStep t n) := by
  have hguard : (decide (d.get R.AFE.SEQ_NENT n = 0) || d.get R.AFE.SEQ_TRIG_SRC n != 1) = false := by simp [hent, hsrc]
  rw [Dev.cutStep, hguard, if_neg Bool.false_ne_true]
  by_cases hgot : d.get I.AFE.GOT_RUN n = 1
  · constructor
    · simp (disch := decide) [hgot, Dev.flag]
    · exact fun h => absurd hgot h
  · constructor
    · have hraise : ∀ e x, (Dev.raise e t 9 (72 + n) x).get R.AFE.SEQ_STALE n = e.get R.AFE.SEQ_STALE n := fun e x =>
        (raise_within _ _ _ _ _).regsKept.get (by decide) (by decide) n
      simp (disch := decide) [hgot, hraise, Dev.flag]
    · intro _
      simp only [hgot, decide_false, Bool.false_eq_true, if_false]
      exact raise_raised _ _ _ _ _ (by omega)

theorem cutStep_other {t k n : Nat} (hk : k < 8) (hn : n < 8) (h : k ≠ n) {got : Nat} (hj : CutJudged got n d) : CutJudged got n (d.cutStep t k) where
  stale := by
    rw [(cutStep_els t k).regs _ (by decide) (by decide) n (hasEl_map_other [R.AFE.SEQ_STALE] (by omega) (by omega) h.symm _), hj.stale]
  raised hgot := (cutStep_sticky t k).raised (hj.raised hgot)

theorem afeCut_judged (t : Nat) {n : Nat} (hn : n < 8) (hent : d.get R.AFE.SEQ_NENT n ≠ 0) (hsrc : d.get R.AFE.SEQ_TRIG_SRC n = 1) :
    CutJudged (d.get I.AFE.GOT_RUN n) n (d.afeCut t) := by
  rw [afeCut_eq]
  refine foldl_establishes (I := fun e => RegsKept (I.CE.AFE_CUT :: cutFlds) d e) (List.range 8) (List.mem_range.2 hn)
    (fun e k _ he => he.trans ((cutStep_within t k).regsKept.mono (by decide))) (fun e he => ?_)
    (fun e k hk hkn _ hj => cutStep_other (List.mem_range.1 hk) hn hkn hj) (cutTaken_within.regsKept.mono (by decide))
  rw [← he.get (f := I.AFE.GOT_RUN) (by decide) (by decide)]
  refine cutStep_judges hn ?_ ?_
  · rwa [he.get (by decide) (by decide)]
  · rwa [he.get (by decide) (by decide)]

theorem afeCut_afterTaken (t : Nat) : Within cutFlds d.cutTaken (d.afeCut t) := by
  rw [afeCut_eq]
  exact Within.of_foldl _ (fun _ n => cutStep_within t n) _ _

theorem afeCut_get (t : Nat) {r : Nat} (hr : r < 128) : (d.afeCut t).get I.CE.AFE_CUT r = d.get I.AFE.GOOD r % 2 ^ 32 := by
  rw [(afeCut_afterTaken t).regsKept.get (by decide) (by decide), cutTaken_get hr]

/-! The front end (R279 to R282). -/

/-- What the front end writes: the fields of stage 1, and the integrator of the LV PLL on its return to LV_LAW 0 (R281). -/
def frontFlds : List Fld :=
  [I.CE.F_ALPHA, I.CE.F_BETA, I.CE.F_X, I.CE.F_OM, I.CE.F_TH, I.CE.F_RUN, I.CE.FE, I.CE.X, I.CE.F_IN, I.CE.F_OUT, I.CE.F_LAW]

theorem lockStep_within (p vq : Nat) (lock : Bool) : Within frontFlds d (d.lockStep p vq lock).1 := by
  unfold Dev.lockStep
  dsimp only
  split <;> exact Within.of_put _ _ _ _ (by decide) (by decide)

theorem pllStep_within (p vq fnom : Nat) : Within frontFlds d (d.pllStep p vq fnom) := by
  unfold Dev.pllStep; simp (disch := decide)

theorem pllHold_within (p : Nat) : Within frontFlds d (d.pllHold p) := by
  unfold Dev.pllHold; simp (disch := decide)

theorem putFe_within (idx v : Nat) : Within frontFlds d (d.putFe idx v) := Within.of_put _ _ _ _ (by decide) (by decide)

/-- The PLL of the MV side in a frame: it runs, or holds its states and its lock. -/
def Dev.mvPll (d : Dev) (vq : Nat) : Dev × Bool :=
  if d.pllsRun then (d.pllStep 0 vq (d.get R.CE.FNOM)).lockStep 0 vq (d.is R.CE.MV_LOCK) else (d.pllHold 0, d.is R.CE.MV_LOCK)

theorem mvPll_within (vq : Nat) : Within frontFlds d (d.mvPll vq).1 := by
  unfold Dev.mvPll
  split
  · exact (pllStep_within _ _ _).trans (lockStep_within _ _ _)
  · exact pllHold_within _

theorem feMv_eq : ∃ a b vq w₀ w₁ w₂ w₃ w₄ w₅, d.feMv =
    ((((((((d.put I.CE.F_ALPHA a).put I.CE.F_BETA b).mvPll vq).1.draw.putFe 0x200 w₀).putFe 0x201 w₁).putFe 0x202 w₂).putFe 0x203 w₃).putFe 0x204
      w₄).putFe 0x205 w₅ := ⟨_, _, _, _, _, _, _, _, _, rfl⟩

theorem feMv_within : Within frontFlds d d.feMv := by
  obtain ⟨a, b, vq, w₀, w₁, w₂, w₃, w₄, w₅, h⟩ := feMv_eq (d := d)
  have hclarke : Within frontFlds d ((d.put I.CE.F_ALPHA a).put I.CE.F_BETA b) := by simp (disch := decide)
  rw [h]
  refine hclarke.trans ((mvPll_within vq).trans ?_)
  simp [(putFe_within _ _).iff]

theorem lvAngle_within (vq : Nat) : Within frontFlds d (d.lvAngle vq).1 := by
  unfold Dev.lvAngle
  dsimp only
  split
  · exact pllHold_within 1
  · split
    · simp (disch := decide)
    · split
      · exact (pllStep_within _ _ _).trans (lockStep_within _ _ _)
      · exact (Within.of_put _ _ _ _ (by decide) (by decide)).trans ((pllStep_within _ _ _).trans (lockStep_within _ _ _))

theorem feLv_within : Within frontFlds d d.feLv := by
  unfold Dev.feLv
  dsimp only
  simp [(putFe_within _ _).iff, lvAngle_within]

theorem gridMonitor_within : Within frontFlds d d.gridMonitor := by
  unfold Dev.gridMonitor
  split <;> simp (disch := decide)

/-! CE_FRAME_START (R267). -/

/-- The frame in progress from its AFE cut on. -/
def Dev.ceBegun (d : Dev) (t : Nat) : Dev := ((((d.afeCut t).put I.CE.STARTED 1).put I.CE.BUSY 1).put I.CE.START_NS t).put I.CE.MV_CHG 0

/-- What the start of a frame marks. -/
def beginFlds : List Fld := [I.CE.STARTED, I.CE.BUSY, I.CE.START_NS, I.CE.MV_CHG]

theorem ceStart_eq (t : Nat) (hfirst : d.is I.CE.STARTED = false) (hream : d.ream.active.isSome = true) :
    d.ceStart t = (((d.ceBegun t).feMv.feLv).gridMonitor).put I.CE.F_LAW d.lawOf := by
  have hnone : d.ream.active.isNone = false := by simpa using hream
  rw [Dev.ceStart, hfirst, hnone]
  rfl

theorem ceBegun_afterCut (t : Nat) : Within beginFlds (d.afeCut t) (d.ceBegun t) := by
  unfold Dev.ceBegun; simp (disch := decide)

theorem ceStart_afterBegun (t : Nat) (hfirst : d.is I.CE.STARTED = false) (hream : d.ream.active.isSome = true) :
    Within frontFlds (d.ceBegun t) (d.ceStart t) := by
  rw [ceStart_eq t hfirst hream]
  exact feMv_within.trans (feLv_within.trans (gridMonitor_within.trans (Within.of_put _ _ _ _ (by decide) (by decide))))

theorem ceBegun_get (t : Nat) : (d.ceBegun t).get I.CE.STARTED = 1 ∧ (d.ceBegun t).get I.CE.BUSY = 1 ∧
    (d.ceBegun t).get I.CE.START_NS = t % 2 ^ 64 := by
  unfold Dev.ceBegun
  refine ⟨?_, ?_, ?_⟩ <;> simp (disch := decide) [Fld.width, I.CE.START_NS]

theorem ceStart_regsKept (t : Nat) (hfirst : d.is I.CE.STARTED = false) (hream : d.ream.active.isSome = true) :
    RegsKept (I.CE.AFE_CUT :: cutFlds ++ beginFlds ++ frontFlds) d (d.ceStart t) :=
  ((((cutTaken_within.mono (by decide)).trans ((afeCut_afterTaken t).mono (by decide))).trans ((ceBegun_afterCut t).mono (by decide))).trans
    ((ceStart_afterBegun t hfirst hream).mono (by decide))).regsKept

theorem mirrorApply_notMirror (t : Nat) (hmode : d.mode ≠ .mirror) : d.mirrorApply t = { d with mirrorIn := none } := by
  simp [Dev.mirrorApply, hmode]

theorem exec_ceFrameStart (hmode : s.dev.mode ≠ .mirror) : exec .ceFrameStart s =
    .next { s with dev := (Dev.ceStart { s.dev with mirrorIn := none } s.clk.ns).settle s.clk.ns } := by
  show execCeFrameStart s = _
  rw [execCeFrameStart, State.onDev_next, mirrorApply_notMirror _ hmode]

theorem CutJudged.kept {got n : Nat} {L : List Fld} {e : Dev} (h : CutJudged got n d) (k : Within L d e) (hstale : hasFld L R.AFE.SEQ_STALE = false)
    (hsticky : hasFld L R.FLT.STICKY = false) : CutJudged got n e where
  stale := by rw [k.regsKept.get (by decide) hstale, h.stale]
  raised hgot := (k.sticky hsticky).raised (h.raised hgot)

/-- The state that a started frame leaves. -/
theorem ceStart_starts (t : Nat) (hfirst : d.is I.CE.STARTED = false) (hream : d.ream.active.isSome = true) :
    (d.ceStart t).get I.CE.STARTED = 1 ∧ (d.ceStart t).get I.CE.BUSY = 1 ∧ (d.ceStart t).get I.CE.START_NS = t % 2 ^ 64 ∧
    (∀ r < 128, (d.ceStart t).get I.CE.AFE_CUT r = d.get I.AFE.GOOD r % 2 ^ 32) ∧
    (∀ n < 8, d.get R.AFE.SEQ_NENT n ≠ 0 → d.get R.AFE.SEQ_TRIG_SRC n = 1 → CutJudged (d.get I.AFE.GOT_RUN n) n (d.ceStart t)) := by
  have hend := ceStart_afterBegun t hfirst hream
  obtain ⟨hstarted, hbusy, hns⟩ := ceBegun_get (d := d) t
  refine ⟨?_, ?_, ?_, fun r hr => ?_, fun n hn hent hsrc => ?_⟩
  · rw [hend.regsKept.get (by decide) (by decide), hstarted]
  · rw [hend.regsKept.get (by decide) (by decide), hbusy]
  · rw [hend.regsKept.get (by decide) (by decide), hns]
  · rw [hend.regsKept.get (by decide) (by decide), (ceBegun_afterCut t).regsKept.get (by decide) (by decide), afeCut_get t hr]
  · exact ((afeCut_judged t hn hent hsrc).kept (ceBegun_afterCut t) (by decide) (by decide)).kept hend (by decide) (by decide)

theorem ceFrameStart_does (hmode : s.dev.mode ≠ .mirror) (hfirst : s.dev.is I.CE.STARTED = false) (hream : s.dev.ream.active.isSome = true) :
    Does .ceFrameStart s fun d =>
      d.get I.CE.STARTED = 1 ∧ d.get I.CE.BUSY = 1 ∧ d.get I.CE.START_NS = s.clk.ns % 2 ^ 64 ∧
      (∀ r < 128, d.get I.CE.AFE_CUT r = s.dev.get I.AFE.GOOD r % 2 ^ 32) ∧
      (∀ n < 8, s.dev.get R.AFE.SEQ_NENT n ≠ 0 → s.dev.get R.AFE.SEQ_TRIG_SRC n = 1 →
        d.get R.AFE.SEQ_STALE n = (if s.dev.get I.AFE.GOT_RUN n = 1 then 0 else 1) ∧ (s.dev.get I.AFE.GOT_RUN n ≠ 1 → Raised d 9 (72 + n))) ∧
      Claim.Untouched [wSnap, wStage, wTb, wReam, wMode, wFelt, wCell, wMod, wCal, wSafe] s.dev d := by
  obtain ⟨hstarted, hbusy, hns, hcut, hjudged⟩ := ceStart_starts (d := { s.dev with mirrorIn := none }) s.clk.ns hfirst hream
  refine ⟨_, exec_ceFrameStart hmode, hstarted, hbusy, hns, hcut, fun n hn hent hsrc => ?_, ?_⟩
  · have h := hjudged n hn hent hsrc
    exact ⟨h.stale, h.raised⟩
  · exact RegsKept.untouched (d := s.dev) (ceStart_regsKept (d := { s.dev with mirrorIn := none }) s.clk.ns hfirst hream) (by decide)

end Sys2Proof.Machine
end

section
/-! PROOFS. The end of an engine frame that is not delivered (R19, R294, R295). -/
namespace Sys2Proof.Machine
variable {d : Dev} {s : State}

/-- What the counts of a frame's end write (R497, R502). -/
def frameCountFlds : List Fld := [I.PERF.LANE, I.PERF.LFSR] ++ perfFlds

theorem perfFrame_within (abandoned : Bool) : Within frameCountFlds d (d.perfFrame abandoned) := by
  have hops : ∀ n m, Within frameCountFlds d ((d.draw.perf 3 1 15 n).perf 3 8 15 m) := fun n m => by simp (disch := decide)
  unfold Dev.perfFrame
  dsimp only
  split
  · exact .refl d
  · split <;> split <;> simp (disch := decide) [(hops _ _).iff]

/-- The lock of the MV PLL as it stood at the start of the frame. -/
def Dev.lockBack (d : Dev) : Dev := d.onlyIf (d.is I.CE.MV_CHG) (fun d => (d.flag R.CE.MV_LOCK (!d.is R.CE.MV_LOCK)).put I.CE.MV_CHG 0)

/-- The overrun marked and counted. -/
def Dev.overrunCounted (d : Dev) : Dev :=
  (((((d.put I.CE.BUSY 0).perf 3 3 15).bump R.CE.OVR_CNT).bump R.CE.OVR_RUN).put R.CE.OVR_LAST 1).put I.CE.OVR_QUIET 2

theorem ceAbandon_eq (t : Nat) (hbusy : d.is I.CE.BUSY = true) : d.ceAbandon t =
    if 2 ≤ d.lockBack.overrunCounted.get R.CE.OVR_RUN then d.lockBack.overrunCounted.raiseState t 7 0 0 else d.lockBack.overrunCounted := by
  rw [Dev.ceAbandon, hbusy]
  rfl

theorem lockBack_within : Within [R.CE.MV_LOCK, I.CE.MV_CHG] d d.lockBack := by
  unfold Dev.lockBack
  simp (disch := first | decide | (intros; simp (disch := decide)))

theorem overrunCounted_within : Within Claim.overrunFlds d d.overrunCounted := by
  unfold Dev.overrunCounted; simp (disch := decide)

theorem overrunCounted_get : d.overrunCounted.get I.CE.BUSY = 0 ∧ d.overrunCounted.get R.CE.OVR_LAST = 1 ∧
    d.overrunCounted.get R.CE.OVR_CNT = min (d.get R.CE.OVR_CNT + 1) 65535 % 65536 ∧
    d.overrunCounted.get R.CE.OVR_RUN = min (d.get R.CE.OVR_RUN + 1) 65535 % 65536 := by
  have hperf : ∀ (e : Dev) (f : Fld), f.id < 2048 → hasFld perfFlds f = false → (e.perf 3 3 15).get f = e.get f := fun e f hf h =>
    (perf_within _ _ _ _).regsKept.get hf h 0
  unfold Dev.overrunCounted Dev.bump
  refine ⟨?_, ?_, ?_, ?_⟩ <;> simp (disch := decide) [hperf, Fld.width, R.CE.OVR_CNT, R.CE.OVR_RUN, satAdd]

theorem raiseState_within (t cls inst det : Nat) : Within raiseFlds d (d.raiseState t cls inst det) := by
  simp (disch := decide)

theorem raiseState_raised (t cls det : Nat) {inst : Nat} (hinst : inst < 256) (hnone : ¬ Claim.Holds d cls inst) :
    Raised (d.raiseState t cls inst det) cls inst := by
  have hnot : d.active.any (fun a => a.cls = cls && a.inst = inst && a.held) = false := by
    simpa [Claim.Holds] using hnone
  rw [Dev.raiseState, hnot, if_neg Bool.false_ne_true]
  exact raise_raised _ _ _ _ _ hinst

theorem ceAbandon_afterCount (t : Nat) (hbusy : d.is I.CE.BUSY = true) : Within raiseFlds d.lockBack.overrunCounted (d.ceAbandon t) := by
  rw [ceAbandon_eq t hbusy]
  split
  · exact raiseState_within _ _ _ _
  · exact .refl _

theorem perf_active (b ev inst n : Nat) : (d.perf b ev inst n).active = d.active := by
  unfold Dev.perf
  split
  · rfl
  · refine List.foldlRecOn (motive := fun e : Dev => e.active = d.active) _ _ rfl (fun e he k _ => ?_)
    dsimp only
    split
    · exact he
    · unfold Dev.onlyIf
      split <;> exact he

theorem overrunCounted_active : d.lockBack.overrunCounted.active = d.active := by
  have hlock : d.lockBack.active = d.active := by unfold Dev.lockBack Dev.onlyIf; split <;> rfl
  rw [← hlock]
  exact perf_active _ _ _ _

/-- Two overruns in a row raise instance 0 (R295). -/
theorem ceAbandon_raised (t : Nat) (hbusy : d.is I.CE.BUSY = true) (hrun : 1 ≤ d.get R.CE.OVR_RUN) (hnone : ¬ Claim.Holds d 7 0) :
    Raised (d.ceAbandon t) 7 0 := by
  have htwo : 2 ≤ d.lockBack.overrunCounted.get R.CE.OVR_RUN := by
    obtain ⟨-, -, -, hcount⟩ := overrunCounted_get (d := d.lockBack)
    rw [hcount, lockBack_within.regsKept.get (by decide) (by decide)]
    omega
  rw [ceAbandon_eq t hbusy, if_pos htwo]
  exact raiseState_raised _ _ _ (by decide) (by rwa [Claim.Holds, overrunCounted_active])

theorem exec_ceOverrun (hbusy : s.dev.is I.CE.BUSY = true) :
    exec .ceOverrun s = .next { s with dev := ((s.dev.ceAbandon s.clk.ns).perfFrame true).settle s.clk.ns } := by
  show execCeOverrun s = _
  rw [execCeOverrun, State.onDev_next, Dev.overrun, if_pos hbusy]

theorem ceOverrun_does (hbusy : s.dev.is I.CE.BUSY = true) : Does .ceOverrun s fun d =>
    d.get I.CE.BUSY = 0 ∧ d.get R.CE.OVR_LAST = 1 ∧ d.get R.CE.OVR_CNT = min (s.dev.get R.CE.OVR_CNT + 1) 65535 % 65536 ∧
    (1 ≤ s.dev.get R.CE.OVR_RUN → ¬ Claim.Holds s.dev 7 0 → Raised d 7 0) ∧ Within Claim.overrunFlds s.dev d := by
  obtain ⟨hidle, hlast, hcnt, -⟩ := overrunCounted_get (d := s.dev.lockBack)
  have hcount := lockBack_within (d := s.dev)
  have hend : Within (raiseFlds ++ frameCountFlds) s.dev.lockBack.overrunCounted ((s.dev.ceAbandon s.clk.ns).perfFrame true) :=
    ((ceAbandon_afterCount s.clk.ns hbusy).mono (by decide)).trans ((perfFrame_within true).mono (by decide))
  refine ⟨_, exec_ceOverrun hbusy, ?_, ?_, ?_, fun hrun hnone => ?_, ?_⟩
  · rw [hend.regsKept.get (by decide) (by decide), hidle]
  · rw [hend.regsKept.get (by decide) (by decide), hlast]
  · rw [hend.regsKept.get (by decide) (by decide), hcnt, hcount.regsKept.get (by decide) (by decide)]
  · exact ((perfFrame_within true).sticky (by decide)).raised (ceAbandon_raised s.clk.ns hbusy hrun hnone)
  · exact (hcount.mono (by decide)).trans (overrunCounted_within.trans (hend.mono (by decide)))

end Sys2Proof.Machine
end

section
/-! PROOFS. Stage 5 of the control engine: what the loop slots of a frame write (R267 to R293). -/
namespace Sys2Proof.Machine
variable {d : Dev}

def blendFlds : List Fld := [I.CE.B_ON, I.CE.B_D, I.CE.B_R, I.CE.B_LEFT, I.CE.B_SLOT]

def instFlds : List Fld :=
  [I.CE.SP, I.CE.SA, I.CE.SB, I.CE.OUT, I.CE.OUT2, I.CE.FB, I.CE.NE, I.CE.QUIET, I.CE.PL_CNT, I.CE.PL_RAISED]

def slotStatusFlds : List Fld :=
  [R.CE.SLOT_OUT, R.CE.SLOT_SP, R.CE.SLOT_RUN, R.CE.SLOT_STARTED, R.CE.SLOT_SAT_HI, R.CE.SLOT_SAT_LO, R.CE.SLOT_BLEND, R.CE.SLOT_PL_RUN,
   R.CE.SLOT_SAT_CNT, R.CE.SLOT_X_LO, R.CE.SLOT_X_HI, R.CE.SLOT_PL_RES, R.CE.SLOT_PL_SKIP, R.CE.SLOT_NUMERR, R.CE.SLOT_NUMERR_CNT]

/-- What stage 5 writes. -/
def stageFlds : List Fld :=
  raiseFlds ++ perfFlds ++ blendFlds ++ instFlds ++ slotStatusFlds ++ [I.CE.DST, I.CE.RAN, I.CE.SWAPPED, I.CE.FRESH, R.CE.STEP_SLOTS]

theorem saveInst_within (sl : LoopSlot) (i : Nat) (st : Inst) : Within stageFlds d (d.saveInst sl i st) := by
  unfold Dev.saveInst
  simp (disch := first | decide | (intros; simp (disch := decide)))

theorem blendStart_within (k raw slot : Nat) : Within stageFlds d (d.blendStart k raw slot) := by
  unfold Dev.blendStart
  simp (disch := decide)

theorem blendStep_within (k raw : Nat) : Within stageFlds d (d.blendStep k raw).1 := by
  unfold Dev.blendStep
  dsimp only
  split <;> simp (disch := decide)

theorem plausible_within (sl : LoopSlot) (i fb : Nat) (blending : Bool) : Within stageFlds d (d.plausible sl i fb blending) := by
  unfold Dev.plausible
  dsimp only
  split
  · exact .refl d
  · split
    · simp (disch := first | decide | (intros; simp (disch := decide)))
    · split
      · simp (disch := first | decide | (intros; simp (disch := decide)))
      · split <;> simp (disch := first | decide | (intros; simp (disch := decide)))

theorem numericFault_within (t : Nat) (sl : LoopSlot) (i fb : Nat) (start : Bool) : Within stageFlds d (d.numericFault t sl i fb start) := by
  unfold Dev.numericFault
  dsimp only
  split <;> simp (disch := first | decide | (intros; simp (disch := decide)))

theorem slotWords_within (sl : LoopSlot) (st : Inst) (y : Nat) (start hi lo blending : Bool) :
    Within stageFlds d (d.slotWords sl st y start hi lo blending) := by
  unfold Dev.slotWords
  simp (disch := decide)

theorem applied_within (rs : Runs) (sl : LoopSlot) (i y : Nat) (start newBlend : Bool) :
    Within stageFlds d (d.applied rs sl i y start newBlend).1 := by
  unfold Dev.applied
  dsimp only
  split
  · exact (blendStart_within _ _ _).trans (blendStep_within _ _)
  · split
    · exact blendStep_within _ _
    · exact .refl d

theorem within_dev_ite {L : List Fld} (p : Prop) [Decidable p] {x y : SlotAcc} (hx : Within L d x.dev) (hy : Within L d y.dev) :
    Within L d (if p then x else y).dev := by
  split
  · exact hx
  · exact hy

theorem slotRun_within (acc : SlotAcc) (t : Nat) (rs : Runs) (sls : List LoopSlot) (sl : LoopSlot) (i : Nat) :
    Within stageFlds acc.dev (acc.run t rs sls sl i).dev := by
  have hfault := fun fb start => numericFault_within (d := acc.dev) t sl i fb start
  unfold SlotAcc.run
  dsimp only
  refine within_dev_ite _ (hfault _ _) (within_dev_ite _ (hfault _ _) ?_)
  simp (disch := first | decide | (intros; simp (disch := decide) [(slotWords_within _ _ _ _ _ _ _).iff]))
    [(saveInst_within _ _ _).iff, (plausible_within _ _ _ _).iff, applied_within]

theorem destValue_within (rs : Runs) (sls : List LoopSlot) (lawChg : Bool) (k : Nat) : Within stageFlds d (d.destValue rs sls lawChg k) := by
  have hput : ∀ (e : Dev) v, Within stageFlds e (e.put I.CE.DST v k) := fun e v => Within.of_put e I.CE.DST v k (by decide) (by decide)
  unfold Dev.destValue
  dsimp only
  split
  · exact hput _ _
  · split
    · exact (blendStart_within _ _ _).trans ((blendStep_within _ _).trans (hput _ _))
    · split
      · exact (blendStep_within _ _).trans (hput _ _)
      · exact hput _ _

theorem destValues_within (rs : Runs) (sls : List LoopSlot) (lawChg : Bool) : Within stageFlds d (d.destValues rs sls lawChg) :=
  Within.of_foldl _ (fun _ _ => Within.of_foldl _ (fun _ _ => destValue_within _ _ _ _) _ _) _ _

theorem markRan_within (rs : Runs) : Within stageFlds d (d.markRan rs) := by
  have hput : ∀ (e : Dev) v k, Within stageFlds e (e.put I.CE.RAN v k) := fun e v k => Within.of_put e I.CE.RAN v k (by decide) (by decide)
  have hclear : ∀ (sl : LoopSlot) (e : Dev) (i : Nat), Within stageFlds e (if e.is I.CE.RAN (sl.at i) then e.put I.CE.RAN 0 (sl.at i) else e) :=
    fun sl e i => by
      split
      · exact hput _ _ _
      · exact .refl e
  exact (Within.of_foldl _ (fun _ sl => Within.of_foldl _ (hclear sl) _ _) _ _).trans
    (Within.of_foldl _ (fun _ _ => Within.of_foldl _ (fun e _ => hput e _ _) _ _) _ _)

theorem clearSlotBits_within : Within stageFlds d d.clearSlotBits := by
  unfold Dev.clearSlotBits
  refine Within.of_foldl _ (fun e n => Within.of_foldl_mem _ (fun e f hf => ?_) _) _ _
  have hwrites : ∀ g ∈ [R.CE.SLOT_RUN, R.CE.SLOT_STARTED, R.CE.SLOT_NUMERR, R.CE.SLOT_BLEND, R.CE.SLOT_SAT_LO, R.CE.SLOT_SAT_HI, R.CE.SLOT_PL_SKIP],
      g.id < 2048 ∧ hasFld stageFlds g = true := by decide
  obtain ⟨hid, hhas⟩ := hwrites f hf
  split
  · exact Within.of_put _ _ _ _ hid hhas
  · exact .refl e

theorem swapOutcome_within (t : Nat) (lim : List Nat) : Within stageFlds d (d.swapOutcome t lim) := by
  unfold Dev.swapOutcome
  dsimp only
  split
  · exact .refl d
  · split <;> simp (disch := decide)

/-- The slots of a frame run, from cleared status bits. -/
def Dev.slotRuns (d : Dev) (t : Nat) (rs : Runs) : SlotAcc :=
  rs.foldl (fun acc p => p.2.foldl (fun acc i => acc.run t rs d.slots p.1 i) acc) ⟨d.clearSlotBits, false, []⟩

theorem slotsRun_within {e : Dev} (h : Within stageFlds d e) (t : Nat) (rs : Runs) (sls : List LoopSlot) :
    Within stageFlds d (rs.foldl (fun acc p => p.2.foldl (fun acc i => acc.run t rs sls p.1 i) acc) (⟨e, false, []⟩ : SlotAcc)).dev := by
  refine List.foldlRecOn (motive := fun a : SlotAcc => Within stageFlds d a.dev) _ _ h fun a ha p _ => ?_
  exact List.foldlRecOn (motive := fun a : SlotAcc => Within stageFlds d a.dev) _ _ ha fun e he i _ => he.trans (slotRun_within e t rs sls _ i)

theorem slotRuns_within (t : Nat) (rs : Runs) : Within stageFlds d (d.slotRuns t rs).dev :=
  slotsRun_within clearSlotBits_within t rs d.slots

theorem ceSlots_eq (t : Nat) (rs : Runs) : (d.ceSlots t rs).1 =
    ((((d.slotRuns t rs).dev.destValues rs d.slots (d.get I.CE.F_LAW != d.get R.CE.LAW)).markRan rs).swapOutcome t (d.slotRuns t rs).lim).put
      I.CE.FRESH 0 := rfl

theorem ceSlots_within (t : Nat) (rs : Runs) : Within stageFlds d (d.ceSlots t rs).1 := by
  rw [ceSlots_eq, within_put _ _ _ (by decide) (by decide)]
  exact (slotRuns_within _ _).trans ((destValues_within _ _ _).trans ((markRan_within _).trans (swapOutcome_within _ _)))

end Sys2Proof.Machine
end

section
/-! PROOFS. The delivery of an engine frame (R267, R294). -/
namespace Sys2Proof.Machine
variable {d : Dev} {s : State}

theorem RegsKept.of_foldl {α : Type} {L : List Fld} (g : Dev → α → Dev) (h : ∀ e x, RegsKept L e (g e x)) (l : List α) (d : Dev) :
    RegsKept L d (l.foldl g d) :=
  List.foldlRecOn (motive := RegsKept L d) _ _ (.refl d) fun e he x _ => he.trans (h e x)

/-! Up to the commit. -/

def mvTakeFlds : List Fld := raiseFlds ++ [R.CE.MV_LOCK, I.CE.F_RUN, I.CE.MV_CHG, I.CE.FE]

theorem mvLockTake_within (t : Nat) : Within mvTakeFlds d (d.mvLockTake t) := by
  unfold Dev.mvLockTake
  dsimp only
  split
  · exact .refl d
  · split <;> simp (disch := decide)

theorem feImv_within : Within mvTakeFlds d d.feImv := by
  unfold Dev.feImv Dev.putFe
  simp (disch := decide)

def criteriaFlds : List Fld :=
  [R.CE.SYNC_MET, R.MODE.SYNC_OK, I.MODE.SYNC_RUN, I.MODE.DUE_SYNC_EXIT, I.MODE.RT_RUN, I.MODE.DUE_RT_EXIT, I.MODE.RAMP_RUN, R.CE.RAMP_DONE,
   I.MODE.DUE_RAMP]

theorem syncCount_within (sat : Bool) : Within criteriaFlds d (d.syncCount sat) := by
  unfold Dev.syncCount
  dsimp only
  split <;> split <;> simp (disch := decide)

theorem rampCount_within (rs : Runs) : Within criteriaFlds d (d.rampCount rs) := by
  unfold Dev.rampCount
  split <;> simp (disch := decide)

def backFlds : List Fld := [I.CE.VSTAR, I.CE.LV_V, I.CE.HB_DUTY, R.CE.CELL_D1, R.CE.CELL_D2]

theorem backEnd_within : Within backFlds d d.backEnd := by
  unfold Dev.backEnd
  simp (disch := first | decide | (intros; simp (disch := decide)))

theorem lvLockCommit_within (t : Nat) : Within (R.CE.LV_LOCK :: raiseFlds) d (d.lvLockCommit t) := by
  unfold Dev.lvLockCommit
  dsimp only
  split <;> simp (disch := decide)

/-- The frame with its loop slots run, up to its commit. -/
def Dev.computed (d : Dev) (t : Nat) : Dev :=
  let d0 := (d.mvLockTake t).feImv
  let p := d0.ceSlots t d0.runsOf
  ((p.1.syncCount p.2).rampCount d0.runsOf).backEnd.lvLockCommit t

/-- What a frame writes before its commit. -/
def computeFlds : List Fld := stageFlds ++ [R.CE.MV_LOCK, I.CE.F_RUN, I.CE.MV_CHG, I.CE.FE, R.CE.LV_LOCK] ++ criteriaFlds ++ backFlds

theorem computed_within (t : Nat) : Within computeFlds d (d.computed t) := by
  unfold Dev.computed
  exact ((mvLockTake_within t).mono (by decide)).trans ((feImv_within.mono (by decide)).trans (((ceSlots_within _ _).mono (by decide)).trans
    (((syncCount_within _).mono (by decide)).trans (((rampCount_within _).mono (by decide)).trans ((backEnd_within.mono (by decide)).trans
      ((lvLockCommit_within t).mono (by decide)))))))

/-! The commit (R294). -/

def commitFlds : List Fld :=
  [I.CE.TH, I.CE.OM, I.CE.X, I.CE.RUN, I.CE.HIST_IX, I.CE.HIST_A, I.CE.HIST_B, R.CE.IN_BAND_RUN, R.CE.OUT_BAND_RUN, R.CE.GRID_FAULT, R.CE.THETA_MV,
   R.CE.OMEGA_MV, R.CE.VP_PU, R.CE.THETA_LV, R.CE.OMEGA_LV, R.CE.LV_VBUS, I.CE.LVLAW_LAST, R.CE.LAW_PREV, R.CE.LAW, I.CE.MV_CHG]

/-- The states that a commit takes from the front end. -/
def Dev.commitStates (d : Dev) : Dev :=
  let d1 := d.forN 2 (fun d p => (((d.put I.CE.TH (d.get I.CE.F_TH p) p).put I.CE.OM (d.get I.CE.F_OM p) p).put I.CE.X (d.get I.CE.F_X p) p).put
    I.CE.RUN (d.get I.CE.F_RUN p) p)
  let ix := (d.get I.CE.HIST_IX + 1) % 16384
  let d2 := ((d1.put I.CE.HIST_IX ix).put I.CE.HIST_A (d.get I.CE.F_ALPHA) ix).put I.CE.HIST_B (d.get I.CE.F_BETA) ix
  let d3 := (d2.put R.CE.IN_BAND_RUN (d.get I.CE.F_IN)).put R.CE.OUT_BAND_RUN (d.get I.CE.F_OUT)
  d3.onlyIf (d.get I.CE.F_OUT = 0) (fun d => d.put R.CE.GRID_FAULT 0)

/-- The registers that show a commit, over the states that it takes. -/
def Dev.commitShown (e d : Dev) : Dev :=
  let d5 := [(R.CE.THETA_MV, 0), (R.CE.OMEGA_MV, 1), (R.CE.VP_PU, 4), (R.CE.THETA_LV, 8), (R.CE.OMEGA_LV, 9), (R.CE.LV_VBUS, 16)].foldl
    (fun e p => e.put p.1 (e.get I.CE.FE p.2)) e
  (((d5.put I.CE.LVLAW_LAST (d.get R.CE.LV_LAW)).put R.CE.LAW_PREV (d.get R.CE.LAW)).put R.CE.LAW (d.get I.CE.F_LAW)).put I.CE.MV_CHG 0

theorem feCommit_eq : d.feCommit = d.commitStates.commitShown d := rfl

theorem commitStates_within : Within commitFlds d d.commitStates := by
  unfold Dev.commitStates
  simp (disch := first | decide | (intros; simp (disch := decide)))

theorem commitShown_within (e : Dev) : Within commitFlds e (e.commitShown d) := by
  unfold Dev.commitShown
  simp (disch := decide)

theorem commitShown_get (e : Dev) : (e.commitShown d).get R.CE.LAW = d.get I.CE.F_LAW % 16 ∧ (e.commitShown d).get R.CE.LAW_PREV = d.get R.CE.LAW % 16 ∧
    (e.commitShown d).get R.CE.THETA_MV = e.get I.CE.FE 0 % 2 ^ 32 := by
  unfold Dev.commitShown
  refine ⟨?_, ?_, ?_⟩ <;> simp (disch := decide) [Fld.width, R.CE.LAW, R.CE.LAW_PREV, R.CE.THETA_MV]

theorem feCommit_within : Within commitFlds d d.feCommit := by
  rw [feCommit_eq]
  exact commitStates_within.trans (commitShown_within _)

theorem feCommit_get : d.feCommit.get R.CE.LAW = d.get I.CE.F_LAW % 16 ∧ d.feCommit.get R.CE.LAW_PREV = d.get R.CE.LAW % 16 ∧
    d.feCommit.get R.CE.THETA_MV = d.get I.CE.FE 0 % 2 ^ 32 := by
  obtain ⟨hlaw, hprev, htheta⟩ := commitShown_get (d := d) d.commitStates
  rw [feCommit_eq]
  exact ⟨hlaw, hprev, by rw [htheta, commitStates_within.regsKept.get (by decide) (by decide)]⟩

/-! After the commit. -/

theorem ceTime_within (t : Nat) : Within (R.CE.CE_TIME_LAST :: R.CE.CE_TIME_MAX :: raiseFlds) d (d.ceTime t) := by
  unfold Dev.ceTime
  dsimp only
  split <;> simp (disch := decide)

/-- The delivered frame marked: its time, its blends, and no overrun. -/
def Dev.marked (d : Dev) (t : Nat) : Dev :=
  let d3 := (d.ceTime t).flag R.CE.BLEND ((List.range 1584).any (fun k => d.is I.CE.B_ON k))
  (((d3.put R.CE.OVR_LAST 0).put R.CE.OVR_RUN 0).put I.CE.OVR_QUIET (d3.get I.CE.OVR_QUIET - 1)).put I.CE.BUSY 0

def markFlds : List Fld :=
  [R.CE.CE_TIME_LAST, R.CE.CE_TIME_MAX] ++ raiseFlds ++ [R.CE.BLEND, R.CE.OVR_LAST, R.CE.OVR_RUN, I.CE.OVR_QUIET, I.CE.BUSY]

theorem marked_within (t : Nat) : Within markFlds d (d.marked t) := by
  unfold Dev.marked
  have htime : Within markFlds d (d.ceTime t) := (ceTime_within t).mono (by decide)
  simpa (disch := decide) using htime

theorem marked_get (t : Nat) : (d.marked t).get I.CE.BUSY = 0 ∧ (d.marked t).get R.CE.OVR_LAST = 0 ∧ (d.marked t).get R.CE.OVR_RUN = 0 := by
  unfold Dev.marked
  refine ⟨?_, ?_, ?_⟩ <;> simp (disch := decide)

/-- The losses of the cells and the counts of stage 6 and 7. -/
def Dev.lossesTaken (d : Dev) : Dev := (d.ceLosses.perf 3 2 15).perf 3 6 15 (d.get R.CE.BLEND)

theorem cellLoss_within (c : Nat) : Within [R.CE.CELL_PLOSS_BR, R.CE.CELL_PLOSS_DAB] d (d.cellLoss c) := by
  unfold Dev.cellLoss
  simp (disch := decide)

/-- What follows the commit of a frame writes, its marks aside. -/
def afterFlds : List Fld :=
  raiseFlds ++ frameCountFlds ++ [R.CE.CELL_PLOSS_BR, R.CE.CELL_PLOSS_DAB, I.MODE.DUE_SYNC, I.THERM.CELL_DT, I.CELL.FIRST, R.THERM.CELL_TJ_BR,
    R.THERM.CELL_TJ_DAB, I.THERM.TJ_ON, I.THERM.BIN_CNT, I.THERM.OP_NS, I.THERM.OP_MS]

theorem lossesTaken_within : Within afterFlds d d.lossesTaken := by
  have hcell : ∀ (e : Dev) (c : Nat), Within afterFlds e (if e.cellUsed c then e.cellLoss c else e) := fun e c => by
    split
    · exact (cellLoss_within c).mono (by decide)
    · exact .refl e
  have hall : Within afterFlds d d.ceLosses := Within.of_foldl _ hcell _ _
  unfold Dev.lossesTaken
  simpa (disch := decide) using hall

theorem precharge_within : Within afterFlds d d.precharge := by
  unfold Dev.precharge
  split
  · simp (disch := decide)
  · exact .refl d

/-! The cell networks and Teasel. -/

theorem cellNode_within (c net i p : Nat) : Within afterFlds d (d.cellNode c net i p) := Within.of_put _ _ _ _ (by decide) (by decide)

theorem cellThermal_within (t c : Nat) : Within afterFlds d (d.cellThermal t c) := by
  unfold Dev.cellThermal
  dsimp only
  split
  · exact .refl d
  · simp (disch := first | decide | (intros; simp (disch := decide))) [(cellNode_within _ _ _ _).iff]

/-- No register but those of a list changed: the rainflows may. -/
theorem setRain_regsKept (L : List Fld) (r : Rain) : RegsKept L d (d.setRain r) := fun _ _ _ _ => rfl

theorem countCycle_regsKept (c a b n : Nat) : RegsKept afterFlds d (d.countCycle c a b n) := by
  have hcount : Within afterFlds d (d.countCycle c a b n) := by
    unfold Dev.countCycle
    simp (disch := decide)
  exact hcount.regsKept

theorem teaselTake_regsKept (c : Nat) : RegsKept afterFlds d (d.teaselTake c) := by
  unfold Dev.teaselTake
  dsimp only
  split
  · exact setRain_regsKept _ _
  · split
    · exact (setRain_regsKept _ _).trans (RegsKept.of_foldl _ (fun _ _ => countCycle_regsKept _ _ _ _) _ _)
    · exact setRain_regsKept _ _

theorem opTime_within (c : Nat) : Within afterFlds d (d.opTime c) := by
  unfold Dev.opTime
  simp (disch := decide)

theorem teaselFrame_regsKept : RegsKept afterFlds d d.teaselFrame := by
  refine RegsKept.of_foldl _ (fun e c => ?_) _ _
  split
  · exact (teaselTake_regsKept c).trans (opTime_within c).regsKept
  · exact .refl e

/-! The source samples and the mirror frame. -/

theorem setNet_regsKept (L : List Fld) (n : Net) : RegsKept L d (d.setNet n) := fun _ _ _ _ => rfl

theorem svFeed_regsKept (L : List Fld) (b : SrcSample) (upto : Nat) : RegsKept L d (d.svFeed b upto) := by
  unfold Dev.svFeed
  dsimp only
  refine RegsKept.trans (RegsKept.of_foldl _ (fun e n => ?_) _ _) (setNet_regsKept L _)
  split
  · exact setNet_regsKept L _
  · exact .refl e

theorem svFeedFrame_regsKept (L : List Fld) : RegsKept L d d.svFeedFrame := by
  refine RegsKept.of_foldl _ (fun e sig => ?_) _ _
  dsimp only
  split
  · split
    · split
      · exact svFeed_regsKept L _ _
      · exact .refl e
    · exact .refl e
  · exact svFeed_regsKept L _ _

theorem mirrorSend_within (t : Nat) : Within afterFlds d (d.mirrorSend t) := by
  unfold Dev.mirrorSend
  dsimp only
  split
  · exact .refl d
  · simp (disch := decide)

/-- What follows the commit of a frame. -/
def Dev.afterMarks (d : Dev) (t : Nat) : Dev :=
  ((((d.lossesTaken.precharge).forN 144 (fun d c => d.cellThermal t c)).teaselFrame).svFeedFrame.mirrorSend t).perfFrame false

theorem afterMarks_regsKept (t : Nat) : RegsKept afterFlds d (d.afterMarks t) := by
  have hcells : ∀ e : Dev, Within afterFlds e (e.forN 144 (fun d c => d.cellThermal t c)) := fun e => Within.of_foldl _ (fun _ c => cellThermal_within t c) _ e
  unfold Dev.afterMarks
  exact (lossesTaken_within.regsKept.trans precharge_within.regsKept).trans ((hcells _).regsKept.trans (teaselFrame_regsKept.trans
    ((svFeedFrame_regsKept _).trans ((mirrorSend_within t).regsKept.trans ((perfFrame_within false).regsKept.mono (by decide))))))

/-! CE_DELIVERY (R267, R294). -/

theorem delivered_eq (t : Nat) : d.delivered t = ((d.computed t).feCommit.marked t).afterMarks t := rfl

theorem marked_afterCommit (t : Nat) : RegsKept (markFlds ++ afterFlds) (d.computed t).feCommit (d.delivered t) := by
  rw [delivered_eq]
  exact ((marked_within t).regsKept.mono (by decide)).trans ((afterMarks_regsKept t).mono (by decide))

/-- What a delivered frame leaves. -/
structure FrameDelivered (d e : Dev) : Prop where
  idle     : e.get I.CE.BUSY = 0
  noMiss   : e.get R.CE.OVR_LAST = 0
  noRun    : e.get R.CE.OVR_RUN = 0
  law      : e.get R.CE.LAW = d.get I.CE.F_LAW % 16
  lawPrev  : e.get R.CE.LAW_PREV = d.get R.CE.LAW % 16
  theta    : e.get R.CE.THETA_MV = e.get I.CE.FE 0 % 2 ^ 32
  frame    : RegsKept (computeFlds ++ commitFlds ++ markFlds ++ afterFlds) d e

theorem delivered_frame (t : Nat) : FrameDelivered d (d.delivered t) := by
  obtain ⟨hidle, hlast, hrun⟩ := marked_get (d := (d.computed t).feCommit) t
  obtain ⟨hlaw, hprev, htheta⟩ := feCommit_get (d := d.computed t)
  have hcomp := (computed_within (d := d) t).regsKept
  have hcommit := (feCommit_within (d := d.computed t)).regsKept
  have htail : RegsKept afterFlds ((d.computed t).feCommit.marked t) (d.delivered t) := afterMarks_regsKept t
  have hend := marked_afterCommit (d := d) t
  exact {
    idle := by rw [htail.get (by decide) (by decide), hidle]
    noMiss := by rw [htail.get (by decide) (by decide), hlast]
    noRun := by rw [htail.get (by decide) (by decide), hrun]
    law := by rw [hend.get (by decide) (by decide), hlaw, hcomp.get (by decide) (by decide)]
    lawPrev := by rw [hend.get (by decide) (by decide), hprev, hcomp.get (by decide) (by decide)]
    theta := by
      rw [hend.get (f := R.CE.THETA_MV) (by decide) (by decide), htheta, hend.get (f := I.CE.FE) (by decide) (by decide),
        hcommit.get (f := I.CE.FE) (by decide) (by decide)]
    frame := (hcomp.mono (by decide +kernel)).trans ((hcommit.mono (by decide +kernel)).trans (hend.mono (by decide +kernel))) }

theorem exec_ceDelivery (hready : s.dev.ceReady = true) :
    exec .ceDelivery s = .next { s with dev := (s.dev.delivered s.clk.ns).settle s.clk.ns } := by
  show execCeDelivery s = _
  rw [execCeDelivery, State.onDev_next, if_pos hready]

theorem exec_ceDelivery_notReady (hready : s.dev.ceReady = false) : exec .ceDelivery s = .next s := by
  show execCeDelivery s = _
  rw [execCeDelivery, State.onDev_next, hready, if_neg Bool.false_ne_true]

theorem ceDelivery_does (hready : s.dev.ceReady = true) : Does .ceDelivery s fun d =>
    d.get I.CE.BUSY = 0 ∧ d.get R.CE.OVR_LAST = 0 ∧ d.get R.CE.OVR_RUN = 0 ∧ d.get R.CE.LAW = s.dev.get I.CE.F_LAW % 16 ∧
    d.get R.CE.LAW_PREV = s.dev.get R.CE.LAW % 16 ∧ d.get R.CE.THETA_MV = d.get I.CE.FE 0 % 2 ^ 32 ∧
    Claim.Untouched [wSnap, wStage, wTb, wReam, wFelt, wCell, wMod, wCal, wAfe, wSafe] s.dev d := by
  obtain ⟨hidle, hmiss, hrun, hlaw, hprev, htheta, hframe⟩ := delivered_frame (d := s.dev) s.clk.ns
  exact ⟨_, exec_ceDelivery hready, hidle, hmiss, hrun, hlaw, hprev, htheta, hframe.untouched (by decide +kernel)⟩

/-- Settles O34, by the frames of the parts of the engine: its start writes after the cut of the AFE results nothing of the cut, its
delivery writes the law, its predecessor and the angle once, at the commit, and an overrun is marked before its instance is raised. -/
theorem engineFrame : Obligations.EngineFrame := fun _ =>
  ⟨ceFrameStart_does, ceDelivery_does, exec_ceDelivery_notReady, ceOverrun_does⟩

end Sys2Proof.Machine
end

section
/-! PROOFS. A YIELD whose conditions do not hold (R419), on a module whose register TB_INHIBIT holds a number that no bit is. -/
namespace Sys2Proof.Machine

theorem exec_yield {s : State} {src : Source} (h : Accepts s src (winAddr wPart 0xC) (2 + s.dev.partCtl)) : exec (.yield src) s =
    .next { s with dev :=
      ((s.dev.counted src).writeAct s.clk.ns src (winAddr wPart 0xC) (2 + s.dev.partCtl)).settle s.clk.ns } :=
  hostWrite_accepts h

/-- A YIELD that writes nothing but TB_INHIBIT leaves HANDOVER_PEND alone. -/
theorem yield_pend_kept {s : State} {src : Source} {P : Dev → Prop} (h : Accepts s src (winAddr wPart 0xC) (2 + s.dev.partCtl))
    (hdoes : Does (.yield src) s fun d => P d ∧ Within (countFlds ++ [R.PART.TB_INHIBIT]) s.dev d) :
    ((s.dev.counted src).writeAct s.clk.ns src (winAddr wPart 0xC) (2 + s.dev.partCtl)).get R.PART.HANDOVER_PEND =
      s.dev.get R.PART.HANDOVER_PEND := by
  obtain ⟨d, hexec, -, hframe⟩ := hdoes
  have hsame := congrArg State.dev (Host.Outcome.next.inj ((exec_yield h).symm.trans hexec))
  dsimp only at hsame
  have hsettle : ∀ e : Dev, (e.settle s.clk.ns).get R.PART.HANDOVER_PEND = e.get R.PART.HANDOVER_PEND := fun e =>
    (settle_within _).regsKept.get (by decide) (by decide) 0
  rw [← hsettle, hsame, hsettle, hframe.regsKept.get (by decide) (by decide)]

/-- The registers of a strapped primary in RUN, its partner heard and ready. -/
def strappedRegs : List (Fld × Nat) :=
  [(R.MODE.STATE, 7), (I.MODE.BOOT_STEP, 0), (I.HIF.READY, 1), (R.TB.PLL_T_LOCK, 1), (R.TB.PLL_N_LOCK, 1), (R.TB.PLL_S_LOCK, 1), (R.TB.ROOT_OK, 1),
   (R.TB.DECKLE_RUN, 1), (I.THERM.JRN_DONE, 1), (R.PART.STRAP, 1), (R.PART.PRIMARY, 1), (I.PART.BEAT_OK, 1), (I.PART.BEAT_READY, 1)]

def strappedDev : Dev := strappedRegs.foldl (fun d p => d.put p.1 p.2) Dev.reset

/-- The strapped primary with 2 in the store of TB_INHIBIT, a register of one bit: the inhibit holds until the write of PART_CTL, which
keeps the bit of it that the word shows, and clears it. -/
def overwideInhibit : State :=
  { State.reset with
    clk := ⟨1000000000, 0, 0, 0⟩
    dev := { strappedDev with regs := Store.set storeDepth strappedDev.regs (R.PART.TB_INHIBIT.key 0) 2 } }

theorem overwideInhibit_hand : overwideInhibit.dev.get I.PART.HAND = 0 := by decide +kernel

theorem overwideInhibit_notFits : overwideInhibit.dev.yieldFits = false := by decide +kernel

theorem overwideInhibit_accepts : Accepts overwideInhibit .pf0 (winAddr wPart 0xC) (2 + overwideInhibit.dev.partCtl) where
  up := by decide +kernel
  direct h := absurd h (by decide)
  clean := List.isEmpty_iff.1 (by decide +kernel)

/-- The write of YIELD clears the inhibit and then fixes the handover. -/
theorem overwideInhibit_yields : ((overwideInhibit.dev.counted .pf0).writeAct overwideInhibit.clk.ns .pf0 (winAddr wPart 0xC)
    (2 + overwideInhibit.dev.partCtl)).get R.PART.HANDOVER_PEND ≠ overwideInhibit.dev.get R.PART.HANDOVER_PEND := by decide +kernel

/-- Refutes O8: where the store of TB_INHIBIT holds 2, the conditions of a handover fail before the write of YIELD and hold after it, and
the handover that the statement excludes is fixed. -/
theorem not_laterRequests : ¬ Obligations.LaterRequests := by
  rintro ⟨-, hyield⟩
  obtain ⟨-, hrefused⟩ := hyield overwideInhibit .pf0 overwideInhibit_accepts overwideInhibit_hand
  exact overwideInhibit_yields (yield_pend_kept overwideInhibit_accepts (hrefused overwideInhibit_notFits))

end Sys2Proof.Machine
end

section
/-! PROOFS. The filtered comparators (R342, R343) and the internal sequence of a module without a Ream (R425). -/
namespace Sys2Proof.Machine
variable {d : Dev} {s : State}

/-! WC_FILTERED_CHANGE. -/

/-- The hysteretic states of a comparator and its filtered condition. -/
def Dev.wcTaken (d : Dev) (w : Nat) (high low c : Bool) : Dev :=
  ((d.setBitOf I.AFE.WC_H w high).setBitOf I.AFE.WC_L w low).setBitOf I.AFE.WC_C w c

theorem wcTaken_within (w : Nat) (high low c : Bool) : Within [I.AFE.WC_H, I.AFE.WC_L, I.AFE.WC_C] d (d.wcTaken w high low c) := by
  unfold Dev.wcTaken
  simp (disch := decide)

theorem wcTaken_bit {w : Nat} (hw : w < 24) (high low c : Bool) : bitOf ((d.wcTaken w high low c).get I.AFE.WC_C) w = c.toNat :=
  setBitOf_bit_same I.AFE.WC_C c 0 hw

/-- The latch of a comparator set and counted, and its instance raised. -/
def Dev.wcRaised (d : Dev) (t w det : Nat) : Dev :=
  (((d.setBitOf R.AFE.WC_LATCH w true).bump R.AFE.WC_LATCH_CNT w).perf 5 4 15).raise t 9 w det true

theorem wcLatch_eq (t : Nat) {w : Nat} (high : Bool) (hlatch : bitOf (d.get R.AFE.WC_LATCH) w = 0) : ∃ det, d.wcLatch t w high =
    if d.is R.AFE.WC_ROLE w && d.get R.LVD.TRIP_MAP w != 0 then (d.wcRaised t w det).raise t 8 (136 + w) (d.get R.LVD.TRIP_MAP w) true
    else d.wcRaised t w det := by
  refine ⟨if high then 1 else 2, ?_⟩
  rw [Dev.wcLatch, hlatch, if_neg (by decide)]
  rfl

/-- What the latch of a comparator writes, its own count aside. -/
def wcLatchFlds : List Fld := raiseFlds ++ [R.AFE.WC_LATCH]

theorem hasEl_wcCount (w : Nat) : hasEl [(R.AFE.WC_LATCH_CNT, w)] I.AFE.WC_C 0 = false :=
  hasEl_map_of_not_hasFld (fs := [R.AFE.WC_LATCH_CNT]) (by decide) w 0

theorem wcRaised_within (t w det : Nat) : Within wcLatchFlds d (d.wcRaised t w det) [(R.AFE.WC_LATCH_CNT, w)] := by
  have hown : hasEl [(R.AFE.WC_LATCH_CNT, w)] R.AFE.WC_LATCH_CNT w = true := by simp [hasEl]
  unfold Dev.wcRaised
  simp (disch := first | decide | exact hown)

theorem wcRaised_latched (t det : Nat) {w : Nat} (hw : w < 24) : bitOf ((d.wcRaised t w det).get R.AFE.WC_LATCH) w = 1 := by
  have hafter : ∀ e : Dev, ((((e.bump R.AFE.WC_LATCH_CNT w).perf 5 4 15).raise t 9 w det true).get R.AFE.WC_LATCH) = e.get R.AFE.WC_LATCH := fun e => by
    rw [(raise_within _ _ _ _ _).regsKept.get (by decide) (by decide), (perf_within _ _ _ _).regsKept.get (by decide) (by decide)]
    simp (disch := decide) [Dev.bump]
  rw [Dev.wcRaised, hafter]
  exact setBitOf_bit_same R.AFE.WC_LATCH true 0 hw

/-- What a comparator that comes to its condition does. -/
structure Latched (d e : Dev) (w : Nat) : Prop where
  latch  : bitOf (e.get R.AFE.WC_LATCH) w = 1
  raised : Raised e 9 w
  trip   : d.is R.AFE.WC_ROLE w = true → d.get R.LVD.TRIP_MAP w ≠ 0 → Raised e 8 (136 + w)
  frame  : Within wcLatchFlds d e [(R.AFE.WC_LATCH_CNT, w)]

theorem wcLatch_latched (t : Nat) {w : Nat} (hw : w < 24) (high : Bool) (hlatch : bitOf (d.get R.AFE.WC_LATCH) w = 0) : Latched d (d.wcLatch t w high) w := by
  obtain ⟨det, heq⟩ := wcLatch_eq (d := d) t high hlatch
  have hbit := wcRaised_latched (d := d) t det hw
  have hraised : Raised (d.wcRaised t w det) 9 w := raise_raised _ _ _ _ _ (by omega)
  have hframe := wcRaised_within (d := d) t w det
  rw [heq]
  split
  next htrip =>
    constructor
    · rw [(raise_within _ _ _ _ _).regsKept.get (by decide) (by decide), hbit]
    · exact (raise_sticky _ _ _ _ _).raised hraised
    · exact fun _ _ => raise_raised _ _ _ _ _ (by omega)
    · exact hframe.trans ((raise_within _ _ _ _ _).weaken (by decide) (by simp))
  next hno =>
    constructor
    · exact hbit
    · exact hraised
    · exact fun hrole hmap => absurd (by simp [hrole, hmap]) hno
    · exact hframe

theorem exec_wcFilteredChange {w : Fin 24} {high low : Bool} (hruns : s.dev.afeRuns = true) (hmode : s.dev.get R.AFE.WC_WMODE w ≠ 0) :
    let c := condition (s.dev.get R.AFE.WC_WMODE w) high low
    let e := s.dev.wcTaken w high low c
    exec (.wcFilteredChange w high low) s = .next { s with dev :=
      (if c && bitOf (s.dev.get I.AFE.WC_C) w = 0 then e.wcLatch s.clk.ns w (high && s.dev.get R.AFE.WC_WMODE w != 2) else e).settle s.clk.ns } := by
  show execWcFilteredChange w high low s = _
  simp [execWcFilteredChange, hruns, hmode, Dev.wcTaken]

theorem wcFilteredChange_latches {w : Fin 24} {high low : Bool} (hruns : s.dev.afeRuns = true) (hmode : s.dev.get R.AFE.WC_WMODE w ≠ 0)
    (hcond : condition (s.dev.get R.AFE.WC_WMODE w) high low = true) (hold : bitOf (s.dev.get I.AFE.WC_C) w = 0)
    (hlatch : bitOf (s.dev.get R.AFE.WC_LATCH) w = 0) : Does (.wcFilteredChange w high low) s fun d =>
      bitOf (d.get I.AFE.WC_C) w = 1 ∧ bitOf (d.get R.AFE.WC_LATCH) w = 1 ∧ Raised d 9 w ∧
      (s.dev.is R.AFE.WC_ROLE w = true → s.dev.get R.LVD.TRIP_MAP w ≠ 0 → Raised d 8 (136 + w)) ∧
      Within (raiseFlds ++ [I.AFE.WC_H, I.AFE.WC_L, I.AFE.WC_C, R.AFE.WC_LATCH]) s.dev d [(R.AFE.WC_LATCH_CNT, w)] := by
  have htaken := wcTaken_within (d := s.dev) w high low true
  have hkept : ∀ {f : Fld}, f.id < 2048 → hasFld [I.AFE.WC_H, I.AFE.WC_L, I.AFE.WC_C] f = false → ∀ i, (s.dev.wcTaken w high low true).get f i = s.dev.get f i :=
    fun hf h i => htaken.regsKept.get hf h i
  obtain ⟨hbit, hraised, htrip, hframe⟩ := wcLatch_latched (d := s.dev.wcTaken w high low true) s.clk.ns w.isLt (high && s.dev.get R.AFE.WC_WMODE w != 2)
    (by rwa [hkept (by decide) (by decide)])
  refine ⟨_, by rw [exec_wcFilteredChange hruns hmode, hcond, hold]; rfl, ?_, hbit, hraised, fun hrole hmap => htrip ?_ ?_, ?_⟩
  · rw [hframe.regs _ (by decide) (by decide) 0 (hasEl_wcCount w), wcTaken_bit w.isLt]
    rfl
  · rwa [Dev.is, hkept (by decide) (by decide), ← Dev.is]
  · rwa [hkept (by decide) (by decide)]
  · exact (htaken.addEls.mono (by decide)).trans (hframe.weaken (by decide) (fun _ h => h))

theorem wcFilteredChange_ends {w : Fin 24} {high low : Bool} (hruns : s.dev.afeRuns = true) (hmode : s.dev.get R.AFE.WC_WMODE w ≠ 0)
    (hcond : condition (s.dev.get R.AFE.WC_WMODE w) high low = false) : Does (.wcFilteredChange w high low) s fun d =>
      bitOf (d.get I.AFE.WC_C) w = 0 ∧ d.get R.AFE.WC_LATCH = s.dev.get R.AFE.WC_LATCH ∧ Within [I.AFE.WC_H, I.AFE.WC_L, I.AFE.WC_C] s.dev d := by
  have htaken := wcTaken_within (d := s.dev) w high low false
  refine ⟨_, by rw [exec_wcFilteredChange hruns hmode, hcond]; rfl, wcTaken_bit w.isLt _ _ _, ?_, htaken⟩
  exact htaken.regsKept.get (by decide) (by decide) 0

/-! HK_SEQUENCE. -/

/-- The nine codes of the internal sequence, kept. -/
def Dev.hkCodes (d : Dev) (codes : Nat) : Dev := d.forN 9 (fun d k => d.put I.THERM.INT_CODE (bitsOf codes (16 * k + 15) (16 * k)) k)

theorem hkCodes_within (codes : Nat) : Within [I.THERM.INT_CODE] d (d.hkCodes codes) :=
  Within.of_foldl _ (fun e k => Within.of_put e I.THERM.INT_CODE _ k (by decide) (by decide)) _ d

theorem hkCodes_get (codes : Nat) {k : Nat} (hk : k < 9) : (d.hkCodes codes).get I.THERM.INT_CODE k = bitsOf codes (16 * k + 15) (16 * k) % 65536 := by
  unfold Dev.hkCodes Dev.forN
  refine foldl_establishes (I := fun _ => True) (Q := fun e => e.get I.THERM.INT_CODE k = bitsOf codes (16 * k + 15) (16 * k) % 65536)
    (List.range 9) (List.mem_range.2 hk) (fun _ _ _ _ => trivial) (fun e _ => ?_) (fun e j hj hjk _ he => ?_) trivial
  · rw [Dev.get_put_same]
    rfl
  · have hlt := List.mem_range.1 hj
    rwa [Dev.get_put_ne _ _ _ _ _ _ (by decide) (by decide) (.inr (by omega))]

theorem exec_hkSequence {codes : BitVec 144} (hream : s.dev.ream.active = none) (hmode : s.dev.mode ≠ .backup) (hboot : s.dev.get I.MODE.BOOT_STEP ≠ 1) :
    exec (.hkSequence codes) s = .next { s with dev := (s.dev.hkCodes codes.toNat).put I.THERM.INT_NS (s.clk.ns + 1) } := by
  show execHkSequence codes s = _
  simp [execHkSequence, hream, hmode, hboot, Dev.hkCodes]

theorem hkSequence_keeps {codes : BitVec 144} (hream : s.dev.ream.active = none) (hmode : s.dev.mode ≠ .backup) (hboot : s.dev.get I.MODE.BOOT_STEP ≠ 1) :
    Gives (.hkSequence codes) s fun t =>
      (∀ k < 9, t.dev.get I.THERM.INT_CODE k = bitsOf codes.toNat (16 * k + 15) (16 * k) % 65536) ∧
      t.dev.get I.THERM.INT_NS = (s.clk.ns + 1) % 2 ^ I.THERM.INT_NS.width ∧ Frame [I.THERM.INT_CODE, I.THERM.INT_NS] s t := by
  have hput : Within [I.THERM.INT_CODE, I.THERM.INT_NS] s.dev ((s.dev.hkCodes codes.toNat).put I.THERM.INT_NS (s.clk.ns + 1)) :=
    (hkCodes_within _).mono (by decide) |>.trans (Within.of_put _ _ _ _ (by decide) (by decide))
  refine ⟨_, exec_hkSequence hream hmode hboot, fun k hk => ?_, Dev.get_put_same _ _ _ _, hput, rfl, rfl, rfl⟩
  dsimp only
  rw [Dev.get_put_other _ _ _ _ _ _ (by decide) (by decide) (by decide), hkCodes_get _ hk]

end Sys2Proof.Machine
end

section
/-! PROOFS. The watchers of the fault collector (R355, R364, R365), SIG_OK (R374, R376) and the test access port (R532). -/
namespace Sys2Proof.Machine
variable {d : Dev} {s : State}

theorem quietPeriodExpiry_marks (cls : Fin 16) (inst : BitVec 8) : Gives (.quietPeriodExpiry cls inst) s fun t =>
    t.dev.active = s.dev.active.map (fun a => if a.cls = cls.val ∧ a.inst = inst.toNat ∧ a.quiet.isSome then { a with elapsed := true } else a) ∧
      Frame [] s t := by
  refine ⟨_, rfl, ?_, (within_mapActive _ _ _).2 (.refl _), rfl, rfl, rfl⟩
  show s.dev.active.map _ = _
  refine List.map_congr_left fun a _ => ?_
  by_cases hcls : a.cls = cls.val ∧ a.inst = inst.toNat
  · obtain ⟨hc, hi⟩ := hcls
    simp [hc, hi]
  · rw [if_neg hcls, if_neg fun h => hcls ⟨h.1, h.2.1⟩]

theorem recovWindowExpiry_ends {u : Fin 173} (hopen : s.dev.is I.FLT.WIN_NS u = true) : Gives (.recovWindowExpiry u) s fun t =>
    t.dev.get I.FLT.WIN_NS u = 0 ∧ t.dev.get R.FLT.UNIT_WIN_LEFT u = 0 ∧ Frame [] s t [(I.FLT.WIN_NS, u), (R.FLT.UNIT_WIN_LEFT, u)] := by
  have hexec : exec (.recovWindowExpiry u) s = .next { s with dev := (s.dev.put I.FLT.WIN_NS 0 u).put R.FLT.UNIT_WIN_LEFT 0 u } := by
    show execRecovWindowExpiry u s = _
    rw [execRecovWindowExpiry, State.onDev_next, if_pos hopen]
  have hwin : hasEl [(I.FLT.WIN_NS, u.val), (R.FLT.UNIT_WIN_LEFT, u.val)] I.FLT.WIN_NS u = true := by simp [hasEl]
  have hleft : hasEl [(I.FLT.WIN_NS, u.val), (R.FLT.UNIT_WIN_LEFT, u.val)] R.FLT.UNIT_WIN_LEFT u = true := by simp [hasEl]
  refine ⟨_, hexec, ?_, ?_, ?_, rfl, rfl, rfl⟩
  · simp (disch := decide)
  · simp (disch := decide)
  · exact (Within.of_put_at _ _ _ _ (by decide) hwin).trans (Within.of_put_at _ _ _ _ (by decide) hleft)

/-- A command that raises an instance of the module's own supervision does what the raising does. -/
theorem does_raise {c : Instr} {inst det : Nat} (hexec : exec c s = .next { s with dev := (s.dev.raise s.clk.ns 15 inst det).settle s.clk.ns })
    (hinst : inst < 256) : Does c s fun d => Raised d 15 inst ∧ Within raiseFlds s.dev d :=
  ⟨_, hexec, raise_raised _ _ _ _ _ hinst, raise_within _ _ _ _ _⟩

theorem eccError_raises (corrected : Bool) (region : BitVec 16) (hsup : s.dev.supervised = true) : Does (.eccError corrected region) s fun d =>
    Raised d 15 (if corrected then 2 else 3) ∧ Within raiseFlds s.dev d := by
  refine does_raise (det := region.toNat) ?_ (by cases corrected <;> decide)
  show execEccError corrected region s = _
  rw [execEccError, State.onDev_next, if_pos hsup]

theorem sigokReadbackFault_raises (hsup : s.dev.supervised = true) : Does .sigokReadbackFault s fun d => Raised d 15 4 ∧ Within raiseFlds s.dev d := by
  refine does_raise (det := 0) ?_ (by decide)
  show execSigokReadbackFault s = _
  rw [execSigokReadbackFault, State.onDev_next, if_pos hsup]

theorem sigHoldNow_get : d.sigHoldNow.get R.FLT.SIGOK_STATE = sigHold ∧ d.sigHoldNow.get R.FLT.SIGOK_PIN = 0 ∧ d.sigHoldNow.get R.FLT.ALIVE = 0 ∧
    d.sigHoldNow.get R.FLT.LEVEL = 0 := by
  have hwidth : sigHold % 2 ^ R.FLT.SIGOK_STATE.width = sigHold := by decide
  unfold Dev.sigHoldNow
  refine ⟨?_, ?_, ?_, ?_⟩ <;> simp (disch := decide) [hwidth]

theorem sigHoldNow_within : Within [R.FLT.SIGOK_STATE, R.FLT.SIGOK_PIN, R.FLT.ALIVE, R.FLT.LEVEL] d d.sigHoldNow := by
  unfold Dev.sigHoldNow
  simp (disch := decide)

theorem sigokPulseEnd_holds (hpulse : s.dev.get R.FLT.SIGOK_STATE = sigPulse) : Gives .sigokPulseEnd s fun t =>
    t.dev.get R.FLT.SIGOK_STATE = sigHold ∧ t.dev.get R.FLT.SIGOK_PIN = 0 ∧ t.dev.get R.FLT.ALIVE = 0 ∧ t.dev.get R.FLT.LEVEL = 0 ∧
    Frame [R.FLT.SIGOK_STATE, R.FLT.SIGOK_PIN, R.FLT.ALIVE, R.FLT.LEVEL] s t := by
  obtain ⟨hstate, hpin, halive, hlevel⟩ := sigHoldNow_get (d := s.dev)
  refine ⟨{ s with dev := s.dev.sigHoldNow }, ?_, hstate, hpin, halive, hlevel, sigHoldNow_within, rfl, rfl, rfl⟩
  show execSigokPulseEnd s = _
  rw [execSigokPulseEnd, State.onDev_next, if_pos hpulse]

theorem sigokPulseEnd_elsewhere (hpulse : s.dev.get R.FLT.SIGOK_STATE ≠ sigPulse) : exec .sigokPulseEnd s = .next s := by
  show execSigokPulseEnd s = _
  rw [execSigokPulseEnd, State.onDev_next, if_neg hpulse]

theorem sigokToggle_toggles (halive : s.dev.get R.FLT.SIGOK_STATE = sigAlive) : Gives .sigokToggle s fun t =>
    t.dev.get R.FLT.SIGOK_PIN = (if s.dev.get R.FLT.SIGOK_PIN = 0 then 1 else 0) ∧ Frame [R.FLT.SIGOK_PIN] s t := by
  refine ⟨{ s with dev := s.dev.flag R.FLT.SIGOK_PIN (!s.dev.is R.FLT.SIGOK_PIN) }, ?_, ?_, (within_flag _ _ _ (by decide) (by decide)).2 (.refl _),
    rfl, rfl, rfl⟩
  · show execSigokToggle s = _
    rw [execSigokToggle, State.onDev_next, if_pos halive]
  · have hwidth : 2 ^ R.FLT.SIGOK_PIN.width = 2 := by decide
    dsimp only
    rw [Dev.flag, Dev.get_put_same, hwidth]
    by_cases hpin : s.dev.get R.FLT.SIGOK_PIN = 0
    · simp [hpin, Dev.is]
    · have hhigh : s.dev.is R.FLT.SIGOK_PIN = true := bne_iff_ne.2 hpin
      rw [if_neg hpin, hhigh]
      rfl

theorem sigokToggle_elsewhere (halive : s.dev.get R.FLT.SIGOK_STATE ≠ sigAlive) : exec .sigokToggle s = .next s := by
  show execSigokToggle s = _
  rw [execSigokToggle, State.onDev_next, if_neg halive]

/-! The test access port. -/

theorem tapCode_lt (inReset : Bool) (ins : TapIns) : tapCode inReset ins < 2 ^ I.MODE.TAP.width := by
  cases ins <;> cases inReset <;> decide

/-- EXTEST and CLAMP outside nRESET select BYPASS (R532). -/
theorem tapCode_outside {ins : TapIns} (h : ins = .extest ∨ ins = .clamp) : tapCode false ins = 0 := by
  obtain rfl | rfl := h <;> rfl

theorem tapInstruction_selects {ins : TapIns} (hmode : s.dev.mode ≠ .backup) : Gives (.tapInstruction ins) s fun t =>
    t.dev.get I.MODE.TAP = tapCode (s.dev.get I.MODE.NRST = 1) ins ∧
    (s.dev.get I.MODE.NRST ≠ 1 → ins = .extest ∨ ins = .clamp → t.dev.get I.MODE.TAP = 0) ∧ Frame [I.MODE.TAP] s t := by
  have hexec : exec (.tapInstruction ins) s = .next { s with dev := s.dev.put I.MODE.TAP (tapCode (s.dev.get I.MODE.NRST = 1) ins) } := by
    show execTapInstruction ins s = _
    rw [execTapInstruction, State.onDev_next, if_neg hmode]
  have hcode : (s.dev.put I.MODE.TAP (tapCode (s.dev.get I.MODE.NRST = 1) ins)).get I.MODE.TAP = tapCode (s.dev.get I.MODE.NRST = 1) ins := by
    rw [Dev.get_put_same, Nat.mod_eq_of_lt (tapCode_lt _ _)]
  refine ⟨_, hexec, hcode, fun hout hins => ?_, Within.of_put _ _ _ _ (by decide) (by decide), rfl, rfl, rfl⟩
  rw [hcode, decide_eq_false hout, tapCode_outside hins]

/-- Settles O45, command by command: a comparator's latch by the state that its instances are raised in, the other watchers by the one
write or raising that each makes. -/
theorem comparatorsAndWatchers : Obligations.ComparatorsAndWatchers :=
  ⟨fun _ _ _ _ _ => ⟨wcFilteredChange_latches, wcFilteredChange_ends, hkSequence_keeps⟩,
   fun _ cls inst _ corrected region _ => ⟨quietPeriodExpiry_marks cls inst, recovWindowExpiry_ends, eccError_raises corrected region,
     sigokReadbackFault_raises, sigokPulseEnd_holds, sigokPulseEnd_elsewhere, sigokToggle_toggles, sigokToggle_elsewhere, tapInstruction_selects⟩⟩

end Sys2Proof.Machine
end

section
/-! PROOFS. The triggers of the sequencers (R334, R335) and the start of a step (R333). -/
namespace Sys2Proof.Machine
variable {d : Dev} {s : State}

/-! What a trigger does to its sequencer. -/

theorem trigger_idle (t : Nat) {n : Nat} (frame : Bool) (hruns : d.afeRuns = true) (hent : d.get R.AFE.SEQ_NENT n ≠ 0)
    (hidle : d.is R.AFE.SEQ_BUSY n = false) : d.trigger t n frame = d.seqStart n t (t + 2 * d.get R.AFE.SEQ_DLY n) frame := by
  simp [Dev.trigger, hruns, hent, hidle]

theorem trigger_queues (t : Nat) {n : Nat} (frame : Bool) (hruns : d.afeRuns = true) (hent : d.get R.AFE.SEQ_NENT n ≠ 0)
    (hbusy : d.is R.AFE.SEQ_BUSY n = true) (hqueue : d.is R.AFE.SEQ_QUEUE1 n = true) (hfree : d.is R.AFE.SEQ_QUEUED n = false) :
    d.trigger t n frame = (d.put R.AFE.SEQ_QUEUED 1 n).put I.AFE.QTRIG_NS t n := by
  simp [Dev.trigger, hruns, hent, hbusy, hqueue, hfree]

theorem trigger_drops (t : Nat) {n : Nat} (frame : Bool) (hruns : d.afeRuns = true) (hent : d.get R.AFE.SEQ_NENT n ≠ 0)
    (hbusy : d.is R.AFE.SEQ_BUSY n = true) (hqueue : d.is R.AFE.SEQ_QUEUE1 n = false) : d.trigger t n frame = d.seqDrop t n := by
  simp [Dev.trigger, hruns, hent, hbusy, hqueue]

theorem seqStart_get (n tt ready : Nat) (frame : Bool) : (d.seqStart n tt ready frame).get R.AFE.SEQ_BUSY n = 1 ∧
    (d.seqStart n tt ready frame).get I.AFE.TRIG_NS n = tt % 2 ^ 64 ∧ (d.seqStart n tt ready frame).get I.AFE.STEP n = 0 := by
  unfold Dev.seqStart
  refine ⟨?_, ?_, ?_⟩ <;> simp (disch := decide) [Fld.width, I.AFE.TRIG_NS]

/-- A dropped trigger is counted, up to the end of the count's range (R335). -/
theorem seqDrop_counts (t n : Nat) : (d.seqDrop t n).get R.AFE.SEQ_TRIG_OVR n =
    satAdd R.AFE.SEQ_TRIG_OVR.width (d.get R.AFE.SEQ_TRIG_OVR n) 1 % 2 ^ R.AFE.SEQ_TRIG_OVR.width := by
  have hraise : ∀ (e : Dev) cls inst det, (e.raise t cls inst det).get R.AFE.SEQ_TRIG_OVR n = e.get R.AFE.SEQ_TRIG_OVR n := fun e cls inst det =>
    (raise_within _ _ _ _ _).regsKept.get (by decide) (by decide) n
  have hcount : (((d.bump R.AFE.SEQ_TRIG_OVR n).bump I.AFE.DROPS n).perf 5 3 n).get R.AFE.SEQ_TRIG_OVR n =
      satAdd R.AFE.SEQ_TRIG_OVR.width (d.get R.AFE.SEQ_TRIG_OVR n) 1 % 2 ^ R.AFE.SEQ_TRIG_OVR.width := by
    rw [(perf_within _ _ _ _).regsKept.get (by decide) (by decide), Dev.bump, Dev.get_put_other _ _ _ _ _ _ (by decide) (by decide) (by decide),
      Dev.bump, Dev.get_put_same]
  unfold Dev.seqDrop
  split
  · rw [hraise, hcount]
  · exact hcount

/-- A trigger leaves the busy mark of a run under way. -/
theorem trigger_busy_kept (t : Nat) {n : Nat} (frame : Bool) (hbusy : d.is R.AFE.SEQ_BUSY n = true) :
    (d.trigger t n frame).get R.AFE.SEQ_BUSY n = d.get R.AFE.SEQ_BUSY n := by
  unfold Dev.trigger
  rw [hbusy, Bool.not_true, if_neg Bool.false_ne_true]
  split
  · rfl
  · split
    · simp (disch := decide)
    · exact (seqDrop_els (fs := [R.AFE.SEQ_TRIG_OVR, I.AFE.DROPS]) t n (by decide) (by decide)).regs
        R.AFE.SEQ_BUSY (by decide) (by decide) n (hasEl_map_of_not_hasFld (by decide) _ _)

theorem triggerStep_busy_kept (t : Nat) (srcs : List Nat) (frame : Bool) {k n : Nat} (hk : k < 8) (hn : n < 8)
    (hbusy : d.is R.AFE.SEQ_BUSY n = true) : (d.triggerStep t srcs frame k).get R.AFE.SEQ_BUSY n = d.get R.AFE.SEQ_BUSY n := by
  by_cases hkn : k = n
  · subst hkn
    unfold Dev.triggerStep
    split
    · exact trigger_busy_kept t frame hbusy
    · rfl
  · exact triggerStep_busy_other hk hn hkn

theorem triggerAll_busy_kept (t : Nat) (srcs : List Nat) (frame : Bool) {n : Nat} (hn : n < 8) (hbusy : d.is R.AFE.SEQ_BUSY n = true) :
    (d.triggerAll t srcs frame).get R.AFE.SEQ_BUSY n = d.get R.AFE.SEQ_BUSY n := by
  rw [triggerAll_eq]
  refine List.foldlRecOn (motive := fun e : Dev => e.get R.AFE.SEQ_BUSY n = d.get R.AFE.SEQ_BUSY n) _ _ rfl fun e he k hk => ?_
  rw [triggerStep_busy_kept t srcs frame (List.mem_range.1 hk) hn (by rw [Dev.is_congr he, hbusy]), he]

/-! SEQ_TRIGGER and GT_EVENT. -/

theorem exec_seqTrigger {n : Fin 8} (hsrc : 2 ≤ s.dev.get R.AFE.SEQ_TRIG_SRC n) :
    exec (.seqTrigger n) s = .next { s with dev := (s.dev.trigger s.clk.ns n false).settle s.clk.ns } := by
  show execSeqTrigger n s = _
  rw [execSeqTrigger, State.onDev_next, if_pos hsrc]

theorem seqTrigger_elsewhere {n : Fin 8} (hsrc : s.dev.get R.AFE.SEQ_TRIG_SRC n < 2) : exec (.seqTrigger n) s = .next s := by
  show execSeqTrigger n s = _
  rw [execSeqTrigger, State.onDev_next, if_neg (Nat.not_le.2 hsrc)]

theorem seqTrigger_starts {n : Fin 8} (hsrc : 2 ≤ s.dev.get R.AFE.SEQ_TRIG_SRC n) (hruns : s.dev.afeRuns = true)
    (hent : s.dev.get R.AFE.SEQ_NENT n ≠ 0) (hidle : s.dev.is R.AFE.SEQ_BUSY n = false) : Does (.seqTrigger n) s fun d =>
      d.get R.AFE.SEQ_BUSY n = 1 ∧ d.get I.AFE.TRIG_NS n = s.clk.ns % 2 ^ 64 ∧ d.get I.AFE.STEP n = 0 ∧ Within Claim.afeFlds s.dev d := by
  have hframe : Within triggerFlds s.dev (s.dev.trigger s.clk.ns n false) :=
    (trigger_els _ _ _).wholeFlds (subFlds_append_left _ _) (subFlds_append_right _ _)
  obtain ⟨hbusy, hns, hstep⟩ := seqStart_get (d := s.dev) n s.clk.ns (s.clk.ns + 2 * s.dev.get R.AFE.SEQ_DLY n) false
  rw [← trigger_idle _ _ hruns hent hidle] at hbusy hns hstep
  exact ⟨_, exec_seqTrigger hsrc, hbusy, hns, hstep, hframe.mono (by decide)⟩

theorem seqTrigger_queues {n : Fin 8} (hsrc : 2 ≤ s.dev.get R.AFE.SEQ_TRIG_SRC n) (hruns : s.dev.afeRuns = true)
    (hent : s.dev.get R.AFE.SEQ_NENT n ≠ 0) (hbusy : s.dev.is R.AFE.SEQ_BUSY n = true) (hqueue : s.dev.is R.AFE.SEQ_QUEUE1 n = true)
    (hfree : s.dev.is R.AFE.SEQ_QUEUED n = false) : Does (.seqTrigger n) s fun d =>
      d.get R.AFE.SEQ_QUEUED n = 1 ∧ Within [] s.dev d [(R.AFE.SEQ_QUEUED, n), (I.AFE.QTRIG_NS, n)] := by
  refine ⟨_, by rw [exec_seqTrigger hsrc, trigger_queues _ _ hruns hent hbusy hqueue hfree], ?_, ?_⟩
  · simp (disch := decide)
  · exact (within_put_map (fs := [R.AFE.SEQ_QUEUED, I.AFE.QTRIG_NS]) (by decide) (by decide)).2 ((within_put_map (by decide) (by decide)).2 (.refl _))

theorem seqTrigger_drops {n : Fin 8} (hsrc : 2 ≤ s.dev.get R.AFE.SEQ_TRIG_SRC n) (hruns : s.dev.afeRuns = true)
    (hent : s.dev.get R.AFE.SEQ_NENT n ≠ 0) (hbusy : s.dev.is R.AFE.SEQ_BUSY n = true) (hqueue : s.dev.is R.AFE.SEQ_QUEUE1 n = false) :
    Does (.seqTrigger n) s fun d =>
      d.get R.AFE.SEQ_TRIG_OVR n = satAdd R.AFE.SEQ_TRIG_OVR.width (s.dev.get R.AFE.SEQ_TRIG_OVR n) 1 % 2 ^ R.AFE.SEQ_TRIG_OVR.width ∧
      Within raiseFlds s.dev d [(R.AFE.SEQ_TRIG_OVR, n), (I.AFE.DROPS, n)] :=
  ⟨_, by rw [exec_seqTrigger hsrc, trigger_drops _ _ hruns hent hbusy hqueue], seqDrop_counts _ _,
    seqDrop_els (fs := [R.AFE.SEQ_TRIG_OVR, I.AFE.DROPS]) _ _ (by decide) (by decide)⟩

theorem exec_gtEvent {g : Fin 2} (hperiod : s.dev.get R.AFE.GT_PERIOD g ≠ 0) :
    exec (.gtEvent g) s = .next { s with dev := (s.dev.triggerAll s.clk.ns [5 + g] false).settle s.clk.ns } := by
  show execGtEvent g s = _
  rw [execGtEvent, State.onDev_next, if_neg hperiod]

theorem gtEvent_triggers {n : Fin 8} {g : Fin 2} (hperiod : s.dev.get R.AFE.GT_PERIOD g ≠ 0) : Does (.gtEvent g) s fun d =>
    (s.dev.get R.AFE.SEQ_TRIG_SRC n = 5 + g → s.dev.afeRuns = true → s.dev.get R.AFE.SEQ_NENT n ≠ 0 → d.get R.AFE.SEQ_BUSY n ≠ 0) ∧
    Within Claim.afeFlds s.dev d := by
  refine ⟨_, exec_gtEvent hperiod, fun hsrc hruns hent => ?_, (triggerAll_within _ _ _).mono (by decide)⟩
  by_cases hbusy : s.dev.is R.AFE.SEQ_BUSY n = true
  · rw [triggerAll_busy_kept _ _ _ n.isLt hbusy]
    exact bne_iff_ne.1 hbusy
  · rw [triggerAll_starts _ _ n.isLt hruns hent (by simp [hsrc]) (Bool.eq_false_iff.2 hbusy)]
    decide

/-! SEQ_STEP_START. -/

theorem entAdc_lt (e : Nat) : entAdc e < 4 := by
  unfold entAdc bitsOf
  omega

theorem freeConv_within (n : Nat) : Within [I.AFE.CONV] d (d.freeConv n) := by
  refine Within.of_foldl _ (fun e a => ?_) _ _
  split
  · exact Within.of_put _ _ _ _ (by decide) (by decide)
  · exact .refl e

/-- The converters of a step, taken for sequencer n. -/
def Dev.convTaken (d : Dev) (n : Nat) (st : List Nat) : Dev := (st.map entAdc).foldl (fun d a => d.put I.AFE.CONV (n + 1) a) d

theorem convTaken_within (n : Nat) (st : List Nat) : Within [I.AFE.CONV] d (d.convTaken n st) :=
  Within.of_foldl _ (fun e a => Within.of_put e I.AFE.CONV _ a (by decide) (by decide)) _ d

theorem convTaken_get {n : Nat} (hn : n < 8) {st : List Nat} {e : Nat} (he : e ∈ st) : (d.convTaken n st).get I.AFE.CONV (entAdc e) = n + 1 := by
  have hfour : ∀ a ∈ st.map entAdc, a < 4 := fun a ha => by
    obtain ⟨x, -, rfl⟩ := List.mem_map.1 ha
    exact entAdc_lt x
  unfold Dev.convTaken
  refine foldl_establishes (I := fun _ => True) (Q := fun c => c.get I.AFE.CONV (entAdc e) = n + 1) _ (List.mem_map_of_mem he)
    (fun _ _ _ _ => trivial) (fun c _ => ?_) (fun c a ha hne _ hc => ?_) trivial
  · rw [Dev.get_put_same, Nat.mod_eq_of_lt (Nat.lt_of_lt_of_le (Nat.succ_lt_succ hn) (by decide))]
  · have hlt := hfour a ha
    have hlt' := entAdc_lt e
    rwa [Dev.get_put_ne _ _ _ _ _ _ (by decide) (by decide) (.inr (by omega))]

/-- The step of a sequencer advanced, with the instants of its sample. -/
def Dev.stepMarked (d : Dev) (t n k wait : Nat) : Dev :=
  let d2 := (((d.put I.AFE.STEP (k + 1) n).bump I.AFE.WAIT n wait).put I.AFE.READY_NS (t + 200) n).put I.AFE.STEP_NS (t + 50) (16 * n + k)
  if k = 0 then (d2.put I.AFE.SAMPLE_NS (t + 50) n).onlyIf (0 < wait) (fun d => d.put I.AFE.LATE_RUN 1 n) else d2

def stepFlds : List Fld := [I.AFE.STEP, I.AFE.WAIT, I.AFE.READY_NS, I.AFE.STEP_NS, I.AFE.SAMPLE_NS, I.AFE.LATE_RUN]

theorem stepMarked_within (t n k wait : Nat) : Within stepFlds d (d.stepMarked t n k wait) := by
  unfold Dev.stepMarked
  dsimp only
  split <;> simp (disch := first | decide | (intros; simp (disch := decide)))

theorem stepMarked_get (t n k wait : Nat) : (d.stepMarked t n k wait).get I.AFE.STEP n = (k + 1) % 2 ^ I.AFE.STEP.width := by
  unfold Dev.stepMarked Dev.onlyIf
  dsimp only
  split
  · split <;> simp (disch := decide) [Dev.bump]
  · simp (disch := decide) [Dev.bump]

theorem exec_seqStepStart {n : Fin 8} {st : List Nat} (hstep : (s.dev.seqSteps n)[s.dev.get I.AFE.STEP n]? = some st)
    (hbusy : s.dev.is R.AFE.SEQ_BUSY n = true) (hfree : ∀ e ∈ st, s.dev.convHeld s.clk.ns n (entAdc e) = false) :
    ∃ wait, exec (.seqStepStart n) s =
      .next { s with dev := ((s.dev.freeConv n).convTaken n st).stepMarked s.clk.ns n (s.dev.get I.AFE.STEP n) wait } := by
  have hnone : (st.map entAdc).any (fun a => s.dev.convHeld s.clk.ns n a) = false := by
    simpa using hfree
  refine ⟨(s.clk.ns - s.dev.get I.AFE.READY_NS n) / 10 * 10, ?_⟩
  show execSeqStepStart n s = _
  rw [execSeqStepStart, State.onDev_next]
  dsimp only
  rw [hstep]
  dsimp only
  rw [hbusy, hnone, if_neg (by decide)]
  rfl

theorem seqStepStart_takes {n : Fin 8} {st : List Nat} (hstep : (s.dev.seqSteps n)[s.dev.get I.AFE.STEP n]? = some st)
    (hbusy : s.dev.is R.AFE.SEQ_BUSY n = true) (hfree : ∀ e ∈ st, s.dev.convHeld s.clk.ns n (entAdc e) = false) :
    Gives (.seqStepStart n) s fun t =>
      (∀ e ∈ st, t.dev.get I.AFE.CONV (entAdc e) = n + 1) ∧
      t.dev.get I.AFE.STEP n = (s.dev.get I.AFE.STEP n + 1) % 2 ^ I.AFE.STEP.width ∧ Frame Claim.afeFlds s t := by
  obtain ⟨wait, hexec⟩ := exec_seqStepStart hstep hbusy hfree
  have hmark := stepMarked_within (d := (s.dev.freeConv n).convTaken n st) s.clk.ns n (s.dev.get I.AFE.STEP n) wait
  refine ⟨_, hexec, fun e he => ?_, stepMarked_get _ _ _ _, ?_, rfl, rfl, rfl⟩
  · dsimp only
    rw [hmark.regsKept.get (by decide) (by decide), convTaken_get n.isLt he]
  · exact ((freeConv_within n).mono (by decide)).trans (((convTaken_within n st).mono (by decide)).trans (hmark.mono (by decide)))

end Sys2Proof.Machine
end

section
/-! PROOFS. The publication of a run (R336, R338) and the failure of a converter (R350). -/
namespace Sys2Proof.Machine
variable {d : Dev} {s : State}

/-! The parts of a publication. -/

/-- The code of entry i among the codes of a run. -/
def runCode (codes i : Nat) : Nat := bitsOf codes (16 * i + 15) (16 * i)

/-- The converters of a run's entries have completed. -/
def Dev.codesJudged (d : Dev) (t codes : Nat) (es : List Nat) : Dev := es.zipIdx.foldl (fun d p => d.adComplete t p.1 (runCode codes p.2)) d

/-- One result of a run, and the last good one where the run has not failed. -/
def Dev.resultPut (n codes : Nat) (fail : Bool) (d : Dev) (p : Nat × Nat) : Dev :=
  let r := resultOf (entFmt p.1) (runCode codes p.2)
  (d.put R.AFE.RESULT r (16 * n + p.2)).onlyIf (!fail) (fun d => d.put I.AFE.GOOD r (16 * n + p.2))

/-- The results of a run. -/
def Dev.resultsPut (d : Dev) (n codes : Nat) (fail : Bool) (es : List Nat) : Dev := es.zipIdx.foldl (Dev.resultPut n codes fail) d

/-- The stamps and the counts of a published run, over those of the run `d` under way. -/
def Dev.runCounted (e d : Dev) (t n clip : Nat) (fail : Bool) : Dev :=
  let wait := d.get I.AFE.WAIT n
  let e2 := (e.perf 5 1 n).perf 5 2 n (decide (0 < wait)).toNat
  let e3 := ((((e2.put R.AFE.SEQ_TS (d.get I.AFE.SAMPLE_NS n) n).put I.AFE.PUB_NS (d.get I.AFE.SAMPLE_NS n + 1) n).wrap R.AFE.SEQ_RUNS n).put
    R.AFE.SEQ_CLIP clip n).flag R.AFE.SEQ_FAIL fail n
  (((e3.bump R.AFE.SEQ_FAIL_CNT n fail.toNat).waitCheck t n wait).put R.AFE.SEQ_WAIT_LAST wait n).bump R.AFE.SEQ_LATE_CNT n (d.get I.AFE.LATE_RUN n)

/-- The end of the run: its sequencer is idle, and a run of the frame is told to the cut. -/
def Dev.runEnded (e d : Dev) (t n : Nat) (fail : Bool) : Dev :=
  (((e.put R.AFE.SEQ_DUR_LAST (t - d.get I.AFE.TRIG_NS n) n).put R.AFE.SEQ_BUSY 0 n).freeConv n).onlyIf (d.is I.AFE.FRAME_RUN n)
    (fun d => d.put I.AFE.GOT_RUN (if fail then 2 else 1) n)

/-- The channels of a run say what they are. -/
def Dev.channelsChecked (d : Dev) (t codes : Nat) (es : List Nat) : Dev := es.zipIdx.foldl (fun d p => d.channelCheck t p.1 (runCode codes p.2)) d

theorem publish_eq (t n codes : Nat) : ∃ clip fail, d.publish t n codes =
    ((((((d.codesJudged t codes (d.seqEntries n)).resultsPut n codes fail (d.seqEntries n)).runCounted d t n clip fail).runEnded d t n fail).channelsChecked
      t codes (d.seqEntries n)).convStatus).seqQueued t n := ⟨_, _, rfl⟩

def adJudgeFlds : List Fld := raiseFlds ++ [I.AFE.TO_FAIL, I.AFE.REF_FAIL]

theorem adComplete_within (t e code : Nat) : Within adJudgeFlds d (d.adComplete t e code) := by
  unfold Dev.adComplete
  simp (disch := decide)

theorem codesJudged_within (t codes : Nat) (es : List Nat) : Within adJudgeFlds d (d.codesJudged t codes es) :=
  Within.of_foldl _ (fun _ _ => adComplete_within _ _ _) _ _

def resultFlds : List Fld := [R.AFE.RESULT, I.AFE.GOOD]

theorem resultPut_within (n codes : Nat) (fail : Bool) (p : Nat × Nat) : Within resultFlds d (d.resultPut n codes fail p) := by
  unfold Dev.resultPut
  simp (disch := first | decide | (intros; simp (disch := decide)))

theorem resultsPut_within (n codes : Nat) (fail : Bool) (es : List Nat) : Within resultFlds d (d.resultsPut n codes fail es) :=
  Within.of_foldl _ (fun _ p => resultPut_within n codes fail p) _ _

theorem resultPut_get (n codes : Nat) (fail : Bool) (p : Nat × Nat) (j : Nat) : (d.resultPut n codes fail p).get R.AFE.RESULT j =
    (d.put R.AFE.RESULT (resultOf (entFmt p.1) (runCode codes p.2)) (16 * n + p.2)).get R.AFE.RESULT j := by
  unfold Dev.resultPut Dev.onlyIf
  dsimp only
  split <;> simp (disch := decide)

/-- Every entry of a run of at most 16 has its result in its own place. -/
theorem resultsPut_get (n codes : Nat) (fail : Bool) {es : List Nat} (hlen : es.length ≤ 16) {i : Nat} (h : i < es.length) :
    (d.resultsPut n codes fail es).get R.AFE.RESULT (16 * n + i) = resultOf (entFmt es[i]) (runCode codes i) % 2 ^ 32 := by
  unfold Dev.resultsPut
  refine foldl_establishes (x := (es[i], i)) (I := fun _ => True)
    (Q := fun e => e.get R.AFE.RESULT (16 * n + i) = resultOf (entFmt es[i]) (runCode codes i) % 2 ^ 32) _
    (List.mem_zipIdx_iff_getElem?.2 (List.getElem?_eq_getElem h)) (fun _ _ _ _ => trivial) (fun e _ => ?_) (fun e p hp hne _ he => ?_) trivial
  · rw [resultPut_get, Dev.get_put_same]
    rfl
  · have hget : es[p.2]? = some p.1 := List.mem_zipIdx_iff_getElem?.1 hp
    have hplace : p.2 ≠ i := by
      rintro rfl
      rw [List.getElem?_eq_getElem h] at hget
      exact hne (Prod.ext (Option.some.inj hget).symm rfl)
    have hlt : p.2 < es.length := (List.getElem?_eq_some_iff.1 hget).1
    rw [resultPut_get, Dev.get_put_ne _ _ _ _ _ _ (by decide) (by decide) (.inr (by omega)), he]

/-- What the counts of a published run write. -/
def runCountFlds : List Fld :=
  raiseFlds ++ [R.AFE.SEQ_TS, I.AFE.PUB_NS, R.AFE.SEQ_RUNS, R.AFE.SEQ_CLIP, R.AFE.SEQ_FAIL, R.AFE.SEQ_FAIL_CNT, R.AFE.SEQ_WAIT_LAST, R.AFE.SEQ_LATE_CNT]

theorem waitCheck_within (t n wait : Nat) : Within raiseFlds d (d.waitCheck t n wait) := by
  unfold Dev.waitCheck
  split
  · exact raise_within _ _ _ _ _
  · exact .refl d

theorem runCounted_within (e : Dev) (t n clip : Nat) (fail : Bool) : Within runCountFlds e (e.runCounted d t n clip fail) := by
  have hwait : ∀ a : Dev, Within runCountFlds a (a.waitCheck t n (d.get I.AFE.WAIT n)) := fun a => (waitCheck_within _ _ _).mono (by decide)
  unfold Dev.runCounted
  simp (disch := decide) [(hwait _).iff]

theorem runCounted_get (e : Dev) (t n clip : Nat) (fail : Bool) : (e.runCounted d t n clip fail).get R.AFE.SEQ_RUNS n =
    (e.get R.AFE.SEQ_RUNS n + 1) % 2 ^ R.AFE.SEQ_RUNS.width := by
  have hperf : ∀ (a : Dev) ev k, (a.perf 5 ev n k).get R.AFE.SEQ_RUNS n = a.get R.AFE.SEQ_RUNS n := fun a ev k =>
    (perf_within _ _ _ _).regsKept.get (by decide) (by decide) n
  have hwait : ∀ (a : Dev) wait, (a.waitCheck t n wait).get R.AFE.SEQ_RUNS n = a.get R.AFE.SEQ_RUNS n := fun a wait =>
    (waitCheck_within _ _ _).regsKept.get (by decide) (by decide) n
  unfold Dev.runCounted
  simp (disch := decide) [Dev.bump, Dev.flag, Dev.wrap, hperf, hwait]

def runEndFlds : List Fld := [R.AFE.SEQ_DUR_LAST, R.AFE.SEQ_BUSY, I.AFE.CONV, I.AFE.GOT_RUN]

theorem runEnded_within (e : Dev) (t n : Nat) (fail : Bool) : Within runEndFlds e (e.runEnded d t n fail) := by
  have hfree : ∀ a : Dev, Within runEndFlds a (a.freeConv n) := fun a => (freeConv_within n).mono (by decide)
  unfold Dev.runEnded
  simp (disch := first | decide | (intros; simp (disch := decide))) [(hfree _).iff]

theorem runEnded_get (e : Dev) (t n : Nat) (fail : Bool) : (e.runEnded d t n fail).get R.AFE.SEQ_BUSY n = 0 := by
  have hfree : ∀ a : Dev, (a.freeConv n).get R.AFE.SEQ_BUSY n = a.get R.AFE.SEQ_BUSY n := fun a =>
    (freeConv_within n).regsKept.get (by decide) (by decide) n
  unfold Dev.runEnded Dev.onlyIf
  split <;> simp (disch := decide) [hfree]

def afeChannelFlds : List Fld :=
  raiseFlds ++ [R.AFE.WC_RB_HI, R.AFE.WC_RB_LO, I.AFE.DAC_BAD, R.AFE.WC_DACERR, R.AFE.WC_DACERR_CNT, R.AFE.WC_LATCH]

theorem dacCheck_within (t w : Nat) (hi : Bool) (code : Nat) : Within afeChannelFlds d (d.dacCheck t w hi code) := by
  unfold Dev.dacCheck
  dsimp only
  cases hi <;> simp (disch := decide)

theorem channelsChecked_within (t codes : Nat) (es : List Nat) : Within afeChannelFlds d (d.channelsChecked t codes es) := by
  refine Within.of_foldl _ (fun e p => ?_) _ _
  unfold Dev.channelCheck
  dsimp only
  split
  · exact dacCheck_within _ _ _ _
  · split
    · exact dacCheck_within _ _ _ _
    · exact .refl e

theorem convStatus_within : Within [R.AFE.CONV_OK] d d.convStatus := Within.of_put _ _ _ _ (by decide) (by decide)

theorem seqQueued_within (t n : Nat) : Within triggerFlds d (d.seqQueued t n) := by
  unfold Dev.seqQueued
  split
  · exact (Within.of_put _ _ _ _ (by decide) (by decide)).trans
      ((seqStart_els _ _ _ _).wholeFlds (subFlds_append_left _ _) (subFlds_append_right _ _))
  · exact .refl d

theorem seqQueued_none (t : Nat) {n : Nat} (h : d.is R.AFE.SEQ_QUEUED n = false) : d.seqQueued t n = d := by
  rw [Dev.seqQueued, h, if_neg Bool.false_ne_true]

theorem seqEntries_length (n : Nat) : (d.seqEntries n).length = d.get R.AFE.SEQ_NENT n := by simp [Dev.seqEntries]

/-- What a publication writes before the end of its run, and after it. -/
def beforeEndFlds : List Fld := adJudgeFlds ++ resultFlds ++ runCountFlds

def afterEndFlds : List Fld := R.AFE.CONV_OK :: afeChannelFlds

/-- What a published run leaves. -/
structure RunPublished (d e : Dev) (n codes : Nat) : Prop where
  results : d.get R.AFE.SEQ_NENT n ≤ 16 → ∀ i (h : i < (d.seqEntries n).length),
    e.get R.AFE.RESULT (16 * n + i) = resultOf (entFmt (d.seqEntries n)[i]) (bitsOf codes (16 * i + 15) (16 * i)) % 2 ^ 32
  runs    : e.get R.AFE.SEQ_RUNS n = (d.get R.AFE.SEQ_RUNS n + 1) % 2 ^ R.AFE.SEQ_RUNS.width
  idle    : d.is R.AFE.SEQ_QUEUED n = false → e.get R.AFE.SEQ_BUSY n = 0
  frame   : Within Claim.afeFlds d e

theorem publish_published (t n codes : Nat) : RunPublished d (d.publish t n codes) n codes := by
  obtain ⟨clip, fail, heq⟩ := publish_eq (d := d) t n codes
  rw [heq]
  generalize hes : d.seqEntries n = es
  have hjudge := codesJudged_within (d := d) t codes es
  have hresult := resultsPut_within (d := d.codesJudged t codes es) n codes fail es
  generalize hr : (d.codesJudged t codes es).resultsPut n codes fail es = r at hresult
  have hcount := runCounted_within (d := d) r t n clip fail
  have hend := runEnded_within (d := d) (r.runCounted d t n clip fail) t n fail
  have hcheck := (channelsChecked_within (d := (r.runCounted d t n clip fail).runEnded d t n fail) t codes es)
  have hafter : Within afterEndFlds ((r.runCounted d t n clip fail).runEnded d t n fail)
      ((((r.runCounted d t n clip fail).runEnded d t n fail).channelsChecked t codes es).convStatus) :=
    (hcheck.mono (by decide)).trans (convStatus_within.mono (by decide))
  have hqueue := seqQueued_within (d := (((r.runCounted d t n clip fail).runEnded d t n fail).channelsChecked t codes es).convStatus) t n
  constructor
  · intro hnent i hi
    have hlen : es.length ≤ 16 := by rwa [← hes, seqEntries_length]
    have hi' : i < es.length := hes ▸ hi
    rw [hqueue.regsKept.get (by decide) (by decide), hafter.regsKept.get (by decide) (by decide), hend.regsKept.get (by decide) (by decide),
      hcount.regsKept.get (by decide) (by decide), ← hr, resultsPut_get n codes fail hlen hi']
    subst hes
    rfl
  · rw [hqueue.regsKept.get (by decide) (by decide), hafter.regsKept.get (by decide) (by decide), hend.regsKept.get (by decide) (by decide),
      runCounted_get, hresult.regsKept.get (by decide) (by decide), hjudge.regsKept.get (by decide) (by decide)]
  · intro hnone
    have hsame : ((((r.runCounted d t n clip fail).runEnded d t n fail).channelsChecked t codes es).convStatus).get R.AFE.SEQ_QUEUED n =
        d.get R.AFE.SEQ_QUEUED n := by
      rw [hafter.regsKept.get (by decide) (by decide), hend.regsKept.get (by decide) (by decide), hcount.regsKept.get (by decide) (by decide),
        hresult.regsKept.get (by decide) (by decide), hjudge.regsKept.get (by decide) (by decide)]
    rw [seqQueued_none t (by rwa [Dev.is_congr hsame]), hafter.regsKept.get (by decide) (by decide), runEnded_get]
  · exact (hjudge.mono (by decide)).trans ((hresult.mono (by decide)).trans ((hcount.mono (by decide)).trans ((hend.mono (by decide)).trans
      ((hafter.mono (by decide)).trans (hqueue.mono (by decide))))))

/-! The source samples of a published run (R480). -/

/-- Between two states of the module only the records of the network differ. -/
def NetOnly (d e : Dev) : Prop := e = d.setNet e.net

theorem NetOnly.refl (d : Dev) : NetOnly d d := rfl

theorem NetOnly.trans {a b c : Dev} (h : NetOnly a b) (k : NetOnly b c) : NetOnly a c := by
  unfold NetOnly at h k ⊢
  rw [k, h]
  rfl

theorem NetOnly.of_setNet (d : Dev) (n : Net) : NetOnly d (d.setNet n) := rfl

theorem svFeed_netOnly (b : SrcSample) (upto : Nat) : NetOnly d (d.svFeed b upto) := by
  unfold Dev.svFeed
  dsimp only
  refine NetOnly.trans (List.foldlRecOn (motive := NetOnly d) _ _ (.refl d) fun e he n _ => he.trans ?_) (.of_setNet _ _)
  split
  · exact .of_setNet _ _
  · exact .refl e

theorem svFeedRun_netOnly (n : Nat) : NetOnly d (d.svFeedRun n) := by
  unfold Dev.svFeedRun
  dsimp only
  refine List.foldlRecOn (motive := fun p : Dev × Nat => NetOnly d p.1) _ _ (.refl d) fun p hp st _ => ?_
  refine List.foldlRecOn (motive := fun p : Dev × Nat => NetOnly d p.1) _ _ hp fun q hq e _ => hq.trans ?_
  dsimp only
  split
  · exact svFeed_netOnly _ _
  · exact .refl _

theorem NetOnly.get {e : Dev} (h : NetOnly d e) (f : Fld) (i : Nat) : e.get f i = d.get f i := by
  rw [h, Dev.setNet_get]

theorem NetOnly.within {a e : Dev} (h : NetOnly d e) (k : Within L a d) : Within L { a with net := e.net } e := by
  rw [h]
  exact k.setNet e.net

/-! SEQ_PUBLISH. -/

theorem exec_seqPublish {n : Fin 8} {codes : BitVec 256} (hbusy : s.dev.is R.AFE.SEQ_BUSY n = true)
    (hstep : s.dev.get I.AFE.STEP n = (s.dev.seqSteps n).length) :
    exec (.seqPublish n codes) s = .next { s with dev := ((s.dev.publish s.clk.ns n codes.toNat).svFeedRun n).settle s.clk.ns } := by
  show execSeqPublish n codes s = _
  rw [execSeqPublish, State.onDev_next, if_pos (by simp [hbusy, hstep])]

theorem seqPublish_publishes {n : Fin 8} {codes : BitVec 256} (hent : s.dev.get R.AFE.SEQ_NENT n ≤ 16)
    (hbusy : s.dev.is R.AFE.SEQ_BUSY n = true) (hstep : s.dev.get I.AFE.STEP n = (s.dev.seqSteps n).length) : Does (.seqPublish n codes) s fun d =>
      (∀ i (h : i < (s.dev.seqEntries n).length), d.get R.AFE.RESULT (16 * n + i) =
        resultOf (entFmt (s.dev.seqEntries n)[i]) (bitsOf codes.toNat (16 * i + 15) (16 * i)) % 2 ^ 32) ∧
      d.get R.AFE.SEQ_RUNS n = (s.dev.get R.AFE.SEQ_RUNS n + 1) % 2 ^ R.AFE.SEQ_RUNS.width ∧
      (s.dev.is R.AFE.SEQ_QUEUED n = false → d.get R.AFE.SEQ_BUSY n = 0) ∧ Within Claim.afeFlds { s.dev with net := d.net } d := by
  obtain ⟨hresults, hruns, hidle, hframe⟩ := publish_published (d := s.dev) s.clk.ns n codes.toNat
  have hnet := svFeedRun_netOnly (d := s.dev.publish s.clk.ns n codes.toNat) n
  refine ⟨_, exec_seqPublish hbusy hstep, fun i hi => ?_, ?_, fun hnone => ?_, hnet.within hframe⟩
  · rw [hnet.get, hresults hent i hi]
  · rw [hnet.get, hruns]
  · rw [hnet.get, hidle hnone]

/-! CONVERSION_TIMEOUT. -/

/-- The word with a bit for each number below k that passes. -/
def passWord (p : Nat → Bool) (k : Nat) : Nat := (List.range k).foldl (fun v a => if p a then v else v + 2 ^ a) 0

theorem passWord_bit (p : Nat → Bool) (k j : Nat) : bitOf (passWord p k) j = if j < k ∧ p j = false then 1 else 0 := by
  induction k generalizing j with
  | zero => simp [passWord, bitOf]
  | succ k ih =>
    have hsucc : passWord p (k + 1) = if p k then passWord p k else passWord p k + 2 ^ k := by
      simp [passWord, List.range_succ]
    have hlt : j < k + 1 ↔ j < k ∨ j = k := by omega
    rw [hsucc]
    by_cases hk : p k = true
    · rw [if_pos hk, ih]
      by_cases hj : j = k
      · simp [hj, hk]
      · simp [hlt, hj]
    · rw [if_neg hk, bitOf_add k _ _ (by rw [ih]; simp), ih]
      by_cases hj : j = k
      · simp [hj, hk]
      · simp [hlt, hj]

theorem convStatus_eq : d.convStatus = d.put R.AFE.CONV_OK (passWord d.adFailed 4) := rfl

/-- CONV_OK is 0 for a converter that has failed (R350). -/
theorem convStatus_failed {a : Nat} (ha : a < 4) (h : d.is I.AFE.TO_FAIL a = true) : bitOf (d.convStatus.get R.AFE.CONV_OK) a = 0 := by
  have hfailed : d.adFailed a = true := by rw [Dev.adFailed, h, Bool.true_or]
  rw [convStatus_eq, Dev.get_put_same, bitOf_mod _ _ _ (Nat.lt_of_lt_of_le ha (by decide)), passWord_bit]
  simp [hfailed]

/-- A run under way that uses converter a fails. -/
def Dev.runFailStep (a : Nat) (d : Dev) (n : Nat) : Dev :=
  if d.is R.AFE.SEQ_BUSY n && (d.seqAdcs n).contains a then d.put I.AFE.RUN_FAIL 1 n else d

/-- Every such run. -/
def Dev.runsFailed (d : Dev) (a : Nat) : Dev := (List.range 8).foldl (Dev.runFailStep a) d

theorem runFailStep_within (a n : Nat) : Within [I.AFE.RUN_FAIL] d (d.runFailStep a n) := by
  unfold Dev.runFailStep
  split
  · exact Within.of_put _ _ _ _ (by decide) (by decide)
  · exact .refl d

theorem runsFailed_within (a : Nat) : Within [I.AFE.RUN_FAIL] d (d.runsFailed a) := Within.of_foldl _ (fun _ n => runFailStep_within a n) _ d

theorem seqAdcs_kept {L : List Fld} {e : Dev} (h : RegsKept L d e) (hnent : hasFld L R.AFE.SEQ_NENT = false) (hentry : hasFld L R.AFE.ENTRY = false)
    (n : Nat) : e.seqAdcs n = d.seqAdcs n := by
  have hget : ∀ i, e.get R.AFE.ENTRY i = d.get R.AFE.ENTRY i := fun i => h.get (by decide) hentry i
  simp [Dev.seqAdcs, Dev.seqEntries, h.get (by decide) hnent, hget]

theorem runsFailed_get {a n : Nat} (hn : n < 8) (hbusy : d.is R.AFE.SEQ_BUSY n = true) (huses : a ∈ d.seqAdcs n) :
    (d.runsFailed a).get I.AFE.RUN_FAIL n = 1 := by
  unfold Dev.runsFailed
  refine foldl_establishes (I := RegsKept [I.AFE.RUN_FAIL] d) (Q := fun e => e.get I.AFE.RUN_FAIL n = 1) _ (List.mem_range.2 hn)
    (fun e k _ he => he.trans (runFailStep_within a k).regsKept) (fun e he => ?_) (fun e k hk hkn _ hQ => ?_) (.refl d)
  · have hbusy' : e.is R.AFE.SEQ_BUSY n = true := by rwa [Dev.is, he.get (by decide) (by decide), ← Dev.is]
    have huses' : a ∈ e.seqAdcs n := by rwa [seqAdcs_kept he (by decide) (by decide)]
    rw [Dev.runFailStep, if_pos (by simp [hbusy', huses'])]
    exact get_put_one _ (by decide) n
  · have hlt := List.mem_range.1 hk
    unfold Dev.runFailStep
    split
    · rwa [Dev.get_put_ne _ _ _ _ _ _ (by decide) (by decide) (.inr (by omega))]
    · exact hQ

/-- The failure of converter a marked, in its runs and in CONV_OK. -/
def Dev.convFailed (d : Dev) (a : Nat) : Dev := ((d.runsFailed a).put I.AFE.TO_FAIL 1 a).convStatus

theorem convFailed_within (a : Nat) : Within [I.AFE.RUN_FAIL, I.AFE.TO_FAIL, R.AFE.CONV_OK] d (d.convFailed a) :=
  ((runsFailed_within a).mono (by decide)).trans ((Within.of_put _ _ _ _ (by decide) (by decide)).trans (convStatus_within.mono (by decide)))

theorem convFailed_get {a : Nat} (ha : a < 4) : (d.convFailed a).get I.AFE.TO_FAIL a = 1 ∧ bitOf ((d.convFailed a).get R.AFE.CONV_OK) a = 0 ∧
    ∀ n < 8, d.is R.AFE.SEQ_BUSY n = true → a ∈ d.seqAdcs n → (d.convFailed a).get I.AFE.RUN_FAIL n = 1 := by
  have hput : ((d.runsFailed a).put I.AFE.TO_FAIL 1 a).get I.AFE.TO_FAIL a = 1 := get_put_one _ (by decide) a
  unfold Dev.convFailed
  refine ⟨?_, convStatus_failed ha (by rw [Dev.is, hput]; rfl), fun n hn hbusy huses => ?_⟩
  · rw [convStatus_within.regsKept.get (by decide) (by decide), hput]
  · rw [convStatus_within.regsKept.get (by decide) (by decide), Dev.get_put_other _ _ _ _ _ _ (by decide) (by decide) (by decide),
      runsFailed_get hn hbusy huses]

theorem conversionTimeout_fails (a : Fin 4) (n : Fin 8) : Does (.conversionTimeout a) s fun d =>
    d.get I.AFE.TO_FAIL a = 1 ∧ bitOf (d.get R.AFE.CONV_OK) a = 0 ∧ Raised d 9 (88 + a) ∧
    (s.dev.is R.AFE.SEQ_BUSY n = true → a.val ∈ s.dev.seqAdcs n → d.get I.AFE.RUN_FAIL n = 1) ∧ Within Claim.afeFlds s.dev d := by
  obtain ⟨hfail, hok, hruns⟩ := convFailed_get (d := s.dev) a.isLt
  have hraise : Within raiseFlds (s.dev.convFailed a) ((s.dev.convFailed a).raise s.clk.ns 9 (88 + a) 0 true) := raise_within _ _ _ _ _
  refine ⟨(s.dev.convFailed a).raise s.clk.ns 9 (88 + a) 0 true, rfl, ?_, ?_, raise_raised _ _ _ _ _ (by omega), fun hbusy huses => ?_, ?_⟩
  · rw [hraise.regsKept.get (by decide) (by decide), hfail]
  · rw [hraise.regsKept.get (by decide) (by decide), hok]
  · rw [hraise.regsKept.get (by decide) (by decide), hruns n n.isLt hbusy huses]
  · exact ((convFailed_within a).mono (by decide)).trans (hraise.mono (by decide))

/-- Settles O44: a trigger by what it finds of its sequencer, a step by the converters that it takes, a publication by its parts in their
order, of which one writes the results and one ends the run, and a timeout by the marks that precede its instance. -/
theorem sequences : Obligations.Sequences := fun _ n _ a _ _ =>
  ⟨fun hsrc hruns hent => ⟨seqTrigger_starts hsrc hruns hent, seqTrigger_queues hsrc hruns hent, seqTrigger_drops hsrc hruns hent⟩,
   seqTrigger_elsewhere, gtEvent_triggers, seqStepStart_takes, seqPublish_publishes, conversionTimeout_fails a n⟩

end Sys2Proof.Machine
end

section
/-! PROOFS. Accepted writes of the fault collector: acknowledge, clear a unit, the first fault, STICKY bits (R366, R369, R371, R372). -/
namespace Sys2Proof.Machine
variable {d : Dev} {s : State}

/-! The write of a word that holds fields which a write sets. -/

/-- The fields of a word that a write of it may set. -/
def writtenFlds (w o i : Nat) : List (Fld × Nat) := (plainWord w o i).filter (fun p => !p.1.inert)

/-- A write of a word sets those fields, and then its window acts. -/
theorem writeAct_written (t : Nat) (src : Source) {a w o : Nat} (val : Nat) (ha : winOf a = some (w, o)) (hw : w < 18) :
    d.writeAct t src a val = ((writtenFlds w o (srcIx src)).foldl (fun d p => d.fieldWrite p val) d).windowAct d t src w o val := by
  have hskip : ∀ (l : List (Fld × Nat)) (e : Dev), l.foldl (fun d p => d.fieldWrite p val) e =
      (l.filter (fun p => !p.1.inert)).foldl (fun d p => d.fieldWrite p val) e := by
    intro l
    induction l with
    | nil => exact fun _ => rfl
    | cons p l ih =>
      intro e
      cases hp : p.1.inert with
      | true => simp [hp, fieldWrite_inert hp, ih]
      | false => simp [hp, ih]
  rw [writeAct_eq t src ha hw, hskip, writtenFlds]

theorem bitOf_sub_and (v m b : Nat) : bitOf (v - (v &&& m)) b = if bitOf m b = 1 then 0 else bitOf v b := by
  have hle : v &&& m ≤ v := Nat.and_le_left
  have hbit : (v &&& m) % 2 = 1 ↔ v % 2 = 1 ∧ m % 2 = 1 := Nat.and_mod_two_eq_one
  induction b generalizing v m with
  | zero =>
    simp only [bitOf_zero]
    split <;> omega
  | succ b ih =>
    have hhalf : (v &&& m) / 2 = v / 2 &&& m / 2 := Nat.and_div_two
    have hsub : (v - (v &&& m)) / 2 = v / 2 - (v / 2 &&& m / 2) := by omega
    rw [← bitOf_div, ← bitOf_div, ← bitOf_div, hsub, ih _ _ Nat.and_le_left Nat.and_mod_two_eq_one]

/-- A bit of a field of the access type W1C is cleared where it is written 1, and stays where it is written 0 (R534). -/
theorem fieldWrite_w1c_bit {p : Fld × Nat} (hacc : p.1.acc = .w1c) (val : Nat) {b : Nat} (hb : b < p.1.width) :
    bitOf ((d.fieldWrite p val).get p.1 p.2) b = if bitOf (p.1.of val) b = 1 then 0 else bitOf (d.get p.1 p.2) b := by
  have hwrite : d.fieldWrite p val = if p.1.of val = 0 then d else d.put p.1 (d.get p.1 p.2 - (d.get p.1 p.2 &&& p.1.of val)) p.2 := by
    simp only [Dev.fieldWrite, hacc]
  rw [hwrite]
  by_cases hv : p.1.of val = 0
  · simp [hv, bitOf]
  · rw [if_neg hv, Dev.get_put_same, bitOf_mod _ _ _ hb, bitOf_sub_and]

/-- A write of one field writes that element alone. -/
theorem fieldWrite_within {L : List Fld} {E : List (Fld × Nat)} {p : Fld × Nat} (hid : p.1.id < 2048) (h : hasEl E p.1 p.2 = true) (val : Nat) :
    Within L d (d.fieldWrite p val) E := by
  unfold Dev.fieldWrite
  dsimp only
  split
  · split
    · exact .of_put_at _ _ _ _ hid h
    · exact .refl d
  · split
    · exact .refl d
    · exact .of_put_at _ _ _ _ hid h
  · exact .refl d

/-! HIST_ACK (R369). -/

theorem writeAct_histAck (t : Nat) (src : Source) (val : Nat) : d.writeAct t src (winAddr wFlt 0xC) val = d.put R.FLT.ACK_SEQ val := by
  have hflds : writtenFlds 13 0xC (srcIx src) = [] := by cases src <;> decide
  rw [writeAct_written t src val (by decide : winOf (winAddr wFlt 0xC) = some (13, 0xC)) (by decide), hflds]
  rfl

theorem histAck_does {src : Source} {seq : BitVec 16} (h : Accepts s src (winAddr wFlt 0xC) seq.toNat) : Does (.histAck src seq) s fun d =>
    d.get R.FLT.ACK_SEQ = seq.toNat ∧ Within (countFlds ++ [R.FLT.ACK_SEQ]) s.dev d := by
  refine does_write rfl h ?_
  rw [writeAct_histAck]
  refine ⟨?_, ((counted_within src).mono (by decide)).trans (.of_put _ _ _ _ (by decide) (by decide))⟩
  rw [Dev.get_put_same]
  exact Nat.mod_eq_of_lt seq.isLt

/-! UNIT_CLR (R366). -/

/-- The requests of every element of a list. -/
def Dev.awaitsAll (d : Dev) (due ns : Fld) (t : Nat) (l : List Nat) : Dev := l.foldl (fun d i => d.awaits due ns t i) d

theorem awaitsAll_within {L : List Fld} {due ns : Fld} (hf : RequestFlds due ns) (hdue : hasFld L due = true) (hns : hasFld L ns = true)
    (t : Nat) (l : List Nat) : Within L d (d.awaitsAll due ns t l) :=
  Within.of_foldl _ (fun e i => (Within.of_put e due 1 i hf.due_id hdue).trans (.of_put _ ns t i hf.ns_id hns)) l d

/-- A request of one element leaves the requests of the others. -/
theorem awaits_elsewhere {due ns : Fld} (hf : RequestFlds due ns) (t : Nat) {i j : Nat} (hij : i % 65536 ≠ j % 65536) :
    (d.awaits due ns t i).get due j = d.get due j ∧ (d.awaits due ns t i).get ns j = d.get ns j := by
  constructor
  · rw [Dev.awaits, Dev.get_put_other _ _ _ _ _ _ hf.ns_id hf.due_id hf.apart, Dev.get_put_ne _ _ _ _ _ _ hf.due_id hf.due_id (.inr hij)]
  · rw [Dev.awaits, Dev.get_put_ne _ _ _ _ _ _ hf.ns_id hf.ns_id (.inr hij), Dev.get_put_other _ _ _ _ _ _ hf.due_id hf.ns_id (Ne.symm hf.apart)]

theorem awaitsAll_mem {due ns : Fld} (hf : RequestFlds due ns) (t : Nat) {l : List Nat} (hl : ∀ i ∈ l, i < 65536) {j : Nat} (hj : j ∈ l) :
    (d.awaitsAll due ns t l).get due j = 1 ∧ (d.awaitsAll due ns t l).get ns j = t % 2 ^ 64 := by
  refine foldl_establishes (I := fun _ => True) (Q := fun e : Dev => e.get due j = 1 ∧ e.get ns j = t % 2 ^ 64) l hj (fun _ _ _ _ => trivial)
    (fun _ _ => ⟨awaits_due hf t j, awaits_time hf t j⟩) (fun e i hi hij _ he => ?_) trivial
  have hlti := hl i hi
  have hltj := hl j hj
  obtain ⟨hdue, hns⟩ := awaits_elsewhere (d := e) hf t (show i % 65536 ≠ j % 65536 by omega)
  rwa [hdue, hns]

theorem awaitsAll_not_mem {due ns : Fld} (hf : RequestFlds due ns) (t : Nat) {l : List Nat} (hl : ∀ i ∈ l, i < 65536) {j : Nat} (hlt : j < 65536)
    (hj : j ∉ l) : (d.awaitsAll due ns t l).get due j = d.get due j := by
  refine List.foldlRecOn (motive := fun e : Dev => e.get due j = d.get due j) l _ rfl fun e he i hi => ?_
  have hlti := hl i hi
  have hij : i ≠ j := fun h => hj (h ▸ hi)
  rw [(awaits_elsewhere hf t (by omega)).1, he]

theorem requestFlds_unitClr : RequestFlds I.FLT.CLR_DUE I.FLT.CLR_NS := by constructor <;> decide

/-- The units that a UNIT_CLR names. -/
def clrUnits (u : Nat) : List Nat := if u = 255 then List.range 173 else [u]

theorem mem_clrUnits {u j : Nat} (hj : j < 173) : j ∈ clrUnits u ↔ u = j ∨ u = 255 := by
  unfold clrUnits
  split
  · next hall => simp [hall, hj]
  · next hone => simp [hone, eq_comm]

theorem lt_of_mem_clrUnits {u : Nat} (hu : u < 256) : ∀ i ∈ clrUnits u, i < 65536 := by
  intro i hi
  unfold clrUnits at hi
  split at hi
  · have := List.mem_range.1 hi
    omega
  · have := List.mem_singleton.1 hi
    omega

theorem writeAct_unitClr (t : Nat) (src : Source) (val : Nat) : d.writeAct t src (winAddr wFlt 0x34) val =
    d.awaitsAll I.FLT.CLR_DUE I.FLT.CLR_NS t (clrUnits (val % 256)) := by
  have hflds : writtenFlds 13 0x34 (srcIx src) = [] := by cases src <;> decide
  rw [writeAct_written t src val (by decide : winOf (winAddr wFlt 0x34) = some (13, 0x34)) (by decide), hflds]
  rfl

theorem unitClr_does {src : Source} {unit : BitVec 8} {u : Fin 173} (h : Accepts s src (winAddr wFlt 0x34) unit.toNat) :
    Does (.unitClr src unit) s fun d =>
      ((unit.toNat = u ∨ unit = 255) → d.get I.FLT.CLR_DUE u = 1 ∧ d.get I.FLT.CLR_NS u = s.clk.ns % 2 ^ 64) ∧
      ((unit.toNat ≠ u ∧ unit ≠ 255) → d.get I.FLT.CLR_DUE u = s.dev.get I.FLT.CLR_DUE u) ∧
      Within (countFlds ++ [I.FLT.CLR_DUE, I.FLT.CLR_NS]) s.dev d := by
  refine does_write rfl h ?_
  have hmod : unit.toNat % 256 = unit.toNat := Nat.mod_eq_of_lt unit.isLt
  have hall : unit = 255 ↔ unit.toNat = 255 := BitVec.toNat_inj.symm
  have hmem : u.val ∈ clrUnits unit.toNat ↔ unit.toNat = u ∨ unit = 255 := by rw [mem_clrUnits u.isLt, hall]
  have hlt := lt_of_mem_clrUnits unit.isLt
  have hcount : (s.dev.counted src).get I.FLT.CLR_DUE u = s.dev.get I.FLT.CLR_DUE u := get_counted _ _ _ (by decide) (by decide)
  rw [writeAct_unitClr, hmod]
  refine ⟨fun hu => awaitsAll_mem requestFlds_unitClr _ hlt (hmem.2 hu), fun hu => ?_, ?_⟩
  · rw [awaitsAll_not_mem requestFlds_unitClr _ hlt (by omega) (mt hmem.1 (not_or.2 hu)), hcount]
  · exact ((counted_within src).mono (by decide)).trans (awaitsAll_within requestFlds_unitClr (by decide) (by decide) _ _)

/-! FF_VALID (R371). -/

theorem writeAct_ffValid (t : Nat) (src : Source) (val : Nat) :
    d.writeAct t src (winAddr wFlt 0) val = d.fieldWrite (R.FLT.FF_VALID, 0) val := by
  have hflds : writtenFlds 13 0 (srcIx src) = [(R.FLT.FF_VALID, 0)] := by cases src <;> decide
  rw [writeAct_written t src val (by decide : winOf (winAddr wFlt 0) = some (13, 0)) (by decide), hflds]
  rfl

theorem ffValidClear_does {src : Source} (h : Accepts s src (winAddr wFlt 0) (2 ^ 19)) : Does (.ffValidClear src) s fun d =>
    (s.dev.get R.FLT.FF_VALID < 2 → d.get R.FLT.FF_VALID = 0) ∧ Within (countFlds ++ [R.FLT.FF_VALID]) s.dev d := by
  refine does_write rfl h ?_
  rw [writeAct_ffValid]
  have hwrite : ∀ e : Dev, e.fieldWrite (R.FLT.FF_VALID, 0) (2 ^ 19) =
    e.put R.FLT.FF_VALID (e.get R.FLT.FF_VALID - (e.get R.FLT.FF_VALID &&& 1)) := fun _ => rfl
  rw [hwrite, get_counted _ _ _ (by decide) (by decide)]
  refine ⟨fun hbit => ?_, ((counted_within src).mono (by decide)).trans (.of_put _ _ _ _ (by decide) (by decide))⟩
  rw [Dev.get_put_same, Nat.and_one_is_mod, Nat.mod_eq_of_lt hbit, Nat.sub_self, Nat.zero_mod]

/-! STICKY (R372). -/

theorem winOf_sticky (c : Fin 16) (k : Fin 8) :
    winOf (winAddr wFlt (0x400 + 0x20 * c + 4 * k)) = some (13, 0x400 + 0x20 * c.val + 4 * k.val) := by
  revert c k
  decide

theorem writtenFlds_sticky (src : Source) (c : Fin 16) (k : Fin 8) :
    writtenFlds 13 (0x400 + 0x20 * c + 4 * k) (srcIx src) = [(R.FLT.STICKY, 8 * c.val + k.val)] := by
  revert c k
  cases src <;> decide +kernel

theorem writeAct_sticky (t : Nat) (src : Source) (c : Fin 16) (k : Fin 8) (val : Nat) :
    d.writeAct t src (winAddr wFlt (0x400 + 0x20 * c + 4 * k)) val = d.fieldWrite (R.FLT.STICKY, 8 * c.val + k.val) val := by
  have hack : 0x400 + 0x20 * c.val + 4 * k.val ≠ 0xC := by omega
  have hsig : 0x400 + 0x20 * c.val + 4 * k.val ≠ 0x10 := by omega
  have hclr : 0x400 + 0x20 * c.val + 4 * k.val ≠ 0x34 := by omega
  rw [writeAct_written t src val (winOf_sticky c k) (by decide), writtenFlds_sticky]
  simp only [Dev.windowAct, hack, hsig, hclr, if_false, List.foldl_cons, List.foldl_nil]

theorem stickyClear_does {src : Source} {c : Fin 16} {k : Fin 8} {mask : Word}
    (h : Accepts s src (winAddr wFlt (0x400 + 0x20 * c + 4 * k)) mask.toNat) : Does (.stickyClear src c k mask) s fun d =>
      (∀ b < 32, bitOf (d.get R.FLT.STICKY (8 * c + k)) b =
        if bitOf mask.toNat b = 1 then 0 else bitOf (s.dev.get R.FLT.STICKY (8 * c + k)) b) ∧
      Within countFlds s.dev d [(R.FLT.STICKY, 8 * c + k)] := by
  refine does_write rfl h ?_
  have hmask : R.FLT.STICKY.of mask.toNat = mask.toNat := Nat.mod_eq_of_lt mask.isLt
  have hcount : (s.dev.counted src).get R.FLT.STICKY (8 * c + k) = s.dev.get R.FLT.STICKY (8 * c + k) :=
    get_counted _ _ _ (by decide) (by decide)
  rw [writeAct_sticky]
  refine ⟨fun b hb => ?_, (counted_within src).addEls.trans (fieldWrite_within (show R.FLT.STICKY.id < 2048 by decide) (by simp [hasEl]) _)⟩
  rw [fieldWrite_w1c_bit (p := (R.FLT.STICKY, 8 * c.val + k.val)) rfl _ hb, hmask, hcount]

/-- Settles O6: each is a write of a word that sets one field of the collector or none, and the acknowledged entry and the orders of the
units are what its window does beside it. -/
theorem faultCollectorWrites : Obligations.FaultCollectorWrites := fun _ _ _ _ _ _ _ _ =>
  ⟨histAck_does, unitClr_does, ffValidClear_does, fun h _ => stickyClear_does h⟩

end Sys2Proof.Machine
end

section
/-! PROOFS. Accepted writes of SIG_OK and of the safety functions (R374, R375, R390, R397, R398). -/
namespace Sys2Proof.Machine
variable {d : Dev} {s : State}

/-! ALIVE (R374, R375). -/

/-- ALIVE and LEVEL take their bits. -/
def Dev.sigSet (d : Dev) (val : Nat) : Dev := (d.put R.FLT.ALIVE (bitOf val 1)).put R.FLT.LEVEL (bitOf val 0)

theorem sigSet_alive (val : Nat) : (d.sigSet val).get R.FLT.ALIVE = bitOf val 1 := by
  rw [Dev.sigSet, Dev.get_put_other _ _ _ _ _ _ (by decide) (by decide) (by decide), Dev.get_put_same]
  exact bitOf_mod_two _ _

theorem sigSet_level (val : Nat) : (d.sigSet val).get R.FLT.LEVEL = bitOf val 0 := by
  rw [Dev.sigSet, Dev.get_put_same]
  exact bitOf_mod_two _ _

theorem sigSet_within (val : Nat) : Within [R.FLT.ALIVE, R.FLT.LEVEL] d (d.sigSet val) :=
  (Within.of_put _ _ _ _ (by decide) (by decide)).trans (.of_put _ _ _ _ (by decide) (by decide))

theorem writeAct_alive (t : Nat) (src : Source) (val : Nat) :
    d.writeAct t src (winAddr wFlt 0x10) val = (d.sigSet val).sigWrite (d.get R.FLT.ALIVE) := by
  have hflds : writtenFlds 13 0x10 (srcIx src) = [(R.FLT.ALIVE, 0), (R.FLT.LEVEL, 0)] := by cases src <;> decide
  rw [writeAct_written t src val (by decide : winOf (winAddr wFlt 0x10) = some (13, 0x10)) (by decide), hflds]
  rfl

/-- A rising ALIVE starts the square wave with the pin high. -/
theorem sigWrite_rises (halive : d.get R.FLT.ALIVE = 1) :
    d.sigWrite 0 = (d.put R.FLT.SIGOK_STATE sigAlive).put R.FLT.SIGOK_PIN 1 := by
  simp [Dev.sigWrite, halive]

/-- In HOLD the pin follows LEVEL. -/
theorem sigWrite_holds (halive : d.get R.FLT.ALIVE = 0) (hstate : d.get R.FLT.SIGOK_STATE = sigHold) (was : Nat) :
    d.sigWrite was = d.put R.FLT.SIGOK_PIN (d.get R.FLT.LEVEL) := by
  simp [Dev.sigWrite, halive, hstate, sigHold, sigAlive]

theorem sigWrite_within (was : Nat) : Within [R.FLT.SIGOK_STATE, R.FLT.SIGOK_PIN] d (d.sigWrite was) := by
  unfold Dev.sigWrite
  simp (disch := decide)

theorem alive_does {src : Source} {val : Word} (h : Accepts s src (winAddr wFlt 0x10) val.toNat) (hstate : s.dev.get R.FLT.SIGOK_STATE = sigHold)
    (hwas : s.dev.get R.FLT.ALIVE = 0) : Does (.alive src val) s fun d =>
      d.get R.FLT.ALIVE = bitOf val.toNat 1 ∧ d.get R.FLT.LEVEL = bitOf val.toNat 0 ∧
      (bitOf val.toNat 1 = 1 → d.get R.FLT.SIGOK_STATE = sigAlive ∧ d.get R.FLT.SIGOK_PIN = 1) ∧
      (bitOf val.toNat 1 = 0 → d.get R.FLT.SIGOK_STATE = sigHold ∧ d.get R.FLT.SIGOK_PIN = bitOf val.toNat 0) ∧
      Within (countFlds ++ [R.FLT.ALIVE, R.FLT.LEVEL, R.FLT.SIGOK_STATE, R.FLT.SIGOK_PIN]) s.dev d := by
  refine does_write rfl h ?_
  rw [writeAct_alive, get_counted _ _ _ (by decide) (by decide), hwas]
  have hset := sigSet_within (d := s.dev.counted src) val.toNat
  have halive := sigSet_alive (d := s.dev.counted src) val.toNat
  have hlevel := sigSet_level (d := s.dev.counted src) val.toNat
  have hhold : ((s.dev.counted src).sigSet val.toNat).get R.FLT.SIGOK_STATE = sigHold := by
    rw [hset.regsKept.get (by decide) (by decide), get_counted _ _ _ (by decide) (by decide), hstate]
  generalize (s.dev.counted src).sigSet val.toNat = e at hset halive hlevel hhold
  have hwrite := sigWrite_within (d := e) 0
  refine ⟨?_, ?_, fun hrise => ?_, fun hlow => ?_, ?_⟩
  · rw [hwrite.regsKept.get (by decide) (by decide), halive]
  · rw [hwrite.regsKept.get (by decide) (by decide), hlevel]
  · rw [sigWrite_rises (halive.trans hrise)]
    exact ⟨by rw [Dev.get_put_other _ _ _ _ _ _ (by decide) (by decide) (by decide), Dev.get_put_same]; rfl, get_put_one _ (by decide) 0⟩
  · rw [sigWrite_holds (halive.trans hlow) hhold, hlevel]
    refine ⟨by rw [Dev.get_put_other _ _ _ _ _ _ (by decide) (by decide) (by decide), hhold], ?_⟩
    rw [Dev.get_put_same]
    exact bitOf_mod_two _ _
  · exact ((counted_within src).mono (by decide)).trans ((hset.mono (by decide)).trans (hwrite.mono (by decide)))

/-! SF_FB_CLR (R390). -/

/-- The feedback latches that a write names are cleared, in both channels. -/
def Dev.fblCleared (d : Dev) (mask : Nat) : Dev :=
  (List.range 8).foldl (fun d k => if bitOf mask (k % 4) = 1 then d.put I.SAFE.FBL 0 k else d) d

theorem fblCleared_within (mask : Nat) : Within [I.SAFE.FBL] d (d.fblCleared mask) := by
  refine Within.of_foldl _ (fun e k => ?_) _ _
  split
  · exact .of_put _ _ _ _ (by decide) (by decide)
  · exact .refl e

theorem fblCleared_get {mask k : Nat} (hk : k < 8) (hmask : bitOf mask (k % 4) = 1) : (d.fblCleared mask).get I.SAFE.FBL k = 0 := by
  refine foldl_establishes (I := fun _ => True) (Q := fun e : Dev => e.get I.SAFE.FBL k = 0) _ (List.mem_range.2 hk) (fun _ _ _ _ => trivial)
    (fun e _ => ?_) (fun e j hj hjk _ he => ?_) trivial
  · rw [if_pos hmask, Dev.get_put_same, Nat.zero_mod]
  · have hlt := List.mem_range.1 hj
    split
    · rwa [Dev.get_put_ne _ _ _ _ _ _ (by decide) (by decide) (.inr (by omega))]
    · exact he

theorem writeAct_sfFbClr (t : Nat) (src : Source) (val : Nat) :
    d.writeAct t src (winAddr wSafe 0x10) val = (d.fblCleared val).settle t := by
  have hflds : writtenFlds 14 0x10 (srcIx src) = [] := by cases src <;> decide
  rw [writeAct_written t src val (by decide : winOf (winAddr wSafe 0x10) = some (14, 0x10)) (by decide), hflds]
  have hword : (0x10 : Nat) ≠ 0xC := by decide
  simp only [Dev.windowAct, hword, if_true, if_false, List.foldl_nil, Dev.fbClear, Dev.fblCleared]

theorem sfFbClr_does {src : Source} {fb : BitVec 4} {ch : Fin 2} {f : Fin 4} (h : Accepts s src (winAddr wSafe 0x10) fb.toNat)
    (hbit : bitOf fb.toNat f = 1) : Does (.sfFbClr src fb) s fun d =>
      d.get I.SAFE.FBL (4 * ch + f) = 0 ∧ Within (settleFlds ++ [I.SAFE.FBL]) s.dev d := by
  refine does_write rfl h ?_
  have hcontact : (4 * ch.val + f.val) % 4 = f := by omega
  rw [writeAct_sfFbClr]
  constructor
  · rw [(settle_within _).regsKept.get (by decide) (by decide), fblCleared_get (by omega) (by rwa [hcontact])]
  · exact ((counted_within src).mono (by decide)).trans (((fblCleared_within _).mono (by decide)).trans ((settle_within _).mono (by decide)))

/-! SF_HOST_DEM (R397, R398). -/

/-- A write of SF_HOST_DEM sets a demand that was not set. -/
def newDemand (old v : Nat) : Prop := ∃ b < 2, bitOf v b = 1 ∧ bitOf old b = 0

/-- The two demands, and instance 22 for one that is new, before settling. -/
def Dev.hostDemanded (d : Dev) (t v : Nat) : Dev :=
  if (List.range 2).any (fun b => bitOf v b = 1 && bitOf (d.get R.SAFE.SF_HOST_DEM) b = 0) then
    (d.put R.SAFE.SF_HOST_DEM v).raise t 10 22 v
  else d.put R.SAFE.SF_HOST_DEM v

theorem hostDemanded_get (t v : Nat) : (d.hostDemanded t v).get R.SAFE.SF_HOST_DEM = v % 4 := by
  have hput : (d.put R.SAFE.SF_HOST_DEM v).get R.SAFE.SF_HOST_DEM = v % 4 := Dev.get_put_same _ _ _ _
  unfold Dev.hostDemanded
  split
  · rw [Dev.get_raise _ _ _ _ _ _ _ (by decide) (by decide), hput]
  · exact hput

theorem hostDemanded_raised (t v : Nat) (hnew : newDemand (d.get R.SAFE.SF_HOST_DEM) v) : Raised (d.hostDemanded t v) 10 22 := by
  obtain ⟨b, hb, hset, hclear⟩ := hnew
  have hany : (List.range 2).any (fun b => bitOf v b = 1 && bitOf (d.get R.SAFE.SF_HOST_DEM) b = 0) = true :=
    List.any_eq_true.2 ⟨b, List.mem_range.2 hb, by simp [hset, hclear]⟩
  rw [Dev.hostDemanded, if_pos hany]
  exact raise_raised _ _ _ _ _ (by decide)

theorem hostDemanded_within (t v : Nat) : Within (raiseFlds ++ [R.SAFE.SF_HOST_DEM]) d (d.hostDemanded t v) := by
  unfold Dev.hostDemanded
  simp (disch := decide)

/-- The window writes the demands anew from the module before the write. -/
theorem writeAct_sfHostDem (t : Nat) (src : Source) (val : Nat) :
    d.writeAct t src (winAddr wSafe 0xC) val = (d.hostDemanded t (val % 4)).settle t := by
  rw [writeAct_written t src val (by decide : winOf (winAddr wSafe 0xC) = some (14, 0xC)) (by decide)]
  simp only [Dev.windowAct, if_true, Dev.hostDemand, Dev.hostDemanded]

theorem sfHostDem_does {src : Source} {dem : BitVec 2} (h : Accepts s src (winAddr wSafe 0xC) dem.toNat) : Does (.sfHostDem src dem) s fun d =>
    d.get R.SAFE.SF_HOST_DEM = dem.toNat ∧ (newDemand (s.dev.get R.SAFE.SF_HOST_DEM) dem.toNat → Raised d 10 22) ∧
    Within (settleFlds ++ [R.SAFE.SF_HOST_DEM]) s.dev d := by
  refine does_write rfl h ?_
  have hmod : dem.toNat % 4 = dem.toNat := Nat.mod_eq_of_lt dem.isLt
  have hcount : (s.dev.counted src).get R.SAFE.SF_HOST_DEM = s.dev.get R.SAFE.SF_HOST_DEM := get_counted _ _ _ (by decide) (by decide)
  rw [writeAct_sfHostDem, hmod]
  refine ⟨?_, fun hnew => settle_raised _ (hostDemanded_raised _ _ (hcount.symm ▸ hnew)), ?_⟩
  · rw [(settle_within _).regsKept.get (by decide) (by decide), hostDemanded_get, hmod]
  · exact ((counted_within src).mono (by decide)).trans (((hostDemanded_within _ _).mono (by decide)).trans ((settle_within _).mono (by decide)))

/-- Settles O7: ALIVE by what the bits that the write sets make of SIG_OK, the other two by what they write before settling, which keeps
the latches, the demands and the raising. -/
theorem safetyWrites : Obligations.SafetyWrites := fun _ _ _ _ _ _ _ =>
  ⟨alive_does, sfFbClr_does, sfHostDem_does⟩

end Sys2Proof.Machine
end

section
/-! PROOFS. A step takes the front of its queue; and what several families of commands share: a one-bit field read back, registers set over
a range, and an operation that repeats over a range. -/
namespace Sys2Proof.Machine
variable {d : Dev}

/-- Settles O54: on a queue with a command at its front a step is that command on the rest. -/
theorem stepRunsFront : Obligations.StepRunsFront := fun _ _ => rfl

theorem get_flag_same (f : Fld) (hw : f.width ≠ 0) (b : Bool) (i : Nat) : (d.flag f b i).get f i = b.toNat := by
  rw [Dev.flag, Dev.get_put_same, Nat.mod_eq_of_lt (Nat.lt_of_le_of_lt (Bool.toNat_le b) (Nat.one_lt_two_pow hw))]

/-- What one step of a range establishes, and the others keep, holds after the range. -/
theorem forN_establishes {n k : Nat} {g : Dev → Nat → Dev} {Q : Dev → Prop} (hk : k < n) (hest : ∀ e, Q (g e k))
    (hkeep : ∀ e, ∀ j < n, j ≠ k → Q e → Q (g e j)) : Q (d.forN n g) :=
  foldl_establishes (I := fun _ => True) (List.range n) (List.mem_range.2 hk) (fun _ _ _ _ => trivial) (fun e _ => hest e)
    (fun e j hj hjk _ hQ => hkeep e j (List.mem_range.1 hj) hjk hQ) trivial

theorem get_forN_put {f : Fld} (hf : f.id < 2048) {n k : Nat} (hn : n ≤ 65536) (hk : k < n) (v : Nat → Nat) :
    (d.forN n (fun d j => d.put f (v j) j)).get f k = v k % 2 ^ f.width := by
  refine forN_establishes (Q := fun e => e.get f k = v k % 2 ^ f.width) hk (fun e => Dev.get_put_same _ _ _ _) (fun e j hj hjk he => ?_)
  rwa [Dev.get_put_ne _ _ _ _ _ _ hf hf (.inr (by omega))]

end Sys2Proof.Machine
end

section
/-! PROOFS. The safety channels (R387 to R398): the pairs of contacts, the feedback contacts, the readback, the cross-check, Yarrow's
supply and parameters. -/
namespace Sys2Proof.Machine
variable {d : Dev} {s : State}

/-! The pairs (R387, R388). -/

/-- What the latch of a pair and the end of a disagreement write. -/
def pairFlds : List Fld :=
  raiseFlds ++ [I.SAFE.ARM, I.SAFE.DIS_FIRST, I.SAFE.DIS_ON, I.SAFE.LATCH, R.SAFE.PAIR_DISC_CNT, R.SAFE.PAIR_LAST_DISAG, R.SAFE.PAIR_NEAR_CNT]

/-- What the latch of a pair alone writes. -/
def discFlds : List Fld := raiseFlds ++ [I.SAFE.ARM, I.SAFE.LATCH, R.SAFE.PAIR_DISC_CNT]

theorem discrepancy_within (t ch i : Nat) : Within discFlds d (d.discrepancy t ch i) := by
  unfold Dev.discrepancy
  simp (disch := decide)

theorem disagreeEnd_within (t ch i n : Nat) : Within pairFlds d (d.disagreeEnd t ch i n) := by
  unfold Dev.disagreeEnd
  simp (disch := decide)

/-- The pair latched, and no longer armed. -/
def Dev.pairLatched (d : Dev) (k : Nat) : Dev := (d.put I.SAFE.LATCH 1 k).put I.SAFE.ARM 0 k

theorem pairLatched_get (k : Nat) : (d.pairLatched k).get I.SAFE.LATCH k = 1 := by
  rw [Dev.pairLatched, Dev.get_put_other _ _ _ _ _ _ (by decide) (by decide) (by decide), get_put_one _ (by decide)]

theorem discrepancy_eq (t ch i : Nat) : ∃ det, d.discrepancy t ch i =
    if ch = 0 ∨ d.is I.SAFE.LATCH i = false then ((d.pairLatched (4 * ch + i)).bump R.SAFE.PAIR_DISC_CNT i).raise t 10 (4 + i) det true
    else d.pairLatched (4 * ch + i) := by
  refine ⟨d.get I.SAFE.DIS_FIRST (4 * ch + i), ?_⟩
  simp only [Dev.discrepancy, Dev.pairLatched, Bool.or_eq_true, decide_eq_true_eq, Bool.not_eq_true']

theorem discrepancy_latches (t ch i : Nat) : (d.discrepancy t ch i).get I.SAFE.LATCH (4 * ch + i) = 1 := by
  obtain ⟨det, heq⟩ := discrepancy_eq (d := d) t ch i
  rw [heq]
  split
  · rw [Dev.get_raise _ _ _ _ _ _ _ (by decide) (by decide), Dev.get_bump_other _ _ _ _ _ _ (by decide) (by decide) (by decide), pairLatched_get]
  · exact pairLatched_get _

theorem discrepancy_raised {t ch i : Nat} (hi : i < 4) (h : ch = 0 ∨ d.is I.SAFE.LATCH i = false) : Raised (d.discrepancy t ch i) 10 (4 + i) := by
  obtain ⟨det, heq⟩ := discrepancy_eq (d := d) t ch i
  rw [heq, if_pos h]
  exact raise_raised _ _ _ _ _ (by omega)

/-- The filtered levels of pair k of the two channels. -/
def Dev.pairTaken (d : Dev) (k : Nat) (a b : Bool) : Dev := (d.flag I.SAFE.IN a (2 * k)).flag I.SAFE.IN b (2 * k + 1)

theorem pairTaken_within (k : Nat) (a b : Bool) : Within [I.SAFE.IN] d (d.pairTaken k a b) := by
  unfold Dev.pairTaken
  simp (disch := decide)

theorem pairTaken_get (k : Nat) (a b : Bool) :
    (d.pairTaken k a b).get I.SAFE.IN (2 * k) = a.toNat ∧ (d.pairTaken k a b).get I.SAFE.IN (2 * k + 1) = b.toNat := by
  refine ⟨?_, get_flag_same _ (by decide) _ _⟩
  rw [Dev.pairTaken, Dev.flag, Dev.get_put_ne _ _ _ _ _ _ (by decide) (by decide) (.inr (by omega)), get_flag_same _ (by decide)]

/-- After the levels a pair's disagreement and latch follow, and then its instance where it comes into demand. -/
theorem pairChange_eq (t ch i n : Nat) (a b : Bool) : ∃ e det, Within pairFlds (d.pairTaken (4 * ch + i) a b) e ∧
    d.pairChange t ch i a b n = if ((a || b) && !(d.pairDemand 0 i || d.pairDemand 1 i)) = true then e.raise t 10 i det else e := by
  refine ⟨_, _, ?_, rfl⟩
  have hdisc : ∀ e : Dev, Within pairFlds e (e.discrepancy t ch i) := fun e => (discrepancy_within _ _ _).mono (by decide)
  have hend : ∀ e : Dev, Within pairFlds e (e.disagreeEnd t ch i n) := fun e => disagreeEnd_within _ _ _ _
  simp (disch := first | decide | exact hdisc | exact hend | (intros; simp (disch := decide))) [Dev.pairTaken]

theorem exec_safetyInputFiltered {ch : Channel} {pair : Fin 4} {a b : Bool} {dis : BitVec 32} (hused : s.dev.pairUsed (chanIx ch) pair = true) :
    exec (.safetyInputFiltered ch pair a b dis) s =
      .next { s with dev := (s.dev.pairChange s.clk.ns (chanIx ch) pair a b dis.toNat).settle s.clk.ns } := by
  show execSafetyInputFiltered ch pair a b dis s = _
  simp [execSafetyInputFiltered, hused]

theorem safetyInputFiltered_takes {ch : Channel} {pair : Fin 4} {a b : Bool} {dis : BitVec 32} (hused : s.dev.pairUsed (chanIx ch) pair = true) :
    Does (.safetyInputFiltered ch pair a b dis) s fun d =>
      d.get I.SAFE.IN (2 * (4 * chanIx ch + pair)) = a.toNat ∧ d.get I.SAFE.IN (2 * (4 * chanIx ch + pair) + 1) = b.toNat ∧
      ((a || b) = true → s.dev.pairDemand 0 pair = false → s.dev.pairDemand 1 pair = false → Raised d 10 pair) ∧
      Within (raiseFlds ++ [I.SAFE.ARM, I.SAFE.DIS_FIRST, I.SAFE.DIS_ON, I.SAFE.IN, I.SAFE.LATCH, R.SAFE.PAIR_DISC_CNT, R.SAFE.PAIR_LAST_DISAG,
        R.SAFE.PAIR_NEAR_CNT]) s.dev d := by
  obtain ⟨e, det, hrest, heq⟩ := pairChange_eq (d := s.dev) s.clk.ns (chanIx ch) pair dis.toNat a b
  have hafter : Within pairFlds (s.dev.pairTaken (4 * chanIx ch + pair) a b) (s.dev.pairChange s.clk.ns (chanIx ch) pair a b dis.toNat) := by
    rw [heq]
    split
    · exact hrest.trans ((raise_within _ _ _ _ _).mono (by decide))
    · exact hrest
  obtain ⟨ha, hb⟩ := pairTaken_get (d := s.dev) (4 * chanIx ch + pair) a b
  refine ⟨_, exec_safetyInputFiltered hused, ?_, ?_, fun hlevel h0 h1 => ?_, ((pairTaken_within _ _ _).mono (by decide)).trans (hafter.mono (by decide))⟩
  · rw [hafter.regsKept.get (by decide) (by decide), ha]
  · rw [hafter.regsKept.get (by decide) (by decide), hb]
  · rw [heq, if_pos (by simp [hlevel, h0, h1])]
    exact raise_raised _ _ _ _ _ (by omega)

theorem safetyInputFiltered_unused {ch : Channel} {pair : Fin 4} {a b : Bool} {dis : BitVec 32} (hused : s.dev.pairUsed (chanIx ch) pair = false) :
    exec (.safetyInputFiltered ch pair a b dis) s = .next s := by
  show execSafetyInputFiltered ch pair a b dis s = _
  simp [execSafetyInputFiltered, hused]

theorem exec_discrepancyFault {ch : Channel} {pair : Fin 4} (hused : s.dev.pairUsed (chanIx ch) pair = true)
    (hruns : s.dev.is I.SAFE.DIS_ON (4 * chanIx ch + pair) = true) : exec (.discrepancyFault ch pair) s =
      .next { s with dev := ((s.dev.discrepancy s.clk.ns (chanIx ch) pair).put I.SAFE.DIS_ON 0 (4 * chanIx ch + pair)).settle s.clk.ns } := by
  show execDiscrepancyFault ch pair s = _
  simp [execDiscrepancyFault, hused, hruns]

theorem discrepancyFault_latches {ch : Channel} {pair : Fin 4} (hused : s.dev.pairUsed (chanIx ch) pair = true)
    (hruns : s.dev.is I.SAFE.DIS_ON (4 * chanIx ch + pair) = true) : Does (.discrepancyFault ch pair) s fun d =>
      d.get I.SAFE.LATCH (4 * chanIx ch + pair) = 1 ∧ d.get I.SAFE.DIS_ON (4 * chanIx ch + pair) = 0 ∧
      (chanIx ch = 0 ∨ s.dev.is I.SAFE.LATCH pair = false → Raised d 10 (4 + pair)) ∧
      Within (raiseFlds ++ [I.SAFE.ARM, I.SAFE.LATCH, I.SAFE.DIS_ON, R.SAFE.PAIR_DISC_CNT]) s.dev d := by
  have hdisc := discrepancy_within (d := s.dev) s.clk.ns (chanIx ch) pair
  have hends : Within [I.SAFE.DIS_ON] (s.dev.discrepancy s.clk.ns (chanIx ch) pair)
      ((s.dev.discrepancy s.clk.ns (chanIx ch) pair).put I.SAFE.DIS_ON 0 (4 * chanIx ch + pair)) := .of_put _ _ _ _ (by decide) (by decide)
  refine ⟨_, exec_discrepancyFault hused hruns, ?_, Dev.get_put_same _ _ 0 _, fun hcounts => ?_, (hdisc.mono (by decide)).trans (hends.mono (by decide))⟩
  · rw [hends.regsKept.get (by decide) (by decide), discrepancy_latches]
  · exact (hends.sticky (by decide)).raised (discrepancy_raised pair.isLt hcounts)

/-! The feedback contacts (R390). -/

/-- A feedback fault latched and raised, before settling. -/
def Dev.fbLatched (d : Dev) (t ch f det : Nat) : Dev :=
  (((d.put I.SAFE.FBL 1 (4 * ch + f)).put I.SAFE.FB_WAIT 0 (4 * ch + f)).bump R.SAFE.FB_FLT_CNT f).raise t 10 (12 + f) det true

/-- What that writes. -/
def fbFaultFlds : List Fld := raiseFlds ++ [I.SAFE.FBL, I.SAFE.FB_WAIT, R.SAFE.FB_FLT_CNT]

theorem fbLatched_within (t ch f det : Nat) : Within fbFaultFlds d (d.fbLatched t ch f det) := by
  unfold Dev.fbLatched
  simp (disch := decide)

theorem fbLatched_get (t ch f det : Nat) :
    (d.fbLatched t ch f det).get I.SAFE.FBL (4 * ch + f) = 1 ∧ (d.fbLatched t ch f det).get I.SAFE.FB_WAIT (4 * ch + f) = 0 := by
  unfold Dev.fbLatched
  constructor <;> simp (disch := decide)

theorem fbLatched_raised {f : Nat} (hf : f < 4) (t ch det : Nat) : Raised (d.fbLatched t ch f det) 10 (12 + f) :=
  raise_raised _ _ _ _ _ (by omega)

theorem exec_feedbackTimeout {ch : Channel} {f : Fin 4} (hwait : s.dev.is I.SAFE.FB_WAIT (4 * chanIx ch + f) = true) :
    ∃ det, exec (.feedbackTimeout ch f) s = .next { s with dev := (s.dev.fbLatched s.clk.ns (chanIx ch) f det).settle s.clk.ns } := by
  refine ⟨(s.dev.is I.SAFE.CS (2 * chanIx ch + bitOf (s.dev.fbCfg (chanIx ch) f) 1)).toNat, ?_⟩
  show execFeedbackTimeout ch f s = _
  simp [execFeedbackTimeout, hwait, Dev.feedbackFault, Dev.fbLatched]

theorem feedbackTimeout_latches {ch : Channel} {f : Fin 4} (hwait : s.dev.is I.SAFE.FB_WAIT (4 * chanIx ch + f) = true) :
    Does (.feedbackTimeout ch f) s fun d =>
      d.get I.SAFE.FBL (4 * chanIx ch + f) = 1 ∧ d.get I.SAFE.FB_WAIT (4 * chanIx ch + f) = 0 ∧ Raised d 10 (12 + f) ∧
      Within (raiseFlds ++ [I.SAFE.FBL, I.SAFE.FB_WAIT, R.SAFE.FB_FLT_CNT]) s.dev d := by
  obtain ⟨det, hexec⟩ := exec_feedbackTimeout hwait
  obtain ⟨hlatch, hend⟩ := fbLatched_get (d := s.dev) s.clk.ns (chanIx ch) f det
  exact ⟨_, hexec, hlatch, hend, fbLatched_raised f.isLt _ _ _, fbLatched_within _ _ _ _⟩

/-- A contact confirmed at TB ns t: its level, the end of its wait and the time that it took. -/
def Dev.fbConfirmed (d : Dev) (t k f : Nat) (level : Bool) : Dev :=
  ((d.setBitOf R.SAFE.FB_LEVEL f level).put I.SAFE.FB_WAIT 0 k).put R.SAFE.FB_CONF_T (min ((t - d.get I.SAFE.FB_T0 k) / 1000000) 65535) f

theorem fbConfirmed_get (t k f : Nat) (level : Bool) : (d.fbConfirmed t k f level).get I.SAFE.FB_WAIT k = 0 ∧
    (d.fbConfirmed t k f level).get R.SAFE.FB_CONF_T f = min ((t - d.get I.SAFE.FB_T0 k) / 1000000) 65535 := by
  have hfits : min ((t - d.get I.SAFE.FB_T0 k) / 1000000) 65535 < 2 ^ R.SAFE.FB_CONF_T.width :=
    Nat.lt_of_le_of_lt (Nat.min_le_right _ _) (by decide)
  constructor
  · rw [Dev.fbConfirmed, Dev.get_put_other _ _ _ _ _ _ (by decide) (by decide) (by decide), Dev.get_put_same, Nat.zero_mod]
  · rw [Dev.fbConfirmed, Dev.get_put_same, Nat.mod_eq_of_lt hfits]

theorem fbConfirmed_within (t k f : Nat) (level : Bool) :
    Within [R.SAFE.FB_LEVEL] d (d.fbConfirmed t k f level) [(I.SAFE.FB_WAIT, k), (R.SAFE.FB_CONF_T, f)] := by
  unfold Dev.fbConfirmed
  simp (disch := first | decide | simp [hasEl])

theorem exec_feedbackConfirmed {ch : Channel} {f : Fin 4} (hwait : s.dev.is I.SAFE.FB_WAIT (4 * chanIx ch + f) = true) :
    ∃ level, exec (.feedbackConfirmed ch f) s = .next { s with dev := s.dev.fbConfirmed s.clk.ns (4 * chanIx ch + f) f level } := by
  refine ⟨s.dev.is I.SAFE.CS (2 * chanIx ch + bitOf (s.dev.fbCfg (chanIx ch) f) 1) != decide (bitOf (s.dev.fbCfg (chanIx ch) f) 2 = 1), ?_⟩
  show execFeedbackConfirmed ch f s = _
  simp [execFeedbackConfirmed, hwait, Dev.fbConfirmed]

theorem feedbackConfirmed_ends {ch : Channel} {f : Fin 4} (hwait : s.dev.is I.SAFE.FB_WAIT (4 * chanIx ch + f) = true) :
    Gives (.feedbackConfirmed ch f) s fun t =>
      t.dev.get I.SAFE.FB_WAIT (4 * chanIx ch + f) = 0 ∧
      t.dev.get R.SAFE.FB_CONF_T f = min ((s.clk.ns - s.dev.get I.SAFE.FB_T0 (4 * chanIx ch + f)) / 1000000) 65535 ∧
      Frame [R.SAFE.FB_LEVEL] s t [(I.SAFE.FB_WAIT, 4 * chanIx ch + f), (R.SAFE.FB_CONF_T, f)] := by
  obtain ⟨level, hexec⟩ := exec_feedbackConfirmed hwait
  obtain ⟨hend, htime⟩ := fbConfirmed_get (d := s.dev) s.clk.ns (4 * chanIx ch + f) f level
  exact ⟨_, hexec, hend, htime, fbConfirmed_within _ _ _ _, rfl, rfl, rfl⟩

/-- The level of a contact taken. -/
theorem fbLevel_bit {f : Fin 4} (closed : Bool) : bitOf ((d.setBitOf R.SAFE.FB_LEVEL f closed).get R.SAFE.FB_LEVEL) f = closed.toNat :=
  setBitOf_bit_same R.SAFE.FB_LEVEL closed 0 (Nat.lt_of_lt_of_le f.isLt (by decide))

theorem fbLevel_within (f : Nat) (closed : Bool) : Within [R.SAFE.FB_LEVEL] d (d.setBitOf R.SAFE.FB_LEVEL f closed) :=
  .of_put _ _ _ _ (by decide) (by decide)

theorem feedbackChange_awaited {ch : Channel} {f : Fin 4} {closed : Bool} (hwait : s.dev.is I.SAFE.FB_WAIT (4 * chanIx ch + f) = true) :
    Gives (.feedbackChange ch f closed) s fun t => bitOf (t.dev.get R.SAFE.FB_LEVEL) f = closed.toNat ∧ Frame [R.SAFE.FB_LEVEL] s t := by
  have hexec : exec (.feedbackChange ch f closed) s = .next { s with dev := s.dev.setBitOf R.SAFE.FB_LEVEL f closed } := by
    show execFeedbackChange ch f closed s = _
    simp [execFeedbackChange, hwait]
  exact ⟨_, hexec, fbLevel_bit closed, fbLevel_within _ _, rfl, rfl, rfl⟩

theorem feedbackChange_latches {ch : Channel} {f : Fin 4} {closed : Bool} (hwait : s.dev.is I.SAFE.FB_WAIT (4 * chanIx ch + f) = false)
    (hused : bitOf (s.dev.fbCfg (chanIx ch) f) 0 = 1) : Does (.feedbackChange ch f closed) s fun d =>
      bitOf (d.get R.SAFE.FB_LEVEL) f = closed.toNat ∧ d.get I.SAFE.FBL (4 * chanIx ch + f) = 1 ∧ Raised d 10 (12 + f) ∧
      Within (raiseFlds ++ [I.SAFE.FBL, I.SAFE.FB_WAIT, R.SAFE.FB_FLT_CNT, R.SAFE.FB_LEVEL]) s.dev d := by
  have hexec : exec (.feedbackChange ch f closed) s =
      .next { s with dev := ((s.dev.setBitOf R.SAFE.FB_LEVEL f closed).fbLatched s.clk.ns (chanIx ch) f 2).settle s.clk.ns } := by
    show execFeedbackChange ch f closed s = _
    simp [execFeedbackChange, hwait, hused, Dev.feedbackFault, Dev.fbLatched]
  have hlatch := fbLatched_within (d := s.dev.setBitOf R.SAFE.FB_LEVEL f closed) s.clk.ns (chanIx ch) f 2
  refine ⟨_, hexec, ?_, (fbLatched_get _ _ _ _).1, fbLatched_raised f.isLt _ _ _, ((fbLevel_within _ _).mono (by decide)).trans (hlatch.mono (by decide))⟩
  rw [hlatch.regsKept.get (by decide) (by decide), fbLevel_bit]

/-! Readback and cross-check (R391, R392). -/

/-- A pad found stuck at the level that its command is not. -/
def Dev.padStuck (d : Dev) (o : Nat) : Dev :=
  if bitOf (d.get I.SAFE.RB_STUCK) o = 1 then d
  else (d.setBitOf I.SAFE.RB_STUCK o true).setBitOf R.SAFE.OUT_RB o (!decide (bitOf (d.get R.SAFE.OUT_CMD) o = 1))

theorem padStuck_within (o : Nat) : Within [I.SAFE.RB_STUCK, R.SAFE.OUT_RB] d (d.padStuck o) := by
  unfold Dev.padStuck
  simp (disch := decide)

theorem padStuck_bit {o : Nat} (ho : o < 4) : bitOf ((d.padStuck o).get I.SAFE.RB_STUCK) o = 1 := by
  unfold Dev.padStuck
  split
  · assumption
  · rw [Dev.get_setBitOf_other _ _ _ _ _ _ _ (by decide) (by decide) (by decide)]
    exact setBitOf_bit_same I.SAFE.RB_STUCK true 0 (Nat.lt_of_lt_of_le ho (by decide))

theorem outputReadbackFault_latches (ch : Channel) (out : Fin 4) : Does (.outputReadbackFault ch out) s fun d =>
    d.get I.SAFE.RBL (2 * chanIx ch + out / 2) = 1 ∧ bitOf (d.get I.SAFE.RB_STUCK) out = 1 ∧ Raised d 10 16 ∧
    Within (raiseFlds ++ [I.SAFE.RBL, I.SAFE.RB_STUCK, R.SAFE.OUT_RB]) s.dev d := by
  refine ⟨((s.dev.padStuck out).put I.SAFE.RBL 1 (2 * chanIx ch + out / 2)).raise s.clk.ns 10 16 out true, rfl, ?_, ?_, raise_raised _ _ _ _ _ (by decide), ?_⟩
  · rw [Dev.get_raise _ _ _ _ _ _ _ (by decide) (by decide), get_put_one _ (by decide)]
  · rw [Dev.get_raise _ _ _ _ _ _ _ (by decide) (by decide), Dev.get_put_other _ _ _ _ _ _ (by decide) (by decide) (by decide), padStuck_bit out.isLt]
  · simpa (disch := decide) using (padStuck_within _).mono (by decide)

/-- Each channel takes the commands of the other half. -/
def Dev.exchanged (d : Dev) : Dev := d.forN 4 (fun e k => e.put I.SAFE.XCMD (bitOf (d.get R.SAFE.OUT_CMD) (2 * (k % 2) + (1 - k / 2))) k)

theorem safetyExchange_takes : Does .safetyExchange s fun d =>
    (∀ k < 4, d.get I.SAFE.XCMD k = bitOf (s.dev.get R.SAFE.OUT_CMD) (2 * (k % 2) + (1 - k / 2))) ∧ Within [I.SAFE.XCMD] s.dev d := by
  refine ⟨s.dev.exchanged, rfl, fun k hk => ?_, Within.of_foldl _ (fun e k => .of_put _ _ _ _ (by decide) (by decide)) _ _⟩
  rw [Dev.exchanged, get_forN_put (by decide) (by decide) hk]
  exact Nat.mod_eq_of_lt (Nat.mod_lt _ (by decide))

/-- The cross-check of a channel latched and raised. -/
def Dev.xchkLatched (d : Dev) (t c det : Nat) : Dev := (d.put I.SAFE.XCHK 1 c).raise t 10 17 det true

theorem xchkLatched_latches (t c det : Nat) : (d.xchkLatched t c det).get I.SAFE.XCHK c = 1 ∧ Raised (d.xchkLatched t c det) 10 17 ∧
    Within raiseFlds d (d.xchkLatched t c det) [(I.SAFE.XCHK, c)] := by
  refine ⟨?_, raise_raised _ _ _ _ _ (by decide), ?_⟩
  · rw [Dev.xchkLatched, Dev.get_raise _ _ _ _ _ _ _ (by decide) (by decide), get_put_one _ (by decide)]
  · unfold Dev.xchkLatched
    simp (disch := first | decide | simp [hasEl])

theorem exchangeTimeout_latches (ch : Channel) : Does (.exchangeTimeout ch) s fun d =>
    d.get I.SAFE.XCHK (chanIx ch) = 1 ∧ Raised d 10 17 ∧ Within raiseFlds s.dev d [(I.SAFE.XCHK, chanIx ch)] :=
  ⟨s.dev.xchkLatched s.clk.ns (chanIx ch) 1, rfl, xchkLatched_latches _ _ _⟩

/-- The channels differ in a demand that both evaluate. -/
def Dev.demandsDiffer (d : Dev) : Bool := d.commonDemand 0 0 != d.commonDemand 1 0 || d.commonDemand 0 1 != d.commonDemand 1 1

theorem demandsDiffer_iff : d.demandsDiffer = true ↔ ∃ fn < 2, d.commonDemand 0 fn ≠ d.commonDemand 1 fn := by
  simp only [Dev.demandsDiffer, Bool.or_eq_true, bne_iff_ne]
  constructor
  · rintro (hspb | hsmt)
    · exact ⟨0, by decide, hspb⟩
    · exact ⟨1, by decide, hsmt⟩
  · rintro ⟨fn, hfn, hne⟩
    obtain rfl | rfl : fn = 0 ∨ fn = 1 := by omega
    · exact .inl hne
    · exact .inr hne

theorem exec_crosscheckDisagree (ch : Channel) : exec (.crosscheckDisagree ch) s =
    .next { s with dev := if s.dev.demandsDiffer then (s.dev.xchkLatched s.clk.ns (chanIx ch) 0).settle s.clk.ns else s.dev } := rfl

theorem crosscheckDisagree_latches (ch : Channel) (h : ∃ fn < 2, s.dev.commonDemand 0 fn ≠ s.dev.commonDemand 1 fn) :
    Does (.crosscheckDisagree ch) s fun d =>
      d.get I.SAFE.XCHK (chanIx ch) = 1 ∧ Raised d 10 17 ∧ Within raiseFlds s.dev d [(I.SAFE.XCHK, chanIx ch)] :=
  ⟨s.dev.xchkLatched s.clk.ns (chanIx ch) 0, by rw [exec_crosscheckDisagree, if_pos (demandsDiffer_iff.2 h)], xchkLatched_latches _ _ _⟩

theorem crosscheckDisagree_agreed (ch : Channel) (h : ∀ fn < 2, s.dev.commonDemand 0 fn = s.dev.commonDemand 1 fn) :
    exec (.crosscheckDisagree ch) s = .next s := by
  have hagree : ¬ s.dev.demandsDiffer = true := fun hdiff =>
    let ⟨fn, hfn, hne⟩ := demandsDiffer_iff.1 hdiff
    hne (h fn hfn)
  rw [exec_crosscheckDisagree, if_neg hagree]

/-! Yarrow's supply and parameters (R392, R396). -/

theorem yarrowSupplyFault_shows : Does .yarrowSupplyFault s fun d => d.get I.SAFE.YSUP_BAD = 1 ∧ d.get R.SAFE.YSUP_OK = 0 ∧ Raised d 10 18 ∧
    Within (raiseFlds ++ [I.SAFE.YSUP_BAD, R.SAFE.YSUP_OK]) s.dev d := by
  refine ⟨_, rfl, ?_, ?_, raise_raised _ _ _ _ _ (by decide), ?_⟩
  · simp (disch := decide)
  · simp (disch := decide)
  · simp (disch := decide)

theorem yarrowSupplyReturn_shows (hbad : s.dev.is I.SAFE.YSUP_BAD = true) : Does .yarrowSupplyReturn s fun d =>
    d.get I.SAFE.YSUP_BAD = 0 ∧ d.get R.SAFE.YSUP_OK = 1 ∧ (∀ a ∈ d.active, a.cls = 10 → a.inst = 18 → a.held = false) ∧
    Within [I.SAFE.YSUP_BAD, R.SAFE.YSUP_OK] s.dev d := by
  have hexec : exec .yarrowSupplyReturn s =
      .next { s with dev := (((s.dev.put I.SAFE.YSUP_BAD 0).put R.SAFE.YSUP_OK 1).lower 10 18).settle s.clk.ns } := by
    show execYarrowSupplyReturn s = _
    simp [execYarrowSupplyReturn, hbad]
  refine ⟨_, hexec, ?_, ?_, fun _ => lower_released, ?_⟩
  · simp (disch := decide) [get_lower]
  · rw [get_lower, get_put_one _ (by decide)]
  · simp (disch := decide)

/-- The parameters that Yarrow takes into force. -/
def yarrowFlds : List Fld := [R.SAFE.CFG_OK, I.SAFE.Y_SI_CFG, I.SAFE.Y_DISC_T, I.SAFE.Y_FB_CFG, I.SAFE.Y_FB_TIMEOUT]

theorem yarrowTake_within (p : Nat) : Within yarrowFlds d (d.yarrowTake p) := by
  unfold Dev.yarrowTake
  simp (disch := first | decide | (intros; simp (disch := decide)))

theorem yarrowTake_ok (p : Nat) : (d.yarrowTake p).get R.SAFE.CFG_OK = 1 := get_put_one _ (by decide) 0

theorem yarrowTake_pair (p : Nat) {i : Nat} (hi : i < 4) : (d.yarrowTake p).get I.SAFE.Y_SI_CFG i = bytesAt p (4 * i) 4 % 2 ^ I.SAFE.Y_SI_CFG.width := by
  unfold Dev.yarrowTake
  rw [Dev.get_put_other _ _ _ _ _ _ (by decide) (by decide) (by decide), Dev.get_put_other _ _ _ _ _ _ (by decide) (by decide) (by decide)]
  refine forN_establishes (Q := fun e => e.get I.SAFE.Y_SI_CFG i = bytesAt p (4 * i) 4 % 2 ^ I.SAFE.Y_SI_CFG.width) hi (fun e => ?_)
    (fun e j hj hji he => ?_)
  · simp (disch := decide) [parAt]
  · simp (disch := decide) only [Dev.get_put_other]
    rwa [Dev.get_put_ne _ _ _ _ _ _ (by decide) (by decide) (.inr (by omega))]

theorem exec_yarrowConfig {params : BitVec 320} {sh : Sheet} (hsheet : s.dev.safetySheet = some sh) : exec (.yarrowConfig params) s =
    .next { s with dev :=
      (if crc32c (leBytes 40 params.toNat) = bytesAt sh.strc.data 0x28 4 then
          ((s.dev.put R.SAFE.YCFG_CRC (crc32c (leBytes 40 params.toNat))).yarrowTake params.toNat).lower 10 21
        else ((s.dev.put R.SAFE.YCFG_CRC (crc32c (leBytes 40 params.toNat))).put R.SAFE.CFG_OK 0).raise s.clk.ns 10 21 0 true).settle s.clk.ns } := by
  show execYarrowConfig params s = _
  simp only [execYarrowConfig, State.onDev_next, hsheet]

theorem yarrowConfig_taken {params : BitVec 320} {sh : Sheet} (hsheet : s.dev.safetySheet = some sh)
    (hcrc : crc32c (leBytes 40 params.toNat) = bytesAt sh.strc.data 0x28 4) : Does (.yarrowConfig params) s fun d =>
      d.get R.SAFE.CFG_OK = 1 ∧ (∀ i < 4, d.get I.SAFE.Y_SI_CFG i = bytesAt params.toNat (4 * i) 4 % 2 ^ I.SAFE.Y_SI_CFG.width) ∧
      Within [R.SAFE.YCFG_CRC, R.SAFE.CFG_OK, I.SAFE.Y_SI_CFG, I.SAFE.Y_DISC_T, I.SAFE.Y_FB_CFG, I.SAFE.Y_FB_TIMEOUT] s.dev d := by
  refine ⟨((s.dev.put R.SAFE.YCFG_CRC (crc32c (leBytes 40 params.toNat))).yarrowTake params.toNat).lower 10 21,
    by rw [exec_yarrowConfig hsheet, if_pos hcrc], ?_, fun i hi => ?_, ?_⟩
  · rw [get_lower, yarrowTake_ok]
  · rw [get_lower, yarrowTake_pair _ hi]
  · rw [within_lower]
    exact (Within.of_put _ _ _ _ (by decide) (by decide)).trans ((yarrowTake_within _).mono (by decide))

theorem yarrowConfig_refused {params : BitVec 320} {sh : Sheet} (hsheet : s.dev.safetySheet = some sh)
    (hcrc : crc32c (leBytes 40 params.toNat) ≠ bytesAt sh.strc.data 0x28 4) : Does (.yarrowConfig params) s fun d =>
      d.get R.SAFE.CFG_OK = 0 ∧ Raised d 10 21 ∧ Within (raiseFlds ++ [R.SAFE.YCFG_CRC, R.SAFE.CFG_OK]) s.dev d := by
  refine ⟨_, by rw [exec_yarrowConfig hsheet, if_neg hcrc], ?_, raise_raised _ _ _ _ _ (by decide), ?_⟩
  · simp (disch := decide)
  · simp (disch := decide)

/-- Settles O46: a pair by the levels it takes and the latch and the raisings that follow, a feedback contact by its latch or its level, and
the readback, the cross-check and Yarrow each by what its command writes. -/
theorem safetyChannels : Obligations.SafetyChannels :=
  ⟨fun _ _ _ _ _ _ _ _ =>
    ⟨safetyInputFiltered_takes, safetyInputFiltered_unused, discrepancyFault_latches,
      fun hwait => ⟨feedbackTimeout_latches hwait, feedbackConfirmed_ends hwait, feedbackChange_awaited hwait⟩, feedbackChange_latches⟩,
    fun _ ch out _ _ =>
    ⟨outputReadbackFault_latches ch out, safetyExchange_takes, exchangeTimeout_latches ch, crosscheckDisagree_latches ch, crosscheckDisagree_agreed ch,
      yarrowSupplyFault_shows, yarrowSupplyReturn_shows, fun hsheet => ⟨yarrowConfig_taken hsheet, yarrowConfig_refused hsheet⟩⟩⟩

end Sys2Proof.Machine
end

section
/-! PROOFS. The heartbeat paths between partner modules (R404 to R406, R415): what the status of the partnership, a path's return, a path's
loss and a beat write, and the commands of the paths. -/
namespace Sys2Proof.Machine
variable {L : List Fld} {d e : Dev} {s : State}

/-! The status of the partnership. -/

/-- What showing the status writes. -/
def partStatusFlds : List Fld := [R.PART.PRIMARY, R.PART.READY, R.PART.NOT_READY, R.PART.SYNC_TIME, R.HIF.SUM_ROLE, I.PART.HIZ, I.PART.SHOWN_SYNC]

theorem partStatus_within (t : Nat) : Within partStatusFlds d (d.partStatus t) := by
  unfold Dev.partStatus
  simp (disch := decide)

theorem partStatus_sticky (t : Nat) : StickyKept d (d.partStatus t) := (partStatus_within t).sticky (by decide)

theorem partDo_strapped (t : Nat) (g : Dev → Dev) (h : d.strapped = true) : d.partDo t g = ((g d).partStatus t).settle t := by
  simp [Dev.partDo, h]

theorem lower_sticky (c i : Nat) : StickyKept d (d.lower c i) :=
  Within.sticky (L := []) (by simp) (by decide)

theorem put_sticky (f : Fld) (v i : Nat) (hf : f.id < 2048) (h : hasFld [f] R.FLT.STICKY = false) : StickyKept d (d.put f v i) :=
  (Within.of_put (L := [f]) d f v i hf (by simp [hasFld])).sticky h

/-! A path returns (R405, R406). -/

/-- The state of the other path than the wire, or than the lane's. -/
def otherPath (wire : Bool) : Fld := if wire then R.PART.PL_OK else R.PART.WIRE_OK

/-- The instance of a path that is lost alone. -/
def pathInst (wire : Bool) : Nat := if wire then 1 else 0

theorem pathInst_lt (wire : Bool) : pathInst wire < 256 := by cases wire <;> decide

/-- What a path's return writes beside its own state. -/
def pathBackFlds : List Fld := raiseFlds ++ [I.PART.SYNC_LIVE]

/-- The two instances lowered, and then what the other path calls for. -/
theorem pathBack_eq (t : Nat) (wire : Bool) : ∃ inst, d.pathBack t wire =
    if d.is (otherPath wire) then ((d.lower 11 (pathInst wire)).lower 11 2).put I.PART.SYNC_LIVE 0
    else if d.active.any (fun a => a.cls = 11 && a.inst = 2) then ((d.lower 11 (pathInst wire)).lower 11 2).raise t 11 inst 0 true
    else (d.lower 11 (pathInst wire)).lower 11 2 := ⟨_, rfl⟩

theorem pathBack_within (t : Nat) (wire : Bool) : Within pathBackFlds d (d.pathBack t wire) := by
  obtain ⟨inst, heq⟩ := pathBack_eq (d := d) t wire
  rw [heq]
  simp (disch := decide)

theorem pathBack_sticky (t : Nat) (wire : Bool) : StickyKept d (d.pathBack t wire) := by
  have hlow : StickyKept d ((d.lower 11 (pathInst wire)).lower 11 2) := (lower_sticky _ _).trans (lower_sticky _ _)
  obtain ⟨inst, heq⟩ := pathBack_eq (d := d) t wire
  rw [heq]
  split
  · exact hlow.trans (put_sticky I.PART.SYNC_LIVE _ _ (by decide) (by decide))
  · split
    · exact hlow.trans (raise_sticky _ _ _ _ _)
    · exact hlow

/-! HB_IN_EDGE (R405). -/

/-- The spacing from the edge before lies in the range. -/
def Dev.edgeGood (d : Dev) (t : Nat) : Bool :=
  d.get I.PART.LAST_EDGE != 0 && 45000 ≤ t + 1 - d.get I.PART.LAST_EDGE && t + 1 - d.get I.PART.LAST_EDGE ≤ 55000

/-- The good spacings in a row with this one, as far as they are counted. -/
def Dev.edgeRun (d : Dev) (t : Nat) : Nat := if d.edgeGood t then min 4 (d.get I.PART.EDGE_RUN + 1) else 0

/-- The edge and the count kept. -/
def Dev.edgeTaken (d : Dev) (t : Nat) : Dev := (d.put I.PART.LAST_EDGE (t + 1)).put I.PART.EDGE_RUN (d.edgeRun t)

/-- The wire path brought back by the fourth of them. -/
def Dev.edgeJudged (d : Dev) (t : Nat) : Dev :=
  if d.is R.PART.WIRE_OK || d.edgeRun t < 4 then d.edgeTaken t else ((d.edgeTaken t).put R.PART.WIRE_OK 1).pathBack t true

theorem edgeGood_iff {t : Nat} : d.edgeGood t = true ↔ d.get I.PART.LAST_EDGE ≠ 0 ∧ 45000 ≤ t + 1 - d.get I.PART.LAST_EDGE ∧
    t + 1 - d.get I.PART.LAST_EDGE ≤ 55000 := by
  simp [Dev.edgeGood, and_assoc]

theorem exec_hbInEdge (h : s.dev.strapped = true) :
    exec .hbInEdge s = .next { s with dev := ((s.dev.edgeJudged s.clk.ns).partStatus s.clk.ns).settle s.clk.ns } := by
  show execHbInEdge s = _
  simp only [execHbInEdge, State.onDev_next, partDo_strapped _ _ h]
  rfl

theorem edgeTaken_within (t : Nat) : Within [I.PART.LAST_EDGE, I.PART.EDGE_RUN] d (d.edgeTaken t) := by
  unfold Dev.edgeTaken
  simp (disch := decide)

theorem edgeRun_le (t : Nat) : d.edgeRun t ≤ 4 := by
  unfold Dev.edgeRun
  split <;> omega

theorem edgeTaken_run (t : Nat) : (d.edgeTaken t).get I.PART.EDGE_RUN = d.edgeRun t := by
  rw [Dev.edgeTaken, Dev.get_put_same, Nat.mod_eq_of_lt (Nat.lt_of_le_of_lt (edgeRun_le t) (by decide))]

theorem edgeJudged_below {t : Nat} (h : d.edgeRun t < 4) : d.edgeJudged t = d.edgeTaken t := by
  simp [Dev.edgeJudged, h]

theorem edgeJudged_fourth {t : Nat} (hlost : d.is R.PART.WIRE_OK = false) (h : d.edgeRun t = 4) :
    (d.edgeJudged t).get R.PART.WIRE_OK = 1 := by
  simp only [Dev.edgeJudged, hlost, h, Nat.lt_irrefl, decide_false, Bool.or_false, Bool.false_eq_true, if_false]
  rw [(pathBack_within t true).regsKept.get (by decide) (by decide), get_put_one _ (by decide)]

theorem edgeJudged_within (t : Nat) : Within (Claim.partFlds ++ [I.PART.LAST_EDGE, I.PART.EDGE_RUN, R.PART.WIRE_OK]) d (d.edgeJudged t) := by
  have htaken := edgeTaken_within (d := d) t
  unfold Dev.edgeJudged
  split
  · exact htaken.mono (by decide)
  · exact (htaken.mono (by decide)).trans ((Within.of_put _ _ _ _ (by decide) (by decide)).trans ((pathBack_within t true).mono (by decide)))

theorem hbInEdge_judges (h : s.dev.strapped = true) :
    let gap := s.clk.ns + 1 - s.dev.get I.PART.LAST_EDGE
    let good := s.dev.get I.PART.LAST_EDGE ≠ 0 ∧ 45000 ≤ gap ∧ gap ≤ 55000
    Does .hbInEdge s fun d =>
      (good → 3 ≤ s.dev.get I.PART.EDGE_RUN → s.dev.is R.PART.WIRE_OK = false → d.get R.PART.WIRE_OK = 1) ∧
      (good → s.dev.get I.PART.EDGE_RUN < 3 → d.get R.PART.WIRE_OK = s.dev.get R.PART.WIRE_OK ∧
        d.get I.PART.EDGE_RUN = s.dev.get I.PART.EDGE_RUN + 1) ∧
      (¬ good → d.get R.PART.WIRE_OK = s.dev.get R.PART.WIRE_OK ∧ d.get I.PART.EDGE_RUN = 0) ∧
      Within (Claim.partFlds ++ [I.PART.LAST_EDGE, I.PART.EDGE_RUN, R.PART.WIRE_OK]) s.dev d := by
  intro gap good
  have hshown := partStatus_within (d := s.dev.edgeJudged s.clk.ns) s.clk.ns
  have hbelow : s.dev.edgeRun s.clk.ns < 4 → ((s.dev.edgeJudged s.clk.ns).partStatus s.clk.ns).get R.PART.WIRE_OK = s.dev.get R.PART.WIRE_OK ∧
      ((s.dev.edgeJudged s.clk.ns).partStatus s.clk.ns).get I.PART.EDGE_RUN = s.dev.edgeRun s.clk.ns := fun hrun => by
    rw [hshown.regsKept.get (by decide) (by decide), hshown.regsKept.get (by decide) (by decide), edgeJudged_below hrun,
      (edgeTaken_within _).regsKept.get (by decide) (by decide), edgeTaken_run]
    exact ⟨rfl, rfl⟩
  refine ⟨_, exec_hbInEdge h, fun hgood hrun hlost => ?_, fun hgood hrun => ?_, fun hbad => ?_,
    (edgeJudged_within _).trans (hshown.mono (by decide))⟩
  · have hfour : s.dev.edgeRun s.clk.ns = 4 := by
      rw [Dev.edgeRun, if_pos (edgeGood_iff.2 hgood)]
      omega
    rw [hshown.regsKept.get (by decide) (by decide), edgeJudged_fourth hlost hfour]
  · have hnext : s.dev.edgeRun s.clk.ns = s.dev.get I.PART.EDGE_RUN + 1 := by
      rw [Dev.edgeRun, if_pos (edgeGood_iff.2 hgood)]
      omega
    rw [← hnext]
    exact hbelow (by omega)
  · have hzero : s.dev.edgeRun s.clk.ns = 0 := if_neg (fun hgood => hbad (edgeGood_iff.1 hgood))
    obtain ⟨hwire, hrun⟩ := hbelow (by omega)
    exact ⟨hwire, hrun.trans hzero⟩

/-! HB_OUT_TOGGLE (R404). -/

/-- The square wave is sent. -/
def Dev.waveSent (d : Dev) : Bool :=
  d.strapped && d.mode != .backup && !d.is I.MODE.IN_RESET && d.is R.TB.PLL_T_LOCK && (d.mode != .boot || 2 < d.get I.MODE.BOOT_STEP)

theorem hbOutToggle_toggles (h : s.dev.strapped = true) : Gives .hbOutToggle s fun t =>
    (s.dev.is I.PART.HB_OUT = true → t.dev.get I.PART.HB_OUT = 0) ∧
    (s.dev.is I.PART.HB_OUT = false → s.dev.mode ∉ [.backup, .boot] → s.dev.is I.MODE.IN_RESET = false → s.dev.is R.TB.PLL_T_LOCK = true →
      t.dev.get I.PART.HB_OUT = 1) ∧ Frame [I.PART.HB_OUT] s t := by
  have hout : (s.dev.flag I.PART.HB_OUT (s.dev.waveSent && !s.dev.is I.PART.HB_OUT)).get I.PART.HB_OUT =
      (s.dev.waveSent && !s.dev.is I.PART.HB_OUT).toNat := get_flag_same _ (by decide) _ _
  refine ⟨{ s with dev := s.dev.flag I.PART.HB_OUT (s.dev.waveSent && !s.dev.is I.PART.HB_OUT) }, rfl, fun hhigh => ?_,
    fun hlow hmode hreset hlock => ?_, Within.of_put _ _ _ _ (by decide) (by decide), rfl, rfl, rfl⟩
  · rw [hout, hhigh, Bool.not_true, Bool.and_false, Bool.toNat_false]
  · have hsent : s.dev.waveSent = true := by
      simp only [List.mem_cons, List.not_mem_nil, or_false, not_or] at hmode
      simp [Dev.waveSent, h, hmode, hreset, hlock]
    rw [hout, hsent, hlow]
    rfl

/-! BEAT_RX (R405, R407). -/

/-- What the beat tells of the partner. -/
def beatFlds : List Fld :=
  [I.PART.BEAT_DIGEST, I.PART.BEAT_FRAME, I.PART.BEAT_INHIBIT, I.PART.BEAT_INSYNC, I.PART.BEAT_MAJOR, I.PART.BEAT_PERMITS, I.PART.BEAT_REACT] ++
  [I.PART.BEAT_READY, I.PART.BEAT_RUN, I.PART.BEAT_STRAP, R.FELT.OWN_EPOCH, R.PART.PARTNER_EPOCH, R.PART.PARTNER_MODE, R.PART.PARTNER_PRIMARY]

/-- The beat is of the frame after that of the beat before. -/
def Dev.beatNext (d : Dev) (b : Beat) : Bool := b.frame.toNat = (d.get I.PART.BEAT_FRAME + 1) % 2 ^ 32

/-- The beats in a row with this one, as far as they are counted. -/
def Dev.beatRun (d : Dev) (b : Beat) : Nat := if d.beatNext b then min 3 (d.get I.PART.BEAT_RUN + 1) else 1

/-- The beat's words taken. -/
def Dev.beatHeard (d : Dev) (b : Beat) : Dev :=
  let d1 := (((d.put R.PART.PARTNER_MODE b.mode.toNat).put R.PART.PARTNER_EPOCH b.epoch.toNat).flag R.PART.PARTNER_PRIMARY b.primary).put
    I.PART.BEAT_FRAME b.frame.toNat
  let d2 := (((d1.put I.PART.BEAT_STRAP b.strap.toNat).flag I.PART.BEAT_READY b.ready).flag I.PART.BEAT_INSYNC b.inSync).flag I.PART.BEAT_INHIBIT b.inhibit
  let d3 := (((d2.put I.PART.BEAT_PERMITS b.permits.toNat).put I.PART.BEAT_REACT b.react.toNat).put I.PART.BEAT_DIGEST b.digest.toNat).put
    I.PART.BEAT_MAJOR b.major.toNat
  (d3.put I.PART.BEAT_RUN (d.beatRun b)).onlyIf (d.mode = .mirror && b.primary && !d.lastFrame 1) (fun d => d.put R.FELT.OWN_EPOCH b.epoch.toNat)

/-- Instance 11 by the partner's strap. -/
def Dev.strapJudged (old d : Dev) (t : Nat) (b : Beat) : Dev :=
  if b.strap.toNat = old.get R.PART.STRAP then d.raise t 11 11 0 true else d.lower 11 11

/-- The lane's path brought back by the third beat. -/
def Dev.laneJudged (old d : Dev) (t : Nat) (b : Beat) : Dev :=
  if old.is R.PART.PL_OK || old.beatRun b < 3 then d else (d.put R.PART.PL_OK 1).pathBack t false

/-- What follows of the beat: its validity, the transfer to a partner that joins, and the check of the images. -/
def Dev.beatFollowed (old d : Dev) (t : Nat) (b : Beat) : Dev :=
  ((d.flag I.PART.BEAT_OK (d.is R.PART.PL_OK)).onlyIf (b.mode.toNat = Mode.mirror.code && old.get R.PART.PARTNER_MODE != Mode.mirror.code)
    Dev.transferSend).digestCheck t

theorem beatTake_eq (t : Nat) (b : Beat) :
    d.beatTake t b = d.beatFollowed (d.laneJudged (d.strapJudged (d.beatHeard b) t b) t b) t b := rfl

theorem beatHeard_within (b : Beat) : Within beatFlds d (d.beatHeard b) := by
  unfold Dev.beatHeard
  simp (disch := first | decide | (intros; simp (disch := decide)))

theorem beatHeard_get (b : Beat) : (d.beatHeard b).get R.PART.PARTNER_MODE = b.mode.toNat ∧
    (d.beatHeard b).get R.PART.PARTNER_PRIMARY = b.primary.toNat ∧ (d.beatHeard b).get I.PART.BEAT_FRAME = b.frame.toNat := by
  have hmode : b.mode.toNat % 2 ^ R.PART.PARTNER_MODE.width = b.mode.toNat := Nat.mod_eq_of_lt b.mode.isLt
  have hframe : b.frame.toNat % 2 ^ I.PART.BEAT_FRAME.width = b.frame.toNat := Nat.mod_eq_of_lt b.frame.isLt
  unfold Dev.beatHeard Dev.onlyIf
  refine ⟨?_, ?_, ?_⟩ <;> split <;> simp (disch := decide) [hmode, hframe, get_flag_same]

theorem strapJudged_within (old : Dev) (t : Nat) (b : Beat) : Within raiseFlds d (old.strapJudged d t b) := by
  unfold Dev.strapJudged
  simp (disch := decide)

theorem strapJudged_raised {old : Dev} {b : Beat} (t : Nat) (h : b.strap.toNat = old.get R.PART.STRAP) : Raised (old.strapJudged d t b) 11 11 := by
  rw [Dev.strapJudged, if_pos h]
  exact raise_raised _ _ _ _ _ (by decide)

theorem laneJudged_within (old : Dev) (t : Nat) (b : Beat) : Within (R.PART.PL_OK :: pathBackFlds) d (old.laneJudged d t b) := by
  unfold Dev.laneJudged
  split
  · exact .refl d
  · exact (Within.of_put _ _ _ _ (by decide) (by decide)).trans ((pathBack_within t false).mono (by decide))

theorem laneJudged_sticky (old : Dev) (t : Nat) (b : Beat) : StickyKept d (old.laneJudged d t b) := by
  unfold Dev.laneJudged
  split
  · exact .refl d
  · exact (put_sticky _ _ _ (by decide) (by decide)).trans (pathBack_sticky t false)

theorem laneJudged_third {old : Dev} {b : Beat} (t : Nat) (hnext : b.frame.toNat = (old.get I.PART.BEAT_FRAME + 1) % 2 ^ 32)
    (hrun : 2 ≤ old.get I.PART.BEAT_RUN) (hlost : old.is R.PART.PL_OK = false) : (old.laneJudged d t b).get R.PART.PL_OK = 1 := by
  have hthree : old.beatRun b = 3 := by
    rw [Dev.beatRun, Dev.beatNext, if_pos (decide_eq_true hnext)]
    omega
  simp only [Dev.laneJudged, hlost, hthree, Nat.lt_irrefl, decide_false, Bool.or_false, Bool.false_eq_true, if_false]
  rw [(pathBack_within t false).regsKept.get (by decide) (by decide), get_put_one _ (by decide)]

theorem transferSend_within : Within L d d.transferSend := by
  unfold Dev.transferSend
  simp

/-- What follows of a beat writes this much. -/
def beatFollowFlds : List Fld := raiseFlds ++ [I.PART.BEAT_OK, I.PART.LEAVE_DUE]

theorem digestCheck_within (t : Nat) : Within beatFollowFlds d (d.digestCheck t) := by
  unfold Dev.digestCheck
  simp (disch := decide)

theorem digestCheck_sticky (t : Nat) : StickyKept d (d.digestCheck t) := by
  unfold Dev.digestCheck
  split
  · exact (put_sticky _ _ _ (by decide) (by decide)).trans (raise_sticky _ _ _ _ _)
  · exact .refl d

/-- The beat's validity and the transfer. -/
theorem beatOk_within (c : Bool) : Within [I.PART.BEAT_OK] d ((d.flag I.PART.BEAT_OK (d.is R.PART.PL_OK)).onlyIf c Dev.transferSend) := by
  simp (disch := first | decide | exact fun _ => transferSend_within)

theorem beatFollowed_within (old : Dev) (t : Nat) (b : Beat) : Within beatFollowFlds d (old.beatFollowed d t b) :=
  ((beatOk_within _).mono (by decide)).trans (digestCheck_within t)

theorem beatFollowed_sticky (old : Dev) (t : Nat) (b : Beat) : StickyKept d (old.beatFollowed d t b) :=
  ((beatOk_within _).sticky (by decide)).trans (digestCheck_sticky t)

/-- What judging a beat's strap and path, what follows of it and the status write after its words are taken. -/
def beatRestFlds : List Fld := pathBackFlds ++ [R.PART.PL_OK, I.PART.BEAT_OK, I.PART.LEAVE_DUE]

theorem beatTake_afterHeard (t : Nat) (b : Beat) : Within beatRestFlds (d.beatHeard b) (d.beatTake t b) := by
  rw [beatTake_eq]
  exact ((strapJudged_within d t b).mono (by decide)).trans (((laneJudged_within d t b).mono (by decide)).trans ((beatFollowed_within d t b).mono (by decide)))

theorem beatTake_path {t : Nat} {b : Beat} (hnext : b.frame.toNat = (d.get I.PART.BEAT_FRAME + 1) % 2 ^ 32) (hrun : 2 ≤ d.get I.PART.BEAT_RUN)
    (hlost : d.is R.PART.PL_OK = false) : (d.beatTake t b).get R.PART.PL_OK = 1 := by
  rw [beatTake_eq, (beatFollowed_within d t b).regsKept.get (by decide) (by decide), laneJudged_third t hnext hrun hlost]

theorem beatTake_raised {t : Nat} {b : Beat} (h : b.strap.toNat = d.get R.PART.STRAP) : Raised (d.beatTake t b) 11 11 := by
  rw [beatTake_eq]
  exact ((laneJudged_sticky d t b).trans (beatFollowed_sticky d t b)).raised (strapJudged_raised t h)

theorem exec_beatRx {beat : Beat} (h : s.dev.strapped = true) : exec (.beatRx beat) s = .next { s with dev :=
    ((if beat.valid then s.dev.beatTake s.clk.ns beat else (s.dev.bump R.PART.PL_ERR).put I.PART.BEAT_RUN 0).partStatus s.clk.ns).settle s.clk.ns } := by
  show execBeatRx beat s = _
  simp only [execBeatRx, State.onDev_next, partDo_strapped _ _ h]

theorem beatRx_valid {beat : Beat} (h : s.dev.strapped = true) (hvalid : beat.valid = true) : Does (.beatRx beat) s fun d =>
    d.get R.PART.PARTNER_MODE = beat.mode.toNat ∧ d.get R.PART.PARTNER_PRIMARY = beat.primary.toNat ∧ d.get I.PART.BEAT_FRAME = beat.frame.toNat ∧
    (beat.frame.toNat = (s.dev.get I.PART.BEAT_FRAME + 1) % 2 ^ 32 → 2 ≤ s.dev.get I.PART.BEAT_RUN → s.dev.is R.PART.PL_OK = false →
      d.get R.PART.PL_OK = 1) ∧
    (beat.strap.toNat = s.dev.get R.PART.STRAP → Raised d 11 11) ∧
    Within (Claim.partFlds ++ [I.PART.BEAT_DIGEST, I.PART.BEAT_FRAME, I.PART.BEAT_INHIBIT, I.PART.BEAT_INSYNC, I.PART.BEAT_MAJOR, I.PART.BEAT_OK,
      I.PART.BEAT_PERMITS, I.PART.BEAT_REACT, I.PART.BEAT_READY, I.PART.BEAT_RUN, I.PART.BEAT_STRAP, R.FELT.OWN_EPOCH, R.PART.PARTNER_EPOCH,
      R.PART.PARTNER_MODE, R.PART.PARTNER_PRIMARY, R.PART.PL_OK]) s.dev d := by
  have hshown := partStatus_within (d := s.dev.beatTake s.clk.ns beat) s.clk.ns
  have hafter : RegsKept (beatRestFlds ++ partStatusFlds) (s.dev.beatHeard beat) ((s.dev.beatTake s.clk.ns beat).partStatus s.clk.ns) :=
    ((beatTake_afterHeard _ _).regsKept.mono (by decide)).trans (hshown.regsKept.mono (by decide))
  obtain ⟨hmode, hprimary, hframe⟩ := beatHeard_get (d := s.dev) beat
  refine ⟨_, by rw [exec_beatRx h, if_pos hvalid], ?_, ?_, ?_, fun hnext hrun hlost => ?_,
    fun hstrap => (partStatus_sticky _).raised (beatTake_raised hstrap), ?_⟩
  · rw [hafter.get (by decide) (by decide), hmode]
  · rw [hafter.get (by decide) (by decide), hprimary]
  · rw [hafter.get (by decide) (by decide), hframe]
  · rw [hshown.regsKept.get (by decide) (by decide), beatTake_path hnext hrun hlost]
  · exact ((beatHeard_within _).mono (by decide)).trans (((beatTake_afterHeard _ _).mono (by decide)).trans (hshown.mono (by decide)))

theorem beatRx_bad {beat : Beat} (h : s.dev.strapped = true) (hvalid : beat.valid = false) : Does (.beatRx beat) s fun d =>
    d.get I.PART.BEAT_RUN = 0 ∧ Within (Claim.partFlds ++ [R.PART.PL_ERR, I.PART.BEAT_RUN]) s.dev d := by
  have hshown := partStatus_within (d := (s.dev.bump R.PART.PL_ERR).put I.PART.BEAT_RUN 0) s.clk.ns
  refine ⟨_, by rw [exec_beatRx h, hvalid, if_neg Bool.false_ne_true], ?_, ?_⟩
  · rw [hshown.regsKept.get (by decide) (by decide), Dev.get_put_same, Nat.zero_mod]
  · refine Within.trans ?_ (hshown.mono (by decide))
    simp (disch := decide)

/-! A path is lost (R405, R406, R415). -/

theorem syncClear_within (t cause : Nat) : Within Claim.partFlds d (d.syncClear t cause) := by
  have hstatus : ∀ e : Dev, Within Claim.partFlds e (e.partStatus t) := fun e => (partStatus_within t).mono (by decide)
  unfold Dev.syncClear
  simp (disch := decide) [(hstatus _).iff]

theorem syncClear_inSync (t cause : Nat) : (d.syncClear t cause).get R.PART.IN_SYNC = 0 := by
  have hmark : ∀ v, (d.put I.PART.SYNC_LIVE v).get R.PART.IN_SYNC = d.get R.PART.IN_SYNC := fun v =>
    Dev.get_put_other _ _ _ _ _ _ (by decide) (by decide) (by decide)
  unfold Dev.syncClear
  dsimp only
  split
  · rw [(partStatus_within t).regsKept.get (by decide) (by decide)]
    simp (disch := decide)
  · next hout =>
    have hzero : d.get R.PART.IN_SYNC = 0 := Dev.get_zero_of_not_is (Bool.eq_false_iff.2 hout)
    split
    · exact hzero
    · rw [hmark, hzero]

/-- What the loss of both paths writes. -/
def bothLostFlds : List Fld := raiseFlds ++ [I.PART.TAKEOVER_DUE, I.PART.TO_BND, I.PART.LEAVE_DUE]

theorem bothLost_within (t : Nat) : Within bothLostFlds d (d.bothLost t) := by
  unfold Dev.bothLost
  simp (disch := decide)

/-- After IN_SYNC has ended, the instance of the lost path or what follows of the loss of both. -/
theorem pathLost_eq (t : Nat) (wire : Bool) : d.pathLost t wire =
    if d.is (otherPath wire) then (d.syncClear t 1).raise t 11 (pathInst wire) 0 true else (d.syncClear t 1).bothLost t := rfl

theorem pathLost_afterSync (t : Nat) (wire : Bool) : Within bothLostFlds (d.syncClear t 1) (d.pathLost t wire) := by
  rw [pathLost_eq]
  split
  · exact (raise_within _ _ _ _ _).mono (by decide)
  · exact bothLost_within t

theorem pathLost_within (t : Nat) (wire : Bool) : Within Claim.partFlds d (d.pathLost t wire) :=
  (syncClear_within t 1).trans ((pathLost_afterSync t wire).mono (by decide))

theorem pathLost_inSync (t : Nat) (wire : Bool) : (d.pathLost t wire).get R.PART.IN_SYNC = 0 := by
  rw [(pathLost_afterSync t wire).regsKept.get (by decide) (by decide), syncClear_inSync]

theorem pathLost_raised (t : Nat) {wire : Bool} (h : d.is (otherPath wire) = true) : Raised (d.pathLost t wire) 11 (pathInst wire) := by
  rw [pathLost_eq, if_pos h]
  exact raise_raised _ _ _ _ _ (pathInst_lt wire)

/-- A path that was marked lost in e: what the loss leaves, with the status shown. -/
theorem pathLost_shown (t : Nat) (wire : Bool) {f : Fld} (hf : f.id < 2048) (hL : hasFld Claim.partFlds f = false) (hzero : e.get f = 0) :
    ((e.pathLost t wire).partStatus t).get f = 0 ∧ ((e.pathLost t wire).partStatus t).get R.PART.IN_SYNC = 0 ∧
    Within Claim.partFlds e ((e.pathLost t wire).partStatus t) := by
  have hframe : Within Claim.partFlds e ((e.pathLost t wire).partStatus t) := (pathLost_within t wire).trans ((partStatus_within t).mono (by decide))
  refine ⟨by rw [hframe.regsKept.get hf hL, hzero], ?_, hframe⟩
  rw [(partStatus_within t).regsKept.get (by decide) (by decide), pathLost_inSync]

/-- The wire path marked lost. -/
def Dev.wireOff (d : Dev) : Dev := (d.put R.PART.WIRE_OK 0).put I.PART.EDGE_RUN 0

/-- The lane's path marked lost. -/
def Dev.laneOff (d : Dev) : Dev := ((d.put R.PART.PL_OK 0).put I.PART.BEAT_RUN 0).put I.PART.BEAT_OK 0

theorem wireOff_within : Within [R.PART.WIRE_OK, I.PART.EDGE_RUN] d d.wireOff := by
  unfold Dev.wireOff
  simp (disch := decide)

theorem laneOff_within : Within [R.PART.PL_OK, I.PART.BEAT_RUN, I.PART.BEAT_OK] d d.laneOff := by
  unfold Dev.laneOff
  simp (disch := decide)

theorem wireOff_get : d.wireOff.get R.PART.WIRE_OK = 0 := by
  unfold Dev.wireOff
  simp (disch := decide)

theorem laneOff_get : d.laneOff.get R.PART.PL_OK = 0 := by
  unfold Dev.laneOff
  simp (disch := decide)

theorem wirePathLost_shows (h : s.dev.strapped = true) (hup : s.dev.is R.PART.WIRE_OK = true) : Does .wirePathLost s fun d =>
    d.get R.PART.WIRE_OK = 0 ∧ d.get R.PART.IN_SYNC = 0 ∧ (s.dev.is R.PART.PL_OK = true → Raised d 11 1) ∧
    Within (Claim.partFlds ++ [R.PART.WIRE_OK, I.PART.EDGE_RUN]) s.dev d := by
  have hexec : exec .wirePathLost s =
      .next { s with dev := ((s.dev.wireOff.pathLost s.clk.ns true).partStatus s.clk.ns).settle s.clk.ns } := by
    show execWirePathLost s = _
    simp [execWirePathLost, hup, partDo_strapped _ _ h, Dev.wireOff]
  have hother : s.dev.wireOff.is R.PART.PL_OK = s.dev.is R.PART.PL_OK := Dev.is_congr (wireOff_within.regsKept.get (by decide) (by decide) 0)
  obtain ⟨hlost, hsync, hframe⟩ := pathLost_shown (e := s.dev.wireOff) s.clk.ns true (by decide) (by decide) wireOff_get
  exact ⟨_, hexec, hlost, hsync, fun hlane => (partStatus_sticky _).raised (pathLost_raised (wire := true) _ (hother.trans hlane)),
    (wireOff_within.mono (by decide)).trans (hframe.mono (by decide))⟩

theorem plPathLost_shows (h : s.dev.strapped = true) (hup : s.dev.is R.PART.PL_OK = true) : Does .plPathLost s fun d =>
    d.get R.PART.PL_OK = 0 ∧ d.get R.PART.IN_SYNC = 0 ∧ (s.dev.is R.PART.WIRE_OK = true → Raised d 11 0) ∧
    Within (Claim.partFlds ++ [R.PART.PL_OK, I.PART.BEAT_RUN, I.PART.BEAT_OK]) s.dev d := by
  have hexec : exec .plPathLost s =
      .next { s with dev := ((s.dev.laneOff.pathLost s.clk.ns false).partStatus s.clk.ns).settle s.clk.ns } := by
    show execPlPathLost s = _
    simp [execPlPathLost, hup, partDo_strapped _ _ h, Dev.laneOff]
  have hother : s.dev.laneOff.is R.PART.WIRE_OK = s.dev.is R.PART.WIRE_OK := Dev.is_congr (laneOff_within.regsKept.get (by decide) (by decide) 0)
  obtain ⟨hlost, hsync, hframe⟩ := pathLost_shown (e := s.dev.laneOff) s.clk.ns false (by decide) (by decide) laneOff_get
  exact ⟨_, hexec, hlost, hsync, fun hwire => (partStatus_sticky _).raised (pathLost_raised (wire := false) _ (hother.trans hwire)),
    (laneOff_within.mono (by decide)).trans (hframe.mono (by decide))⟩

/-- Settles O47: an edge by the count of good spacings it comes to, a beat by its words, its strap and its path, and a path's loss by the end of
IN_SYNC and what then follows, each before the status that none of them loses. -/
theorem partnerPaths : Obligations.PartnerPaths := fun _ _ h =>
  ⟨hbInEdge_judges h, hbOutToggle_toggles h, beatRx_valid h, beatRx_bad h, wirePathLost_shows h, plPathLost_shows h⟩

end Sys2Proof.Machine
end

section
/-! PROOFS. The records kept in flash and in retention, and the event-journal window (R143, R435, R440, R444): an operation asked for waits or
runs, and each command writes its record. -/
namespace Sys2Proof.Machine
variable {L : List Fld} {d e : Dev} {s : State}

/-! An operation put in the queue waits there or is the one started. -/

/-- The operations that wait and the one that runs are the same in two states. -/
def OpsKept (d e : Dev) : Prop := e.nvm.queue = d.nvm.queue ∧ e.nvm.cur = d.nvm.cur

theorem OpsKept.trans {a b c : Dev} (h : OpsKept a b) (k : OpsKept b c) : OpsKept a c := ⟨k.1.trans h.1, k.2.trans h.2⟩

theorem Within.opsKept (h : Within L d e) : OpsKept d e := by
  rw [h.rest]
  exact ⟨rfl, rfl⟩

theorem setNvm_opsKept {n : Nvm} (hqueue : n.queue = d.nvm.queue) (hcur : n.cur = d.nvm.cur) : OpsKept d (d.setNvm n) := ⟨hqueue, hcur⟩

theorem OpsKept.of_foldl {α : Type} (g : Dev → α → Dev) (h : ∀ e x, OpsKept e (g e x)) (l : List α) (d : Dev) : OpsKept d (l.foldl g d) :=
  List.foldlRecOn (motive := OpsKept d) l g ⟨rfl, rfl⟩ (fun e he x _ => he.trans (h e x))

theorem countErase_opsKept (t sector : Nat) : OpsKept d (d.countErase t sector) := by
  unfold Dev.countErase
  dsimp only
  split
  · refine OpsKept.trans (setNvm_opsKept ?_ ?_) (raise_within _ _ _ _ _).opsKept <;> rfl
  · exact ⟨rfl, rfl⟩

theorem setJournal_opsKept (which : Nat) (j : Journal) : OpsKept d (d.setNvm (d.nvm.setJournal which j)) := by
  unfold OpsKept Dev.setNvm Nvm.setJournal
  split <;> exact ⟨rfl, rfl⟩

theorem journalStart_opsKept (t which typ : Nat) (data : List Nat) : OpsKept d (d.journalStart t which typ data) := by
  unfold Dev.journalStart
  exact (setJournal_opsKept _ _).trans (.of_foldl _ (fun _ _ => countErase_opsKept _ _) _ _)

/-- An operation that another one takes the place of in the queue waits, or is the one that runs. -/
theorem asked_of_started {op started : FlashOp} (hop : op ∈ d.nvm.queue) (hqueue : e.nvm.queue = d.nvm.queue.erase started)
    (hcur : e.nvm.cur = some started) : Claim.Asked e op := by
  by_cases hsame : op = started
  · exact .inr (hsame ▸ hcur)
  · exact .inl (hqueue ▸ (List.mem_erase_of_ne hsame).2 hop)

theorem flashNext_asked (t : Nat) {op : FlashOp} (hop : op ∈ d.nvm.queue) : Claim.Asked (d.flashNext t) op := by
  have hstart : ∀ (a : Dev) (started : FlashOp), a.nvm.queue = d.nvm.queue.erase started → a.nvm.cur = some started →
      ∀ e, OpsKept a e → Claim.Asked e op := fun a started hqueue hcur e hkept =>
    asked_of_started hop (hkept.1.trans hqueue) (hkept.2.trans hcur)
  unfold Dev.flashNext
  split
  · exact .inl hop
  · split
    · exact .inl hop
    · rename_i started _
      dsimp only
      split
      · exact hstart _ _ rfl rfl _ (journalStart_opsKept _ _ _ _)
      · exact hstart _ _ rfl rfl _ ((Within.of_put (L := [R.THERM.EVJ_BACKLOG]) _ _ _ _ (by decide) (by decide)).opsKept.trans
          (journalStart_opsKept _ _ _ _))
      · exact hstart _ _ rfl rfl _ (journalStart_opsKept _ _ _ _)
      · exact hstart _ _ rfl rfl _ ⟨rfl, rfl⟩

theorem enqueue_asked (t : Nat) (op : FlashOp) : Claim.Asked (d.enqueue t op) op :=
  flashNext_asked t (List.mem_append_right _ (List.mem_singleton_self op))

/-! TEASEL_HOUR and FREQ_OFFSET_WRITE (R435, R440). -/

theorem exec_teaselHour (hidle : s.dev.mode ≠ .idle) (hbackup : s.dev.mode ≠ .backup) (hboot : s.dev.mode ≠ .boot) :
    exec .teaselHour s = .next { s with dev := (s.dev.teaselRecord s.clk.ns).settle s.clk.ns } := by
  show execTeaselHour s = _
  simp [execTeaselHour, hidle, hbackup, hboot]

theorem teaselRecord_asks (t : Nat) : Claim.Asked (d.teaselRecord t) (.teasel 0 d.teaselData) ∧ (d.teaselRecord t).nvm.mem = d.nvm.mem ∧
    Within raiseFlds { d with nvm := (d.teaselRecord t).nvm } (d.teaselRecord t) :=
  ⟨enqueue_asked _ _, enqueue_mem _ _, (setNvm_within d _).thenNvm (enqueue_within _ _)⟩

theorem exec_freqOffsetWrite (hlocked : s.dev.rateLocked = true) (hboot : s.dev.mode ≠ .boot) (hbackup : s.dev.mode ≠ .backup) :
    exec .freqOffsetWrite s = .next { s with dev := (s.dev.freqRecord s.clk.ns).settle s.clk.ns } := by
  show execFreqOffsetWrite s = _
  simp [execFreqOffsetWrite, hlocked, hboot, hbackup]

theorem freqRecord_asks (t : Nat) : Claim.Asked (d.freqRecord t) (.commit 3 [d.get R.TB.TB_RATE]) ∧ (d.freqRecord t).nvm.mem = d.nvm.mem ∧
    Within raiseFlds { d with nvm := (d.freqRecord t).nvm } (d.freqRecord t) :=
  ⟨enqueue_asked _ _, enqueue_mem _ _, enqueue_within _ _⟩

/-! RETENTION_WRITE (R143). -/

/-- What taking the keep-alive count writes. -/
def kaFlds : List Fld := [I.TB.KA_NS, R.MODE.KA_CNT_LO, R.MODE.KA_CNT_HI]

theorem exec_retentionWrite (hbackup : s.dev.mode ≠ .backup) (hboot : s.dev.mode ≠ .boot) :
    exec .retentionWrite s = .next { s with dev := (s.dev.kaTake s.clk.ns).retainRate } := by
  show execRetentionWrite s = _
  simp [execRetentionWrite, hbackup, hboot]

theorem kaTake_regsKept (t : Nat) : RegsKept kaFlds d (d.kaTake t) := by
  have hputs : ∀ (e : Dev) (a b c : Nat), Within kaFlds e (((e.put I.TB.KA_NS a).put R.MODE.KA_CNT_LO b).put R.MODE.KA_CNT_HI c) := by
    intro e a b c
    simp (disch := decide)
  exact (hputs _ _ _ _).regsKept

/-- Beside the registers of the count only the retention changes. -/
theorem kaRetained_within (t : Nat) :
    Within kaFlds { d with ret := ((d.kaTake t).retainRate).ret } ((d.kaTake t).retainRate) := by
  have hputs : ∀ (e : Dev) (a b c : Nat), Within kaFlds e (((e.put I.TB.KA_NS a).put R.MODE.KA_CNT_LO b).put R.MODE.KA_CNT_HI c) := by
    intro e a b c
    simp (disch := decide)
  exact (hputs _ _ _ _).setRet _

theorem RegsKept.rateLocked (h : RegsKept L d e)
    (hL : [R.NET.SERVO_MODE, R.NET.SERVO_STATE, R.NET.RATE_WIN, I.NET.STEP_RUN, R.NET.TIME_SUSPECT].all (fun f => !hasFld L f) = true) :
    e.rateLocked = d.rateLocked := by
  simp only [List.all_cons, List.all_nil, Bool.and_true, Bool.and_eq_true, Bool.not_eq_true'] at hL
  obtain ⟨hmode, hstate, hwin, hrun, hsuspect⟩ := hL
  unfold Dev.rateLocked Dev.is
  rw [h.get (by decide) hmode, h.get (by decide) hstate, h.get (by decide) hwin, h.get (by decide) hrun, h.get (by decide) hsuspect]

theorem stateWord_rateBit : d.stateWord / 16 % 2 = d.rateLocked.toNat := by
  have hcode : d.mode.code < 16 := by cases d.mode <;> decide
  have hbit := Bool.toNat_lt d.rateLocked
  unfold Dev.stateWord
  omega

theorem retentionWrite_keeps (hbackup : s.dev.mode ≠ .backup) (hboot : s.dev.mode ≠ .boot) : Gives .retentionWrite s fun t =>
    t.dev.ret.tbRate = s.dev.get R.TB.TB_RATE ∧ t.dev.ret.stateWord / 16 % 2 = s.dev.rateLocked.toNat ∧ t.dev.ret.crc = crc32 t.dev.ret.bytes ∧
    t.dev.ret.user = s.dev.ret.user ∧ Within [I.TB.KA_NS, R.MODE.KA_CNT_LO, R.MODE.KA_CNT_HI] { s.dev with ret := t.dev.ret } t.dev ∧
    t.clk = s.clk ∧ t.otp = s.otp ∧ t.pending = s.pending := by
  have hkept := kaTake_regsKept (d := s.dev) s.clk.ns
  refine ⟨_, exec_retentionWrite hbackup hboot, hkept.get (by decide) (by decide) 0, ?_, rfl, rfl, kaRetained_within _, rfl, rfl, rfl⟩
  calc (s.dev.kaTake s.clk.ns).stateWord / 16 % 2 = (s.dev.kaTake s.clk.ns).rateLocked.toNat := stateWord_rateBit
    _ = s.dev.rateLocked.toNat := by rw [hkept.rateLocked (by decide)]

/-! EVJ_LOADED (R444). -/

/-- The words of an entry shown. -/
def Dev.entryShown (d : Dev) (ws : List Nat) : Dev := ws.zipIdx.foldl (fun d p => d.put R.THERM.EVJ_ENTRY p.1 p.2) d

theorem entryShown_within (ws : List Nat) : Within [R.THERM.EVJ_ENTRY] d (d.entryShown ws) :=
  Within.of_foldl _ (fun _ _ => .of_put _ _ _ _ (by decide) (by decide)) _ _

theorem entryShown_get {ws : List Nat} (hlen : ws.length ≤ 65536) {i : Nat} (h : i < ws.length) :
    (d.entryShown ws).get R.THERM.EVJ_ENTRY i = ws[i] % 2 ^ 32 := by
  refine foldl_establishes (x := (ws[i], i)) (I := fun _ => True) (Q := fun e => e.get R.THERM.EVJ_ENTRY i = ws[i] % 2 ^ 32) _
    (List.mem_zipIdx_iff_getElem?.2 (List.getElem?_eq_getElem h)) (fun _ _ _ _ => trivial) (fun e _ => Dev.get_put_same _ _ _ _)
    (fun e p hp hne _ he => ?_) trivial
  have hget : ws[p.2]? = some p.1 := List.mem_zipIdx_iff_getElem?.1 hp
  have hlt : p.2 < ws.length := (List.getElem?_eq_some_iff.1 hget).1
  have hplace : p.2 ≠ i := by
    rintro rfl
    rw [List.getElem?_eq_getElem h] at hget
    exact hne (Prod.ext (Option.some.inj hget).symm rfl)
  rw [Dev.get_put_ne _ _ _ _ _ _ (by decide) (by decide) (.inr (by omega)), he]

/-- An entry has four words. -/
theorem evjEntry_length {jseq : Nat} {ws : List Nat} (h : d.evjEntry jseq = some ws) : ws.length = 4 := by
  obtain ⟨r, -, rfl⟩ := Option.map_eq_some_iff.1 h
  simp

/-- The entry found shown, or that it is gone. -/
def Dev.entryAnswered (d : Dev) : Option (List Nat) → Dev
  | some ws => ((d.put I.THERM.EVJ_WANT 0).entryShown ws).put R.THERM.EVJ_STAT 1
  | none => (d.put I.THERM.EVJ_WANT 0).put R.THERM.EVJ_STAT 2

theorem exec_evjLoaded (hwant : s.dev.is I.THERM.EVJ_WANT = true) :
    exec .evjLoaded s = .next { s with dev := s.dev.entryAnswered (s.dev.evjEntry (s.dev.get R.THERM.EVJ_SEL)) } := by
  have hexec : exec .evjLoaded s = .next { s with dev :=
      if (!s.dev.is I.THERM.EVJ_WANT) = true then s.dev else s.dev.entryAnswered (s.dev.evjEntry (s.dev.get R.THERM.EVJ_SEL)) } := rfl
  rw [hexec, if_neg (by simp [hwant])]

theorem evjLoaded_shows (hwant : s.dev.is I.THERM.EVJ_WANT = true) : Gives .evjLoaded s fun t =>
    t.dev.get I.THERM.EVJ_WANT = 0 ∧ Frame [I.THERM.EVJ_WANT, R.THERM.EVJ_ENTRY, R.THERM.EVJ_STAT] s t ∧
    match s.dev.evjEntry (s.dev.get R.THERM.EVJ_SEL) with
    | some ws => t.dev.get R.THERM.EVJ_STAT = 1 ∧ ∀ i (h : i < ws.length), t.dev.get R.THERM.EVJ_ENTRY i = ws[i] % 2 ^ 32
    | none => t.dev.get R.THERM.EVJ_STAT = 2 := by
  refine ⟨_, exec_evjLoaded hwant, ?_⟩
  cases hentry : s.dev.evjEntry (s.dev.get R.THERM.EVJ_SEL) with
  | none =>
    refine ⟨?_, ⟨?_, rfl, rfl, rfl⟩, Dev.get_put_same _ _ _ _⟩
    · simp (disch := decide) [Dev.entryAnswered]
    · simp (disch := decide) [Dev.entryAnswered]
  | some ws =>
    have hlen := evjEntry_length hentry
    have hshown := entryShown_within (d := s.dev.put I.THERM.EVJ_WANT 0) ws
    have hstat : Within [R.THERM.EVJ_STAT] ((s.dev.put I.THERM.EVJ_WANT 0).entryShown ws)
        (s.dev.entryAnswered (some ws)) := .of_put _ _ _ _ (by decide) (by decide)
    refine ⟨?_, ⟨?_, rfl, rfl, rfl⟩, get_put_one _ (by decide) _, fun i hi => ?_⟩
    · exact (hstat.regsKept.get (by decide) (by decide) 0).trans
        ((hshown.regsKept.get (by decide) (by decide) 0).trans (Dev.get_put_same _ _ 0 0))
    · exact (Within.of_put s.dev I.THERM.EVJ_WANT 0 0 (by decide) (by decide)).trans ((hshown.mono (by decide)).trans (hstat.mono (by decide)))
    · exact (hstat.regsKept.get (by decide) (by decide) i).trans (entryShown_get (by omega) hi)

end Sys2Proof.Machine
end

section
/-! PROOFS. The housekeeping round and the measurement of the safety clock (R92, R394, R424 to R427): what a round and each of its parts
write, the sensors that it shows, and the instances of the safety clock. -/
namespace Sys2Proof.Machine
variable {L : List Fld} {d e : Dev} {s : State}

/-! The readings of the quantities (R424, R425). -/

/-- The fields that a reading looks at. -/
def readingFlds : List Fld :=
  [I.THERM.INT_NS, I.THERM.INT_CODE, R.AFE.SEQ_NENT, R.AFE.ENTRY, I.AFE.PUB_NS, R.AFE.SEQ_FAIL, R.AFE.RESULT]

theorem hkReading_kept (h : Within L d e) (hL : readingFlds.all (fun f => !hasFld L f) = true) (t k : Nat) : e.hkReading t k = d.hkReading t k := by
  simp only [readingFlds, List.all_cons, List.all_nil, Bool.and_true, Bool.and_eq_true, Bool.not_eq_true'] at hL
  obtain ⟨hns, hcode, hnent, hentry, hpub, hfail, hresult⟩ := hL
  have hkept := h.regsKept
  unfold Dev.hkReading Dev.is
  rw [h.ream_eq]
  simp only [hkept.get (f := I.THERM.INT_NS) (by decide) hns, hkept.get (f := I.THERM.INT_CODE) (by decide) hcode,
    hkept.get (f := R.AFE.SEQ_NENT) (by decide) hnent, hkept.get (f := R.AFE.ENTRY) (by decide) hentry,
    hkept.get (f := I.AFE.PUB_NS) (by decide) hpub, hkept.get (f := R.AFE.SEQ_FAIL) (by decide) hfail,
    hkept.get (f := R.AFE.RESULT) (by decide) hresult]

/-- What the readings of a round write. -/
def hkTakeFlds : List Fld :=
  [R.THERM.HK_STALE, I.THERM.CODE, I.THERM.READ, R.THERM.TSENS, R.THERM.VIN, R.THERM.VBAT, R.THERM.V3P3, R.THERM.V1P8, R.THERM.V0P8]

theorem hkTake_eq (t k : Nat) : d.hkTake t k =
    if (!(d.hkReading t k).1) = true then d.put R.THERM.HK_STALE 1
    else if k < 4 then ((d.put I.THERM.CODE (d.hkReading t k).2 k).put I.THERM.READ 1 k).put R.THERM.TSENS (hkValue k (d.hkReading t k).2) k
    else ((d.put I.THERM.CODE (d.hkReading t k).2 k).put I.THERM.READ 1 k).put (supplyReg k) (hkValue k (d.hkReading t k).2) := rfl

theorem supplyReg_mem (k : Nat) : supplyReg k ∈ [R.THERM.VIN, R.THERM.VBAT, R.THERM.V3P3, R.THERM.V1P8, R.THERM.V0P8] := by
  unfold supplyReg
  split <;> decide

/-- What holds of the five registers of the supplies holds of the one of a quantity. -/
theorem supplyReg_of_all {p : Fld → Bool} (h : [R.THERM.VIN, R.THERM.VBAT, R.THERM.V3P3, R.THERM.V1P8, R.THERM.V0P8].all p = true) (k : Nat) :
    p (supplyReg k) = true := List.all_eq_true.1 h _ (supplyReg_mem k)

theorem supplyReg_id (k : Nat) : (supplyReg k).id < 2048 :=
  of_decide_eq_true (supplyReg_of_all (p := fun f => decide (f.id < 2048)) (by decide) k)

theorem supplyReg_taken (k : Nat) : hasFld hkTakeFlds (supplyReg k) = true := supplyReg_of_all (by decide) k

theorem supplyReg_ne_tsens (k : Nat) : (supplyReg k).id ≠ R.THERM.TSENS.id :=
  of_decide_eq_true (supplyReg_of_all (p := fun f => decide (f.id ≠ R.THERM.TSENS.id)) (by decide) k)

theorem hkTake_within (t k : Nat) : Within hkTakeFlds d (d.hkTake t k) := by
  rw [hkTake_eq]
  simp (disch := first | decide | exact supplyReg_id k | exact supplyReg_taken k)

theorem hkTake_fresh {t k : Nat} (hk : k < 4) (h : (d.hkReading t k).1 = true) :
    (d.hkTake t k).get R.THERM.TSENS k = hkValue k (d.hkReading t k).2 % 2 ^ 32 := by
  rw [hkTake_eq, if_neg (by simp [h]), if_pos hk]
  exact Dev.get_put_same _ _ _ _

theorem hkTake_other {t j k : Nat} (hj : j < 9) (hk : k < 4) (hjk : j ≠ k) : (d.hkTake t j).get R.THERM.TSENS k = d.get R.THERM.TSENS k := by
  have hread : ∀ v w : Nat, ((d.put I.THERM.CODE v j).put I.THERM.READ w j).get R.THERM.TSENS k = d.get R.THERM.TSENS k := by
    intro v w
    simp (disch := decide)
  rw [hkTake_eq]
  split
  · exact Dev.get_put_other _ _ _ _ _ _ (by decide) (by decide) (by decide)
  · split
    · rw [Dev.get_put_ne _ _ _ _ _ _ (by decide) (by decide) (.inr (by omega)), hread]
    · rw [Dev.get_put_other _ _ _ _ _ _ (supplyReg_id j) (by decide) (supplyReg_ne_tsens j), hread]

/-- The readings of a round. -/
def Dev.hkTaken (d : Dev) (t : Nat) : Dev := d.forN 9 (fun d k => d.hkTake t k)

theorem hkTaken_within (t : Nat) : Within hkTakeFlds d (d.hkTaken t) := Within.of_foldl _ (fun _ _ => hkTake_within _ _) _ _

/-- A fresh reading of a die sensor is shown. -/
theorem hkTaken_tsens {t k : Nat} (hk : k < 4) (h : (d.hkReading t k).1 = true) :
    (d.hkTaken t).get R.THERM.TSENS k = hkValue k (d.hkReading t k).2 % 2 ^ 32 := by
  unfold Dev.hkTaken Dev.forN
  refine foldl_establishes (x := k) (I := Within hkTakeFlds d) (Q := fun e => e.get R.THERM.TSENS k = hkValue k (d.hkReading t k).2 % 2 ^ 32) (List.range 9)
    (List.mem_range.2 (by omega)) (fun e j _ he => he.trans (hkTake_within t j)) (fun e he => ?_) (fun e j hj hjk _ hQ => ?_) (.refl d)
  · have hreading := hkReading_kept he (by decide) t k
    rw [hkTake_fresh hk (by rw [hreading, h]), hreading]
  · rw [hkTake_other (List.mem_range.1 hj) hk hjk, hQ]

/-! The rest of a round (R427 to R429). -/

theorem brdTake_within (t b : Nat) : Within [R.THERM.HK_STALE, R.THERM.BRD_T, I.THERM.READ] d (d.brdTake t b) := by
  unfold Dev.brdTake
  simp (disch := decide)

/-- What a die writes in a round. -/
def dieRoundFlds : List Fld :=
  raiseFlds ++ [I.THERM.STALE_RUN, I.THERM.SEEDED, I.THERM.BASE, I.THERM.TMODEL, I.THERM.DT, I.THERM.DIS_RUN]

theorem dieRound_within (t k : Nat) : Within dieRoundFlds d (d.dieRound t k) := by
  unfold Dev.dieRound
  generalize absDiff (d.get R.THERM.TSENS k) (d.get I.THERM.TMODEL k) = apart
  obtain ⟨n, q⟩ := apart
  dsimp only
  split
  · split
    · simp (disch := first | decide | (intros; simp (disch := decide)))
    · simp (disch := decide)
  · simp (disch := decide)

theorem dieStatus_within : Within [R.THERM.TDIE, R.THERM.HOT_DIE, R.THERM.TDIE_MAX] d d.dieStatus := by
  unfold Dev.dieStatus
  simp (disch := first | decide | (intros; simp (disch := decide)))

theorem raiseAny_within (t cls inst : Nat) (l : List Nat) (bad : Nat → Bool) (detail : Nat → Nat) :
    Within raiseFlds d (d.raiseAny t cls inst l bad detail) := by
  unfold Dev.raiseAny
  dsimp only
  split
  · exact (within_lower _ _).2 (.refl d)
  · exact Within.of_foldl _ (fun _ _ => raise_within _ _ _ _ _) _ _

/-- What a round writes after its readings. -/
def hkAfterFlds : List Fld :=
  dieRoundFlds ++ [R.THERM.HK_STALE, R.THERM.BRD_T, I.THERM.READ, R.THERM.TDIE, R.THERM.HOT_DIE, R.THERM.TDIE_MAX]

/-- The telemetry of a cell in use is late in a round at TB ns t. -/
def Dev.cellsLate (d : Dev) (t : Nat) : Bool :=
  d.ream.active.isSome && (List.range 144).any (fun c => d.cellUsed c && d.is I.CELL.EVER c && !within20ms t (d.get I.CELL.BLK_NS c))

/-- The round counted, with whether a cell's telemetry is late. -/
def Dev.roundStarted (d : Dev) (t : Nat) : Dev := (d.flag R.THERM.HK_STALE (d.cellsLate t)).wrap R.THERM.HK_ROUNDS

theorem roundStarted_within (t : Nat) : Within [R.THERM.HK_STALE, R.THERM.HK_ROUNDS] d (d.roundStarted t) := by
  unfold Dev.roundStarted
  simp (disch := decide)

theorem roundStarted_rounds (t : Nat) :
    (d.roundStarted t).get R.THERM.HK_ROUNDS = (d.get R.THERM.HK_ROUNDS + 1) % 2 ^ R.THERM.HK_ROUNDS.width := by
  rw [Dev.roundStarted, Dev.wrap, Dev.get_put_same, Dev.get_flag_other _ _ _ _ _ _ (by decide) (by decide) (by decide)]

/-- A round counts itself, takes its readings, and then judges them. -/
theorem hkRound_after (t : Nat) : Within hkAfterFlds ((d.roundStarted t).hkTaken t) (d.hkRound t) := by
  have hboards : ∀ e : Dev, Within hkAfterFlds e (e.forN 4 (fun d b => d.brdTake t b)) := fun e =>
    (Within.of_foldl _ (fun _ b => brdTake_within t b) _ e).mono (by decide)
  have hdies : ∀ e : Dev, Within hkAfterFlds e (e.forN 4 (fun d k => d.dieRound t k)) := fun e =>
    (Within.of_foldl _ (fun _ k => dieRound_within t k) _ e).mono (by decide)
  have hstatus : ∀ e : Dev, Within hkAfterFlds e e.dieStatus := fun e => dieStatus_within.mono (by decide)
  have hraise : ∀ (e : Dev) (inst : Nat) (l : List Nat) (bad : Nat → Bool) (detail : Nat → Nat),
      Within hkAfterFlds e (e.raiseAny t 12 inst l bad detail) := fun e inst l bad detail =>
    (raiseAny_within t 12 inst l bad detail).mono (by decide)
  unfold Dev.hkRound
  refine Within.trans ?_ (hraise _ _ _ _ _)
  refine Within.trans ?_ (hraise _ _ _ _ _)
  refine Within.trans ?_ (hraise _ _ _ _ _)
  exact ((hboards _).trans (hdies _)).trans (hstatus _)

/-! The safety clock (R92, R394). -/

/-- The first instance, by the smaller limit. -/
def Dev.clockDrift (d : Dev) (t off : Nat) : Dev := if 8000 < off then d.raise t 0 7 0 true else d.lower 0 7

theorem safeClock_eq (t cycles : Nat) : d.safeClock t cycles =
    if 16000 < ((cycles : Int) - 160000).natAbs then
      ((d.clockDrift t ((cycles : Int) - 160000).natAbs).put I.SAFE.OSC_BAD 1).raise t 10 19 0 true
    else ((d.clockDrift t ((cycles : Int) - 160000).natAbs).put I.SAFE.OSC_BAD 0).lower 10 19 := rfl

theorem clockDrift_within (t off : Nat) : Within raiseFlds d (d.clockDrift t off) := by
  unfold Dev.clockDrift
  simp (disch := decide)

theorem safeClock_within (t cycles : Nat) : Within (raiseFlds ++ [I.SAFE.OSC_BAD]) d (d.safeClock t cycles) := by
  have hdrift := (clockDrift_within (d := d) t ((cycles : Int) - 160000).natAbs).mono (L := raiseFlds ++ [I.SAFE.OSC_BAD]) (E := []) (by decide)
  rw [safeClock_eq]
  simp (disch := decide) [hdrift]

/-- Outside 5 % instance 7 of the clocks is raised, which nothing after it takes back. -/
theorem safeClock_drift {t cycles : Nat} (h : 8000 < ((cycles : Int) - 160000).natAbs) : Raised (d.safeClock t cycles) 0 7 := by
  have hdrift : Raised (d.clockDrift t ((cycles : Int) - 160000).natAbs) 0 7 := by
    rw [Dev.clockDrift, if_pos h]
    exact raise_raised _ _ _ _ _ (by decide)
  rw [safeClock_eq]
  split
  · exact ((put_sticky I.SAFE.OSC_BAD _ _ (by decide) (by decide)).trans (raise_sticky _ _ _ _ _)).raised hdrift
  · exact ((put_sticky I.SAFE.OSC_BAD _ _ (by decide) (by decide)).trans (lower_sticky _ _)).raised hdrift

theorem safeClock_bad {t cycles : Nat} (h : 16000 < ((cycles : Int) - 160000).natAbs) :
    (d.safeClock t cycles).get I.SAFE.OSC_BAD = 1 ∧ Raised (d.safeClock t cycles) 10 19 := by
  rw [safeClock_eq, if_pos h]
  refine ⟨?_, raise_raised _ _ _ _ _ (by decide)⟩
  rw [Dev.get_raise _ _ _ _ _ _ _ (by decide) (by decide), get_put_one _ (by decide)]

theorem safeClock_good {t cycles : Nat} (h : ((cycles : Int) - 160000).natAbs ≤ 16000) :
    (d.safeClock t cycles).get I.SAFE.OSC_BAD = 0 ∧ ∀ a ∈ (d.safeClock t cycles).active, a.cls = 10 → a.inst = 19 → a.held = false := by
  rw [safeClock_eq, if_neg (by omega)]
  refine ⟨?_, fun _ => lower_released⟩
  rw [get_lower, Dev.get_put_same, Nat.zero_mod]

/-! HK_ROUND. -/

theorem exec_hkRound {cycles : Nat} (hruns : s.dev.hkRuns = true) : exec (.hkRound cycles) s =
    .next { s with dev := ((s.dev.hkRound s.clk.ns).safeClock s.clk.ns cycles).settle s.clk.ns } := by
  show execHkRound cycles s = _
  simp [execHkRound, hruns]

/-- Everything that a round with the measurement of its clock writes. -/
def hkRoundFlds : List Fld := hkTakeFlds ++ hkAfterFlds ++ [R.THERM.HK_ROUNDS, I.SAFE.OSC_BAD]

theorem hkRound_shows {cycles : Nat} (hruns : s.dev.hkRuns = true) : Does (.hkRound cycles) s fun d =>
    d.get R.THERM.HK_ROUNDS = (s.dev.get R.THERM.HK_ROUNDS + 1) % 2 ^ R.THERM.HK_ROUNDS.width ∧
    (∀ k < 4, (s.dev.hkReading s.clk.ns k).1 = true → d.get R.THERM.TSENS k = hkValue k (s.dev.hkReading s.clk.ns k).2 % 2 ^ 32) ∧
    (8000 < ((cycles : Int) - 160000).natAbs → Raised d 0 7) ∧
    (16000 < ((cycles : Int) - 160000).natAbs → d.get I.SAFE.OSC_BAD = 1 ∧ Raised d 10 19) ∧
    (((cycles : Int) - 160000).natAbs ≤ 16000 → d.get I.SAFE.OSC_BAD = 0 ∧ ∀ a ∈ d.active, a.cls = 10 → a.inst = 19 → a.held = false) ∧
    Within hkRoundFlds s.dev d := by
  have hafter := hkRound_after (d := s.dev) s.clk.ns
  have hstarted := roundStarted_within (d := s.dev) s.clk.ns
  have htaken := hkTaken_within (d := s.dev.roundStarted s.clk.ns) s.clk.ns
  have hclock := safeClock_within (d := s.dev.hkRound s.clk.ns) s.clk.ns cycles
  have hreading : ∀ k, (s.dev.roundStarted s.clk.ns).hkReading s.clk.ns k = s.dev.hkReading s.clk.ns k := hkReading_kept hstarted (by decide) _
  refine ⟨_, exec_hkRound hruns, ?_, fun k hk hfresh => ?_, safeClock_drift, safeClock_bad, safeClock_good, ?_⟩
  · rw [hclock.regsKept.get (by decide) (by decide), hafter.regsKept.get (by decide) (by decide), htaken.regsKept.get (by decide) (by decide),
      roundStarted_rounds]
  · rw [hclock.regsKept.get (by decide) (by decide), hafter.regsKept.get (by decide) (by decide), hkTaken_tsens hk (by rw [hreading, hfresh]), hreading]
  · exact (hstarted.mono (by decide)).trans ((htaken.mono (by decide)).trans ((hafter.mono (by decide)).trans (hclock.mono (by decide))))

end Sys2Proof.Machine
end

section
/-! PROOFS. A step of the die models (R428 to R430, R441, R448): the hottest die, a threshold newly reached, and the hold of the flash. -/
namespace Sys2Proof.Machine
variable {L : List Fld} {d e : Dev} {s : State}

/-- What holds before the turn of x in a list without repetition, and what its turn makes of it, both of which the other turns keep. -/
theorem foldl_turn {α : Type} {g : Dev → α → Dev} {P Q : Dev → Prop} {x : α} {l : List α} (hl : l.Nodup) (hx : x ∈ l)
    (hbefore : ∀ e y, y ≠ x → P e → P (g e y)) (hturn : ∀ e, P e → Q (g e x)) (hafter : ∀ e y, y ≠ x → Q e → Q (g e y)) (h : P d) :
    Q (l.foldl g d) := by
  obtain ⟨l₁, l₂, rfl⟩ := List.append_of_mem hx
  obtain ⟨-, htail, hapart⟩ := List.nodup_append.1 hl
  rw [List.foldl_append, List.foldl_cons]
  refine List.foldlRecOn l₂ g (hturn _ (List.foldlRecOn l₁ g h (fun e he y hy => hbefore e y ?_ he))) (fun e he y hy => hafter e y ?_ he)
  · exact hapart y hy x (List.mem_cons_self ..)
  · rintro rfl
    exact (List.nodup_cons.1 htail).1 hy

/-! The hottest die (R429). -/

theorem dieStatus_eq : ∃ hot < 4, d.dieStatus =
    ((d.forN 4 (fun d k => d.put R.THERM.TDIE (b32.max (d.get I.THERM.TMODEL k) (d.get R.THERM.TSENS k)) k)).put R.THERM.HOT_DIE hot).put R.THERM.TDIE_MAX
      ((d.forN 4 (fun d k => d.put R.THERM.TDIE (b32.max (d.get I.THERM.TMODEL k) (d.get R.THERM.TSENS k)) k)).get R.THERM.TDIE hot) := by
  refine ⟨_, ?_, rfl⟩
  refine List.foldlRecOn (motive := fun h => h < 4) (List.range 4) _ (by decide) (fun h hh k hk => ?_)
  split
  · exact List.mem_range.1 hk
  · exact hh

/-- TDIE_MAX is the temperature of the hottest die. -/
theorem dieStatus_hottest : d.dieStatus.get R.THERM.TDIE_MAX = d.dieStatus.get R.THERM.TDIE (d.dieStatus.get R.THERM.HOT_DIE) ∧
    d.dieStatus.get R.THERM.HOT_DIE < 4 := by
  obtain ⟨hot, hlt, heq⟩ := dieStatus_eq (d := d)
  have hwidth : (d.forN 4 (fun d k => d.put R.THERM.TDIE (b32.max (d.get I.THERM.TMODEL k) (d.get R.THERM.TSENS k)) k)).get R.THERM.TDIE hot <
      2 ^ R.THERM.TDIE_MAX.width := by
    refine forN_establishes (Q := fun e => e.get R.THERM.TDIE hot < 2 ^ R.THERM.TDIE_MAX.width) hlt (fun e => ?_) (fun e j hj hjk he => ?_)
    · rw [Dev.get_put_same]
      exact Nat.mod_lt _ (by decide)
    · rwa [Dev.get_put_ne _ _ _ _ _ _ (by decide) (by decide) (.inr (by omega))]
  have hhot : d.dieStatus.get R.THERM.HOT_DIE = hot := by
    rw [heq, Dev.get_put_other _ _ _ _ _ _ (by decide) (by decide) (by decide), Dev.get_put_same]
    exact Nat.mod_eq_of_lt (Nat.lt_of_lt_of_le hlt (by decide))
  refine ⟨?_, hhot ▸ hlt⟩
  rw [hhot, heq, Dev.get_put_same, Nat.mod_eq_of_lt hwidth]
  simp (disch := decide)

/-! The hold of the flash (R441). -/

/-- What the hardware action of a threshold writes: demands, and the flash's own fields. -/
def thermActFlds : List Fld :=
  Claim.flashFlds ++ [R.THERM.FLASH_HOLD, I.MODE.DUE_STOP_TS, I.MODE.DUE_SAFE_TS, I.PART.LEAVE_DUE]

/-- The frame of that action: those fields, and of the records none but the flash. -/
def ActWithin (d e : Dev) : Prop := Within thermActFlds { d with nvm := e.nvm } e

theorem ActWithin.trans {a b c : Dev} (h : ActWithin a b) (k : ActWithin b c) : ActWithin a c := Within.thenNvm h k
theorem FlashWithin.act (h : FlashWithin d e) : ActWithin d e := h.mono (by decide)
theorem put_actWithin (f : Fld) (v i : Nat) (hf : f.id < 2048) (h : hasFld thermActFlds f = true) : ActWithin d (d.put f v i) :=
  (Within.of_put d f v i hf h).ofNvm

/-- A register outside a frame beside the flash. -/
theorem Within.getBesideNvm {n : Nvm} (h : Within L { d with nvm := n } e) {f : Fld} (hf : f.id < 2048) (hL : hasFld L f = false) (i : Nat) :
    e.get f i = d.get f i := h.regs f hf hL i rfl

theorem ActWithin.get (h : ActWithin d e) {f : Fld} (hf : f.id < 2048) (hL : hasFld thermActFlds f = false) (i : Nat) : e.get f i = d.get f i :=
  h.getBesideNvm hf hL i

theorem markDirty_within (t sector : Nat) : FlashWithin d (d.markDirty t sector) :=
  ((setDirty_within _).trans ((raise_within _ _ _ _ _).flashWithin (by decide))).trans (.ofRaise (enqueue_within _ _))

theorem abandonErase_within (t : Nat) : FlashWithin d (d.abandonErase t) := by
  unfold Dev.abandonErase
  split
  · exact .ite ((setNvm_flashWithin d _).trans (markDirty_within _ _)) (setNvm_flashWithin d d.nvm)
  · exact setNvm_flashWithin d d.nvm

theorem flashHold_within (t : Nat) : ActWithin d (d.flashHold t) := by
  have hheld := (put_actWithin (d := d) R.THERM.FLASH_HOLD 1 0 (by decide) (by decide)).trans (abandonErase_within t).act
  unfold Dev.flashHold Dev.onlyIf
  split
  · exact (setNvm_flashWithin d d.nvm).act
  · split
    · exact hheld.trans (cmdFail_within 3).act
    · exact hheld

theorem flashRelease_within (t : Nat) : ActWithin d (d.flashRelease t) := by
  unfold Dev.flashRelease
  split
  · exact (setNvm_flashWithin d d.nvm).act
  · exact ((put_actWithin R.THERM.FLASH_HOLD 0 0 (by decide) (by decide)).trans (setNvm_flashWithin _ _).act).trans
      (FlashWithin.ofRaise (flashNext_within t)).act

theorem setDirty_sticky (l : List Nat) : StickyKept d (d.setDirty l) :=
  (setNvm_sticky d _).trans (put_sticky R.THERM.DIRTY_CNT _ _ (by decide) (by decide))

theorem enqueue_sticky (t : Nat) (op : FlashOp) : StickyKept d (d.enqueue t op) := (setNvm_sticky d _).trans (flashNext_sticky t)

theorem markDirty_sticky (t sector : Nat) : StickyKept d (d.markDirty t sector) :=
  ((setDirty_sticky _).trans (raise_sticky _ _ _ _ _)).trans (enqueue_sticky _ _)

theorem abandonErase_sticky (t : Nat) : StickyKept d (d.abandonErase t) := by
  unfold Dev.abandonErase
  split
  · split
    · exact (setNvm_sticky d _).trans (markDirty_sticky _ _)
    · exact .refl d
  · exact .refl d

theorem cmdFail_sticky (code : Nat) : StickyKept d (d.cmdFail code) := by
  have hstatus : ∀ e : Dev, Within [R.REAM.CMD_BUSY, R.REAM.CMD_STATE, R.REAM.CMD_FAIL, R.HIF.SUM_NVM] e
      ((((e.put R.REAM.CMD_BUSY 0).put R.REAM.CMD_STATE 3).put R.REAM.CMD_FAIL code).sumAll R.HIF.SUM_NVM) := by
    intro e
    simp (disch := decide)
  exact (setNvm_sticky d _).trans ((hstatus _).sticky (by decide))

theorem flashHold_sticky (t : Nat) : StickyKept d (d.flashHold t) := by
  have hheld := (put_sticky (d := d) R.THERM.FLASH_HOLD 1 0 (by decide) (by decide)).trans (abandonErase_sticky t)
  unfold Dev.flashHold Dev.onlyIf
  split
  · exact .refl d
  · split
    · exact hheld.trans (cmdFail_sticky 3)
    · exact hheld

theorem flashRelease_sticky (t : Nat) : StickyKept d (d.flashRelease t) := by
  unfold Dev.flashRelease
  split
  · exact .refl d
  · exact ((put_sticky R.THERM.FLASH_HOLD 0 0 (by decide) (by decide)).trans (setNvm_sticky _ _)).trans (flashNext_sticky t)

/-! A threshold (R430, R448). -/

/-- The demand that a threshold makes. -/
def Dev.thermDemand (d : Dev) (k : Nat) : Dev :=
  if d.mode = .mirror then d.put I.PART.LEAVE_DUE 1 else d.put (if k = 1 then I.MODE.DUE_STOP_TS else I.MODE.DUE_SAFE_TS) 1

theorem thermAction_eq (t k : Nat) : d.thermAction t k = if k = 0 then d else (d.thermDemand k).flashHold t := rfl

theorem thermDemand_within (k : Nat) : Within [I.PART.LEAVE_DUE, I.MODE.DUE_STOP_TS, I.MODE.DUE_SAFE_TS] d (d.thermDemand k) := by
  unfold Dev.thermDemand
  split
  · exact .of_put _ _ _ _ (by decide) (by decide)
  · split
    · exact .of_put _ _ _ _ (by decide) (by decide)
    · exact .of_put _ _ _ _ (by decide) (by decide)

theorem thermAction_within (t k : Nat) : ActWithin d (d.thermAction t k) := by
  rw [thermAction_eq]
  split
  · exact (setNvm_flashWithin d d.nvm).act
  · exact ActWithin.trans ((thermDemand_within k).mono (by decide)).ofNvm (flashHold_within t)

theorem thermAction_sticky (t k : Nat) : StickyKept d (d.thermAction t k) := by
  rw [thermAction_eq]
  split
  · exact .refl d
  · exact ((thermDemand_within k).sticky (by decide)).trans (flashHold_sticky t)

/-- A threshold newly reached, before its hardware action. -/
def Dev.thermShown (d : Dev) (t k : Nat) : Dev := ((d.setBitOf R.THERM.THR_ACT k true).raise t 12 k d.thermDetail true).sumAll R.HIF.SUM_THERM

/-- A threshold left. -/
def Dev.thermLeft (d : Dev) (k : Nat) : Dev := (d.setBitOf R.THERM.THR_ACT k false).lower 12 k

theorem thermThreshold_eq (t k : Nat) : d.thermThreshold t k =
    if (!decide (bitOf (d.get R.THERM.THR_ACT) k = 1) && b32.le (b32.ofInt (threshold k)) (d.get R.THERM.TDIE_MAX)) = true then
      (d.thermShown t k).thermAction t k
    else if (decide (bitOf (d.get R.THERM.THR_ACT) k = 1) && b32.lt (d.get R.THERM.TDIE_MAX) (b32.ofInt (threshold k - 5))) = true then d.thermLeft k
    else d := rfl

/-- What a threshold writes beside its action. -/
def thermShownFlds : List Fld := raiseFlds ++ [R.THERM.THR_ACT, R.HIF.SUM_THERM]

theorem thermShown_within (t k : Nat) : Within thermShownFlds d (d.thermShown t k) := by
  unfold Dev.thermShown
  simp (disch := decide)

theorem thermLeft_within (k : Nat) : Within [R.THERM.THR_ACT] d (d.thermLeft k) := by
  unfold Dev.thermLeft
  simp (disch := decide)

/-- What a threshold writes with its action. -/
def thermFlds : List Fld := thermActFlds ++ [R.THERM.THR_ACT, R.HIF.SUM_THERM]

theorem thermThreshold_within (t k : Nat) : Within thermFlds { d with nvm := (d.thermThreshold t k).nvm } (d.thermThreshold t k) := by
  rw [thermThreshold_eq]
  split
  · exact Within.thenNvm ((thermShown_within t k).mono (by decide)).ofNvm ((thermAction_within t k).mono (by decide))
  · split
    · exact ((thermLeft_within k).mono (by decide)).ofNvm
    · exact .refl d

theorem thermShown_summed (t k : Nat) :
    Within [R.HIF.SUM_THERM] ((d.setBitOf R.THERM.THR_ACT k true).raise t 12 k d.thermDetail true) (d.thermShown t k) := by
  unfold Dev.thermShown
  simp (disch := decide)

theorem thermThreshold_sticky (t k : Nat) : StickyKept d (d.thermThreshold t k) := by
  have hshown : StickyKept d (d.thermShown t k) :=
    ((put_sticky R.THERM.THR_ACT _ _ (by decide) (by decide)).trans (raise_sticky _ _ _ _ _)).trans
      ((thermShown_summed t k).sticky (by decide))
  rw [thermThreshold_eq]
  split
  · exact hshown.trans (thermAction_sticky t k)
  · split
    · exact (thermLeft_within k).sticky (by decide)
    · exact .refl d

/-- A threshold is marked, raised and shown in every summary. -/
def Reached (k : Nat) (d : Dev) : Prop := bitOf (d.get R.THERM.THR_ACT) k = 1 ∧ Raised d 12 k ∧ ∀ i < 3, d.get R.HIF.SUM_THERM i = 1

theorem thermShown_reached (t : Nat) {k : Nat} (hk : k < 3) : Reached k (d.thermShown t k) := by
  have hsum := thermShown_summed (d := d) t k
  refine ⟨?_, (hsum.sticky (by decide)).raised (raise_raised _ _ _ _ _ (by omega)), fun i hi => get_sumAll _ (by decide) (by decide) hi⟩
  rw [hsum.regsKept.get (by decide) (by decide), Dev.get_raise _ _ _ _ _ _ _ (by decide) (by decide)]
  exact setBitOf_bit_same R.THERM.THR_ACT true 0 (Nat.lt_of_lt_of_le hk (by decide))

theorem Reached.kept {k : Nat} (h : Reached k d) (hact : e.get R.THERM.THR_ACT = d.get R.THERM.THR_ACT) (hsticky : StickyKept d e)
    (hsum : ∀ i, e.get R.HIF.SUM_THERM i = d.get R.HIF.SUM_THERM i) : Reached k e :=
  ⟨hact ▸ h.1, hsticky.raised h.2.1, fun i hi => (hsum i).trans (h.2.2 i hi)⟩

theorem ActWithin.reached {k : Nat} (h : ActWithin d e) (hsticky : StickyKept d e) (hd : Reached k d) : Reached k e :=
  hd.kept (h.get (by decide) (by decide) 0) hsticky (h.get (by decide) (by decide))

/-- A threshold not marked that the hottest die has reached. -/
theorem thermThreshold_reached (t : Nat) {k : Nat} (hk : k < 3) (hclear : bitOf (d.get R.THERM.THR_ACT) k = 0)
    (hreached : b32.le (b32.ofInt (threshold k)) (d.get R.THERM.TDIE_MAX) = true) : Reached k (d.thermThreshold t k) := by
  rw [thermThreshold_eq, if_pos (by simp [hclear, hreached])]
  exact (thermAction_within t k).reached (thermAction_sticky t k) (thermShown_reached t hk)

/-- Another threshold leaves the mark of this one. -/
theorem thermThreshold_otherBit (t : Nat) {j k : Nat} (hk : k < 3) (hjk : j ≠ k) :
    bitOf ((d.thermThreshold t j).get R.THERM.THR_ACT) k = bitOf (d.get R.THERM.THR_ACT) k := by
  have hmark : ∀ b, bitOf ((d.setBitOf R.THERM.THR_ACT j b).get R.THERM.THR_ACT) k = bitOf (d.get R.THERM.THR_ACT) k := fun b =>
    setBitOf_bit_other R.THERM.THR_ACT b 0 (Nat.lt_of_lt_of_le hk (by decide)) hjk.symm
  rw [thermThreshold_eq]
  split
  · rw [(thermAction_within t j).get (by decide) (by decide)]
    unfold Dev.thermShown
    rw [get_sumAll_other _ _ _ (by decide) (by decide) (by decide), Dev.get_raise _ _ _ _ _ _ _ (by decide) (by decide), hmark]
  · split
    · rw [Dev.thermLeft, get_lower, hmark]
    · rfl

/-- No threshold takes THERM out of a summary. -/
theorem thermThreshold_sum (t j : Nat) {i : Nat} (hi : i < 3) (h : d.get R.HIF.SUM_THERM i = 1) :
    (d.thermThreshold t j).get R.HIF.SUM_THERM i = 1 := by
  rw [thermThreshold_eq]
  split
  · rw [(thermAction_within t j).get (by decide) (by decide)]
    exact get_sumAll _ (by decide) (by decide) hi
  · split
    · rw [(thermLeft_within j).regsKept.get (by decide) (by decide), h]
    · exact h

theorem thermThreshold_keepsReached (t : Nat) {j k : Nat} (hk : k < 3) (hjk : j ≠ k) (h : Reached k d) : Reached k (d.thermThreshold t j) := by
  obtain ⟨hbit, hraised, hsum⟩ := h
  exact ⟨(thermThreshold_otherBit t hk hjk).trans hbit, (thermThreshold_sticky t j).raised hraised, fun i hi => thermThreshold_sum t j hi (hsum i hi)⟩

/-! DIE_MODEL_STEP. -/

/-- The dies' models stepped. -/
def Dev.modelsStepped (d : Dev) (p : Nat → Nat) : Dev :=
  d.forN 4 (fun d k =>
    if !d.is I.THERM.SEEDED k then d
    else
      let d1 := d.forN 4 (fun d i =>
        let a := Config.exp32 (b32.neg (b32.div (b32.ofRatio 1 1000) (Config.dieModel (8 * k + 4 + i))))
        d.put I.THERM.DT (b32.add (b32.mul a (d.get I.THERM.DT (4 * k + i)))
          (b32.mul (b32.mul (Config.dieModel (8 * k + i)) (b32.sub b32.one a)) (p k))) (4 * k + i))
      d1.put I.THERM.TMODEL (d1.dieModelT k) k)

/-- The hottest die and the thresholds after them. -/
def Dev.thermJudged (d : Dev) (t : Nat) : Dev := (List.range 3).foldl (fun d k => d.thermThreshold t k) d.dieStatus

theorem dieStep_eq (t : Nat) (p : Nat → Nat) : d.dieStep t p =
    if b32.lt (((d.modelsStepped p).thermJudged t).get R.THERM.TDIE_MAX) (b32.ofInt 115) then ((d.modelsStepped p).thermJudged t).flashRelease t
    else (d.modelsStepped p).thermJudged t := rfl

theorem modelsStepped_within (p : Nat → Nat) : Within [I.THERM.DT, I.THERM.TMODEL] d (d.modelsStepped p) := by
  refine Within.of_foldl _ (fun e k => ?_) _ _
  dsimp only
  split
  · exact .refl e
  · exact (Within.of_foldl _ (fun _ _ => .of_put _ _ _ _ (by decide) (by decide)) _ _).trans (.of_put _ _ _ _ (by decide) (by decide))

theorem thermJudged_within (t : Nat) : Within thermFlds { d.dieStatus with nvm := (d.thermJudged t).nvm } (d.thermJudged t) :=
  foldl_nvm _ (fun _ _ => thermThreshold_within _ _) _ _

/-- The thresholds newly reached, in a step in which the hottest die stays what it is. -/
theorem thermJudged_reached (t : Nat) {k : Nat} (hk : k < 3) (hclear : bitOf (d.get R.THERM.THR_ACT) k = 0)
    (hreached : b32.le (b32.ofInt (threshold k)) (d.dieStatus.get R.THERM.TDIE_MAX) = true) : Reached k (d.thermJudged t) := by
  refine foldl_turn (x := k)
    (P := fun e => bitOf (e.get R.THERM.THR_ACT) k = 0 ∧ b32.le (b32.ofInt (threshold k)) (e.get R.THERM.TDIE_MAX) = true)
    List.nodup_range (List.mem_range.2 hk) (fun e j hjk he => ⟨?_, ?_⟩) (fun e he => thermThreshold_reached t hk he.1 he.2)
    (fun e j hjk he => thermThreshold_keepsReached t hk hjk he) ⟨?_, hreached⟩
  · exact (thermThreshold_otherBit t hk hjk).trans he.1
  · rw [(thermThreshold_within t j).getBesideNvm (by decide) (by decide)]
    exact he.2
  · rw [dieStatus_within.regsKept.get (by decide) (by decide), hclear]

/-- The release of the flash below the first threshold is the last effect of a step. -/
theorem dieStep_after (t : Nat) (p : Nat → Nat) : ActWithin ((d.modelsStepped p).thermJudged t) (d.dieStep t p) ∧
    StickyKept ((d.modelsStepped p).thermJudged t) (d.dieStep t p) := by
  rw [dieStep_eq]
  split
  · exact ⟨flashRelease_within t, flashRelease_sticky t⟩
  · exact ⟨(setNvm_flashWithin _ _).act, .refl _⟩

/-- The powers of the dies by their numbers. -/
def diePowers (p0 p1 p2 p3 : Word) (k : Nat) : Nat := (match k with | 0 => p0 | 1 => p1 | 2 => p2 | _ => p3).toNat

theorem exec_dieModelStep {p0 p1 p2 p3 : Word} (hruns : s.dev.hkRuns = true) : exec (.dieModelStep p0 p1 p2 p3) s =
    .next { s with dev := (s.dev.dieStep s.clk.ns (diePowers p0 p1 p2 p3)).settle s.clk.ns } := by
  have hstep : exec (.dieModelStep p0 p1 p2 p3) s = .next { s with dev :=
      if s.dev.hkRuns then (s.dev.dieStep s.clk.ns (diePowers p0 p1 p2 p3)).settle s.clk.ns else s.dev } := rfl
  rw [hstep, if_pos hruns]

/-- Everything that a step of the die models writes. -/
def dieStepFlds : List Fld := thermFlds ++ [I.THERM.DT, I.THERM.TMODEL, R.THERM.TDIE, R.THERM.HOT_DIE, R.THERM.TDIE_MAX]

theorem dieStep_within (t : Nat) (p : Nat → Nat) : Within dieStepFlds { d with nvm := (d.dieStep t p).nvm } (d.dieStep t p) := by
  have hstatus : Within dieStepFlds d (d.modelsStepped p).dieStatus :=
    ((modelsStepped_within p).mono (by decide)).trans (dieStatus_within.mono (by decide))
  have hjudged : Within dieStepFlds { d with nvm := ((d.modelsStepped p).thermJudged t).nvm } ((d.modelsStepped p).thermJudged t) :=
    hstatus.ofNvm.thenNvm ((thermJudged_within t).mono (by decide))
  exact hjudged.thenNvm ((dieStep_after t p).1.mono (by decide))

/-- A register that neither a threshold nor the release of the flash writes stands as the temperatures' status has left it. -/
theorem get_dieStep (t : Nat) (p : Nat → Nat) {f : Fld} (hf : f.id < 2048) (hL : hasFld thermFlds f = false) (hact : hasFld thermActFlds f = false)
    (i : Nat) : (d.dieStep t p).get f i = (d.modelsStepped p).dieStatus.get f i := by
  have hlast := (dieStep_after (d := d) t p).1.get hf hact i
  have hjudged := (thermJudged_within (d := d.modelsStepped p) t).getBesideNvm hf hL i
  rw [hlast, hjudged]

theorem dieStep_hottest (t : Nat) (p : Nat → Nat) :
    (d.dieStep t p).get R.THERM.TDIE_MAX = (d.dieStep t p).get R.THERM.TDIE ((d.dieStep t p).get R.THERM.HOT_DIE) ∧
    (d.dieStep t p).get R.THERM.HOT_DIE < 4 := by
  have hshown := dieStatus_hottest (d := d.modelsStepped p)
  have hmax := get_dieStep (d := d) t p (f := R.THERM.TDIE_MAX) (by decide) (by decide) (by decide)
  have hdie := get_dieStep (d := d) t p (f := R.THERM.TDIE) (by decide) (by decide) (by decide)
  have hhot := get_dieStep (d := d) t p (f := R.THERM.HOT_DIE) (by decide) (by decide) (by decide)
  rwa [hmax, hdie, hhot]

theorem dieStep_reached (t : Nat) (p : Nat → Nat) {k : Nat} (hk : k < 3) (hclear : bitOf (d.get R.THERM.THR_ACT) k = 0)
    (hreached : b32.le (b32.ofInt (threshold k)) ((d.dieStep t p).get R.THERM.TDIE_MAX) = true) : Reached k (d.dieStep t p) := by
  obtain ⟨hlast, hsticky⟩ := dieStep_after (d := d) t p
  rw [get_dieStep t p (by decide) (by decide) (by decide)] at hreached
  refine hlast.reached hsticky (thermJudged_reached t hk ?_ hreached)
  rw [(modelsStepped_within p).regsKept.get (by decide) (by decide), hclear]

/-- Settles O31: the records by the queue and the retention that they reach, the journal window by the entry found, a round by its readings and
the two limits of the safety clock, a step of the die models by the thresholds taken in their order. -/
theorem recordsAndHousekeeping : Obligations.RecordsAndHousekeeping :=
  ⟨fun s =>
    ⟨fun hidle hbackup hboot => ⟨_, exec_teaselHour hidle hbackup hboot, teaselRecord_asks _⟩,
      fun hlocked hboot hbackup => ⟨_, exec_freqOffsetWrite hlocked hboot hbackup, freqRecord_asks _⟩, retentionWrite_keeps, evjLoaded_shows⟩,
    fun s cycles p0 p1 p2 p3 hruns => by
      obtain ⟨d, hround, hrounds, hsensors, hdrift, hbad, hgood, hframe⟩ := hkRound_shows (cycles := cycles) hruns
      obtain ⟨hmax, hhot⟩ := dieStep_hottest (d := s.dev) s.clk.ns (diePowers p0 p1 p2 p3)
      exact ⟨⟨d, hround, hrounds, hsensors, hdrift, hbad, hgood, hframe.mono (by decide)⟩,
        ⟨_, exec_dieModelStep hruns, hmax, hhot, fun _ hk => dieStep_reached _ _ hk, (dieStep_within _ _).mono (by decide)⟩⟩⟩

end Sys2Proof.Machine
end

section
/-! PROOFS. A raising leaves every instance of another name held or released as it was (R353, R363, R369): what each part of a raising does to
the list of active instances. -/
namespace Sys2Proof.Machine
variable {d e : Dev} {c i : Nat}

/-- No active instance of this class and number is held. -/
def Released (c i : Nat) (d : Dev) : Prop := ∀ a ∈ d.active, a.cls = c → a.inst = i → a.held = false

theorem released_congr (h : e.active = d.active) : Released c i e ↔ Released c i d := by
  unfold Released
  rw [h]

/-! The parts that leave the list as it is. -/

@[simp] theorem released_put (f : Fld) (v k : Nat) : Released c i (d.put f v k) ↔ Released c i d := released_congr (by unfold Dev.put; rfl)
@[simp] theorem released_flag (f : Fld) (b : Bool) (k : Nat) : Released c i (d.flag f b k) ↔ Released c i d := released_put _ _ _
@[simp] theorem released_bump (f : Fld) (k n : Nat) : Released c i (d.bump f k n) ↔ Released c i d := released_put _ _ _
@[simp] theorem released_wrap (f : Fld) (k n : Nat) : Released c i (d.wrap f k n) ↔ Released c i d := released_put _ _ _
@[simp] theorem released_putInt (f : Fld) (v : Int) (k : Nat) : Released c i (d.putInt f v k) ↔ Released c i d := released_put _ _ _
@[simp] theorem released_instBit (f : Fld) (cls inst : Nat) (b : Bool) : Released c i (d.instBit f cls inst b) ↔ Released c i d := released_put _ _ _
@[simp] theorem released_setNvm (n : Nvm) : Released c i { d with nvm := n } ↔ Released c i d := Iff.rfl
@[simp] theorem released_send (o : Out) : Released c i (d.send o) ↔ Released c i d := Iff.rfl

@[simp] theorem released_sumAll (f : Fld) : Released c i (d.sumAll f) ↔ Released c i d := by
  unfold Dev.sumAll
  simp

@[simp] theorem released_ite (p : Prop) [Decidable p] (a b : Dev) :
    Released c i (if p then a else b) ↔ if p then Released c i a else Released c i b := by split <;> rfl

@[simp] theorem released_foldl {α : Type} (g : Dev → α → Dev) (h : ∀ e x, Released c i (g e x) ↔ Released c i e) (l : List α) :
    Released c i (l.foldl g d) ↔ Released c i d :=
  List.foldlRecOn (motive := fun e => Released c i e ↔ Released c i d) l g Iff.rfl (fun e he x _ => (h e x).trans he)

@[simp] theorem released_forN (n : Nat) (g : Dev → Nat → Dev) (h : ∀ e k, Released c i (g e k) ↔ Released c i e) :
    Released c i (d.forN n g) ↔ Released c i d := released_foldl g h _

@[simp] theorem released_onlyIf (b : Bool) (g : Dev → Dev) (h : ∀ e, Released c i (g e) ↔ Released c i e) :
    Released c i (d.onlyIf b g) ↔ Released c i d := by
  unfold Dev.onlyIf
  split
  · exact h d
  · rfl

@[simp] theorem released_perf (b ev inst n : Nat) : Released c i (d.perf b ev inst n) ↔ Released c i d := released_congr (perf_active _ _ _ _)

@[simp] theorem released_carryRing (p n : Nat) : Released c i (d.carryRing p n) ↔ Released c i d := by
  unfold Dev.carryRing Dev.carry
  simp

@[simp] theorem released_putEntry (f : Fld) (k : Nat) (x : Entry) : Released c i (d.putEntry f k x) ↔ Released c i d :=
  released_foldl _ (by intros; exact released_put _ _ _) _

theorem writeEntry_released (x : Entry) : Released c i (d.writeEntry x).1 ↔ Released c i d := by
  unfold Dev.writeEntry Dev.queueEvent
  simp

theorem sigStop_released : Released c i d.sigStop ↔ Released c i d := by
  unfold Dev.sigStop
  simp

theorem tripIssue_released (t src : Nat) : Released c i (d.tripIssue t src) ↔ Released c i d := by
  unfold Dev.tripIssue
  simp

theorem reactNow_released (t code : Nat) : Released c i (d.reactNow t code) ↔ Released c i d := by
  unfold Dev.reactNow
  simp [sigStop_released, tripIssue_released]

theorem firstFault_released (x : Entry) : Released c i (d.firstFault x) ↔ Released c i d := by
  unfold Dev.firstFault
  simp

theorem fltStatus_released : Released c i d.fltStatus ↔ Released c i d := by
  unfold Dev.fltStatus
  simp

/-! The parts that change it. -/

theorem released_setActive (l : List Active) : Released c i (d.setActive l) ↔ ∀ a ∈ l, a.cls = c → a.inst = i → a.held = false := Iff.rfl

/-- An instance that keeps its class and number is changed. -/
theorem mapActive_released {cls inst : Nat} {g : Active → Active} (hne : (cls, inst) ≠ (c, i)) (hg : ∀ a, (g a).cls = a.cls ∧ (g a).inst = a.inst) :
    Released c i (d.mapActive cls inst g) ↔ Released c i d := by
  rw [Dev.mapActive, released_setActive, List.forall_mem_map]
  refine forall₂_congr (fun a _ => ?_)
  split
  · next hmatch =>
    have hother : ¬ (a.cls = c ∧ a.inst = i) := fun h => hne (Prod.ext (hmatch.1.symm.trans h.1) (hmatch.2.symm.trans h.2))
    rw [(hg a).1, (hg a).2]
    exact ⟨fun _ hcls hinst => absurd ⟨hcls, hinst⟩ hother, fun _ hcls hinst => absurd ⟨hcls, hinst⟩ hother⟩
  · rfl

theorem append_released {x : Active} (hne : (x.cls, x.inst) ≠ (c, i)) : Released c i (d.setActive (d.active ++ [x])) ↔ Released c i d := by
  rw [released_setActive, List.forall_mem_append]
  refine and_iff_left (fun a ha hcls hinst => ?_)
  rw [List.mem_singleton.1 ha] at hcls hinst
  exact absurd (Prod.ext hcls hinst) hne

theorem reseq_released (g : Active → Nat) : Released c i (d.setActive (d.active.map (fun a => { a with seq := g a }))) ↔ Released c i d := by
  rw [released_setActive, List.forall_mem_map]
  rfl

theorem swapEntries_released (a b : Nat) : Released c i (d.swapEntries a b) ↔ Released c i d := by
  unfold Dev.swapEntries
  simp only [released_onlyIf, released_put, released_setNvm, reseq_released, released_foldl, released_forN, implies_true]

theorem orderEntry_released (n : Nat) : ∀ (d : Dev) (seq : Nat), Released c i (d.orderEntry seq n) ↔ Released c i d := by
  induction n with
  | zero => exact fun _ _ => Iff.rfl
  | succ n ih =>
    intro d seq
    unfold Dev.orderEntry
    simp [ih, swapEntries_released]

/-! A raising. -/

theorem raiseSilent_released (t : Nat) {cls inst : Nat} (det : Nat) (hne : (cls, inst) ≠ (c, i)) :
    Released c i (d.raiseSilent t cls inst det) ↔ Released c i d := by
  unfold Dev.raiseSilent
  dsimp only
  split
  · rw [released_perf, released_bump, mapActive_released hne (by simp), released_instBit]
  · split
    · rw [released_instBit]
    · rw [reactNow_released, released_instBit, append_released hne, released_instBit]

theorem logEntry_released (t : Nat) (x : Entry) (h15 : (15, 0) ≠ (c, i)) : Released c i (d.logEntry t x).1 ↔ Released c i d := by
  unfold Dev.logEntry
  dsimp only
  split
  · rw [raiseSilent_released _ _ h15, writeEntry_released]
  · rw [writeEntry_released]

theorem raiseNew_released (t : Nat) {cls inst : Nat} (det : Nat) (held : Bool) (hne : (cls, inst) ≠ (c, i)) (h15 : (15, 0) ≠ (c, i)) :
    Released c i (d.raiseNew t cls inst det held) ↔ Released c i d := by
  unfold Dev.raiseNew
  dsimp only
  rw [fltStatus_released, reactNow_released, orderEntry_released, firstFault_released, released_perf, released_bump, released_instBit,
    append_released hne, logEntry_released _ _ h15]

theorem raiseAgain_released (t : Nat) {cls inst : Nat} (det : Nat) (held : Bool) (react : Nat) (hne : (cls, inst) ≠ (c, i)) (h15 : (15, 0) ≠ (c, i)) :
    Released c i (d.raiseAgain t cls inst det held react) ↔ Released c i d := by
  unfold Dev.raiseAgain
  dsimp only
  split
  · rw [fltStatus_released, reactNow_released, orderEntry_released, firstFault_released, released_perf, released_bump,
      mapActive_released hne (by simp), logEntry_released _ _ h15, mapActive_released hne (by simp)]
  · rw [released_perf, released_bump, mapActive_released hne (by simp)]

theorem raiseBase_released (t : Nat) {cls inst : Nat} (det : Nat) (held : Bool) (hne : (cls, inst) ≠ (c, i)) (h15 : (15, 0) ≠ (c, i)) :
    Released c i (d.raiseBase t cls inst det held) ↔ Released c i d := by
  unfold Dev.raiseBase
  dsimp only
  split
  · rw [raiseAgain_released _ _ _ _ hne h15, released_instBit]
  · split
    · rw [released_instBit]
    · rw [raiseNew_released _ _ _ hne h15, released_instBit]

/-- A raising holds and releases no instance but its own, that of a lost entry and that of a dropped one. -/
theorem raise_released (t : Nat) {cls inst : Nat} (det : Nat) (held : Bool) (hne : (cls, inst) ≠ (c, i)) (h15 : (15, 0) ≠ (c, i))
    (h2 : (2, 21) ≠ (c, i)) : Released c i (d.raise t cls inst det held) ↔ Released c i d := by
  unfold Dev.raise Dev.dropCheck
  split
  · rw [released_put, raiseBase_released _ _ _ h2 h15, released_put, raiseBase_released _ _ _ hne h15]
  · rw [raiseBase_released _ _ _ hne h15]

/-- An instance of another name is lowered. -/
theorem lower_releasedOther {cls inst : Nat} (hne : (cls, inst) ≠ (c, i)) : Released c i (d.lower cls inst) ↔ Released c i d :=
  mapActive_released hne (by simp)

end Sys2Proof.Machine
end

section
/-! PROOFS. The other sources of time (R460 to R466, R472 to R477): what an offset, the servo's step and a change of the time's standing keep, and
the commands of IRIG-B, of PPS and of the check source. -/
namespace Sys2Proof.Machine
variable {L : List Fld} {d e : Dev} {s : State}

/-! What an operation of the time keeps. -/

/-- What the servo, the mapping and the sources write beside a raising. -/
def timePutFlds : List Fld :=
  [R.NET.TIME_SUSPECT, I.NET.PPS_OUT, R.TB.TB_RATE, R.TB.RATE_LIM, R.TB.ROOT_DEV, R.NET.SERVO_STATE, I.NET.OVER_RUN, I.NET.LOCK_RUN] ++
  [I.NET.SERVO_I, R.TB.TOD_SEC_LO, R.TB.TOD_SEC_HI, R.TB.TOD_REF_NS32, I.NET.REF_NS, R.NET.STEP_CNT, I.NET.STEP_RUN, R.NET.E] ++
  [I.NET.CHK_GOT, I.NET.CHK_OFS, I.NET.CHK_BAD, I.NET.CHK_OK, R.NET.XCHK_BAD, I.NET.OFS_NS, R.NET.LEAP61, R.NET.LEAP59, I.NET.SET_DUE] ++ netShownFlds

/-- All that they write. -/
def timeFlds : List Fld := raiseFlds ++ timePutFlds

/-- An operation of the time keeps the registers outside its own, the label of IRIG-B, what has been raised, and whether a missing edge of PPS_IN
is held present. -/
structure TimeKept (d e : Dev) : Prop where
  regs : RegsKept timeFlds d e
  irig : e.net.irig = d.net.irig
  sticky : StickyKept d e
  released : Released 13 13 e ↔ Released 13 13 d

theorem TimeKept.refl (d : Dev) : TimeKept d d := ⟨.refl d, rfl, .refl d, Iff.rfl⟩

theorem TimeKept.trans {a b c : Dev} (h : TimeKept a b) (k : TimeKept b c) : TimeKept a c :=
  ⟨h.regs.trans k.regs, k.irig.trans h.irig, h.sticky.trans k.sticky, k.released.trans h.released⟩

theorem TimeKept.of_within (h : Within timePutFlds d e) (hreleased : Released 13 13 e ↔ Released 13 13 d) : TimeKept d e :=
  ⟨h.regsKept.mono (by decide), by rw [h.rest], h.sticky (by decide), hreleased⟩

theorem TimeKept.of_put (f : Fld) (v k : Nat) (hf : f.id < 2048) (h : hasFld timePutFlds f = true) : TimeKept d (d.put f v k) :=
  .of_within (.of_put d f v k hf h) (released_put f v k)

theorem TimeKept.of_bump (f : Fld) (k n : Nat) (hf : f.id < 2048) (h : hasFld timePutFlds f = true) : TimeKept d (d.bump f k n) :=
  .of_put f _ k hf h

theorem TimeKept.of_raise (t : Nat) {cls inst : Nat} (det : Nat) (held : Bool) (hne : (cls, inst) ≠ (13, 13)) :
    TimeKept d (d.raise t cls inst det held) := by
  have hraise := raise_within (d := d) t cls inst det held
  exact ⟨hraise.regsKept.mono (by decide), by rw [hraise.rest], raise_sticky _ _ _ _ _, raise_released t det held hne (by decide) (by decide)⟩

theorem TimeKept.of_lower {cls inst : Nat} (hne : (cls, inst) ≠ (13, 13)) : TimeKept d (d.lower cls inst) :=
  ⟨fun _ _ _ _ => rfl, rfl, lower_sticky _ _, lower_releasedOther hne⟩

theorem TimeKept.of_setNet {n : Net} (h : n.irig = d.net.irig) : TimeKept d (d.setNet n) := ⟨setNet_regsKept _ n, h, fun _ _ _ h => h, Iff.rfl⟩

theorem TimeKept.ite {p : Prop} [Decidable p] {a b : Dev} (ha : TimeKept d a) (hb : TimeKept d b) : TimeKept d (if p then a else b) := by
  split <;> assumption

theorem TimeKept.onlyIf (b : Bool) {g : Dev → Dev} (h : TimeKept d (g d)) : TimeKept d (d.onlyIf b g) := .ite h (.refl d)

theorem netShown_kept (old : Dev) : TimeKept d (Dev.netShown old d) := by
  refine .of_within ((netShown_within old).mono (by decide)) ?_
  unfold Dev.netShown Dev.netStatus
  simp

/-! The mapping and the standing of the time (R82, R465). -/

theorem setTod_kept (sec ref : Int) : TimeKept d (d.setTod sec ref) := by
  refine .of_within ?_ ?_
  · unfold Dev.setTod
    simp (disch := decide)
  · unfold Dev.setTod
    simp

theorem todStep_kept (D : Int) : TimeKept d (d.todStep D) := setTod_kept _ _

theorem todRefresh_kept (t : Nat) : TimeKept d (d.todRefresh t) := .ite (.refl d) (setTod_kept _ _)

/-- What a change of the time's standing writes. -/
def suspectFlds : List Fld := raiseFlds ++ [R.NET.TIME_SUSPECT, I.NET.PPS_OUT]

theorem suspect_within (t : Nat) : Within suspectFlds d (d.suspect t) := by
  unfold Dev.suspect Dev.suspectSet
  simp (disch := first | decide | (intros; simp (disch := decide)))

theorem suspectSet_kept (t : Nat) : TimeKept d (d.suspectSet t) := by
  unfold Dev.suspectSet
  refine .ite (.refl d) ?_
  have hraised := (TimeKept.of_put (d := d) R.NET.TIME_SUSPECT 1 0 (by decide) (by decide)).trans (.of_raise t 0 true (cls := 13) (inst := 6) (by decide))
  exact hraised.trans (.onlyIf _ (.of_put I.NET.PPS_OUT 0 0 (by decide) (by decide)))

theorem suspect_kept (t : Nat) : TimeKept d (d.suspect t) := by
  unfold Dev.suspect
  exact .ite (suspectSet_kept t)
    (.ite ((TimeKept.of_put R.NET.TIME_SUSPECT 0 0 (by decide) (by decide)).trans (.of_lower (by decide))) (.refl d))

/-! The servo (R460 to R466). -/

theorem setRate_kept (t ppb : Nat) : TimeKept d (d.setRate t ppb) := by
  have hputs : ∀ (rate dev : Int) (lim : Bool), TimeKept d (((d.putInt R.TB.TB_RATE rate).flag R.TB.RATE_LIM lim).putInt R.TB.ROOT_DEV dev) := by
    intro rate dev lim
    refine .of_within ?_ ?_
    · simp (disch := decide)
    · simp
  unfold Dev.setRate
  exact .ite ((hputs _ _ _).trans (.of_raise t 0 true (by decide))) ((hputs _ _ _).trans (.of_lower (by decide)))

theorem servoState_kept (st : Nat) : TimeKept d (d.servoState st) := by
  unfold Dev.servoState
  exact ((TimeKept.of_put R.NET.SERVO_STATE st 0 (by decide) (by decide)).trans (.of_put I.NET.OVER_RUN 0 0 (by decide) (by decide))).trans
    (.onlyIf _ (.of_put I.NET.LOCK_RUN 0 0 (by decide) (by decide)))

theorem setEvals_kept (l : List Int) : TimeKept d (d.setEvals l) := .of_setNet rfl

theorem relock_kept : TimeKept d d.relock := by
  have hlow : TimeKept d (d.lower 13 8) := .of_lower (by decide)
  unfold Dev.relock
  exact .ite ((hlow.trans (.of_put I.NET.SERVO_I _ 0 (by decide) (by decide))).trans (servoState_kept 2)) (hlow.trans (servoState_kept 1))

theorem timeStep_kept (t : Nat) (x : Int) : TimeKept d (d.timeStep t x) := by
  have hstep := ((todStep_kept (d := d) x).trans (.of_bump R.NET.STEP_CNT 0 1 (by decide) (by decide))).trans
    (.of_raise t (min (x.natAbs / 1000) 65535) false (cls := 13) (inst := 7) (by decide))
  have hservo := (hstep.trans (.of_lower (cls := 13) (inst := 8) (by decide))).trans (servoState_kept 1)
  exact (hservo.trans (.of_put I.NET.STEP_RUN 0 0 (by decide) (by decide))).trans (setEvals_kept [])

theorem rateOnly_kept (t : Nat) : TimeKept d (d.rateOnly t) := .ite (.refl d) (setRate_kept _ _)

theorem servoPi_kept (t : Nat) (x : Int) : TimeKept d (d.servoPi t x) := by
  unfold Dev.servoPi
  exact ((TimeKept.of_put I.NET.SERVO_I _ 0 (by decide) (by decide)).trans (setRate_kept _ _)).trans (.of_setNet rfl)

/-- What a step of the servo notes of its input first, and what it counts of it. -/
def Dev.servoSeen (d : Dev) (x : Int) : Dev :=
  (d.putInt R.NET.E x).put I.NET.LOCK_RUN (if (x.natAbs : Nat) ≤ d.get R.NET.LOCK_THR then min 65535 (d.get I.NET.LOCK_RUN + 1) else 0)
def Dev.servoCounted (d : Dev) (x : Int) : Dev :=
  (d.setEvals ((x :: d.net.evals).take 256)).put I.NET.STEP_RUN (min 256 (d.get I.NET.STEP_RUN + 1))

theorem servoSeen_kept (x : Int) : TimeKept d (d.servoSeen x) :=
  (TimeKept.of_put R.NET.E _ 0 (by decide) (by decide)).trans (.of_put I.NET.LOCK_RUN _ 0 (by decide) (by decide))

theorem servoCounted_kept (x : Int) : TimeKept d (d.servoCounted x) :=
  (setEvals_kept _).trans (.of_put I.NET.STEP_RUN _ 0 (by decide) (by decide))

theorem servoStep_kept (t : Nat) (x : Int) : TimeKept d (d.servoStep t x) := by
  have hseen := servoSeen_kept (d := d) x
  have hcounted := hseen.trans (servoCounted_kept x)
  have hmoved := hseen.trans (timeStep_kept t x)
  unfold Dev.servoStep
  refine TimeKept.trans ?_ (suspect_kept t)
  split
  · exact (hcounted.trans (.onlyIf _ relock_kept)).trans (rateOnly_kept t)
  · split
    · exact hmoved
    · exact .ite hseen (.ite hmoved (hseen.trans relock_kept))
    · exact hcounted.trans relock_kept
    · exact .ite hmoved ((hcounted.trans (.of_put I.NET.OVER_RUN _ 0 (by decide) (by decide))).trans (servoPi_kept t x))
    · have hrate := (hcounted.trans (servoState_kept 1)).trans (rateOnly_kept t)
      exact .ite hmoved (.ite (hrate.trans relock_kept) hrate)

theorem sourceTake_kept (t k : Nat) (o : Int) : TimeKept d (d.sourceTake t k o) := by
  have hcheck : TimeKept d (if d.timeChk = k then (d.put I.NET.CHK_GOT 1).putInt I.NET.CHK_OFS o else d) :=
    .ite ((TimeKept.of_put I.NET.CHK_GOT 1 0 (by decide) (by decide)).trans (.of_put I.NET.CHK_OFS _ 0 (by decide) (by decide))) (.refl d)
  exact .ite ((hcheck.trans (.of_put I.NET.OFS_NS _ 0 (by decide) (by decide))).trans (servoStep_kept t o)) hcheck

theorem secondStart_kept (t : Nat) : TimeKept d (d.secondStart t) := by
  have hnow := todRefresh_kept (d := d) t
  unfold Dev.secondStart
  refine .ite hnow ?_
  refine TimeKept.trans ?_ (setEvals_kept [])
  refine TimeKept.trans ?_ (.of_put I.NET.STEP_RUN 0 0 (by decide) (by decide))
  refine TimeKept.trans ?_ (.of_raise t _ false (by decide))
  refine TimeKept.trans ?_ (.of_bump R.NET.STEP_CNT 0 1 (by decide) (by decide))
  exact (hnow.trans (todStep_kept _)).trans (.of_put I.NET.SET_DUE 0 0 (by decide) (by decide))

end Sys2Proof.Machine
end

section
/-! PROOFS. The commands of IRIG-B, of PPS and of the check source (R473 to R476). -/
namespace Sys2Proof.Machine
variable {d e : Dev} {s : State}

/-- The windows apart from the network hold none of the fields of the time. -/
theorem netApart_time : apart Claim.netApart timeFlds = true := by decide

theorem TimeKept.untouched (h : TimeKept d e) : Claim.Untouched Claim.netApart d e := h.regs.untouched netApart_time

/-! A raising alone, and what it shows. -/

/-- An instance of the network raised, with what that shows. -/
def Dev.netRaised (d : Dev) (t inst : Nat) (held : Bool) : Dev := Dev.netShown d (d.raise t 13 inst 0 held)

theorem netRaised_raised (t : Nat) {inst : Nat} (held : Bool) (h : inst < 256) : Raised (d.netRaised t inst held) 13 inst :=
  ((netShown_within d).sticky (by decide)).raised (raise_raised _ _ _ _ _ h)

theorem netRaised_within (t inst : Nat) (held : Bool) : Within Claim.netFlds d (d.netRaised t inst held) :=
  ((raise_within _ _ _ _ _).mono (by decide)).trans ((netShown_within d).mono (by decide))

theorem irigFrameRx_bad {m : IrigFrame} (hsheet : s.dev.netSheet.isSome = true) (hbad : m.bad = true) :
    Does (.irigFrameRx m) s fun d => Raised d 13 12 ∧ Within Claim.netFlds s.dev d := by
  have hexec : exec (.irigFrameRx m) s = .next { s with dev := (s.dev.netRaised s.clk.ns 12 false).settle s.clk.ns } := by
    show execIrigFrameRx m s = _
    simp only [execIrigFrameRx, State.onDev_next, Option.isNone_eq_false_iff.2 hsheet, Bool.false_eq_true, if_false, hbad, if_true, netDo_eq, Dev.netRaised]
  exact ⟨_, hexec, netRaised_raised _ _ (by decide), netRaised_within _ _ _⟩

theorem ppsInMissing_raises (hsheet : s.dev.netSheet.isSome = true) :
    Does .ppsInMissing s fun d => Raised d 13 13 ∧ Within Claim.netFlds s.dev d := by
  have hexec : exec .ppsInMissing s = .next { s with dev := (s.dev.netRaised s.clk.ns 13 true).settle s.clk.ns } := by
    show execPpsInMissing s = _
    simp only [execPpsInMissing, State.onDev_next, Option.isNone_eq_false_iff.2 hsheet, Bool.false_eq_true, if_false, netDo_eq, Dev.netRaised]
  exact ⟨_, hexec, netRaised_raised _ _ (by decide), netRaised_within _ _ _⟩

/-! A good frame of IRIG-B (R473). -/

/-- The label of a frame kept. -/
def Dev.irigLabelled (d : Dev) (m : IrigFrame) : Dev := d.setNet { d.net with irig := some (d.irigTai m, m.edgeQ.toNat) }

/-- The leap second announced under IEEE 1344, and the frame's offset where its quality allows it. -/
def Dev.irigUsed (d : Dev) (t : Nat) (m : IrigFrame) : Dev :=
  let ieee : Bool := bitOf (d.netS 1 1) 5 = 1
  let d2 := (d.irigLabelled m).onlyIf (ieee && d.timePri = 1) (fun d => (d.flag R.NET.LEAP61 (m.leap && !m.leapNeg)).flag R.NET.LEAP59 (m.leap && m.leapNeg))
  if ieee && m.quality != 0 && !Config.irigUse m.quality.toNat then d2 else d2.sourceTake t 1 (d2.sourceOffset (d.irigTai m) m.edgeQ.toNat)

theorem irigUsed_kept (t : Nat) (m : IrigFrame) : TimeKept (d.irigLabelled m) (d.irigUsed t m) := by
  have hleap : ∀ (e : Dev) (a b c : Bool), TimeKept e (e.onlyIf c (fun d => (d.flag R.NET.LEAP61 a).flag R.NET.LEAP59 b)) := fun e a b c =>
    .onlyIf c ((TimeKept.of_put R.NET.LEAP61 _ 0 (by decide) (by decide)).trans (.of_put R.NET.LEAP59 _ 0 (by decide) (by decide)))
  unfold Dev.irigUsed
  exact .ite (hleap _ _ _ _) ((hleap _ _ _ _).trans (sourceTake_kept _ _ _))

theorem irigFrameRx_labels {m : IrigFrame} (hsheet : s.dev.netSheet.isSome = true) (hgood : m.bad = false) :
    Does (.irigFrameRx m) s fun d =>
      d.net.irig = some (s.dev.irigTai m, (m.edgeQ.toNat : Int)) ∧ Claim.Untouched Claim.netApart s.dev d := by
  have hexec : exec (.irigFrameRx m) s =
      .next { s with dev := (Dev.netShown s.dev (s.dev.irigUsed s.clk.ns m)).settle s.clk.ns } := by
    show execIrigFrameRx m s = _
    simp only [execIrigFrameRx, State.onDev_next, Option.isNone_eq_false_iff.2 hsheet, Bool.false_eq_true, if_false, hgood, netDo_eq, Dev.irigUsed, Dev.irigLabelled]
  have hkept : TimeKept (s.dev.irigLabelled m) (Dev.netShown s.dev (s.dev.irigUsed s.clk.ns m)) := (irigUsed_kept _ m).trans (netShown_kept _)
  exact ⟨_, hexec, hkept.irig, ((setNet_regsKept timeFlds _).trans hkept.regs).untouched netApart_time⟩

/-! An edge of PPS_IN (R474). -/

/-- The second that labels an edge: that of the frame of IRIG-B beside it, or the nearest of the mapping. -/
def Dev.ppsSecond (d : Dev) (edge : Nat) : Nat :=
  match d.net.irig with
  | some (sec, x) => if ((edge : Int) - x).natAbs < 2000000000 then sec else (nearestUp (d.todQ edge) 4000000000).toNat
  | none => (nearestUp (d.todQ edge) 4000000000).toNat

/-- The edge taken as an offset, with instance 13 ended. -/
def Dev.ppsTaken (d : Dev) (t edge : Nat) : Dev := (d.lower 13 13).sourceTake t 2 (d.sourceOffset (d.ppsSecond edge) edge)

theorem exec_ppsInEdge {edgeQ : BitVec 66} (hsheet : s.dev.netSheet.isSome = true) : exec (.ppsInEdge edgeQ) s =
    .next { s with dev := (Dev.netShown s.dev (s.dev.ppsTaken s.clk.ns edgeQ.toNat)).settle s.clk.ns } := by
  have hexec : exec (.ppsInEdge edgeQ) s = .next { s with dev :=
      if s.dev.netSheet.isNone = true then s.dev else s.dev.netDo s.clk.ns (fun d => d.ppsTaken s.clk.ns edgeQ.toNat) } := rfl
  rw [hexec, if_neg (by simp [Option.isNone_eq_false_iff.2 hsheet]), netDo_eq]

theorem ppsInEdge_ends {edgeQ : BitVec 66} (hsheet : s.dev.netSheet.isSome = true) : Does (.ppsInEdge edgeQ) s fun d =>
    (∀ a ∈ d.active, a.cls = 13 → a.inst = 13 → a.held = false) ∧ Claim.Untouched Claim.netApart s.dev d := by
  have hkept : TimeKept (s.dev.lower 13 13) (Dev.netShown s.dev (s.dev.ppsTaken s.clk.ns edgeQ.toNat)) :=
    (sourceTake_kept _ _ _).trans (netShown_kept _)
  have hlowered : RegsKept timeFlds s.dev (s.dev.lower 13 13) := fun _ _ _ _ => get_lower _ _ _ _
  exact ⟨_, exec_ppsInEdge hsheet, hkept.released.2 (fun _ => lower_released), (hlowered.trans hkept.regs).untouched netApart_time⟩

/-! The check source (R475). -/

/-- The check marked bad, with instance 11. -/
def Dev.checkBad (d : Dev) (t : Nat) : Dev :=
  ((((d.put I.NET.CHK_BAD 3).put I.NET.CHK_OK 0).put I.NET.CHK_GOT 0).put R.NET.XCHK_BAD 1).raise t 13 11 0 true

theorem checkBad_get (t : Nat) : (d.checkBad t).get R.NET.XCHK_BAD = 1 ∧ (d.checkBad t).get I.NET.CHK_GOT = 0 := by
  unfold Dev.checkBad
  constructor
  · simp (disch := decide)
  · simp (disch := decide)

theorem checkBad_kept (t : Nat) : TimeKept d (d.checkBad t) := by
  have hputs : TimeKept d ((((d.put I.NET.CHK_BAD 3).put I.NET.CHK_OK 0).put I.NET.CHK_GOT 0).put R.NET.XCHK_BAD 1) := by
    refine .of_within ?_ ?_
    · simp (disch := decide)
    · simp
  exact hputs.trans (.of_raise t 0 true (by decide))

theorem exec_xchkSecond_third (hsheet : s.dev.netSheet.isSome = true) (hchk : s.dev.timeChk ≠ 3) (hgot : s.dev.is I.NET.CHK_GOT = true)
    (hfar : s.dev.get R.NET.XCHK_THR < (s.dev.getInt I.NET.CHK_OFS).natAbs) (htwo : s.dev.get I.NET.CHK_BAD = 2)
    (hgood : s.dev.is R.NET.XCHK_BAD = false) : exec .xchkSecond s =
      .next { s with dev := (Dev.netShown s.dev ((s.dev.checkBad s.clk.ns).suspect s.clk.ns)).settle s.clk.ns } := by
  show execXchkSecond s = _
  simp [execXchkSecond, Option.ne_none_iff_isSome.2 hsheet, hchk, hgot, hfar, Nat.not_le.2 hfar, htwo, hgood, netDo_eq, Dev.checkBad]

theorem xchkSecond_marks (hsheet : s.dev.netSheet.isSome = true) (hchk : s.dev.timeChk ≠ 3) (hgot : s.dev.is I.NET.CHK_GOT = true)
    (hfar : s.dev.get R.NET.XCHK_THR < (s.dev.getInt I.NET.CHK_OFS).natAbs) (htwo : s.dev.get I.NET.CHK_BAD = 2)
    (hgood : s.dev.is R.NET.XCHK_BAD = false) : Does .xchkSecond s fun d =>
      d.get R.NET.XCHK_BAD = 1 ∧ d.get I.NET.CHK_GOT = 0 ∧ Raised d 13 11 ∧ Claim.Untouched Claim.netApart s.dev d := by
  have hsuspect := suspect_within (d := s.dev.checkBad s.clk.ns) s.clk.ns
  have hshown := netShown_within (d := (s.dev.checkBad s.clk.ns).suspect s.clk.ns) s.dev
  have hafter : TimeKept (s.dev.checkBad s.clk.ns) (Dev.netShown s.dev ((s.dev.checkBad s.clk.ns).suspect s.clk.ns)) :=
    (suspect_kept _).trans (netShown_kept _)
  obtain ⟨hbad, hreset⟩ := checkBad_get (d := s.dev) s.clk.ns
  refine ⟨_, exec_xchkSecond_third hsheet hchk hgot hfar htwo hgood, ?_, ?_, hafter.sticky.raised (raise_raised _ _ _ _ _ (by decide)),
    ((checkBad_kept _).trans hafter).untouched⟩
  · rw [hshown.regsKept.get (by decide) (by decide), hsuspect.regsKept.get (by decide) (by decide), hbad]
  · rw [hshown.regsKept.get (by decide) (by decide), hsuspect.regsKept.get (by decide) (by decide), hreset]

/-! PPS_OUT (R476). -/

/-- PPS_OUT stays low: its control stops it while the time is suspect. -/
def Dev.ppsSquelched (d : Dev) : Bool := bitOf (d.get R.NET.PPS_OUT_CTL) 0 = 1 && d.is R.NET.TIME_SUSPECT

/-- The start of a second with its pulse. -/
def Dev.pulsed (d : Dev) (t : Nat) : Dev := (d.secondStart t).flag I.NET.PPS_OUT (!d.ppsSquelched)

theorem pulsed_kept (t : Nat) : TimeKept d (d.pulsed t) := (secondStart_kept t).trans (.of_put I.NET.PPS_OUT _ 0 (by decide) (by decide))

theorem exec_ppsOutPulse (hsheet : s.dev.netSheet.isSome = true) (hbackup : s.dev.mode ≠ .backup) :
    exec .ppsOutPulse s = .next { s with dev := (Dev.netShown s.dev (s.dev.pulsed s.clk.ns)).settle s.clk.ns } := by
  show execPpsOutPulse s = _
  simp [execPpsOutPulse, hbackup, hsheet, netDo_eq, Dev.pulsed, Dev.ppsSquelched]

theorem ppsOutPulse_rises (hsheet : s.dev.netSheet.isSome = true) (hbackup : s.dev.mode ≠ .backup) : Does .ppsOutPulse s fun d =>
    d.get I.NET.PPS_OUT = (!s.dev.ppsSquelched).toNat ∧ Claim.Untouched Claim.netApart s.dev d := by
  have hshown := netShown_within (d := s.dev.pulsed s.clk.ns) s.dev
  refine ⟨_, exec_ppsOutPulse hsheet hbackup, ?_, ((pulsed_kept _).trans (netShown_kept _)).untouched⟩
  rw [hshown.regsKept.get (by decide) (by decide), Dev.pulsed, get_flag_same _ (by decide)]

theorem ppsOutWidthEnd_falls : Gives .ppsOutWidthEnd s fun t => t.dev.get I.NET.PPS_OUT = 0 ∧ Frame [I.NET.PPS_OUT] s t :=
  ⟨{ s with dev := s.dev.put I.NET.PPS_OUT 0 }, rfl, Dev.get_put_same _ _ 0 0, .of_put _ _ _ _ (by decide) (by decide), rfl, rfl, rfl⟩

/-- Settles O52: each source by the step of the servo that it feeds, which keeps the other windows, the label of IRIG-B and the end of
the missing edge; the check by its third bad second; PPS_OUT by its last write. -/
theorem timeSources : Obligations.TimeSources := fun _ _ _ hsheet =>
  ⟨irigFrameRx_bad hsheet, irigFrameRx_labels hsheet, ppsInEdge_ends hsheet, ppsInMissing_raises hsheet, xchkSecond_marks hsheet,
    ppsOutPulse_rises hsheet, ppsOutWidthEnd_falls⟩

end Sys2Proof.Machine
end

section
/-! PROOFS. What every command keeps of the clock and of the queue (R70, R77, R78): it completes, it leaves the waiting commands alone, and
only VIN_ON, a boundary and the idle step touch TB. -/
namespace Sys2Proof.Machine
variable {s t : State}

/-- An outcome is a state with the queue of s. -/
def Completes (s : State) (o : Host.Outcome State Fault Refusal) : Prop := ∃ t, o = .next t ∧ t.pending = s.pending

/-- Two states stand at the same instant of TB. -/
def SameTb (s t : State) : Prop := t.clk.ns = s.clk.ns ∧ t.clk.frac = s.clk.frac

/-- A command completes, with the queue and TB as they were. -/
def Stands (s : State) (o : Host.Outcome State Fault Refusal) : Prop := ∃ t, o = .next t ∧ t.pending = s.pending ∧ SameTb s t

theorem Stands.completes {o : Host.Outcome State Fault Refusal} (h : Stands s o) : Completes s o := by
  obtain ⟨t, ho, hp, -⟩ := h
  exact ⟨t, ho, hp⟩

/-- Whatever acts on the module alone completes, with the queue and TB as they were. -/
theorem stands_dev (s : State) (d : Dev) : Stands s (.next { s with dev := d }) := ⟨_, rfl, rfl, rfl, rfl⟩

theorem stands_startDeckle (s : State) (d : Dev) : Stands s (.next (State.startDeckle { s with dev := d })) := by
  unfold State.startDeckle
  split
  · exact ⟨_, rfl, rfl, rfl, rfl⟩
  · exact stands_dev s d

/-- A reset keeps TB (R146). -/
theorem stands_afterReset (s : State) (d : Dev) : Stands s (.next { s with clk := s.clk.afterReset, dev := d }) := ⟨_, rfl, rfl, rfl, rfl⟩

/-- A guarded command stands when it stands under its guard. -/
theorem stands_ite {c : Prop} [Decidable c] {a : State} (ha : Stands s (.next a)) : Stands s (.next (if c then a else s)) := by
  split
  · exact ha
  · exact stands_dev s s.dev

theorem stands_ite_not {c : Prop} [Decidable c] {a : State} (ha : Stands s (.next a)) : Stands s (.next (if c then s else a)) := by
  split
  · exact stands_dev s s.dev
  · exact ha

/-- A CSPI write of words that a transaction carries completes. -/
theorem stands_cspiWriteOp (s : State) (addr : BitVec 16) {ws : List Word} (h : ws.length ≤ 256) : Stands s (s.cspiWriteOp addr ws) := by
  unfold State.cspiWriteOp
  rw [if_neg (Nat.not_lt.mpr h)]
  exact stands_dev s _

theorem cspiWriteOp_faults (s : State) (addr : BitVec 16) {ws : List Word} (h : 256 < ws.length) : s.cspiWriteOp addr ws = .fault .illFormed :=
  if_pos h

/-- A CSPI write of more words than a transaction carries. -/
def overlong : Instr → Prop
  | .cspiWrite4wire _ ws => 256 < ws.length
  | .cspiWriteQuad _ ws => 256 < ws.length
  | _ => False

theorem overlong_faults (s : State) {c : Instr} (h : overlong c) : exec c s = .fault .illFormed := by
  cases c with
  | cspiWrite4wire addr ws => exact cspiWriteOp_faults s addr h
  | cspiWriteQuad addr ws => exact cspiWriteOp_faults s addr h
  | _ => exact absurd h id

/-- Every command completes, with the queue and TB as they were, but an overlong write, VIN_ON and a boundary. -/
theorem exec_stands (s : State) {c : Instr} (hlong : ¬ overlong c) (hbnd : c ≠ .frameBoundary) (hvin : ∀ v k, c ≠ .vinOn v k) :
    Stands s (exec c s) := by
  cases c with
  | frameBoundary => exact absurd rfl hbnd
  | vinOn v k => exact absurd rfl (hvin v k)
  | cspiWrite4wire addr ws => exact stands_cspiWriteOp s addr (Nat.not_lt.mp hlong)
  | cspiWriteQuad addr ws => exact stands_cspiWriteOp s addr (Nat.not_lt.mp hlong)
  | deckleStart => exact stands_startDeckle s s.dev
  | bootPllLock => exact stands_ite (stands_startDeckle s _)
  | pllTRelock => exact stands_ite (stands_startDeckle s _)
  | nresetAssert => exact stands_ite_not (stands_afterReset s _)
  | watchdogReset => exact stands_ite (stands_afterReset s _)
  | _ => exact stands_dev s _

/-! The clock of a boundary and of the idle step (R77, R78, R84). -/

theorem frameBoundary_stopped (h : s.dev.is R.TB.DECKLE_RUN = false) : exec .frameBoundary s = .next s := by
  show execFrameBoundary s = .next s
  unfold execFrameBoundary
  simp only [h, Bool.not_false, if_true]

theorem frameBoundary_runs (h : s.dev.is R.TB.DECKLE_RUN = true) :
    ∃ d o, exec .frameBoundary s = .next { s with clk := s.boundaryClock, otp := o, dev := d } := by
  show ∃ d o, execFrameBoundary s = _
  unfold execFrameBoundary
  simp only [h, Bool.not_true, Bool.false_eq_true, if_false]
  exact ⟨_, _, rfl⟩

/-- A boundary completes; it leaves TB, or runs it for some cycles. -/
theorem frameBoundary_next (s : State) : ∃ t, exec .frameBoundary s = .next t ∧ t.pending = s.pending ∧
    (t.clk = s.clk ∨ ∃ n, t.clk = { s.clk.run n s.dev.tbIncNow with sub := 0 }) := by
  cases hrun : s.dev.is R.TB.DECKLE_RUN with
  | false => exact ⟨s, frameBoundary_stopped hrun, rfl, .inl rfl⟩
  | true =>
    obtain ⟨d, o, h⟩ := frameBoundary_runs hrun
    exact ⟨_, h, rfl, .inr ⟨s.cyclesLeft, rfl⟩⟩

/-- Power-up sets TB to 0, where it does anything (R140). -/
theorem vinOn_next (s : State) (v : Bool) (k : Nat) : ∃ t, exec (.vinOn v k) s = .next t ∧ t.pending = s.pending ∧
    (t.clk = s.clk ∨ t.clk = ⟨0, 0, 0, 0⟩) := by
  refine ⟨_, rfl, ?_⟩
  split
  · exact ⟨rfl, .inl rfl⟩
  · exact ⟨rfl, .inr rfl⟩

/-- n cycles add n increments to TB, whose fraction stays a fraction. -/
theorem run_acc (c : Clock) (n : Nat) (inc : Int) : (c.run n inc).acc = c.acc + n * inc.toNat ∧ (c.run n inc).frac < 2 ^ 32 := by
  constructor
  · exact Nat.div_add_mod' _ _
  · exact Nat.mod_lt _ (Nat.two_pow_pos 32)

theorem acc_sub (c : Clock) (k : Nat) : ({ c with sub := k } : Clock).acc = c.acc := rfl

theorem SameTb.acc_eq (h : SameTb s t) : t.clk.acc = s.clk.acc := by
  obtain ⟨hns, hfrac⟩ := h
  rw [Clock.acc, Clock.acc, hns, hfrac]

/-- The idle step, with PLL_T locked. -/
theorem tick_locked (h : s.dev.is R.TB.PLL_T_LOCK = true) : s.tick =
    { s with clk := { s.clk.run 1 s.dev.tbIncNow with sub := if s.dev.is R.TB.DECKLE_RUN then s.clk.sub + 1 else s.clk.sub } } := by
  simp [State.tick, h, Clock.run]

theorem tick_unlocked (h : s.dev.is R.TB.PLL_T_LOCK = false) : s.tick = s := by
  simp [State.tick, h]

/-- What a step from s to t does to TB: it adds a whole number of increments, at power-up alone sets it to 0, and adds more than none only
when idle or at a boundary. -/
structure TbStep (s t : State) : Prop where
  frac : s.clk.frac < 2 ^ 32 → t.clk.frac < 2 ^ 32
  runs : (∃ n, t.clk.acc = s.clk.acc + n * s.dev.tbIncNow.toNat) ∨ ((∃ v k r, s.pending = .vinOn v k :: r) ∧ t.clk.acc = 0)
  when : s.clk.acc < t.clk.acc → s.pending = [] ∨ ∃ r, s.pending = .frameBoundary :: r

theorem TbStep.of_same (h : SameTb s t) : TbStep s t where
  frac hs := by rw [h.2]; exact hs
  runs := .inl ⟨0, by rw [h.acc_eq]; omega⟩
  when hlt := absurd hlt (by rw [h.acc_eq]; omega)

theorem TbStep.of_run {n k : Nat} (hclk : t.clk = { s.clk.run n s.dev.tbIncNow with sub := k })
    (hwhen : s.pending = [] ∨ ∃ r, s.pending = .frameBoundary :: r) : TbStep s t where
  frac _ := by rw [hclk]; exact (run_acc s.clk n s.dev.tbIncNow).2
  runs := .inl ⟨n, by rw [hclk, acc_sub]; exact (run_acc s.clk n s.dev.tbIncNow).1⟩
  when _ := hwhen

theorem TbStep.of_zero (hclk : t.clk = ⟨0, 0, 0, 0⟩) (hvin : ∃ v k r, s.pending = .vinOn v k :: r) : TbStep s t where
  frac _ := by rw [hclk]; exact Nat.two_pow_pos 32
  runs := .inr ⟨hvin, by rw [hclk]; rfl⟩
  when hlt := absurd hlt (by rw [hclk]; exact Nat.not_lt_zero _)

theorem tick_tbStep (hp : s.pending = []) : TbStep s s.tick := by
  cases hlock : s.dev.is R.TB.PLL_T_LOCK with
  | false => exact .of_same (by rw [tick_unlocked hlock]; exact ⟨rfl, rfl⟩)
  | true => exact .of_run (n := 1) (by rw [tick_locked hlock]) (.inl hp)

theorem step_tbStep (h : step s = .next t) : TbStep s t := by
  unfold step at h
  split at h
  · next hp =>
    injection h with h
    exact h ▸ tick_tbStep hp
  · next c r hp =>
    by_cases hlong : overlong c
    · rw [overlong_faults _ hlong] at h
      cases h
    by_cases hbnd : c = .frameBoundary
    · subst hbnd
      obtain ⟨u, hu, -, hclk⟩ := frameBoundary_next { s with pending := r }
      obtain rfl : u = t := by rw [hu] at h; injection h
      rcases hclk with hclk | ⟨n, hclk⟩
      · exact .of_same ⟨by rw [hclk], by rw [hclk]⟩
      · exact .of_run hclk (.inr ⟨r, hp⟩)
    by_cases hvin : ∃ v k, c = .vinOn v k
    · obtain ⟨v, k, rfl⟩ := hvin
      obtain ⟨u, hu, -, hclk⟩ := vinOn_next { s with pending := r } v k
      obtain rfl : u = t := by rw [hu] at h; injection h
      rcases hclk with hclk | hclk
      · exact .of_same ⟨by rw [hclk], by rw [hclk]⟩
      · exact .of_zero hclk ⟨v, k, r, hp⟩
    · obtain ⟨u, hu, -, htb⟩ := exec_stands { s with pending := r } hlong hbnd fun v k hc => hvin ⟨v, k, hc⟩
      obtain rfl : u = t := by rw [hu] at h; injection h
      exact .of_same htb

/-- Settles O58: a step adds whole increments to TB, or is the power-up. -/
theorem timebaseMonotonic : Obligations.TimebaseMonotonic := by
  intro s t hfrac h
  obtain ⟨hkeep, hruns, -⟩ := step_tbStep h
  refine ⟨hkeep hfrac, fun hvin => hruns.resolve_right ?_⟩
  rintro ⟨⟨v, k, r, hp⟩, -⟩
  exact hvin v k r hp

/-- Settles O56: an overlong CSPI write stops, and every other command completes. -/
theorem commandsComplete : Obligations.CommandsComplete := by
  intro c s
  by_cases hlong : overlong c
  · refine .inr ?_
    cases c with
    | cspiWrite4wire a ws => exact ⟨a, ws, .inl rfl, hlong, _, overlong_faults s hlong⟩
    | cspiWriteQuad a ws => exact ⟨a, ws, .inr rfl, hlong, _, overlong_faults s hlong⟩
    | _ => exact absurd hlong id
  refine .inl ?_
  by_cases hbnd : c = .frameBoundary
  · subst hbnd
    obtain ⟨t, ht, hp, -⟩ := frameBoundary_next s
    exact ⟨t, ht, hp⟩
  by_cases hvin : ∃ v k, c = .vinOn v k
  · obtain ⟨v, k, rfl⟩ := hvin
    obtain ⟨t, ht, hp, -⟩ := vinOn_next s v k
    exact ⟨t, ht, hp⟩
  · exact (exec_stands s hlong hbnd fun v k hc => hvin ⟨v, k, hc⟩).completes

/-- The idle step (R77). -/
theorem idle_step (hp : s.pending = []) : step s = .next s.tick := by
  unfold step
  rw [hp]

/-- Settles O55: the idle step by whether PLL_T is locked, the other steps by what each does to TB, the reset by its values. -/
theorem resetAndIdle : Obligations.ResetAndIdle := by
  refine ⟨fun s hp => ⟨s.tick, idle_step hp, ?_⟩, fun s t _ h => (step_tbStep h).when, ?_⟩
  · cases hlock : s.dev.is R.TB.PLL_T_LOCK with
    | false =>
      rw [tick_unlocked hlock]
      exact ⟨rfl, rfl, hp, fun _ => rfl, fun h => absurd h (by decide)⟩
    | true =>
      rw [tick_locked hlock]
      refine ⟨rfl, rfl, hp, fun h => absurd h (by decide), fun _ => ⟨?_, rfl, ?_⟩⟩
      · rw [acc_sub, (run_acc _ _ _).1, Nat.one_mul]
      · dsimp only
        split <;> rfl
  · decide +kernel

end Sys2Proof.Machine
end

section
/-! PROOFS. Accesses of PF0 and PF1 over PCI Express: a rejected write and a rejected read leave their record alone (R6, R39, R46, R47), and a
read clears the RC fields of its word (R9, R48). -/
namespace Sys2Proof.Machine
variable {L : List Fld} {E : List (Fld × Nat)} {d e : Dev} {s : State} {src : Source}

/-! Writes and reads that arrive (R497, R501). -/

theorem hostWrite_pcie (hsrc : src ≠ .cspi) (hup : s.dev.hostUp src = true) (a be val : Nat) :
    s.hostWrite src a be val = .next { s with dev := (((s.dev.counted src).wordWrite s.clk.ns src a be val).1).settle s.clk.ns } := by
  simp [State.hostWrite, Dev.hostWrite, Dev.counted, hup, hsrc]

theorem hostRead_pcie (hsrc : src ≠ .cspi) (hup : s.dev.hostUp src = true) (a be : Nat) :
    s.hostRead src a be = .next { s with dev := (s.dev.readCounted src).wordRead s.otp s.clk src a be } := by
  simp [State.hostRead, Dev.hostRead, Dev.readCounted, hup, hsrc]

/-- A read is counted by PERF alone. -/
theorem readCounted_within (src : Source) : Within countFlds d (d.readCounted src) := perf_carryPcie_within 9 1 _ 1 src 28 4

theorem get_readCounted (src : Source) (f : Fld) (i : Nat) (hf : f.id < 2048) (h : hasFld countFlds f = false) :
    (d.readCounted src).get f i = d.get f i := (readCounted_within src).regs f hf h i rfl

/-- The rights of a read hang on PERF_USER_EN alone, which counting leaves. -/
theorem readPriv_readCounted (src r : Source) (a : Nat) : (d.readCounted src).readPriv r a = d.readPriv r a := by
  cases r with
  | pf1 => simp only [Dev.readPriv, Dev.is, get_readCounted src R.PERF.PERF_USER_EN 0 (by decide) (by decide)]
  | _ => rfl

/-! Rejections. -/

/-- The record of a rejection, after an access has been counted. -/
theorem reject_recorded_counted (h : Within countFlds s.dev d) (src : Source) (x : Err) (off : Nat) :
    Claim.Recorded s src x off (d.reject src x off) := by
  obtain ⟨hvalid, hcode, hdetail, hoff, hcount, hsum, hframe⟩ := reject_recorded { s with dev := d } src x off
  refine ⟨hvalid, hcode, hdetail, hoff, ?_, hsum, h.addEls.trans hframe⟩
  rw [hcount, h.regs _ (by decide) (by decide) _ rfl]

/-- An answer given beside it leaves the record. -/
theorem Claim.Recorded.respond {x : Err} {off : Nat} (h : Claim.Recorded s src x off d) (r : Source) (data : List Nat) (abort : Bool) :
    Claim.Recorded { s with dev := { s.dev with answer := ⟨r, abort, data⟩ } } src x off (d.respond r data abort) := by
  obtain ⟨hvalid, hcode, hdetail, hoff, hcount, hsum, hframe⟩ := h
  exact ⟨hvalid, hcode, hdetail, hoff, hcount, hsum, hframe.setAnswer _⟩

/-- A write that breaks rules is no more than its record, but at REAM_SWAP_CTL. -/
theorem wordWrite_rejected {t a be val : Nat} {x : Err} (ha : a ≠ winAddr wReam 0x50) (h : firstErr (d.writeErrs t src a be val) = some x) :
    (d.wordWrite t src a be val).1 = d.reject src x a := by
  simp [Dev.wordWrite, h, Dev.goUnchecked, ha]

/-- Settles O10: the record is all that a rejected write of a counted module writes. -/
theorem rejectedWrite : Obligations.RejectedWrite := by
  intro s src off be val x hsrc hup ha herr
  refine ⟨_, hostWrite_pcie hsrc hup _ _ _, ?_⟩
  rw [wordWrite_rejected ha herr]
  exact reject_recorded_counted (counted_within src) src x off.toNat

theorem wordRead_rejected {otp : Otp} {c : Clock} {a be : Nat} {x : Err} (h : firstErr (d.readPriv src a ++ alignErrs a be) = some x) :
    d.wordRead otp c src a be = (d.reject src x a).respond src [0] := by
  simp [Dev.wordRead, h]

/-- A BAR0 read that breaks rules (R6, R39). -/
theorem hostRead_rejected {a be : Nat} {x : Err} {c : Instr} (hc : exec c s = s.hostRead src a be) (hsrc : src ≠ .cspi)
    (hup : s.dev.hostUp src = true) (herr : firstErr (s.dev.readPriv src a ++ alignErrs a be) = some x) : Gives c s fun t =>
      t.dev.answer = ⟨src, false, [0]⟩ ∧ Claim.Recorded { s with dev := { s.dev with answer := t.dev.answer } } src x a t.dev ∧
      t.clk = s.clk ∧ t.otp = s.otp ∧ t.pending = s.pending := by
  rw [← readPriv_readCounted src] at herr
  refine ⟨_, hc.trans (hostRead_pcie hsrc hup a be), ?_⟩
  dsimp only
  rw [wordRead_rejected herr]
  exact ⟨rfl, (reject_recorded_counted (readCounted_within src) src x a).respond src [0] false, rfl, rfl, rfl⟩

/-- A BAR2 read that breaks rules (R40). -/
theorem bar2Read_rejected {fn : Fn} {o len : Nat} {x : Err} (hup : s.dev.hostUp (fnSrc fn) = true) (herr : firstErr (bar2Errs o len) = some x) :
    Gives (.bar2Read fn o len) s fun t => t.dev.answer.src = fnSrc fn ∧ t.dev.answer.abort = false ∧ (∀ y ∈ t.dev.answer.data, y = 0) ∧
      Claim.Recorded { s with dev := { s.dev with answer := t.dev.answer } } (fnSrc fn) x o t.dev ∧
      t.clk = s.clk ∧ t.otp = s.otp ∧ t.pending = s.pending := by
  have hx : exec (.bar2Read fn o len) s = s.onDev fun d =>
      (d.reject (fnSrc fn) x o).respond (fnSrc fn) (List.replicate ((o % 4 + len + 3) / 4) 0) := by
    simp [exec, execBar2Read, hup, herr]
  exact ⟨_, hx, rfl, rfl, fun y hy => List.eq_of_mem_replicate hy, (reject_recorded s (fnSrc fn) x o).respond _ _ _, rfl, rfl, rfl⟩

/-- Settles O12: the two BAR0 reads by the read of a word, the BAR2 read by its own errors. -/
theorem rejectedRead : Obligations.RejectedRead := by
  refine fun s src off be fn o len x => ⟨fun hsrc hup herr c hc => ?_, bar2Read_rejected⟩
  obtain rfl | ⟨rfl, rfl⟩ := hc
  · exact hostRead_rejected rfl hsrc hup herr
  · exact hostRead_rejected rfl hsrc hup herr

/-! Clearing by a read (R9). -/

/-- A put of 0 takes no 0 back. -/
theorem get_put_zero_kept {f g : Fld} {i j : Nat} (hf : f.id < 2048) (hg : g.id < 2048) (h : d.get g j = 0) : (d.put f 0 i).get g j = 0 := by
  by_cases hkey : f.key i = g.key j
  · simp [Dev.get, Dev.put, Store.field, hkey, Store.get_set_same]
  · rw [Dev.get_put_ne _ _ _ _ _ _ hf hg (by unfold Fld.key at hkey; omega), h]

/-- What a read does to one field of its word. -/
def Dev.readClear (d : Dev) (p : Fld × Nat) : Dev := if p.1.acc = .rc then d.put p.1 0 p.2 else d

/-- The fields whose reading clears them. -/
def clearing (l : List (Fld × Nat)) : List (Fld × Nat) := l.filter (fun p => p.1.acc = .rc)

theorem hasEl_of_mem {p : Fld × Nat} (h : p ∈ E) : hasEl E p.1 p.2 = true := by
  simp only [hasEl, List.any_eq_true, Bool.and_eq_true, beq_iff_eq]
  exact ⟨p, h, rfl, rfl⟩

theorem mem_clearing {l : List (Fld × Nat)} {p : Fld × Nat} : p ∈ clearing l ↔ p ∈ l ∧ p.1.acc = .rc := by simp [clearing]

theorem readClear_within {l : List (Fld × Nat)} (hl : ∀ p ∈ l, p.1.id < 2048) :
    Within L d (l.foldl Dev.readClear d) (clearing l) := by
  refine Within.of_foldl_mem l (fun e p hp => ?_) d
  unfold Dev.readClear
  split
  · next hacc => exact Within.of_put_at e p.1 0 p.2 (hl p hp) (hasEl_of_mem (mem_clearing.2 ⟨hp, hacc⟩))
  · exact Within.refl e

theorem readClear_kept {p q : Fld × Nat} (hp : p.1.id < 2048) (hq : q.1.id < 2048) (h : d.get p.1 p.2 = 0) :
    (d.readClear q).get p.1 p.2 = 0 := by
  unfold Dev.readClear
  split
  · exact get_put_zero_kept hq hp h
  · exact h

theorem readClear_cleared {l : List (Fld × Nat)} (hl : ∀ p ∈ l, p.1.id < 2048) {p : Fld × Nat} (hp : p ∈ clearing l) :
    (l.foldl Dev.readClear d).get p.1 p.2 = 0 := by
  obtain ⟨hmem, hacc⟩ := mem_clearing.1 hp
  refine foldl_establishes (I := fun _ => True) (Q := fun e => e.get p.1 p.2 = 0) l hmem (fun _ _ _ _ => trivial) (fun e _ => ?_)
    (fun e q hq _ _ h => readClear_kept (hl p hmem) (hl q hq) h) trivial
  rw [Dev.readClear, if_pos hacc, Dev.get_put_same, Nat.zero_mod]

theorem readClears_eq (w o i : Nat) : d.readClears w o i = (d.regs.word w o i).foldl Dev.readClear d := rfl

theorem winFields_id_lt (w : Nat) : ∀ f ∈ winFields w, f.id < 2048 := by
  by_cases hw : w < 19
  · revert w; decide +kernel
  · intro f hf
    have : winFields w = [] := by unfold winFields; split <;> first | omega | rfl
    rw [this] at hf
    exact absurd hf List.not_mem_nil

theorem word_id_lt {r : Store} {w o i : Nat} : ∀ p ∈ r.word w o i, p.1.id < 2048 := by
  intro p hp
  simp only [Store.word, List.mem_filterMap] at hp
  obtain ⟨f, hf, hp⟩ := hp
  split at hp
  · cases hp
  · obtain ⟨k, -, rfl⟩ := Option.map_eq_some_iff.1 hp
    exact winFields_id_lt w f hf

/-- Which fields stand in a word hangs on the view of PERF alone. -/
theorem word_congr {r r' : Store} (h : r'.field R.PERF.VIEW 0 = r.field R.PERF.VIEW 0) (w o i : Nat) : r'.word w o i = r.word w o i := by
  simp only [Store.word, h]

theorem wordRead_accepted {otp : Otp} {c : Clock} {a w o : Nat} (hpriv : d.readPriv src a = []) (ha : a % 4 = 0) (hw : winOf a = some (w, o)) :
    d.wordRead otp c src a 0xF = (d.readClears w o (srcIx src)).respond src [d.readValue otp c src a] := by
  simp [Dev.wordRead, hpriv, alignErrs, errIf, ha, firstErr_nil, hw]

/-- A read with the right to read answers the word, clears its RC fields and changes nothing else (R9). -/
theorem hostRead_accepted {a w o : Nat} {c : Instr} (hc : exec c s = s.hostRead src a 0xF) (hsrc : src ≠ .cspi) (hup : s.dev.hostUp src = true)
    (hpriv : s.dev.readPriv src a = []) (ha : a % 4 = 0) (hw : winOf a = some (w, o)) : Gives c s fun t =>
      t.dev.answer = ⟨src, false, [(s.dev.readCounted src).readValue s.otp s.clk src a]⟩ ∧
      (∀ p ∈ clearing (s.dev.regs.word w o (srcIx src)), t.dev.get p.1 p.2 = 0) ∧
      Frame countFlds { s with dev := { s.dev with answer := t.dev.answer } } t (clearing (s.dev.regs.word w o (srcIx src))) := by
  rw [← readPriv_readCounted src] at hpriv
  have hword : (s.dev.readCounted src).regs.word w o (srcIx src) = s.dev.regs.word w o (srcIx src) :=
    word_congr (get_readCounted src R.PERF.VIEW 0 (by decide) (by decide)) _ _ _
  refine ⟨_, hc.trans (hostRead_pcie hsrc hup a 0xF), ?_⟩
  dsimp only
  rw [wordRead_accepted hpriv ha hw, readClears_eq, hword]
  exact ⟨rfl, fun p hp => readClear_cleared word_id_lt hp,
    (((readCounted_within src).addEls).trans (readClear_within word_id_lt)).setAnswer _, rfl, rfl, rfl⟩

/-! HIF_SUMMARY (R48). -/

theorem summary_plainWord (src : Source) : plainWord wHif 8 (srcIx src) = summaryFlds.map (fun f => (f, srcIx src)) := by
  cases src <;> rfl

theorem summary_word (r : Store) (src : Source) : r.word wHif 8 (srcIx src) = summaryFlds.map (fun f => (f, srcIx src)) := by
  rw [word_eq _ _ _ _ (view_free wHif (by decide)), summary_plainWord]

theorem summary_rc : ∀ f ∈ summaryFlds, f.acc = .rc := by decide

theorem summary_clearing (src : Source) : clearing (summaryFlds.map (fun f => (f, srcIx src))) = summaryFlds.map (fun f => (f, srcIx src)) := by
  refine List.filter_eq_self.2 fun p hp => ?_
  obtain ⟨f, hf, rfl⟩ := List.mem_map.1 hp
  simp [summary_rc f hf]

/-- What showing the registers of a read fills in. -/
def shownFlds : List Fld :=
  [R.TB.TB_NS32, R.TB.TIME_SUSPECT, R.PERF.CYC64_LO, R.PERF.CYC64_HI, R.REAM.SEC_VER_MIN, R.REAM.KEY_REVOKED, R.REAM.KEY_PROG,
    R.THERM.DIE_MODEL, R.HIF.SRC, R.HIF.STANDBY, R.MODE.KA_CNT_LO, R.MODE.KA_CNT_HI]

theorem shown_within (otp : Otp) (c : Clock) : Within shownFlds d (d.shown otp c) := by
  unfold Dev.shown
  simp (disch := first | decide | (intros; simp (disch := decide)))

theorem summary_shown (otp : Otp) (c : Clock) : ∀ f ∈ summaryFlds, ∀ i, (d.shown otp c).get f i = d.get f i := fun f hf i =>
  (shown_within otp c).regs f ((by decide : ∀ f ∈ summaryFlds, f.id < 2048) f hf) ((by decide : ∀ f ∈ summaryFlds, hasFld shownFlds f = false) f hf) i rfl

theorem summary_readCounted (src : Source) : ∀ f ∈ summaryFlds, ∀ i, (d.readCounted src).get f i = d.get f i := fun f hf i =>
  get_readCounted src f i ((by decide : ∀ f ∈ summaryFlds, f.id < 2048) f hf) ((by decide : ∀ f ∈ summaryFlds, hasFld countFlds f = false) f hf)

/-- The value of HIF_SUMMARY hangs on its bits. -/
theorem summary_value {i : Nat} (h : ∀ f ∈ summaryFlds, e.get f i = d.get f i) :
    summaryFlds.foldl (fun v f => v + e.get f i * 2 ^ f.lo) 0 = summaryFlds.foldl (fun v f => v + d.get f i * 2 ^ f.lo) 0 :=
  List.foldl_ext _ _ _ fun v f hf => by rw [h f hf]

theorem winOf_summary : winOf (winAddr wHif 8) = some (wHif, 8) := by decide

/-- HIF_SUMMARY reads as the bits of the source's own copy. -/
theorem readValue_summary (otp : Otp) (c : Clock) (src : Source) :
    d.readValue otp c src (winAddr wHif 8) = summaryFlds.foldl (fun v f => v + d.get f (srcIx src) * 2 ^ f.lo) 0 := by
  simp only [Dev.readValue, winOf_summary, Store.readWord, summary_word, List.foldl_map]
  refine List.foldl_ext _ _ _ fun v f hf => ?_
  have hget : (d.shown otp c).regs.field f (srcIx src) = d.get f (srcIx src) := summary_shown otp c f hf _
  simp [summary_rc f hf, hget]

theorem readPriv_summary (hsrc : src ≠ .cspi) : d.readPriv src (winAddr wHif 8) = [] := by
  cases src with
  | pf0 => rfl
  | pf1 => rfl
  | cspi => exact absurd rfl hsrc

/-- Settles O13: both are reads with the right to read, and every field of HIF_SUMMARY is cleared by its reading. -/
theorem readsThatClear : Obligations.ReadsThatClear := by
  refine ⟨fun s src hsrc hup => ?_, fun s src off w o hsrc hup hpriv ha hw => ?_⟩
  · obtain ⟨t, ht, hans, hclear, hframe⟩ :=
      hostRead_accepted (c := .hifSummaryRead src) rfl hsrc hup (readPriv_summary hsrc) rfl winOf_summary
    rw [summary_word, summary_clearing] at hclear hframe
    refine ⟨t, ht, ?_, fun f hf => hclear (f, srcIx src) (List.mem_map_of_mem hf), hframe⟩
    rw [hans, readValue_summary, summary_value fun f hf => summary_readCounted src f hf _]
  · obtain ⟨t, ht, hans, hclear, hframe⟩ := hostRead_accepted (c := .readClear src off) rfl hsrc hup hpriv ha hw
    exact ⟨t, ht, hans, fun f k hmem hacc => hclear (f, k) (mem_clearing.2 ⟨hmem, hacc⟩), hframe⟩

end Sys2Proof.Machine
end

section
/-! PROOFS. The host interface of one source: its leases, its error record, its reset, and the PCI Express link (R36, R41, R47, R51, R52, R62,
R141, R354, R517). -/
namespace Sys2Proof.Machine
variable {L : List Fld} {E : List (Fld × Nat)} {d e : Dev} {s : State} {src : Source}

/-! The error record and the lease (R47, R51, R52). -/

theorem clearErr_within (i : Nat) : Within L d (d.clearErr i) (Claim.errFlds.map (fun f => (f, i))) := by
  unfold Dev.clearErr
  simp (disch := decide) only [List.foldl, within_put_map, within_self]

theorem clearErr_cleared (i : Nat) : ∀ f ∈ Claim.errFlds, (d.clearErr i).get f i = 0 := by
  intro f hf
  unfold Dev.clearErr
  simp only [Claim.errFlds, List.mem_cons, List.not_mem_nil, or_false] at hf
  obtain rfl | rfl | rfl | rfl | rfl | rfl := hf
  all_goals simp (disch := decide)

/-- LAST_ERR_CLEAR: the write of VALID clears VALID itself, and its window the whole record. -/
theorem writeAct_lastErrClear (t : Nat) (src : Source) : d.writeAct t src (winAddr wHif 0xC) (2 ^ 24) =
    (d.fieldWrite (R.HIF.ERR_VALID, srcIx src) (2 ^ 24)).clearErr (srcIx src) := by
  have hflds : writtenFlds 0 0xC (srcIx src) = [(R.HIF.ERR_VALID, srcIx src)] := by cases src <;> decide
  have hbit : bitOf (2 ^ 24) 24 = 1 := by decide
  rw [writeAct_written t src _ (by decide : winOf (winAddr wHif 0xC) = some (0, 0xC)) (by decide), hflds]
  simp only [List.foldl, Dev.windowAct, hbit]
  rfl

theorem lastErrClear_does (h : Accepts s src (winAddr wHif 0xC) (2 ^ 24)) : Does (.lastErrClear src) s fun d =>
    (∀ f ∈ Claim.errFlds, d.get f (srcIx src) = 0) ∧ Within countFlds s.dev d (Claim.errFlds.map (fun f => (f, srcIx src))) := by
  refine does_write rfl h ?_
  have hid : R.HIF.ERR_VALID.id < 2048 := by decide
  have hel : hasEl (Claim.errFlds.map (fun f => (f, srcIx src))) R.HIF.ERR_VALID (srcIx src) = true := hasEl_map_of_hasFld (by decide) _
  rw [writeAct_lastErrClear]
  exact ⟨clearErr_cleared _, (counted_within src).addEls.trans
    ((fieldWrite_within (p := (R.HIF.ERR_VALID, srcIx src)) hid hel _).trans (clearErr_within _))⟩

/-- A write of SNAP_LEASE that keeps EXPIRED takes or ends the lease. -/
theorem writeAct_lease (t : Nat) (src : Source) :
    d.writeAct t src (winAddr wSnap 0) 1 = d.leaseTake src ∧ d.writeAct t src (winAddr wSnap 0) 2 = d.leaseEnd src := by
  have hflds : writtenFlds 1 0 (srcIx src) = [(R.SNAP.EXPIRED, srcIx src)] := by cases src <;> decide
  have hwin : winOf (winAddr wSnap 0) = some (1, 0) := by decide
  rw [writeAct_written t src _ hwin (by decide), writeAct_written t src _ hwin (by decide), hflds]
  exact ⟨rfl, rfl⟩

theorem leaseTake_held : (d.leaseTake src).get R.SNAP.HELD (srcIx src) = 1 := get_put_one _ (by decide) _

theorem leaseEnd_free : (d.leaseEnd src).get R.SNAP.HELD (srcIx src) = 0 := Dev.get_put_same _ _ _ _

theorem within_leaseTake (h : hasEl E R.SNAP.HELD (srcIx src) = true) : Within L d (d.leaseTake src) E := .of_put_at d _ _ _ (by decide) h

theorem within_leaseEnd (h : hasEl E R.SNAP.HELD (srcIx src) = true) : Within L d (d.leaseEnd src) E := .of_put_at d _ _ _ (by decide) h

theorem acq_does (h : Accepts s src (winAddr wSnap 0) 1) : Does (.acq src) s fun d =>
    d.get R.SNAP.HELD (srcIx src) = 1 ∧ Within countFlds s.dev d [(R.SNAP.HELD, srcIx src)] := by
  refine does_write rfl h ?_
  rw [(writeAct_lease _ src).1]
  exact ⟨leaseTake_held, (counted_within src).addEls.trans (within_leaseTake (hasEl_of_mem (List.mem_singleton.2 rfl)))⟩

theorem rel_does (h : Accepts s src (winAddr wSnap 0) 2) : Does (.rel src) s fun d =>
    d.get R.SNAP.HELD (srcIx src) = 0 ∧ Within countFlds s.dev d [(R.SNAP.HELD, srcIx src)] := by
  refine does_write rfl h ?_
  rw [(writeAct_lease _ src).2]
  exact ⟨leaseEnd_free, (counted_within src).addEls.trans (within_leaseEnd (hasEl_of_mem (List.mem_singleton.2 rfl)))⟩

/-- The lease of a source ended by expiry, before its raising (R52). -/
def Dev.leaseExpired (d : Dev) (src : Source) : Dev :=
  (((d.leaseEnd src).put R.SNAP.EXPIRED 1 (srcIx src)).sumOne R.HIF.SUM_LEASE_EXP src).bump R.SNAP.LEASE_EXP_CNT

theorem exec_leaseExpiry (h : s.dev.is R.SNAP.HELD (srcIx src) = true) : exec (.leaseExpiry src) s =
    .next { s with dev := ((s.dev.leaseExpired src).raise s.clk.ns 1 3 (srcIx src)).settle s.clk.ns } := by
  simp [exec, execLeaseExpiry, h, Dev.leaseExpired]

theorem leaseExpired_get (src : Source) : (d.leaseExpired src).get R.SNAP.HELD (srcIx src) = 0 ∧
    (d.leaseExpired src).get R.SNAP.EXPIRED (srcIx src) = 1 ∧ (d.leaseExpired src).get R.HIF.SUM_LEASE_EXP (srcIx src) = 1 ∧
    (d.leaseExpired src).get R.SNAP.LEASE_EXP_CNT = min (d.get R.SNAP.LEASE_EXP_CNT + 1) 65535 := by
  unfold Dev.leaseExpired Dev.sumOne Dev.leaseEnd
  refine ⟨?_, ?_, ?_, ?_⟩
  all_goals simp (disch := decide) [Fld.width, R.SNAP.HELD, R.SNAP.EXPIRED, R.HIF.SUM_LEASE_EXP, R.SNAP.LEASE_EXP_CNT]

theorem leaseExpired_within (src : Source) : Within [R.SNAP.LEASE_EXP_CNT] d (d.leaseExpired src)
    ([R.SNAP.HELD, R.SNAP.EXPIRED, R.HIF.SUM_LEASE_EXP].map (fun f => (f, srcIx src))) := by
  unfold Dev.leaseExpired Dev.sumOne Dev.leaseEnd
  simp (disch := decide) only [within_bump, within_put_map, within_self]

theorem leaseExpiry_does (h : s.dev.is R.SNAP.HELD (srcIx src) = true) : Does (.leaseExpiry src) s fun d =>
    d.get R.SNAP.HELD (srcIx src) = 0 ∧ d.get R.SNAP.EXPIRED (srcIx src) = 1 ∧ d.get R.HIF.SUM_LEASE_EXP (srcIx src) = 1 ∧
    d.get R.SNAP.LEASE_EXP_CNT = min (s.dev.get R.SNAP.LEASE_EXP_CNT + 1) 65535 ∧ Raised d 1 3 ∧
    Within (raiseFlds ++ [R.SNAP.LEASE_EXP_CNT]) s.dev d ([R.SNAP.HELD, R.SNAP.EXPIRED, R.HIF.SUM_LEASE_EXP].map (fun f => (f, srcIx src))) := by
  obtain ⟨hheld, hexp, hsum, hcnt⟩ := leaseExpired_get (d := s.dev) src
  refine ⟨_, exec_leaseExpiry h, ?_, ?_, ?_, ?_, raise_raised _ _ _ _ _ (by decide), ?_⟩
  · rw [Dev.get_raise _ _ _ _ _ _ _ (by decide) (by decide), hheld]
  · rw [Dev.get_raise _ _ _ _ _ _ _ (by decide) (by decide), hexp]
  · rw [Dev.get_raise _ _ _ _ _ _ _ (by decide) (by decide), hsum]
  · rw [Dev.get_raise _ _ _ _ _ _ _ (by decide) (by decide), hcnt]
  · exact ((leaseExpired_within src).weaken (by decide) (fun _ hp => hp)).trans ((raise_within _ _ _ _ _).mono (by decide))

/-- Settles O16: each write comes to the one operation of its register, and the expiry to the end of the lease and its raising. -/
theorem leases : Obligations.Leases :=
  ⟨fun _ _ => ⟨lastErrClear_does, acq_does, rel_does⟩, fun _ _ => leaseExpiry_does⟩

/-! The end of a staged set (R41, R58, R62, R63). -/

theorem srcIx_lt (src : Source) : srcIx src < 3 := by cases src <;> decide

theorem stageEnd_within (x : Err) (index : Nat) (whole : Bool) :
    Within Claim.resultFlds d (d.stageEnd x index whole) [(R.HIF.SUM_STAGE_DONE, srcIx d.stageOwner)] := by
  unfold Dev.stageEnd Dev.sumOne
  have hdone : hasEl [(R.HIF.SUM_STAGE_DONE, srcIx d.stageOwner)] R.HIF.SUM_STAGE_DONE (srcIx d.stageOwner) = true :=
    hasEl_of_mem (List.mem_singleton.2 rfl)
  simp (disch := first | decide | exact hdone)

/-- What the end of a set leaves (R58, R63). -/
theorem stageEnd_get (x : Err) (index : Nat) (whole : Bool) : (d.stageEnd x index whole).get R.STAGE.STAGE_STAT_STATE = 0 ∧
    (d.stageEnd x index whole).get R.STAGE.STAGE_STAT_NEXT_TXN = (d.get R.STAGE.STAGE_STAT_NEXT_TXN + 1) % 65536 ∧
    (d.stageEnd x index whole).get R.STAGE.STAGE_RESULT_TXN = d.get R.STAGE.STAGE_STAT_NEXT_TXN % 65536 ∧
    (d.stageEnd x index whole).get R.STAGE.STAGE_RESULT_CODE = x.code % 256 ∧
    (d.stageEnd x index whole).get R.STAGE.STAGE_RESULT_DETAIL = x.detail % 256 ∧
    (d.stageEnd x index whole).get R.HIF.SUM_STAGE_DONE (srcIx d.stageOwner) = 1 := by
  unfold Dev.stageEnd Dev.sumOne Dev.wrap
  refine ⟨?_, ?_, ?_, ?_, ?_, ?_⟩
  all_goals simp (disch := decide) [Fld.width, R.STAGE.STAGE_STAT_STATE, R.STAGE.STAGE_STAT_NEXT_TXN, R.STAGE.STAGE_RESULT_TXN,
    R.STAGE.STAGE_RESULT_CODE, R.STAGE.STAGE_RESULT_DETAIL, R.HIF.SUM_STAGE_DONE]

/-- The two summary bits of a discarded set. -/
def discardEls (i : Nat) : List (Fld × Nat) := [R.HIF.SUM_STAGE_DISCARD, R.HIF.SUM_STAGE_DONE].map (fun f => (f, i))

theorem stageDiscard_within (det : Nat) : Within Claim.resultFlds d (d.stageDiscard det) (discardEls (srcIx d.stageOwner)) := by
  unfold Dev.stageDiscard Dev.sumOne
  refine ((stageEnd_within _ 0 true).weaken (by decide) (by simp [discardEls])).trans (.of_put_at _ _ _ _ (by decide) ?_)
  exact hasEl_map_of_hasFld (by decide) _

theorem stageDiscard_eq (det : Nat) : d.stageDiscard det = (d.stageEnd (eTimeout det) 0 true).put R.HIF.SUM_STAGE_DISCARD 1 (srcIx d.stageOwner) := rfl

theorem stageDiscard_get (det : Nat) : (d.stageDiscard det).get R.STAGE.STAGE_STAT_STATE = 0 ∧
    (d.stageDiscard det).get R.STAGE.STAGE_STAT_NEXT_TXN = (d.get R.STAGE.STAGE_STAT_NEXT_TXN + 1) % 65536 ∧
    (d.stageDiscard det).get R.STAGE.STAGE_RESULT_CODE = 13 ∧ (d.stageDiscard det).get R.STAGE.STAGE_RESULT_DETAIL = det % 256 ∧
    (d.stageDiscard det).get R.HIF.SUM_STAGE_DISCARD (srcIx d.stageOwner) = 1 ∧
    (d.stageDiscard det).get R.HIF.SUM_STAGE_DONE (srcIx d.stageOwner) = 1 := by
  obtain ⟨hstate, htxn, -, hcode, hdetail, hdone⟩ := stageEnd_get (d := d) (eTimeout det) 0 true
  rw [stageDiscard_eq]
  refine ⟨?_, ?_, ?_, ?_, get_put_one _ (by decide) _, ?_⟩
  · rwa [Dev.get_put_other _ _ _ _ _ _ (by decide) (by decide) (by decide)]
  · rwa [Dev.get_put_other _ _ _ _ _ _ (by decide) (by decide) (by decide)]
  · rwa [Dev.get_put_other _ _ _ _ _ _ (by decide) (by decide) (by decide)]
  · rwa [Dev.get_put_other _ _ _ _ _ _ (by decide) (by decide) (by decide)]
  · rwa [Dev.get_put_other _ _ _ _ _ _ (by decide) (by decide) (by decide)]

theorem exec_stageOpenTimeout (h : s.dev.get R.STAGE.STAGE_STAT_STATE = 1) : exec .stageOpenTimeout s =
    .next { s with dev := ((s.dev.stageDiscard 1).raise s.clk.ns 1 4 (srcIx s.dev.stageOwner)).settle s.clk.ns } := by
  simp [exec, execStageOpenTimeout, h]

theorem stageOpenTimeout_other (h : s.dev.get R.STAGE.STAGE_STAT_STATE ≠ 1) : exec .stageOpenTimeout s = .next s := by
  simp [exec, execStageOpenTimeout, h]

/-- Settles O17: an open set is discarded, and the raising that follows leaves its result. -/
theorem openTimeout : Obligations.OpenTimeout := by
  refine fun s => ⟨fun h => ?_, stageOpenTimeout_other⟩
  obtain ⟨hstate, htxn, hcode, hdetail, hdiscard, hdone⟩ := stageDiscard_get (d := s.dev) 1
  have hkept : ∀ f : Fld, f.id < 2048 → hasFld raiseFlds f = false → ∀ i,
      ((s.dev.stageDiscard 1).raise s.clk.ns 1 4 (srcIx s.dev.stageOwner)).get f i = (s.dev.stageDiscard 1).get f i := fun f hf hL i =>
    Dev.get_raise _ _ _ _ _ _ _ hf hL
  refine ⟨_, exec_stageOpenTimeout h, (hkept _ (by decide) (by decide) _).trans hstate, (hkept _ (by decide) (by decide) _).trans htxn,
    (hkept _ (by decide) (by decide) _).trans hcode, (hkept _ (by decide) (by decide) _).trans hdetail,
    (hkept _ (by decide) (by decide) _).trans hdiscard, (hkept _ (by decide) (by decide) _).trans hdone, raise_raised _ _ _ _ _ (by decide), ?_⟩
  exact ((stageDiscard_within 1).weaken (by decide) (fun _ hp => hp)).trans ((raise_within _ _ _ _ _).mono (by decide))

/-! The reset of a source (R41). -/

theorem hasFld_append (M N : List Fld) (f : Fld) : hasFld (M ++ N) f = (hasFld M f || hasFld N f) := List.any_append

/-- The fields of which a source has its own element. -/
def sourceFlds : List Fld := R.SNAP.HELD :: Claim.errFlds ++ summaryFlds

theorem sourceEls_eq (i : Nat) : Claim.sourceEls i = sourceFlds.map (fun f => (f, i)) := rfl

theorem sourceFlds_id_lt : ∀ f ∈ sourceFlds, f.id < 2048 := by decide

theorem within_leaseEnd_clearErr (src : Source) : Within L d ((d.leaseEnd src).clearErr (srcIx src)) (Claim.sourceEls (srcIx src)) := by
  refine (within_leaseEnd (hasEl_map_of_hasFld (by decide) _)).trans ((clearErr_within (L := L) _).weaken ?_ ?_)
  · exact List.all_eq_true.2 fun f hf => hasFld_of_mem hf
  · exact fun p hp => List.map_subset _ (fun f hf => List.mem_cons_of_mem _ (List.mem_append_left _ hf)) hp

/-- The set that a source owns, discarded with its reset. -/
def Dev.ownSetDropped (d : Dev) (src : Source) : Dev := d.onlyIf (d.is R.STAGE.STAGE_STAT_STATE && d.stageOwner = src) (fun d => d.stageDiscard 2)

/-- Every bit of the summary of a source. -/
def Dev.summaryFull (d : Dev) (i : Nat) : Dev := summaryFlds.foldl (fun d f => d.put f 1 i) d

theorem sourceReset_eq (src : Source) :
    d.sourceReset src = (((d.leaseEnd src).clearErr (srcIx src)).ownSetDropped src).summaryFull (srcIx src) := rfl

theorem summaryFull_within (i : Nat) : Within L d (d.summaryFull i) (summaryFlds.map (fun f => (f, i))) := by
  refine Within.of_foldl_mem summaryFlds (fun e f hf => ?_) d
  exact .of_put_at e f 1 i ((by decide : ∀ f ∈ summaryFlds, f.id < 2048) f hf) (hasEl_map_of_hasFld (hasFld_of_mem hf) i)

theorem summaryFull_bits (i : Nat) : ∀ f ∈ summaryFlds, (d.summaryFull i).get f i = 1 := by
  intro f hf
  have hid : ∀ f ∈ summaryFlds, f.id < 2048 ∧ f.width ≠ 0 ∧ ∀ g ∈ summaryFlds, g ≠ f → g.id ≠ f.id := by decide
  obtain ⟨hf2, hw, hother⟩ := hid f hf
  refine foldl_establishes (I := fun _ => True) (Q := fun e => e.get f i = 1) summaryFlds hf (fun _ _ _ _ => trivial)
    (fun e _ => get_put_one f hw i) (fun e g hg hne _ h => ?_) trivial
  rw [Dev.get_put_other _ _ _ _ _ _ (hid g hg).1 hf2 (hother g hg hne), h]

theorem discardEls_sub (i : Nat) : ∀ p ∈ discardEls i, p ∈ Claim.sourceEls i :=
  fun _ hp => List.map_subset _ (by decide : [R.HIF.SUM_STAGE_DISCARD, R.HIF.SUM_STAGE_DONE] ⊆ sourceFlds) hp

theorem summaryEls_sub (i : Nat) : ∀ p ∈ summaryFlds.map (fun f => (f, i)), p ∈ Claim.sourceEls i :=
  fun _ hp => List.map_subset _ (List.subset_append_right (R.SNAP.HELD :: Claim.errFlds) summaryFlds) hp

/-- The reset of the lease and of the record leaves the staging area. -/
theorem stage_leaseEnd_clearErr (src : Source) (f : Fld) (hf : f.id < 2048) (h : hasFld sourceFlds f = false) :
    ((d.leaseEnd src).clearErr (srcIx src)).get f = d.get f :=
  (within_leaseEnd_clearErr (L := []) src).regs f hf rfl 0 (hasEl_map_of_not_hasFld h _ _)

theorem stageOwner_leaseEnd_clearErr (src : Source) : ((d.leaseEnd src).clearErr (srcIx src)).stageOwner = d.stageOwner :=
  congrArg srcOf (stage_leaseEnd_clearErr src R.STAGE.STAGE_STAT_OWNER (by decide) (by decide))

theorem ownSetDropped_within (src : Source) : Within Claim.resultFlds d (d.ownSetDropped src) (Claim.sourceEls (srcIx src)) := by
  unfold Dev.ownSetDropped Dev.onlyIf
  split
  · next h =>
    obtain ⟨-, howner⟩ := Bool.and_eq_true_iff.1 h
    have := stageDiscard_within (d := d) 2
    rw [of_decide_eq_true howner] at this
    exact this.weaken (by decide) (discardEls_sub _)
  · exact .refl d

theorem ownSetDropped_other (h : d.stageOwner ≠ src) : d.ownSetDropped src = d := by
  simp [Dev.ownSetDropped, Dev.onlyIf, h]

theorem ownSetDropped_own (h : d.stageOwner = src) (hset : d.is R.STAGE.STAGE_STAT_STATE = true) : d.ownSetDropped src = d.stageDiscard 2 := by
  simp [Dev.ownSetDropped, Dev.onlyIf, h, hset]

theorem ownSetDropped_free (h : d.stageOwner = src) : (d.ownSetDropped src).get R.STAGE.STAGE_STAT_STATE = 0 := by
  cases hset : d.is R.STAGE.STAGE_STAT_STATE with
  | true => rw [ownSetDropped_own h hset]; exact (stageDiscard_get 2).1
  | false =>
    simp only [Dev.ownSetDropped, Dev.onlyIf, hset, Bool.false_and, Bool.false_eq_true, if_false]
    simpa [Dev.is] using hset

theorem sourceReset_within (src : Source) : Within Claim.resultFlds d (d.sourceReset src) (Claim.sourceEls (srcIx src)) :=
  ((within_leaseEnd_clearErr src).trans (ownSetDropped_within src)).trans ((summaryFull_within (L := []) _).weaken rfl (summaryEls_sub _))

theorem sourceReset_otherSet (h : d.stageOwner ≠ src) : Within [] d (d.sourceReset src) (Claim.sourceEls (srcIx src)) := by
  rw [sourceReset_eq, ownSetDropped_other (by rwa [stageOwner_leaseEnd_clearErr])]
  exact (within_leaseEnd_clearErr src).trans ((summaryFull_within (L := []) _).weaken rfl (summaryEls_sub _))

theorem sourceReset_summary (src : Source) : ∀ f ∈ summaryFlds, (d.sourceReset src).get f (srcIx src) = 1 := summaryFull_bits _

/-- What a reset sets before the summary stays. -/
theorem get_sourceReset (src : Source) {f : Fld} (hf : f.id < 2048) (h : hasFld summaryFlds f = false) (i : Nat) :
    (d.sourceReset src).get f i = (((d.leaseEnd src).clearErr (srcIx src)).ownSetDropped src).get f i :=
  (summaryFull_within (L := []) _).regs f hf rfl i (hasEl_map_of_not_hasFld h _ _)

theorem sourceReset_free (h : d.stageOwner = src) : (d.sourceReset src).get R.STAGE.STAGE_STAT_STATE = 0 := by
  rw [get_sourceReset _ (by decide) (by decide)]
  exact ownSetDropped_free (by rwa [stageOwner_leaseEnd_clearErr])

theorem sourceReset_result (h : d.stageOwner = src) (hset : d.is R.STAGE.STAGE_STAT_STATE = true) :
    (d.sourceReset src).get R.STAGE.STAGE_RESULT_CODE = 13 ∧ (d.sourceReset src).get R.STAGE.STAGE_RESULT_DETAIL = 2 := by
  have hset' : ((d.leaseEnd src).clearErr (srcIx src)).is R.STAGE.STAGE_STAT_STATE = true := by
    rwa [Dev.is, stage_leaseEnd_clearErr src _ (by decide) (by decide)]
  rw [get_sourceReset _ (by decide) (by decide), get_sourceReset _ (by decide) (by decide),
    ownSetDropped_own (by rwa [stageOwner_leaseEnd_clearErr]) hset']
  obtain ⟨-, -, hcode, hdetail, -⟩ := stageDiscard_get (d := (d.leaseEnd src).clearErr (srcIx src)) 2
  exact ⟨hcode, hdetail⟩

/-- Dropping a set leaves the lease and the error record that the reset has cleared. -/
theorem get_ownSetDropped (src : Source) {f : Fld} (hf : f.id < 2048) (h : hasFld (Claim.resultFlds ++ summaryFlds) f = false) (i : Nat) :
    (d.ownSetDropped src).get f i = d.get f i := by
  unfold Dev.ownSetDropped Dev.onlyIf
  split
  · refine (stageDiscard_within 2).regs f hf (hasFld_false_of_sub (by decide) h) i (hasEl_map_of_not_hasFld ?_ _ _)
    exact hasFld_false_of_sub (by decide) h
  · rfl

theorem sourceReset_clean (src : Source) : Claim.SourceClean (d.sourceReset src) (srcIx src) := by
  refine ⟨?_, fun f hf => ?_, fun f hf _ => sourceReset_summary src f hf⟩
  · rw [get_sourceReset _ (by decide) (by decide), get_ownSetDropped _ (by decide) (by decide),
      (clearErr_within (L := []) _).regs _ (by decide) rfl _ (hasEl_map_of_not_hasFld (by decide) _ _), leaseEnd_free]
  · have hid : ∀ f ∈ Claim.errFlds, f.id < 2048 ∧ hasFld summaryFlds f = false ∧ hasFld (Claim.resultFlds ++ summaryFlds) f = false := by decide
    obtain ⟨hf2, hsum, hres⟩ := hid f hf
    rw [get_sourceReset _ hf2 hsum, get_ownSetDropped _ hf2 hres, clearErr_cleared _ f hf]

/-- A clean source stays clean when its own elements stay. -/
theorem Claim.SourceClean.kept {i : Nat} (h : Claim.SourceClean d i)
    (hkept : ∀ f ∈ sourceFlds, hasFld raiseFlds f = false → e.get f i = d.get f i) : Claim.SourceClean e i := by
  obtain ⟨hheld, herr, hsum⟩ := h
  have hout : ∀ f ∈ Claim.errFlds, f ∈ sourceFlds ∧ hasFld raiseFlds f = false := by decide
  refine ⟨(hkept _ (by decide) (by decide)).trans hheld, fun f hf => ?_, fun f hf hr => ?_⟩
  · exact (hkept f (hout f hf).1 (hout f hf).2).trans (herr f hf)
  · exact (hkept f (List.mem_append_right _ hf) hr).trans (hsum f hf hr)

/-! The PCI Express link (R36, R41, R354). -/

/-- What a link that goes down writes of the link. -/
def linkFlds : List Fld := [I.HIF.LINK_GEN, I.HIF.LINK_LANES, I.HIF.LINK_DN]

/-- The link shown as down. -/
def Dev.pcieOff (d : Dev) : Dev := ((d.put I.HIF.LINK_GEN 0).put I.HIF.LINK_LANES 0).put I.HIF.LINK_DN 1

theorem linkDown_eq (t : Nat) : d.linkDown t = if d.is I.HIF.LINK_DN then d.pcieOff else d.pcieOff.raise t 1 0 0 true := rfl

theorem pcieOff_within : Within linkFlds d d.pcieOff := by
  unfold Dev.pcieOff
  simp (disch := decide)

theorem linkDown_within (t : Nat) : Within (raiseFlds ++ linkFlds) d (d.linkDown t) := by
  rw [linkDown_eq]
  split
  · exact pcieOff_within.mono (by decide)
  · exact (pcieOff_within.mono (by decide)).trans ((raise_within _ _ _ _ _).mono (by decide))

theorem linkDown_down (t : Nat) : (d.linkDown t).get I.HIF.LINK_DN = 1 := by
  have hoff : d.pcieOff.get I.HIF.LINK_DN = 1 := get_put_one _ (by decide) _
  rw [linkDown_eq]
  split
  · exact hoff
  · rw [Dev.get_raise _ _ _ _ _ _ _ (by decide) (by decide), hoff]

theorem linkDown_raised (t : Nat) (h : d.is I.HIF.LINK_DN = false) : Raised (d.linkDown t) 1 0 := by
  rw [linkDown_eq, h]
  exact raise_raised _ _ _ _ _ (by decide)

theorem linkDown_clean (t : Nat) {i : Nat} (h : Claim.SourceClean d i) : Claim.SourceClean (d.linkDown t) i := by
  refine h.kept fun f hf hr => (linkDown_within t).regs f (sourceFlds_id_lt f hf) ?_ i rfl
  have hlink : ∀ f ∈ sourceFlds, hasFld linkFlds f = false := by decide
  rw [hasFld_append, hr, hlink f hf, Bool.or_self]

/-- The reset of the other function leaves a clean source clean. -/
theorem sourceReset_keeps_clean {i : Nat} (h : Claim.SourceClean d i) (hi : i < 16) (hne : i ≠ srcIx src) :
    Claim.SourceClean (d.sourceReset src) i := by
  have hres : ∀ f ∈ sourceFlds, hasFld Claim.resultFlds f = false := by decide
  exact h.kept fun f hf _ => (sourceReset_within src).regs f (sourceFlds_id_lt f hf) (hres f hf) i (hasEl_map_other sourceFlds (lt_trans (srcIx_lt src) (by decide)) hi hne f)

/-! The commands of the link and of the resets. -/

theorem sourceReset_does {fn : Fn} (hon : s.dev.supervised = true) (cause : ResetCause) (hcause : cause ≠ .linkDown) :
    Does (.sourceReset fn cause) s fun d => Claim.SourceClean d (srcIx (fnSrc fn)) ∧ (∀ f ∈ summaryFlds, d.get f (srcIx (fnSrc fn)) = 1) ∧
      (s.dev.stageOwner = fnSrc fn → d.get R.STAGE.STAGE_STAT_STATE = 0) ∧
      (s.dev.stageOwner = fnSrc fn → s.dev.is R.STAGE.STAGE_STAT_STATE = true →
        d.get R.STAGE.STAGE_RESULT_CODE = 13 ∧ d.get R.STAGE.STAGE_RESULT_DETAIL = 2) ∧
      (s.dev.stageOwner ≠ fnSrc fn → Within [] s.dev d (Claim.sourceEls (srcIx (fnSrc fn)))) ∧
      Within Claim.resultFlds s.dev d (Claim.sourceEls (srcIx (fnSrc fn))) := by
  have hx : exec (.sourceReset fn cause) s = .next { s with dev := (s.dev.sourceReset (fnSrc fn)).settle s.clk.ns } := by
    simp [exec, execSourceReset, hon, hcause]
  exact ⟨_, hx, sourceReset_clean _, sourceReset_summary _, sourceReset_free, sourceReset_result, sourceReset_otherSet, sourceReset_within _⟩

/-- What a link-down may write of the module and of the sources that it resets. -/
def downFlds : List Fld := raiseFlds ++ Claim.resultFlds ++ linkFlds

theorem sourceReset_linkDown_does {fn : Fn} (hon : s.dev.supervised = true) : Does (.sourceReset fn .linkDown) s fun d =>
    Claim.SourceClean d (srcIx (fnSrc fn)) ∧ d.get I.HIF.LINK_DN = 1 ∧ (s.dev.is I.HIF.LINK_DN = false → Raised d 1 0) ∧
    Within downFlds s.dev d (Claim.sourceEls (srcIx (fnSrc fn))) := by
  have hx : exec (.sourceReset fn .linkDown) s = .next { s with dev := ((s.dev.sourceReset (fnSrc fn)).linkDown s.clk.ns).settle s.clk.ns } := by
    simp [exec, execSourceReset, hon]
  have hdn : (s.dev.sourceReset (fnSrc fn)).is I.HIF.LINK_DN = s.dev.is I.HIF.LINK_DN := by
    rw [Dev.is, (sourceReset_within _).regs _ (by decide) (by decide) _ (hasEl_map_of_not_hasFld (by decide) _ _), Dev.is]
  exact ⟨_, hx, linkDown_clean _ (sourceReset_clean _), linkDown_down _, fun h => linkDown_raised _ (hdn.trans h),
    ((sourceReset_within _).weaken (by decide) (fun _ hp => hp)).trans ((linkDown_within _).mono (by decide))⟩

theorem nperstAssert_does (hon : s.dev.supervised = true) : Does .nperstAssert s fun d =>
    Claim.SourceClean d 0 ∧ Claim.SourceClean d 1 ∧ d.get I.HIF.LINK_DN = 1 ∧ (s.dev.is I.HIF.LINK_DN = false → Raised d 1 0) ∧
    Within downFlds s.dev d (Claim.sourceEls 0 ++ Claim.sourceEls 1) := by
  have hx : exec .nperstAssert s =
      .next { s with dev := (((s.dev.sourceReset .pf0).sourceReset .pf1).linkDown s.clk.ns).settle s.clk.ns } := by
    simp [exec, execNperstAssert, hon, Dev.bothDown]
  have hdn : ∀ (d : Dev) (src : Source), (d.sourceReset src).is I.HIF.LINK_DN = d.is I.HIF.LINK_DN := fun d src => by
    rw [Dev.is, (sourceReset_within _).regs _ (by decide) (by decide) _ (hasEl_map_of_not_hasFld (by decide) _ _), Dev.is]
  have h0 : Claim.SourceClean (s.dev.sourceReset .pf0) 0 := sourceReset_clean .pf0
  refine ⟨_, hx, linkDown_clean _ (sourceReset_keeps_clean h0 (by decide) (by decide)), linkDown_clean _ (sourceReset_clean .pf1), linkDown_down _,
    fun h => linkDown_raised _ (by rw [hdn, hdn, h]), ?_⟩
  exact (((sourceReset_within .pf0).weaken (by decide) (fun _ hp => List.mem_append_left _ hp)).trans
    ((sourceReset_within .pf1).weaken (by decide) (fun _ hp => List.mem_append_right _ hp))).trans ((linkDown_within _).mono (by decide))

/-- The link as trained, before what its width raises (R36). -/
def Dev.pcieTrained (d : Dev) (gen lanes : Nat) : Dev := (((d.put I.HIF.LINK_GEN gen).put I.HIF.LINK_LANES lanes).put I.HIF.LINK_DN 0).lower 1 0

theorem pcieTrained_within (gen lanes : Nat) : Within linkFlds d (d.pcieTrained gen lanes) := by
  unfold Dev.pcieTrained
  simp (disch := decide)

theorem pcieTrained_get (gen lanes : BitVec 4) : (d.pcieTrained gen.toNat lanes.toNat).get I.HIF.LINK_GEN = gen.toNat ∧
    (d.pcieTrained gen.toNat lanes.toNat).get I.HIF.LINK_LANES = lanes.toNat ∧ (d.pcieTrained gen.toNat lanes.toNat).get I.HIF.LINK_DN = 0 := by
  have hgen : gen.toNat % 16 = gen.toNat := Nat.mod_eq_of_lt gen.isLt
  have hlanes : lanes.toNat % 16 = lanes.toNat := Nat.mod_eq_of_lt lanes.isLt
  unfold Dev.pcieTrained
  refine ⟨?_, ?_, ?_⟩ <;> rw [get_lower]
  all_goals simp (disch := decide) [Fld.width, I.HIF.LINK_GEN, I.HIF.LINK_LANES, I.HIF.LINK_DN, hgen, hlanes]

theorem pcieLinkTrained_does (hon : s.dev.supervised = true) (gen lanes : BitVec 4) : Does (.pcieLinkTrained gen lanes) s fun d =>
    d.get I.HIF.LINK_GEN = gen.toNat ∧ d.get I.HIF.LINK_LANES = lanes.toNat ∧ d.get I.HIF.LINK_DN = 0 ∧
    (gen.toNat < 3 ∨ lanes.toNat < 2 → Raised d 1 1) ∧ Within (raiseFlds ++ linkFlds) s.dev d := by
  obtain ⟨hgen, hlanes, hdn⟩ := pcieTrained_get (d := s.dev) gen lanes
  have hframe : Within (raiseFlds ++ linkFlds) s.dev (s.dev.pcieTrained gen.toNat lanes.toNat) := (pcieTrained_within _ _).mono (by decide)
  by_cases hslow : gen.toNat < 3 ∨ lanes.toNat < 2
  · have hslow' : gen.toNat < 3 ∨ lanes.toNat ≤ 1 := by omega
    have hx : exec (.pcieLinkTrained gen lanes) s = .next { s with dev :=
        ((s.dev.pcieTrained gen.toNat lanes.toNat).raise s.clk.ns 1 1 (16 * gen.toNat + lanes.toNat) true).settle s.clk.ns } := by
      simp [exec, execPcieLinkTrained, hon, hslow', Dev.pcieTrained]
    refine ⟨_, hx, ?_, ?_, ?_, fun _ => raise_raised _ _ _ _ _ (by decide), hframe.trans ((raise_within _ _ _ _ _).mono (by decide))⟩
    · rw [Dev.get_raise _ _ _ _ _ _ _ (by decide) (by decide), hgen]
    · rw [Dev.get_raise _ _ _ _ _ _ _ (by decide) (by decide), hlanes]
    · rw [Dev.get_raise _ _ _ _ _ _ _ (by decide) (by decide), hdn]
  · have hslow' : ¬ (gen.toNat < 3 ∨ lanes.toNat ≤ 1) := by omega
    have hx : exec (.pcieLinkTrained gen lanes) s =
        .next { s with dev := ((s.dev.pcieTrained gen.toNat lanes.toNat).lower 1 1).settle s.clk.ns } := by
      simp [exec, execPcieLinkTrained, hon, hslow', Dev.pcieTrained]
    exact ⟨_, hx, hgen, hlanes, hdn, fun h => absurd h hslow, (within_lower 1 1).2 hframe⟩

theorem malformedRequest_does {fn : Fn} (hup : s.dev.hostUp (fnSrc fn) = true) :
    Does (.malformedRequest fn) s fun d => Raised d 1 5 ∧ Within raiseFlds s.dev d := by
  have hx : exec (.malformedRequest fn) s =
      .next { s with dev := (s.dev.raise s.clk.ns 1 5 (srcIx (fnSrc fn))).settle s.clk.ns } := by
    simp [exec, execMalformedRequest, hup]
  exact ⟨_, hx, raise_raised _ _ _ _ _ (by decide), raise_within _ _ _ _ _⟩

theorem pcieReady_gives (hon : s.dev.supervised = true) : Gives .pcieReady s fun t => t.dev.get I.HIF.READY = 1 ∧ Frame [I.HIF.READY] s t := by
  have hx : exec .pcieReady s = .next { s with dev := s.dev.put I.HIF.READY 1 } := by
    simp [exec, execPcieReady, hon]
  exact ⟨_, hx, get_put_one _ (by decide) _, .of_put _ _ _ _ (by decide) (by decide), rfl, rfl, rfl⟩

/-- Settles O15: a reset by the state of its source, a link-down by the link and its raising, the training by the width that it finds. -/
theorem linkAndSources : Obligations.LinkAndSources :=
  ⟨fun _ _ hon => ⟨sourceReset_does hon, sourceReset_linkDown_does hon, nperstAssert_does hon⟩,
    fun _ _ gen lanes hon => ⟨pcieLinkTrained_does hon gen lanes, malformedRequest_does, pcieReady_gives hon⟩⟩

end Sys2Proof.Machine
end

section
/-! PROOFS. The CSPI port (R55, R69 to R71, R354): its transactions, and the reads and writes of words in them. -/
namespace Sys2Proof.Machine
variable {L : List Fld} {E : List (Fld × Nat)} {d e : Dev} {s : State}

theorem Within.implicit_eq (h : Within L d e E) : e.implicit = d.implicit := by rw [h.rest]
theorem Within.cspi_eq (h : Within L d e E) : e.cspi = d.cspi := by rw [h.rest]

/-! Transactions (R70, R71, R354). -/

theorem cspiCsFall_starts (hup : s.dev.hostUp .cspi = true) (hnone : s.dev.cspi = none) : Gives .cspiCsFall s fun t =>
    t.dev.cspi = some ⟨[], 0⟩ ∧ t.dev.get R.SNAP.HELD 2 = 1 ∧
    Frame [] { s with dev := { s.dev with cspi := t.dev.cspi } } t [(R.SNAP.HELD, 2)] := by
  have hx : exec .cspiCsFall s = .next { s with dev := { s.dev.leaseTake .cspi with cspi := some ⟨[], 0⟩ } } := by
    simp [exec, execCspiCsFall, hup, hnone]
  exact ⟨_, hx, rfl, leaseTake_held (src := .cspi),
    (within_leaseTake (src := .cspi) (hasEl_of_mem (List.mem_singleton.2 rfl))).setCspi _, rfl, rfl, rfl⟩

/-- The transaction ended, with its lease and what a rise inside a word raises, before its implicit set is queued. -/
def Dev.cspiEnded (d : Dev) (t : Nat) (insideWord : Bool) : Dev :=
  if insideWord then (({ d with cspi := none } : Dev).leaseEnd .cspi).raise t 1 6 0 else ({ d with cspi := none } : Dev).leaseEnd .cspi

theorem exec_cspiCsRise {x : CspiTxn} (insideWord : Bool) (h : s.dev.cspi = some x) : exec (.cspiCsRise insideWord) s =
    .next { s with dev := ((s.dev.cspiEnded s.clk.ns insideWord).implicitQueue s.clk.ns x.staged).settle s.clk.ns } := by
  simp [exec, execCspiCsRise, h, Dev.cspiEnded]

/-- The lease of CSPI and its error record. -/
def riseEls : List (Fld × Nat) := (R.SNAP.HELD :: Claim.rejectFlds).map (fun f => (f, 2))

theorem cspiEnded_within (t : Nat) (insideWord : Bool) : Within raiseFlds { d with cspi := none } (d.cspiEnded t insideWord) riseEls := by
  have hend : Within raiseFlds ({ d with cspi := none } : Dev) (({ d with cspi := none } : Dev).leaseEnd .cspi) riseEls :=
    within_leaseEnd (src := .cspi) (by decide)
  unfold Dev.cspiEnded
  split
  · exact hend.trans ((raise_within _ _ _ _ _).addEls)
  · exact hend

theorem cspiEnded_free (t : Nat) (insideWord : Bool) : (d.cspiEnded t insideWord).get R.SNAP.HELD 2 = 0 := by
  have hend : (({ d with cspi := none } : Dev).leaseEnd .cspi).get R.SNAP.HELD 2 = 0 := leaseEnd_free (src := .cspi)
  unfold Dev.cspiEnded
  split
  · rw [Dev.get_raise _ _ _ _ _ _ _ (by decide) (by decide), hend]
  · exact hend

theorem cspiEnded_raised (t : Nat) : Raised (d.cspiEnded t true) 1 6 := raise_raised _ _ _ _ _ (by decide)

/-- An implicit set that is refused: the record of E_FULL at its first word, and instance 7 (R71, R354). -/
def Dev.implicitFull (d : Dev) (t a : Nat) : Dev := (d.reject .cspi (eFull 0) a).raise t 1 7 0

theorem implicitQueue_nil (t : Nat) : d.implicitQueue t [] = d := rfl

theorem implicitQueue_room (t : Nat) {items : List (Nat × Nat)} (hne : items ≠ []) (h : d.implicit.length < 16) :
    d.implicitQueue t items = { d with implicit := d.implicit ++ [⟨items, t⟩] } := by
  cases items with
  | nil => exact absurd rfl hne
  | cons it l => exact if_pos h

theorem implicitQueue_full (t : Nat) (it : Nat × Nat) (l : List (Nat × Nat)) (h : 16 ≤ d.implicit.length) :
    d.implicitQueue t (it :: l) = d.implicitFull t it.1 := if_neg (Nat.not_lt.mpr h)

theorem implicitFull_within (t a : Nat) : Within raiseFlds d (d.implicitFull t a) riseEls :=
  ((reject_within .cspi _ a false).weaken (by decide) (by decide : ∀ p ∈ Claim.rejectFlds.map (fun f => (f, 2)), p ∈ riseEls)).trans
    ((raise_within _ _ _ _ _).addEls)

theorem implicitFull_record (s : State) (t a : Nat) : (s.dev.implicitFull t a).get R.HIF.ERR_CODE 2 = 14 ∧
    (s.dev.implicitFull t a).get R.HIF.ERR_DETAIL 2 = 0 ∧ (s.dev.implicitFull t a).get R.HIF.ERR_OFFSET 2 = a % 2 ^ 22 := by
  obtain ⟨-, hcode, hdetail, hoff, -⟩ := reject_recorded s .cspi (eFull 0) a
  unfold Dev.implicitFull
  refine ⟨?_, ?_, ?_⟩ <;> rw [Dev.get_raise _ _ _ _ _ _ _ (by decide) (by decide)]
  · exact hcode
  · exact hdetail
  · exact hoff

theorem Within.keepImplicit (h : Within L d e E) : Within L { d with implicit := e.implicit } e E := h.setImplicit e.implicit

theorem implicitQueue_within (t : Nat) (items : List (Nat × Nat)) :
    Within raiseFlds { d with implicit := (d.implicitQueue t items).implicit } (d.implicitQueue t items) riseEls := by
  cases items with
  | nil => exact .refl d
  | cons it l =>
    by_cases h : d.implicit.length < 16
    · rw [implicitQueue_room t (List.cons_ne_nil it l) h]
      exact .refl _
    · rw [implicitQueue_full t it l (Nat.not_lt.mp h)]
      exact (implicitFull_within t it.1).keepImplicit

theorem setImplicit_sticky (v : List ImplicitSet) : StickyKept d { d with implicit := v } := fun _ _ _ h => h

theorem implicitQueue_sticky (t : Nat) (items : List (Nat × Nat)) : StickyKept d (d.implicitQueue t items) := by
  cases items with
  | nil => exact .refl d
  | cons it l =>
    by_cases h : d.implicit.length < 16
    · rw [implicitQueue_room t (List.cons_ne_nil it l) h]
      exact setImplicit_sticky _
    · rw [implicitQueue_full t it l (Nat.not_lt.mp h)]
      exact (reject_sticky .cspi _ _ false).trans (raise_sticky _ _ _ _ _)

/-- The queue leaves the lease. -/
theorem implicitQueue_held (t : Nat) (items : List (Nat × Nat)) : (d.implicitQueue t items).get R.SNAP.HELD 2 = d.get R.SNAP.HELD 2 := by
  cases items with
  | nil => rfl
  | cons it l =>
    by_cases h : d.implicit.length < 16
    · rw [implicitQueue_room t (List.cons_ne_nil it l) h]
      rfl
    · rw [implicitQueue_full t it l (Nat.not_lt.mp h), Dev.implicitFull, Dev.get_raise _ _ _ _ _ _ _ (by decide) (by decide),
        get_reject_other _ _ _ _ _ _ (by decide) (by decide) (by decide)]

theorem cspiCsRise_ends {x : CspiTxn} (insideWord : Bool) (h : s.dev.cspi = some x) : Does (.cspiCsRise insideWord) s fun d =>
    d.cspi = none ∧ d.get R.SNAP.HELD 2 = 0 ∧ (insideWord = true → Raised d 1 6) ∧
    (x.staged = [] → d.implicit = s.dev.implicit) ∧
    (x.staged ≠ [] → s.dev.implicit.length < 16 → d.implicit = s.dev.implicit ++ [⟨x.staged, s.clk.ns⟩]) ∧
    (∀ it l, x.staged = it :: l → 16 ≤ s.dev.implicit.length → d.implicit = s.dev.implicit ∧ Raised d 1 7 ∧
      d.get R.HIF.ERR_CODE 2 = 14 ∧ d.get R.HIF.ERR_DETAIL 2 = 0 ∧ d.get R.HIF.ERR_OFFSET 2 = it.1 % 2 ^ 22) ∧
    Within raiseFlds { s.dev with cspi := none, implicit := d.implicit } d riseEls := by
  have hended := cspiEnded_within (d := s.dev) s.clk.ns insideWord
  have hsets : (s.dev.cspiEnded s.clk.ns insideWord).implicit = s.dev.implicit := hended.implicit_eq
  refine ⟨_, exec_cspiCsRise insideWord h, ?_, ?_, ?_, fun hnil => ?_, fun hne hroom => ?_, fun it l hl hfull => ?_, ?_⟩
  · exact (implicitQueue_within _ _).cspi_eq.trans hended.cspi_eq
  · rw [implicitQueue_held, cspiEnded_free]
  · rintro rfl
    exact (implicitQueue_sticky _ _).raised (cspiEnded_raised _)
  · rw [hnil, implicitQueue_nil, hsets]
  · rw [implicitQueue_room _ hne (by rwa [hsets]), hsets]
  · obtain ⟨hcode, hdetail, hoff⟩ := implicitFull_record { s with dev := s.dev.cspiEnded s.clk.ns insideWord } s.clk.ns it.1
    rw [hl, implicitQueue_full _ it l (by rwa [hsets])]
    exact ⟨(implicitFull_within _ _).implicit_eq.trans hsets, raise_raised _ _ _ _ _ (by decide), hcode, hdetail, hoff⟩
  · exact (hended.setImplicit _).trans (implicitQueue_within _ _)

/-- Settles O18: a transaction by its lease, its end by the set that it leaves. -/
theorem cspiTransaction : Obligations.CspiTransaction := fun _ insideWord =>
  ⟨cspiCsFall_starts, fun _ => cspiCsRise_ends insideWord⟩

/-! Reads (R55, R69, R70). -/

/-- The word at a BAR0 address in the visible bank, as CSPI reads it. -/
def Dev.bankWord (d : Dev) (a : Nat) : Nat :=
  match winOf a with
  | some (w, o) => d.visible.regs.readWord w o 2
  | none => 0

/-- The HIF window is the first 64 KiB of BAR0. -/
theorem winOf_hif {a w o : Nat} (h : winOf a = some (w, o)) (ha : 0x10000 ≤ a) : w ≠ wHif := by
  have hall : ∀ x ∈ windows, x.1 = wHif → x.2.1 + x.2.2 ≤ 0x10000 := by decide
  simp only [winOf, Option.map_eq_some_iff, Prod.mk.injEq] at h
  obtain ⟨x, hx, rfl, -⟩ := h
  have hin := List.find?_some hx
  simp only [Bool.and_eq_true, decide_eq_true_eq] at hin
  intro hw
  have := hall x (List.mem_of_find?_eq_some hx) hw
  omega

/-- Outside HIF a word reads from the visible bank and changes nothing. -/
theorem cspiGet_bank (otp : Otp) (c : Clock) {n a : Nat} (hrange : cspiRange n = true) (haddr : cspiAddr n = some a) (ha : 0x10000 ≤ a) :
    d.cspiGet otp c n = (d, d.bankWord a) := by
  have hlow : ¬ a < 0x10000 := Nat.not_lt.mpr ha
  have hval : d.cspiValue otp c a = d.bankWord a := by
    unfold Dev.cspiValue Dev.bankWord
    cases hw : winOf a with
    | none => rfl
    | some p => simp [winOf_hif hw ha]
  simp [Dev.cspiGet, hrange, haddr, hlow, hval]

theorem cspiGetAll_same (otp : Otp) (c : Clock) (k : Nat) : ∀ (n : Nat) (v : Nat → Nat),
    (∀ i < k, d.cspiGet otp c ((n + i) % 65536) = (d, v i)) → d.cspiGetAll otp c n k = (d, (List.range k).map v) := by
  induction k with
  | zero => intro n v _; rfl
  | succ k ih =>
    intro n v h
    have hfirst : d.cspiGet otp c (n % 65536) = (d, v 0) := h 0 (Nat.succ_pos k)
    have hrest := ih (n + 1) (fun i => v (i + 1)) fun i hi => by
      rw [show n + 1 + i = n + (i + 1) by omega]
      exact h (i + 1) (Nat.succ_lt_succ hi)
    simp [Dev.cspiGetAll, hfirst, hrest, List.range_succ_eq_map, Function.comp_def]

theorem cspiRead_bank {addr : BitVec 16} {n : Fin 257} {a : Nat → Nat} (hup : s.dev.hostUp .cspi = true) (hin : s.dev.cspi.isSome = true)
    (h : ∀ k < n.val, cspiRange ((addr.toNat + k) % 65536) = true ∧ cspiAddr ((addr.toNat + k) % 65536) = some (a k) ∧ 0x10000 ≤ a k) :
    exec (.cspiRead4wire addr n) s =
      .next { s with dev := { s.dev with answer := ⟨.cspi, false, (List.range n).map (fun k => s.dev.bankWord (a k))⟩ } } := by
  have hnone : s.dev.cspi ≠ none := Option.isSome_iff_ne_none.1 hin
  have hall := cspiGetAll_same (d := s.dev) s.otp s.clk n addr.toNat (fun k => s.dev.bankWord (a k)) fun k hk =>
    have ⟨hrange, haddr, hhigh⟩ := h k hk
    cspiGet_bank s.otp s.clk hrange haddr hhigh
  simp [exec, execCspiRead4wire, State.cspiReadOp, hup, hnone, hall, Dev.respond]

/-! Writes (R69, R71). -/

/-- The words of a write go one after the other. -/
theorem cspiPutAll_eq (t n : Nat) (words : List Word) : ∀ (d : Dev) (k : Nat), d.cspiPutAll t (n + k) words =
    (words.zipIdx k).foldl (fun d p => d.cspiPut t ((n + p.2) % 65536) p.1.toNat) d := by
  induction words with
  | nil => intro d k; rfl
  | cons v l ih =>
    intro d k
    rw [List.zipIdx_cons, List.foldl_cons, ← ih, Dev.cspiPutAll, Nat.add_assoc]

/-- A write in a transaction: what it leaves before settling. -/
theorem cspiWrite_does {addr : BitVec 16} {words : List Word} {x : CspiTxn} (hup : s.dev.hostUp .cspi = true) (hin : s.dev.cspi = some x)
    (hlen : words.length ≤ 256) {P : Dev → Prop} (h : ∀ e, e = s.dev.cspiPutAll s.clk.ns addr.toNat words →
      P (e.respond .cspi [(e.cspi.map (fun y => y.status)).getD 0])) : Does (.cspiWrite4wire addr words) s P := by
  refine ⟨_, ?_, h _ rfl⟩
  simp [exec, execCspiWrite4wire, State.cspiWriteOp, Nat.not_lt.mpr hlen, hup, hin]

/-- A staged word of the subset joins its transaction. -/
theorem cspiPut_gathers {x : CspiTxn} {t n a v : Nat} (hin : d.cspi = some x) (hmirror : d.mode ≠ .mirror) (hboot : d.mode ≠ .boot)
    (hrange : cspiRange n = true) (haddr : cspiAddr n = some a) (hstaged : d.stagedWord a = true) (hsub : inSubset a = true) :
    d.cspiPut t n v = { d with cspi := some { x with staged := x.staged ++ [(a, v)] } } := by
  simp [Dev.cspiPut, hrange, haddr, Dev.cspiWrite, hin, hstaged, Dev.cspiGather, hsub, Dev.roleErrs, Dev.bootErrs, hmirror, hboot, errIf, firstErr_nil,
    Dev.cspiTxn]

/-- What a transaction gathers of some words, the k-th at address a k. -/
def gathered (a : Nat → Nat) (words : List Word) : List (Nat × Nat) := words.mapIdx (fun k v => (a k, v.toNat))

theorem cspiPutAll_gathers {t : Nat} (words : List Word) : ∀ {d : Dev} {x : CspiTxn} {n : Nat} {a : Nat → Nat}, d.cspi = some x →
    d.mode ≠ .mirror → d.mode ≠ .boot →
    (∀ k < words.length, cspiRange ((n + k) % 65536) = true ∧ cspiAddr ((n + k) % 65536) = some (a k) ∧ d.stagedWord (a k) = true ∧
      inSubset (a k) = true) →
    d.cspiPutAll t n words = { d with cspi := some { x with staged := x.staged ++ gathered a words } } := by
  induction words with
  | nil =>
    intro d x n a hin _ _ _
    simp [Dev.cspiPutAll, gathered, ← hin]
  | cons v l ih =>
    intro d x n a hin hmirror hboot h
    obtain ⟨hrange, haddr, hstaged, hsub⟩ := h 0 (Nat.succ_pos _)
    rw [Nat.add_zero] at hrange haddr
    have hrest := ih (d := { d with cspi := some { x with staged := x.staged ++ [(a 0, v.toNat)] } }) (n := n + 1) (a := fun k => a (k + 1))
      rfl hmirror hboot fun k hk => by
        rw [show n + 1 + k = n + (k + 1) by omega]
        exact h (k + 1) (Nat.succ_lt_succ hk)
    rw [Dev.cspiPutAll, cspiPut_gathers hin hmirror hboot hrange haddr hstaged hsub, hrest]
    simp [gathered, List.mapIdx_cons]

/-- A direct word is written as any other source would write it. -/
theorem cspiPut_direct {x : CspiTxn} {t n b v : Nat} (hin : d.cspi = some x) (hrange : cspiRange n = true) (haddr : cspiAddr n = some b)
    (hdirect : d.stagedWord b = false) (hclean : d.writeErrs t .cspi b 0xF v = []) : d.cspiPut t n v = d.writeAct t .cspi b v := by
  simp [Dev.cspiPut, hrange, haddr, Dev.cspiWrite, hin, hdirect, Dev.wordWrite, hclean, firstErr_nil, Dev.cspiNote]

/-- Settles O19: both widths are one operation; a read goes word by word to the bank, a write word by word to the transaction. -/
theorem cspiAccesses : Obligations.CspiAccesses := by
  refine ⟨fun s addr n a => ⟨rfl, cspiRead_bank⟩, fun s addr words a x v => ⟨rfl, cspiWriteOp_faults s addr, fun hup hin hmirror hboot => ⟨?_, ?_, ?_⟩⟩⟩
  · intro hlen h
    refine cspiWrite_does hup hin hlen fun e he => ?_
    rw [he, cspiPutAll_gathers words hin hmirror hboot h]
    rfl
  · intro b hrange haddr hdirect hclean
    have hn : addr.toNat % 65536 = addr.toNat := Nat.mod_eq_of_lt addr.isLt
    refine cspiWrite_does hup hin (by simp) fun e he f k => ?_
    rw [he, Dev.respond_get, Dev.cspiPutAll, Dev.cspiPutAll, hn, cspiPut_direct hin hrange haddr hdirect hclean]
  · intro hlen
    exact cspiWrite_does hup hin hlen fun e he => ⟨e, he.trans (cspiPutAll_eq _ addr.toNat words s.dev 0), rfl⟩

end Sys2Proof.Machine
end

section
/-! PROOFS. Accepted writes of the staging area (R56 to R60, R63). -/
namespace Sys2Proof.Machine
variable {d : Dev} {s : State} {src : Source}

/-! The words of the STAGE window. -/

/-- The two fields of an item. -/
def itemFlds : List Fld := [R.STAGE.ITEM_ADDR, R.STAGE.ITEM_DATA]

theorem winOf_stage {o : Nat} (h : o < 0x20000) : winOf (winAddr wStage o) = some (2, o) := by
  have hbase : winAddr wStage o = 0x20000 + o := rfl
  rw [hbase, winOf]
  have hfirst : ¬ 0x20000 + o < 0x10000 := by omega
  have hend : 0x20000 + o < 0x40000 := by omega
  simp [windows, hfirst, hend]

/-- A field of one element is in no word above its own. -/
theorem elem_single_none {f : Fld} {i o low : Nat} (h1 : f.n1 = 1) (h2 : f.n2 = 1) (hbelow : f.off < low) (ho : low ≤ o) : f.elem i o = none := by
  cases h : f.elem i o with
  | none => rfl
  | some k =>
    have := off_of_elem_single h1 h2 h
    omega

/-- Above the commands the window holds items alone. -/
theorem plainWord_items {o : Nat} (k : Nat) (ho : 0x1000 ≤ o) :
    plainWord 2 o k = itemFlds.filterMap (fun f => (f.elem k o).map (fun i => (f, i))) := by
  have hsplit : winFields 2 = (winFields 2).take 16 ++ itemFlds := by decide
  have hbelow : ∀ f ∈ (winFields 2).take 16, f.n1 = 1 ∧ f.n2 = 1 ∧ f.off < 0x1000 := by decide
  rw [plainWord, hsplit, List.filterMap_append, List.filterMap_eq_nil_iff.2, List.nil_append]
  intro f hf
  obtain ⟨h1, h2, hoff⟩ := hbelow f hf
  rw [elem_single_none h1 h2 hoff ho]
  rfl

theorem writtenFlds_itemAddr (k : Nat) (i : Fin 4096) : writtenFlds 2 (0x1000 + 8 * i) k = [(R.STAGE.ITEM_ADDR, i.val)] := by
  have haddr : R.STAGE.ITEM_ADDR.elem k (0x1000 + 8 * i) = some i.val := by
    simp [Fld.elem, R.STAGE.ITEM_ADDR]
  have hdata : R.STAGE.ITEM_DATA.elem k (0x1000 + 8 * i) = none := by
    simp only [Fld.elem, R.STAGE.ITEM_DATA]
    simp
    omega
  rw [writtenFlds, plainWord_items k (by omega)]
  simp [itemFlds, haddr, hdata, Fld.inert]
  decide

theorem writtenFlds_itemData (k : Nat) (i : Fin 4096) : writtenFlds 2 (0x1004 + 8 * i) k = [(R.STAGE.ITEM_DATA, i.val)] := by
  have haddr : R.STAGE.ITEM_ADDR.elem k (0x1004 + 8 * i) = none := by
    simp [Fld.elem, R.STAGE.ITEM_ADDR]
    omega
  have hdata : R.STAGE.ITEM_DATA.elem k (0x1004 + 8 * i) = some i.val := by
    simp [Fld.elem, R.STAGE.ITEM_DATA]
  rw [writtenFlds, plainWord_items k (by omega)]
  simp [itemFlds, haddr, hdata, Fld.inert]
  decide

/-! What an accepted write leaves. -/

/-- What the command words leave: no field of theirs is stored. -/
theorem writeAct_stageCommand (t : Nat) (src : Source) {o : Nat} (val : Nat) (ho : o ∈ [0, 4, 0xC]) :
    d.writeAct t src (winAddr wStage o) val = d.stageAct t src o val := by
  have hbound : ∀ o ∈ [0, 4, 0xC], o < 0x20000 ∧ ∀ k < 3, writtenFlds 2 o k = [] := by decide
  obtain ⟨hlt, hnone⟩ := hbound o ho
  rw [writeAct_written t src val (winOf_stage hlt) (by decide), hnone _ (srcIx_lt src)]
  rfl

theorem writeAct_stageCommit (t : Nat) (src : Source) (val : Nat) : d.writeAct t src (winAddr wStage 4) val = d.stageCommit t val :=
  (writeAct_stageCommand t src val (by decide)).trans rfl

theorem stageAct_item (t : Nat) (src : Source) {o : Nat} (val : Nat) (hlow : 0x1000 ≤ o) (hhigh : o < 0x9000) : d.stageAct t src o val =
    d.put (if o % 8 = 0 then I.STAGE.GEN_A else I.STAGE.GEN_D) (d.get I.STAGE.GEN) ((o - 0x1000) / 8) := by
  have h0 : o ≠ 0 := by omega
  have h4 : o ≠ 4 := by omega
  have hC : o ≠ 0xC := by omega
  simp [Dev.stageAct, h0, h4, hC, hlow, hhigh]

/-- An item word takes its value, and the number of the open set marks it as written. -/
theorem writeAct_itemAddr (t : Nat) (src : Source) (i : Fin 4096) (val : Nat) : d.writeAct t src (winAddr wStage (0x1000 + 8 * i)) val =
    (d.put R.STAGE.ITEM_ADDR (val % 2 ^ 22) i).put I.STAGE.GEN_A ((d.put R.STAGE.ITEM_ADDR (val % 2 ^ 22) i).get I.STAGE.GEN) i := by
  have hword : (0x1000 + 8 * i.val) % 8 = 0 := by omega
  have hitem : (0x1000 + 8 * i.val - 0x1000) / 8 = i.val := by omega
  rw [writeAct_written t src val (winOf_stage (by omega)) (by decide), writtenFlds_itemAddr]
  simp only [List.foldl_cons, List.foldl_nil, Dev.windowAct]
  rw [stageAct_item _ _ _ (by omega) (by omega), if_pos hword, hitem]
  rfl

theorem writeAct_itemData (t : Nat) (src : Source) (i : Fin 4096) (val : Nat) : d.writeAct t src (winAddr wStage (0x1004 + 8 * i)) val =
    (d.put R.STAGE.ITEM_DATA (val % 2 ^ 32) i).put I.STAGE.GEN_D ((d.put R.STAGE.ITEM_DATA (val % 2 ^ 32) i).get I.STAGE.GEN) i := by
  have hword : (0x1004 + 8 * i.val) % 8 ≠ 0 := by omega
  have hitem : (0x1004 + 8 * i.val - 0x1000) / 8 = i.val := by omega
  rw [writeAct_written t src val (winOf_stage (by omega)) (by decide), writtenFlds_itemData]
  simp only [List.foldl_cons, List.foldl_nil, Dev.windowAct]
  rw [stageAct_item _ _ _ (by omega) (by omega), if_neg hword, hitem]
  rfl

theorem stageOpen_opens (src : Source) : (d.stageOpen src).get R.STAGE.STAGE_STAT_STATE = 1 ∧
    (d.stageOpen src).get R.STAGE.STAGE_STAT_OWNER = srcIx src ∧
    Within [R.STAGE.STAGE_STAT_STATE, R.STAGE.STAGE_STAT_OWNER, I.STAGE.GEN] d (d.stageOpen src) := by
  have howner : srcIx src % 2 ^ R.STAGE.STAGE_STAT_OWNER.width = srcIx src := Nat.mod_eq_of_lt (Nat.lt_succ_of_lt (srcIx_lt src))
  unfold Dev.stageOpen
  refine ⟨?_, ?_, by simp (disch := decide)⟩
  · simp (disch := decide)
  · simp (disch := decide) [howner]

/-! STAGE_COMMIT (R58 to R60). -/

theorem stageCommit_fails {t val k : Nat} {e : Err} {w : Bool} (h : firstFail (d.commitErrs t val) = some (e, k, w)) :
    d.stageCommit t val = d.stageEnd e k w := by
  simp only [Dev.stageCommit, h]

/-- The fields of a set that waits for its boundary. -/
def waitFlds : List Fld :=
  [R.STAGE.STAGE_STAT_STATE, I.STAGE.COUNT, I.STAGE.AT_EN, I.STAGE.TARGET, I.STAGE.COMMIT_NS, I.STAGE.LATENESS]

theorem stageCommit_waits {t val : Nat} (h : d.commitErrs t val = []) : (d.stageCommit t val).get R.STAGE.STAGE_STAT_STATE = 2 ∧
    (d.stageCommit t val).get I.STAGE.COUNT = bitsOf val 28 16 ∧ (d.stageCommit t val).get I.STAGE.AT_EN = bitOf val 29 ∧
    (d.stageCommit t val).get I.STAGE.COMMIT_NS = t % 2 ^ 64 ∧ Within waitFlds d (d.stageCommit t val) := by
  simp only [Dev.stageCommit, h, firstFail, Dev.flag]
  refine ⟨?_, ?_, ?_, ?_, by simp (disch := decide)⟩
  · simp (disch := decide)
    rfl
  · have hwidth : bitsOf val 28 16 < 2 ^ 13 := Nat.mod_lt _ (by decide)
    simp (disch := decide)
    exact Nat.mod_eq_of_lt hwidth
  · have hbit : (decide (bitOf val 29 = 1)).toNat = bitOf val 29 := by
      obtain h0 | h1 := Nat.mod_two_eq_zero_or_one (val >>> 29)
      · simp [bitOf, h0]
      · simp [bitOf, h1]
    have hwidth : bitOf val 29 < 2 ^ 1 := Nat.mod_lt _ (by decide)
    simp (disch := decide)
    rw [hbit]
    exact Nat.mod_eq_of_lt hwidth
  · simp (disch := decide)
    rfl

/-- The fields of a STAGE_COMMIT word. -/
theorem commit_word (txn : BitVec 16) (count : BitVec 13) (atEn lateOk : Bool) :
    bitsOf (txn.toNat + 2 ^ 16 * count.toNat + 2 ^ 29 * atEn.toNat + 2 ^ 30 * lateOk.toNat) 28 16 = count.toNat ∧
    bitOf (txn.toNat + 2 ^ 16 * count.toNat + 2 ^ 29 * atEn.toNat + 2 ^ 30 * lateOk.toNat) 29 = atEn.toNat := by
  have htxn := txn.isLt
  have hcount := count.isLt
  have hat : atEn.toNat < 2 := Bool.toNat_lt atEn
  unfold bitsOf bitOf
  omega

/-! The commands. -/

theorem stageOwner_counted (src : Source) : (d.counted src).stageOwner = d.stageOwner := by
  rw [Dev.stageOwner, get_counted _ _ _ (by decide) (by decide), Dev.stageOwner]

/-- A set that ends at a counted access has ended. -/
theorem setEnded_stageEnd (src : Source) (e : Err) (k : Nat) (w : Bool) :
    Claim.SetEnded s ((s.dev.counted src).stageEnd e k w) (e.code % 256) := by
  obtain ⟨hstate, hnext, htxn, hcode, -, hdone⟩ := stageEnd_get (d := s.dev.counted src) e k w
  have hwithin := stageEnd_within (d := s.dev.counted src) e k w
  rw [get_counted _ _ _ (by decide) (by decide)] at hnext htxn
  rw [stageOwner_counted] at hdone hwithin
  exact ⟨hstate, hnext, htxn, hcode, hdone,
    ((counted_within src).mono (by decide)).addEls.trans (hwithin.weaken (by decide) fun _ hp => hp)⟩

theorem stageOpen_does {txn : BitVec 16} (h : Accepts s src (winAddr wStage 0) txn.toNat) : Does (.stageOpen src txn) s fun d =>
    d.get R.STAGE.STAGE_STAT_STATE = 1 ∧ d.get R.STAGE.STAGE_STAT_OWNER = srcIx src ∧
    Within (countFlds ++ [R.STAGE.STAGE_STAT_STATE, R.STAGE.STAGE_STAT_OWNER, I.STAGE.GEN]) s.dev d := by
  refine does_write rfl h ?_
  rw [writeAct_stageCommand _ _ _ (by decide)]
  obtain ⟨hstate, howner, hwithin⟩ := stageOpen_opens (d := s.dev.counted src) src
  exact ⟨hstate, howner, ((counted_within src).mono (by decide)).trans (hwithin.mono (by decide))⟩

theorem stageAbort_does {txn : BitVec 16} (h : Accepts s src (winAddr wStage 0xC) txn.toNat) :
    Does (.stageAbort src txn) s fun d => Claim.SetEnded s d 0 := by
  refine does_write rfl h ?_
  rw [writeAct_stageCommand _ _ _ (by decide)]
  exact setEnded_stageEnd src ⟨0, 0⟩ 0 false

/-- A put of an item's word and of its mark. -/
theorem put_item_within (f g : Fld) (v w i : Nat) (hf : f.id < 2048) (hg : g.id < 2048) :
    Within countFlds s.dev (((s.dev.counted src).put f v i).put g w i) [(f, i), (g, i)] := by
  have hcount : Within countFlds s.dev (s.dev.counted src) [(f, i), (g, i)] := (counted_within src).addEls
  exact (hcount.trans (.of_put_at _ _ _ _ hf (by simp [hasEl]))).trans (.of_put_at _ _ _ _ hg (by simp [hasEl]))

theorem stageItemAddr_does {i : Fin 4096} {val : Word} (h : Accepts s src (winAddr wStage (0x1000 + 8 * i)) val.toNat) :
    Does (.stageItemWrite src i .addr val) s fun d =>
      d.get R.STAGE.ITEM_ADDR i = val.toNat % 2 ^ 22 ∧ Within countFlds s.dev d [(R.STAGE.ITEM_ADDR, i), (I.STAGE.GEN_A, i)] := by
  have hx : exec (.stageItemWrite src i .addr val) s = s.hostWrite src (winAddr wStage (0x1000 + 8 * i)) 0xF val.toNat := by
    simp only [exec, execStageItemWrite, if_true, Nat.add_zero]
  refine does_write hx h ?_
  rw [writeAct_itemAddr]
  refine ⟨?_, put_item_within _ _ _ _ _ (by decide) (by decide)⟩
  rw [Dev.get_put_ne _ _ _ _ _ _ (by decide) (by decide) (Or.inl (by decide)), Dev.get_put_same]
  exact Nat.mod_mod _ _

theorem stageItemData_does {i : Fin 4096} {val : Word} (h : Accepts s src (winAddr wStage (0x1004 + 8 * i)) val.toNat) :
    Does (.stageItemWrite src i .data val) s fun d =>
      d.get R.STAGE.ITEM_DATA i = val.toNat ∧ Within countFlds s.dev d [(R.STAGE.ITEM_DATA, i), (I.STAGE.GEN_D, i)] := by
  have hx : exec (.stageItemWrite src i .data val) s = s.hostWrite src (winAddr wStage (0x1004 + 8 * i)) 0xF val.toNat := by
    have hword : 0x1000 + 8 * i.val + 4 = 0x1004 + 8 * i.val := by omega
    simp only [exec, execStageItemWrite, hword, reduceCtorEq, if_false]
  refine does_write hx h ?_
  rw [writeAct_itemData]
  refine ⟨?_, put_item_within _ _ _ _ _ (by decide) (by decide)⟩
  rw [Dev.get_put_ne _ _ _ _ _ _ (by decide) (by decide) (Or.inl (by decide)), Dev.get_put_same]
  exact (Nat.mod_mod _ _).trans (Nat.mod_eq_of_lt val.isLt)

section
variable {txn : BitVec 16} {count : BitVec 13} {atEn lateOk : Bool} {v : Nat}
variable (hv : v = txn.toNat + 2 ^ 16 * count.toNat + 2 ^ 29 * atEn.toNat + 2 ^ 30 * lateOk.toNat)
include hv

theorem stageCommit_waits_does (h : Accepts s src (winAddr wStage 4) v) (hgood : (s.dev.counted src).commitErrs s.clk.ns v = []) :
    Does (.stageCommit src txn count atEn lateOk) s fun d =>
      d.get R.STAGE.STAGE_STAT_STATE = 2 ∧ d.get I.STAGE.COUNT = count.toNat ∧ d.get I.STAGE.AT_EN = atEn.toNat ∧
      d.get I.STAGE.COMMIT_NS = s.clk.ns % 2 ^ 64 ∧ Within (countFlds ++ waitFlds) s.dev d := by
  obtain ⟨hstate, hcount, hat, hns, hwithin⟩ := stageCommit_waits hgood
  obtain ⟨hcountword, hatword⟩ := commit_word txn count atEn lateOk
  have hx : exec (.stageCommit src txn count atEn lateOk) s = s.hostWrite src (winAddr wStage 4) 0xF v := by
    rw [hv]
    rfl
  rw [← hv] at hcountword hatword
  rw [hcountword] at hcount
  rw [hatword] at hat
  refine does_write hx h ?_
  rw [writeAct_stageCommit]
  exact ⟨hstate, hcount, hat, hns, ((counted_within src).mono (by decide)).trans (hwithin.mono (by decide))⟩

theorem stageCommit_fails_does {e : Err} {k : Nat} {w : Bool} (h : Accepts s src (winAddr wStage 4) v)
    (hbad : firstFail ((s.dev.counted src).commitErrs s.clk.ns v) = some (e, k, w)) :
    Does (.stageCommit src txn count atEn lateOk) s fun d => Claim.SetEnded s d (e.code % 256) := by
  have hx : exec (.stageCommit src txn count atEn lateOk) s = s.hostWrite src (winAddr wStage 4) 0xF v := by
    rw [hv]
    rfl
  refine does_write hx h ?_
  rw [writeAct_stageCommit]
  rw [stageCommit_fails hbad]
  exact setEnded_stageEnd src e k w

end

/-- Settles O1: each command word by the action of its register, an item word by the put of its element. -/
theorem stagingWrites : Obligations.StagingWrites := fun _ _ _ _ _ _ _ _ =>
  ⟨stageOpen_does, stageItemAddr_does, stageItemData_does,
    fun h => ⟨fun hgood => stageCommit_waits_does rfl h hgood, fun _ _ _ hbad => stageCommit_fails_does rfl h hbad⟩, stageAbort_does⟩

end Sys2Proof.Machine
end

section
/-! PROOFS. When a write of PF0 that starts something is accepted: the checks of a word of commands (R10, R42 to R46). -/
namespace Sys2Proof.Machine
variable {L : List Fld} {d e : Dev} {s : State}

/-! The checks of a word of commands. -/

@[simp] theorem errIf_eq_nil {c : Bool} {x : Err} : errIf c x = [] ↔ c = false := by
  cases c <;> simp [errIf]

/-- The bits of a word that its fields use. -/
def usedBits (ws : List (Fld × Nat)) : Nat := ws.foldl (fun m p => m ||| (2 ^ p.1.width - 1) <<< p.1.lo) 0

/-- A word of PF0 that holds fields, none of them of the access type RW, in the bits given. -/
def isCommandWord (w o used : Nat) : Bool :=
  !(plainWord w o 0).isEmpty && (plainWord w o 0).all (fun p => p.1.acc != .rw) && usedBits (plainWord w o 0) == used

/-- A value sets no reserved bit where it sets used bits alone (R10). -/
theorem reservedErrs_nil {ws : List (Fld × Nat)} {val : Nat} (h : ∀ b < 32, bitOf (usedBits ws) b = 0 → bitOf val b = 0) :
    reservedErrs ws val = [] := by
  have hnone : (List.range 32).find? (fun b => bitOf val b = 1 && bitOf (usedBits ws) b = 0) = none := by
    refine List.find?_eq_none.2 fun b hb => ?_
    have hbit := h b (List.mem_range.1 hb)
    by_cases hu : bitOf (usedBits ws) b = 0
    · simp [hbit hu]
    · simp [hu]
  unfold usedBits at hnone
  simp only [reservedErrs, hnone]

theorem fieldErrs_command {p : Fld × Nat} (val : Nat) (h : (p.1.acc != .rw) = true) : d.fieldErrs p val = [] := by
  simp [Dev.fieldErrs, h]

/-- All that a write of PF0 in such a word meets is the check of its window. -/
theorem writeErrs_command (t : Nat) {a w o used val : Nat} (hboot : d.mode ≠ .boot) (hmirror : d.mode ≠ .mirror) (ha : winOf a = some (w, o))
    (hw : w < 18) (halign : a % 4 = 0) (hcmd : isCommandWord w o used = true) (hval : ∀ b < 32, bitOf used b = 0 → bitOf val b = 0) :
    d.writeErrs t .pf0 a 0xF val = d.windowErrs t .pf0 w o val := by
  simp only [isCommandWord, Bool.and_eq_true, Bool.not_eq_true', List.all_eq_true, beq_iff_eq] at hcmd
  obtain ⟨⟨hsome, hacc⟩, hused⟩ := hcmd
  have hfields : (plainWord w o 0).flatMap (fun p => d.fieldErrs p val) = [] :=
    List.flatMap_eq_nil_iff.2 fun p hp => fieldErrs_command val (hacc p hp)
  have hword : d.regs.word w o (srcIx .pf0) = plainWord w o 0 := word_eq _ w o _ (view_free w hw)
  simp [Dev.writeErrs, halign, ha, hword, hsome, reservedErrs_nil (ws := plainWord w o 0) (by rwa [hused]), hfields, alignErrs, Dev.roleErrs,
    Dev.bootErrs, hboot, hmirror, errIf]

/-! What the conditions read. -/

theorem mode_kept (h : RegsKept L d e) (hL : hasFld L R.MODE.STATE = false) : e.mode = d.mode := by
  rw [Dev.mode, h.get (by decide) hL, Dev.mode]

theorem counted_kept (src : Source) : RegsKept countFlds d (d.counted src) := (counted_within src).regsKept

theorem mode_counted (src : Source) : (d.counted src).mode = d.mode := mode_kept (counted_kept src) (by decide)

/-- A write of PF0 in a word of commands is accepted when its window finds no error. -/
theorem accepts_command {a w o used val : Nat} (hs : Claim.HostReaches s) (ha : winOf a = some (w, o)) (hw : w < 18) (halign : a % 4 = 0)
    (hcmd : isCommandWord w o used = true) (hval : ∀ b < 32, bitOf used b = 0 → bitOf val b = 0) :
    Accepts s .pf0 a val ↔ (s.dev.counted .pf0).windowErrs s.clk.ns .pf0 w o val = [] := by
  obtain ⟨hup, hboot, hmirror⟩ := hs
  have hchecks := writeErrs_command s.clk.ns (d := s.dev.counted .pf0) (by rwa [mode_counted]) (by rwa [mode_counted]) ha hw halign hcmd hval
  exact ⟨fun h => hchecks ▸ h.clean, fun h => ⟨hup, fun hsrc => absurd hsrc (by decide), hchecks.trans h⟩⟩

/-! The words of the registers. -/

/-- A value below a power of two sets no bit from there on. -/
theorem bitOf_eq_zero {val n b : Nat} (h : val < 2 ^ n) (hb : n ≤ b) : bitOf val b = 0 := by
  rw [bitOf, Nat.shiftRight_eq_div_pow, Nat.div_eq_of_lt (lt_of_lt_of_le h (Nat.pow_le_pow_right (by decide) hb))]

/-- A value of n bits fits a word that uses its low n bits. -/
theorem fits_low {n val : Nat} (hval : val < 2 ^ n) : ∀ b < 32, bitOf (2 ^ n - 1) b = 0 → bitOf val b = 0 := by
  intro b _ hb
  refine bitOf_eq_zero hval (Nat.le_of_not_lt fun hlt => ?_)
  have hone : bitOf (2 ^ n - 1) b = 1 := by
    rw [bitOf, Nat.shiftRight_eq_div_pow, ← Nat.toNat_testBit, Nat.testBit_two_pow_sub_one, decide_eq_true hlt]
    rfl
  rw [hone] at hb
  exact absurd hb one_ne_zero

/-- A mask and the start bit fit the word of CLR_GO. -/
theorem fits_clrGo (m : Nat) : ∀ b < 32, bitOf 0xFFFFFF01 b = 0 → bitOf (65536 * m + 1) b = 0 := by
  have hused : ∀ b < 32, bitOf 0xFFFFFF01 b = 0 → 1 ≤ b ∧ b ≤ 7 := by decide
  intro b hb hbit
  obtain ⟨hlow, hhigh⟩ := hused b hb hbit
  simp only [bitOf]
  interval_cases b <;> omega

theorem word_lastErr : isCommandWord 0 0xC 0x1FFFFFF = true := by decide
theorem word_lease : isCommandWord 1 0 0xF = true := by decide
theorem word_stageOpen : isCommandWord 2 0 0xFFFF = true := by decide
theorem word_testCtl : isCommandWord 8 0x3C 3 = true := by decide
theorem word_lvtCtl : isCommandWord 11 0x48 3 = true := by decide
theorem word_unitClr : isCommandWord 13 0x34 0xFF = true := by decide
theorem word_hbCtl (k : Fin 8) : isCommandWord 11 (0x110 + 0x20 * k) 1 = true := by
  revert k
  decide
theorem word_ringCtl (r : Fin 6) : isCommandWord 6 (0x128 + 0x40 * r) 3 = true := by
  revert r
  decide
theorem word_cellCtl (c : Fin 144) : isCommandWord 7 (0x3C + 0x40 * c) 0xFFFFFF01 = true := by
  revert c
  decide +kernel

/-! Each register's condition. -/

theorem hbUsed_kept (h : RegsKept L d e) (hL : hasFld L R.LVD.HB_CFG = false) (k : Nat) : e.hbUsed k = d.hbUsed k := by
  rw [Dev.hbUsed, h.get (by decide) hL, Dev.hbUsed]

theorem lvtMaskBad_counted (src : Source) (m : Nat) : (d.counted src).lvtMaskBad m = d.lvtMaskBad m := by
  simp only [Dev.lvtMaskBad, hbUsed_kept (counted_kept src) (by decide)]

theorem align_ringCtl (r : Fin 6) : winAddr wFelt (0x128 + 0x40 * r) % 4 = 0 := by
  revert r
  decide

section
variable (hs : Claim.HostReaches s)
include hs

theorem accepts_lastErrClear : Accepts s .pf0 (winAddr wHif 0xC) (2 ^ 24) :=
  (accepts_command hs (by decide : winOf (winAddr wHif 0xC) = some (0, 0xC)) (by decide) (by decide) word_lastErr (by decide)).2 rfl

theorem accepts_acq : Accepts s .pf0 (winAddr wSnap 0) 1 :=
  (accepts_command hs (by decide : winOf (winAddr wSnap 0) = some (1, 0)) (by decide) (by decide) word_lease (by decide)).2 rfl

theorem accepts_rel : Accepts s .pf0 (winAddr wSnap 0) 2 :=
  (accepts_command hs (by decide : winOf (winAddr wSnap 0) = some (1, 0)) (by decide) (by decide) word_lease (by decide)).2 rfl

theorem accepts_stageOpen (txn : BitVec 16) : Accepts s .pf0 (winAddr wStage 0) txn.toNat ↔
    s.dev.get R.STAGE.STAGE_STAT_STATE = 0 ∧ txn.toNat = s.dev.get R.STAGE.STAGE_STAT_NEXT_TXN := by
  have htxn : txn.toNat % 65536 = txn.toNat := Nat.mod_eq_of_lt txn.isLt
  rw [accepts_command hs (winOf_stage (by decide)) (by decide) (by decide) word_stageOpen (fits_low (n := 16) txn.isLt)]
  simp only [Dev.windowErrs, Dev.stageErrs, (counted_kept .pf0).get (f := R.STAGE.STAGE_STAT_STATE) (by decide) (by decide),
    (counted_kept .pf0).get (f := R.STAGE.STAGE_STAT_NEXT_TXN) (by decide) (by decide), htxn]
  by_cases hfree : s.dev.get R.STAGE.STAGE_STAT_STATE = 0
  · simp [hfree]
  · simp [hfree]

theorem accepts_testGo : Accepts s .pf0 (winAddr wMod 0x3C) 1 ↔ s.dev.mode = .test ∧ s.dev.get R.MOD.TEST_PAT ≠ 0 := by
  rw [accepts_command hs winOf_testCtl (by decide) (by decide) word_testCtl (by decide)]
  simp [Dev.windowErrs, Dev.goStopErrs, mode_counted, (counted_kept .pf0).get (f := R.MOD.TEST_PAT) (by decide) (by decide)]

theorem accepts_lvtGo : Accepts s .pf0 (winAddr wLvd 0x48) 1 ↔
    s.dev.mode = .test ∧ s.dev.get R.LVD.LVT_PAT ≠ 0 ∧ s.dev.lvtMaskBad (s.dev.get R.LVD.LVT_MASK) = false := by
  rw [accepts_command hs winOf_lvtCtl (by decide) (by decide) word_lvtCtl (by decide)]
  simp [Dev.windowErrs, Dev.goStopErrs, mode_counted, lvtMaskBad_counted, (counted_kept .pf0).get (f := R.LVD.LVT_PAT) (by decide) (by decide),
    (counted_kept .pf0).get (f := R.LVD.LVT_MASK) (by decide) (by decide)]

theorem accepts_hbClr (k : Fin 8) : Accepts s .pf0 (winAddr wLvd (0x110 + 0x20 * k)) 1 ↔ s.dev.softIn k = false ∧ s.dev.hbUsed k = true := by
  have halign : winAddr wLvd (0x110 + 0x20 * k) % 4 = 0 := by
    revert k
    decide
  have hpat : 0x110 + 0x20 * k.val ≠ 0x48 := by omega
  have hmask : 0x110 + 0x20 * k.val ≠ 0x40 := by omega
  rw [accepts_command hs (winOf_hbCtl k) (by decide) halign (word_hbCtl k) (by decide)]
  simp [Dev.windowErrs, hpat, hmask, groupAt_hbCtl, softIn_kept (counted_kept .pf0) (by decide), hbUsed_kept (counted_kept .pf0) (by decide)]

theorem accepts_clrGo (c : Fin 144) (mask : BitVec 16) : Accepts s .pf0 (winAddr wCell (0x3C + 0x40 * c)) (65536 * mask.toNat + 1) ↔
    mask.toNat ≠ 0 ∧ s.dev.get R.CELL.CLR_RESULT c ≠ 1 ∧ s.dev.cellUsed c = true := by
  have halign : winAddr wCell (0x3C + 0x40 * c) % 4 = 0 := by
    have hbase : winAddr wCell (0x3C + 0x40 * c) = 0xA0000 + (0x3C + 0x40 * c.val) := rfl
    omega
  have hslot : (0x3C + 0x40 * c.val) % 0x40 = 0x3C := by omega
  have hix : (0x3C + 0x40 * c.val) / 0x40 = c.val := by omega
  have hgo : (65536 * mask.toNat + 1) % 2 ≠ 0 := by omega
  have hmask : (65536 * mask.toNat + 1) / 65536 = mask.toNat := by omega
  have hused : (s.dev.counted .pf0).cellUsed c = s.dev.cellUsed c := by
    rw [Dev.cellUsed, Dev.is, get_counted _ _ _ (by decide) (by decide)]
    rfl
  rw [accepts_command hs (winOf_cellCtl c) (by decide) halign (word_cellCtl c) (fits_clrGo _)]
  simp [Dev.windowErrs, hslot, hix, Dev.clrErrs, hgo, hmask, hused, (counted_kept .pf0).get (f := R.CELL.CLR_RESULT) (by decide) (by decide)]

theorem accepts_retrain (r : Fin 6) : Accepts s .pf0 (winAddr wFelt (0x128 + 0x40 * r)) 1 ↔
    (s.dev.mode = .idle ∨ s.dev.mode = .test) ∧ (s.dev.is R.FELT.SUPERSEDED = true → s.dev.strapped = true) := by
  have hstrap : (s.dev.counted .pf0).strapped = s.dev.strapped := by
    rw [Dev.strapped, get_counted _ _ _ (by decide) (by decide), Dev.strapped]
  have hsup : (s.dev.counted .pf0).is R.FELT.SUPERSEDED = s.dev.is R.FELT.SUPERSEDED := by
    rw [Dev.is, get_counted _ _ _ (by decide) (by decide), Dev.is]
  rw [accepts_command hs (winOf_ringCtl r) (by decide) (align_ringCtl r) (word_ringCtl r) (by decide)]
  simp [Dev.windowErrs, groupAt_ringCtl, Dev.ringCtlErrs, Dev.inMode, mode_counted, hstrap, hsup, bitOf, or_iff_not_imp_left]

theorem accepts_asymClr (r : Fin 6) : Accepts s .pf0 (winAddr wFelt (0x128 + 0x40 * r)) 2 ↔ s.dev.asymBack r = true := by
  have hback : (s.dev.counted .pf0).asymBack r = s.dev.asymBack r := by
    have hrho : (s.dev.counted .pf0).getInt R.FELT.RING_RHO r = s.dev.getInt R.FELT.RING_RHO r := by
      rw [Dev.getInt, get_counted _ _ _ (by decide) (by decide), Dev.getInt]
    have hthr : (s.dev.counted .pf0).asymThr = s.dev.asymThr := by
      rw [Dev.asymThr, get_counted _ _ _ (by decide) (by decide), Dev.asymThr]
    rw [Dev.asymBack, hrho, hthr, Dev.asymBack]
  rw [accepts_command hs (winOf_ringCtl r) (by decide) (align_ringCtl r) (word_ringCtl r) (by decide)]
  simp [Dev.windowErrs, groupAt_ringCtl, Dev.ringCtlErrs, hback, bitOf]

theorem accepts_unitClr (u : BitVec 8) : Accepts s .pf0 (winAddr wFlt 0x34) u.toNat ↔ u.toNat < 173 ∨ u.toNat = 255 := by
  have hu := u.isLt
  have hmod : u.toNat % 256 = u.toNat := Nat.mod_eq_of_lt hu
  rw [accepts_command hs (by decide : winOf (winAddr wFlt 0x34) = some (13, 0x34)) (by decide) (by decide) word_unitClr (fits_low (n := 8) hu)]
  simp [Dev.windowErrs, hmod]
  omega

end

/-- Settles O11: a word of commands meets the check of its window alone. -/
theorem whenAccepted : Obligations.WhenAccepted := fun _ hs txn mask k c r u =>
  ⟨accepts_lastErrClear hs, accepts_acq hs, accepts_rel hs, accepts_stageOpen hs txn, accepts_testGo hs, accepts_lvtGo hs, accepts_hbClr hs k,
    accepts_clrGo hs c mask, accepts_retrain hs r, accepts_asymClr hs r, accepts_unitClr hs u⟩

end Sys2Proof.Machine
end

section
/-! PROOFS. The checks of the clocks and the refresh of time of day (R75, R78, R82, R92). -/
namespace Sys2Proof.Machine
variable {L : List Fld} {d e : Dev} {s : State}

/-- DOMAIN_OK follows the locks and the keep-alive count. -/
theorem clkStat_within : Within [R.TB.DOMAIN_OK] d d.clkStat := by
  unfold Dev.clkStat
  simp (disch := decide)

theorem kaCheck_untrusted (hon : s.dev.supervised = true) {cycles : Nat} (h : 16 < ((cycles : Int) - 32768).natAbs) :
    Does (.kaCheck cycles) s fun d => d.get I.TB.KA_TRUST = 0 ∧ Raised d 0 6 ∧ Within (raiseFlds ++ [I.TB.KA_TRUST, R.TB.DOMAIN_OK]) s.dev d := by
  have hx : exec (.kaCheck cycles) s =
      .next { s with dev := (((s.dev.put I.TB.KA_TRUST 0).clkStat).raise s.clk.ns 0 6 0 true).settle s.clk.ns } := by
    simp [exec, execKaCheck, State.onDev, hon, h]
  have hput : Within (raiseFlds ++ [I.TB.KA_TRUST, R.TB.DOMAIN_OK]) s.dev (s.dev.put I.TB.KA_TRUST 0) := .of_put _ _ _ _ (by decide) (by decide)
  refine ⟨_, hx, ?_, raise_raised _ _ _ _ _ (by decide),
    (hput.trans (clkStat_within.mono (by decide))).trans ((raise_within _ _ _ _ _).mono (by decide))⟩
  rw [Dev.get_raise _ _ _ _ _ _ _ (by decide) (by decide), clkStat_within.regs _ (by decide) (by decide) _ rfl, Dev.get_put_same]
  exact Nat.zero_mod _

theorem kaCheck_within (hon : s.dev.supervised = true) {cycles : Nat} (h : ((cycles : Int) - 32768).natAbs ≤ 16) :
    Does (.kaCheck cycles) s fun d => (∀ a ∈ d.active, a.cls = 0 → a.inst = 6 → a.held = false) ∧ Within [] s.dev d := by
  have hx : exec (.kaCheck cycles) s = .next { s with dev := (s.dev.lower 0 6).settle s.clk.ns } := by
    simp [exec, execKaCheck, State.onDev, hon, Nat.not_lt.mpr h]
  exact ⟨_, hx, fun a ha => lower_released ha, (within_lower 0 6).2 (.refl _)⟩

theorem fifoOverflow_raises (hon : s.dev.supervised = true) (fifo : BitVec 16) :
    Does (.fifoOverflow fifo) s fun d => Raised d 0 8 ∧ Within raiseFlds s.dev d := by
  have hx : exec (.fifoOverflow fifo) s = .next { s with dev := (s.dev.raise s.clk.ns 0 8 fifo.toNat).settle s.clk.ns } := by
    simp [exec, execFifoOverflow, State.onDev, hon]
  exact ⟨_, hx, raise_raised _ _ _ _ _ (by decide), raise_within _ _ _ _ _⟩

/-! The mapping of time of day (R82). -/

/-- The fields of the mapping. -/
def todFlds : List Fld := [R.TB.TOD_SEC_LO, R.TB.TOD_SEC_HI, R.TB.TOD_REF_NS32, I.NET.REF_NS]

theorem ofInt_lt (w : Nat) (i : Int) : ofInt w i < 2 ^ w := by
  have hlt : i % (2 ^ w : Int) < 2 ^ w := Int.emod_lt_of_pos i (by positivity)
  have hnn : 0 ≤ i % (2 ^ w : Int) := Int.emod_nonneg i (by positivity)
  rw [ofInt, Int.toNat_lt hnn]
  exact_mod_cast hlt

theorem setTod_maps (sec ref : Int) : (d.setTod sec ref).get R.TB.TOD_SEC_LO = ofInt 64 sec % 2 ^ 32 ∧
    (d.setTod sec ref).get R.TB.TOD_SEC_HI = ofInt 64 sec / 2 ^ 32 ∧ (d.setTod sec ref).get R.TB.TOD_REF_NS32 = ofInt 32 ref ∧
    Within todFlds d (d.setTod sec ref) := by
  have hsec : ofInt 64 sec < 2 ^ 64 := ofInt_lt 64 sec
  have hhigh : ofInt 64 sec / 2 ^ 32 % 2 ^ 32 = ofInt 64 sec / 2 ^ 32 := Nat.mod_eq_of_lt (by omega)
  have href : ofInt 32 ref % 2 ^ 32 = ofInt 32 ref := Nat.mod_eq_of_lt (ofInt_lt 32 ref)
  unfold Dev.setTod Dev.putInt
  refine ⟨?_, ?_, ?_, by simp (disch := decide)⟩
  · simp (disch := decide)
    rfl
  · simp (disch := decide)
    exact hhigh
  · simp (disch := decide)
    exact href

theorem todRefresh_maps (hon : s.dev.supervised = true) {n : Int} (hn : n = ((s.clk.ns : Int) - s.dev.getInt I.NET.REF_NS) / 1000000000) (hpos : 0 < n) :
    Gives .todRefresh s fun t =>
      t.dev.get R.TB.TOD_SEC_LO = ofInt 64 (s.dev.todSec + n) % 2 ^ 32 ∧ t.dev.get R.TB.TOD_SEC_HI = ofInt 64 (s.dev.todSec + n) / 2 ^ 32 ∧
      t.dev.get R.TB.TOD_REF_NS32 = ofInt 32 (s.dev.getInt I.NET.REF_NS + n * 1000000000) ∧ Frame todFlds s t := by
  have hmode : s.dev.mode ≠ .backup := by
    simp only [Dev.supervised, Bool.and_eq_true, bne_iff_ne] at hon
    exact hon.1
  have hx : exec .todRefresh s = .next { s with dev := s.dev.setTod (s.dev.todSec + n) (s.dev.getInt I.NET.REF_NS + n * 1000000000) } := by
    subst hn
    simp only [exec, execTodRefresh, State.onDev, hmode, if_false, Dev.todRefresh, Int.not_le.mpr hpos]
  obtain ⟨hlo, hhi, href, hwithin⟩ := setTod_maps (d := s.dev) (s.dev.todSec + n) (s.dev.getInt I.NET.REF_NS + n * 1000000000)
  exact ⟨_, hx, hlo, hhi, href, hwithin, rfl, rfl, rfl⟩

/-- Settles O27: a check by what it raises, the refresh by the mapping that it sets. -/
theorem clockChecks : Obligations.ClockChecks := fun _ _ fifo hon =>
  ⟨kaCheck_untrusted hon, kaCheck_within hon, fifoOverflow_raises hon fifo, fun _ hn hpos => todRefresh_maps hon hn hpos⟩

end Sys2Proof.Machine
end

section
/-! PROOFS. The lock of PLL_T, lost and back (R92, R94). -/
namespace Sys2Proof.Machine
variable {L : List Fld} {d e : Dev} {s : State}

theorem RegsKept.ite {p : Prop} [Decidable p] {a b : Dev} (ha : RegsKept L d a) (hb : RegsKept L d b) : RegsKept L d (if p then a else b) := by
  split <;> assumption

theorem RegsKept.onlyIf (b : Bool) {g : Dev → Dev} (h : RegsKept L d (g d)) : RegsKept L d (d.onlyIf b g) := .ite h (.refl d)

theorem RegsKept.of_forN {n : Nat} {g : Dev → Nat → Dev} (h : ∀ e x, RegsKept L e (g e x)) : RegsKept L d (d.forN n g) := .of_foldl g h _ _

theorem RegsKept.mode (h : RegsKept L d e) (hL : hasFld L R.MODE.STATE = false) : e.mode = d.mode := mode_kept h hL

/-! Entry to IDLE (R135, R374, R435). -/

/-- What an entry to IDLE writes beside the record of the mode. -/
def idleFlds : List Fld :=
  raiseFlds ++ partStatusFlds ++ [I.THERM.BIN_CNT, R.FLT.SIGOK_STATE, R.FLT.SIGOK_PIN, R.FLT.ALIVE, R.SAFE.PERMIT_SOP, R.SAFE.PERMIT_SOM]

theorem teaselEnd_kept : RegsKept [I.THERM.BIN_CNT] d d.teaselEnd := by
  refine RegsKept.of_foldl _ (fun e r => .of_foldl _ (fun e p => ?_) _ _) _ d
  exact (Within.of_put _ _ _ _ (by decide) (by decide)).regsKept

theorem teaselIdle_kept (t : Nat) : RegsKept idleFlds d (d.teaselIdle t) :=
  (teaselEnd_kept.mono (by decide)).trans fun f hf hL i => by
    obtain ⟨-, -, hrecord⟩ := teaselRecord_asks (d := d.teaselEnd) t
    exact hrecord.regs f hf (hasFld_false_of_sub (by decide) hL) i rfl

theorem sigTest_kept : RegsKept idleFlds d d.sigTest := by
  refine .ite (Within.regsKept ?_) (.refl d)
  unfold Dev.sigPulseStart
  simp (disch := decide)

theorem safePermits_kept : RegsKept idleFlds d d.safePermits := by
  refine Within.regsKept ?_
  unfold Dev.safePermits Dev.flag
  simp (disch := decide)

/-- Out of SAFE, an entry to IDLE ends what STOPPING or TEST has begun. -/
theorem enterMode_idle_kept (t cause : Nat) (hsafe : d.mode ≠ .safe) :
    RegsKept idleFlds (d.modeSet .idle cause) (d.enterMode t .idle cause) := by
  have haction : RegsKept idleFlds (d.modeSet .idle cause) ((d.modeSet .idle cause).entryAction t d.mode .idle) := by
    simp only [Dev.entryAction, hsafe, if_false]
    exact .ite (teaselIdle_kept t) (.refl _)
  exact ((haction.trans (.onlyIf _ sigTest_kept)).trans ((partStatus_within t).regsKept.mono (by decide))).trans safePermits_kept

theorem enterMode_idle_mode (t cause : Nat) (hsafe : d.mode ≠ .safe) : (d.enterMode t .idle cause).mode = .idle :=
  ((enterMode_idle_kept t cause hsafe).mode (by decide)).trans (modeSet_mode _ _)

/-- The fields of the loss that an entry to IDLE leaves. -/
def lossFlds : List Fld := [R.TB.PLL_T_LOCK, R.TB.DECKLE_RUN, R.FELT.RING_STATE]

theorem enterMode_idle_get (t cause : Nat) (hsafe : d.mode ≠ .safe) {f : Fld} (hf : f ∈ lossFlds) (i : Nat) :
    (d.enterMode t .idle cause).get f i = d.get f i := by
  have hout : ∀ f ∈ lossFlds, f.id < 2048 ∧ hasFld idleFlds f = false ∧ hasFld (dueFlds ++ [R.MODE.STATE, R.MODE.PREV, R.MODE.ENTRY_CAUSE,
      R.MODE.MODE_FRAMES, R.MODE.TRANS_CNT, R.MODE.RET_MODE, R.MODE.PRE_PHASE, R.HIF.SUM_MODE]) f = false := by decide
  obtain ⟨hid, hidle, hset⟩ := hout f hf
  rw [(enterMode_idle_kept t cause hsafe).get hid hidle, (modeSet_within _ _).regs f hid hset i rfl]

/-! PLL_T_UNLOCK (R92, R94). -/

/-- TB and the Deckle stop, and with them the engine's frame and HB_OUT. -/
def Dev.timebaseStopped (d : Dev) : Dev :=
  (((((d.put R.TB.PLL_T_LOCK 0).put R.TB.DECKLE_RUN 0).put I.CE.BUSY 0).put I.CE.STARTED 0).put I.PART.HB_OUT 0).clkStat

/-- Every ring and Gen1 link is down. -/
def Dev.linksStopped (d : Dev) : Dev := (d.forN 6 (fun d r => d.ringTo r ringDown)).forN 16 (fun d n => d.lfTo n 0)

/-- The mode of a module whose timebase has stopped. -/
def Dev.unlockedMode (d : Dev) (t : Nat) : Dev := if d.inMode [.safe, .boot, .idle] then d else d.enterMode t .idle 3

theorem pllTLost_eq (t : Nat) : d.pllTLost t = (d.timebaseStopped.linksStopped.unlockedMode t).raise t 0 3 0 true := rfl

theorem timebaseStopped_within :
    Within [R.TB.PLL_T_LOCK, R.TB.DECKLE_RUN, I.CE.BUSY, I.CE.STARTED, I.PART.HB_OUT, R.TB.DOMAIN_OK] d d.timebaseStopped := by
  unfold Dev.timebaseStopped
  exact Within.trans (by simp (disch := decide)) (clkStat_within.mono (by decide))

theorem timebaseStopped_get : d.timebaseStopped.get R.TB.PLL_T_LOCK = 0 ∧ d.timebaseStopped.get R.TB.DECKLE_RUN = 0 := by
  unfold Dev.timebaseStopped
  constructor <;> rw [clkStat_within.regs _ (by decide) (by decide) _ rfl] <;> simp (disch := decide)

theorem linksStopped_kept : RegsKept (ringToFlds ++ lfToFlds) d d.linksStopped :=
  (RegsKept.of_forN fun _ r => (ringTo_flds r _).regsKept.mono (by decide)).trans
    (.of_forN fun _ n => (lfTo_within n _).regsKept.mono (by decide))

theorem linksStopped_down {r : Nat} (hr : r < 6) : d.linksStopped.get R.FELT.RING_STATE r = ringDown := by
  have hlf : RegsKept lfToFlds (d.forN 6 fun d r => d.ringTo r ringDown) d.linksStopped := .of_forN fun _ n => (lfTo_within n _).regsKept
  rw [hlf.get (by decide) (by decide)]
  refine forN_establishes (Q := fun e => e.get R.FELT.RING_STATE r = ringDown) hr (fun e => ringTo_state r ringDown) (fun e j hj hjr he => ?_)
  have hother : hasEl (ringEls j) R.FELT.RING_STATE r = false :=
    hasEl_map_other ringOwnFlds (lt_trans hj (by decide)) (lt_trans hr (by decide)) (Ne.symm hjr) _
  rw [(ringTo_within j ringDown).regs _ (by decide) (by decide) _ hother, he]

theorem unlockedMode_get (t : Nat) {f : Fld} (hf : f ∈ lossFlds) (i : Nat) : (d.unlockedMode t).get f i = d.get f i := by
  unfold Dev.unlockedMode
  split
  · rfl
  · next h =>
    refine enterMode_idle_get t 3 (fun hsafe => h ?_) hf i
    simp [Dev.inMode, hsafe]

theorem unlockedMode_stays (t : Nat) (h : d.inMode [.safe, .boot, .idle] = true) : d.unlockedMode t = d := by
  rw [Dev.unlockedMode, if_pos h]

theorem unlockedMode_idle (t : Nat) (h : d.inMode [.safe, .boot, .idle] = false) : (d.unlockedMode t).mode = .idle := by
  have hsafe : d.mode ≠ .safe := fun hsafe => by simp [Dev.inMode, hsafe] at h
  rw [Dev.unlockedMode, h]
  exact enterMode_idle_mode t 3 hsafe

theorem timebaseStopped_mode : d.timebaseStopped.linksStopped.mode = d.mode :=
  (linksStopped_kept.mode (by decide)).trans (timebaseStopped_within.regsKept.mode (by decide))

/-- What the loss of the lock leaves. -/
structure LockLost (d e : Dev) : Prop where
  lock : e.get R.TB.PLL_T_LOCK = 0
  deckle : e.get R.TB.DECKLE_RUN = 0
  raised : Raised e 0 3
  stays : d.inMode [.safe, .boot, .idle] = true → e.mode = d.mode
  idle : d.inMode [.safe, .boot, .idle] = false → e.mode = .idle
  rings : ∀ r < 6, e.get R.FELT.RING_STATE r = ringDown

theorem pllTLost_lost (t : Nat) : LockLost d (d.pllTLost t) := by
  have hraise : ∀ (e : Dev) (f : Fld) (i : Nat), f.id < 2048 → hasFld raiseFlds f = false → (e.raise t 0 3 0 true).get f i = e.get f i :=
    fun e f i hf hL => Dev.get_raise _ _ _ _ _ _ _ hf hL
  have hmode : ∀ e : Dev, (e.raise t 0 3 0 true).mode = e.mode := fun e => (raise_within _ _ _ _ _).regsKept.mode (by decide)
  have hin : d.timebaseStopped.linksStopped.inMode [.safe, .boot, .idle] = d.inMode [.safe, .boot, .idle] := by
    rw [Dev.inMode, timebaseStopped_mode, Dev.inMode]
  obtain ⟨hlock, hdeckle⟩ := timebaseStopped_get (d := d)
  rw [pllTLost_eq]
  refine ⟨?_, ?_, raise_raised _ _ _ _ _ (by decide), fun h => ?_, fun h => ?_, fun r hr => ?_⟩
  · rw [hraise _ _ _ (by decide) (by decide), unlockedMode_get t (by decide), linksStopped_kept.get (by decide) (by decide), hlock]
  · rw [hraise _ _ _ (by decide) (by decide), unlockedMode_get t (by decide), linksStopped_kept.get (by decide) (by decide), hdeckle]
  · rw [hmode, unlockedMode_stays t (hin.trans h), timebaseStopped_mode]
  · rw [hmode, unlockedMode_idle t (hin.trans h)]
  · rw [hraise _ _ _ (by decide) (by decide), unlockedMode_get t (by decide), linksStopped_down hr]

theorem pllTUnlock_does (hon : s.dev.supervised = true) (hlock : s.dev.is R.TB.PLL_T_LOCK = true) : Does .pllTUnlock s (LockLost s.dev) := by
  have hx : exec .pllTUnlock s = .next { s with dev := (s.dev.pllTLost s.clk.ns).settle s.clk.ns } := by
    simp [exec, execPllTUnlock, State.onDev, hon, hlock]
  exact ⟨_, hx, pllTLost_lost _⟩

/-! PLL_T_RELOCK (R94). -/

/-- What the links write as they start or stop with the timebase. -/
def upFlds : List Fld := [I.CELL.ID_BITS, I.FELT.LANES] ++ ringToFlds ++ lfToFlds

theorem toTrain_ring_kept {r : Nat} (hr : r < 6) : RegsKept upFlds d (d.toTrain r) := by
  have hwithin : MgtWithin upFlds d (d.toTrain r) := (toTrain_ring_within hr).wholeFlds (by decide) (by decide)
  exact hwithin.regsKept

theorem feltUp_kept : RegsKept upFlds d d.feltUp := by
  unfold Dev.feltUp
  refine RegsKept.trans ?_ (.of_forN fun e n => ?_)
  · refine List.foldlRecOn (motive := RegsKept upFlds d) _ _ (.refl d) fun e he r hr => he.trans ?_
    refine .ite (.ite (.refl e) ((ringTo_flds r _).regsKept.mono (by decide))) (.ite ?_ (.refl e))
    exact toTrain_ring_kept (List.mem_range.1 hr)
  · refine .ite (.ite (.refl e) ((lfTo_within n _).regsKept.mono (by decide))) (.ite ?_ (.refl e))
    exact (toTrain_lf_within n).regsKept.mono (by decide)

/-- The module with its timebase locked again, before the Deckle starts. -/
def Dev.relocked (d : Dev) (t : Nat) : Dev := ((((d.put R.TB.PLL_T_LOCK 1).clkStat).lower 0 3).feltUp).settle t

/-- What follows the lock itself. -/
theorem relocked_after (t : Nat) : RegsKept (R.TB.DOMAIN_OK :: upFlds ++ settleFlds) (d.put R.TB.PLL_T_LOCK 1) (d.relocked t) :=
  ((clkStat_within.regsKept.mono (by decide)).trans
    ((feltUp_kept (d := ((d.put R.TB.PLL_T_LOCK 1).clkStat).lower 0 3)).mono (by decide))).trans ((settle_within t).regsKept.mono (by decide))

theorem relocked_lock (t : Nat) : (d.relocked t).get R.TB.PLL_T_LOCK = 1 :=
  ((relocked_after t).get (by decide) (by decide) 0).trans (get_put_one _ (by decide) _)

theorem relocked_frame (t : Nat) : (d.relocked t).get R.TB.FRAME_NO_LIVE = d.get R.TB.FRAME_NO_LIVE := by
  rw [(relocked_after t).get (by decide) (by decide), Dev.get_put_ne _ _ _ _ _ _ (by decide) (by decide) (.inl (by decide))]

theorem relocked_supervised (t : Nat) : (d.relocked t).supervised = d.supervised :=
  ((relocked_after t).supervised (by decide) (by decide)).trans
    ((Within.of_put (L := [R.TB.PLL_T_LOCK]) _ _ _ _ (by decide) (by decide)).regsKept.supervised (by decide) (by decide))

theorem pllTRelock_gives (hpast : s.dev.pastLock = true) (hlock : s.dev.is R.TB.PLL_T_LOCK = false) : Gives .pllTRelock s fun t =>
    t.dev.get R.TB.PLL_T_LOCK = 1 ∧ t.dev.is R.TB.DECKLE_RUN = true ∧ t.dev.get R.TB.FRAME_NO_LIVE = s.dev.get R.TB.FRAME_NO_LIVE ∧
    t.clk.ns = s.clk.ns ∧ t.clk.frac = s.clk.frac ∧ t.otp = s.otp ∧ t.pending = s.pending := by
  have hx : exec .pllTRelock s = .next (State.startDeckle { s with dev := s.dev.relocked s.clk.ns }) := by
    simp [exec, execPllTRelock, hpast, hlock, Dev.relocked]
  have hon : s.dev.supervised = true := by
    simp only [Dev.pastLock, Bool.and_eq_true] at hpast
    exact hpast.1
  have hstart := (startDeckle_within s (s.dev.relocked s.clk.ns)).regsKept
  exact ⟨_, hx, (hstart.get (by decide) (by decide) 0).trans (relocked_lock _),
    startDeckle_runs s (relocked_lock _) ((relocked_supervised _).trans hon),
    (hstart.get (by decide) (by decide) 0).trans (relocked_frame _), startDeckle_frame s _⟩

/-- Settles O25: what stops with the lock by the mode and the links that it leaves, the relock by the start of the Deckle. -/
theorem timebaseLock : Obligations.TimebaseLock := by
  refine fun s => ⟨fun hon hlock => ?_, pllTRelock_gives⟩
  obtain ⟨d, hx, hlost⟩ := pllTUnlock_does hon hlock
  exact ⟨d, hx, hlost.lock, hlost.deckle, hlost.raised, hlost.stays, hlost.idle, hlost.rings⟩

end Sys2Proof.Machine
end

section
/-! PROOFS. FRAME_NO is written where a frame is numbered and nowhere else in a boundary (R84): the operations. -/
namespace Sys2Proof.Machine
variable {L : List Fld} {E : List (Fld × Nat)} {d e : Dev}

/-- FRAME_NO, the number that a join or an order has set for the next frame, and the mark that a frame has begun since power-up. -/
def numFlds : List Fld := [R.TB.FRAME_NO_LIVE, I.TB.NO_NEXT, I.TB.STARTED]

/-- What R84 numbers the next frame from. -/
def Dev.numbers (d : Dev) : List Nat := numFlds.map (fun f => d.get f)

/-- A field that is none of those. -/
def Fld.free (f : Fld) : Bool := decide (f.id < 2048) && numFlds.all (fun g => g.id != f.id)

theorem numbers_of_get (h : ∀ f ∈ numFlds, e.get f = d.get f) : e.numbers = d.numbers := List.map_congr_left h

theorem RegsKept.numbers (h : RegsKept L d e) (hL : numFlds.all (fun f => !hasFld L f) = true) : e.numbers = d.numbers := by
  refine numbers_of_get fun f hf => ?_
  have hid : ∀ f ∈ numFlds, f.id < 2048 := by decide
  have hnot := List.all_eq_true.1 hL f hf
  exact h.get (hid f hf) (by simpa using hnot) 0

theorem Within.numbers (h : Within L d e E) (hL : numFlds.all (fun f => !hasFld L f) = true)
    (hE : numFlds.all (fun f => !hasEl E f 0) = true) : e.numbers = d.numbers := by
  refine numbers_of_get fun f hf => ?_
  have hid : ∀ f ∈ numFlds, f.id < 2048 := by decide
  have hnot := List.all_eq_true.1 hL f hf
  have hnotE := List.all_eq_true.1 hE f hf
  exact h.regs f (hid f hf) (by simpa using hnot) 0 (by simpa using hnotE)

@[simp] theorem numbers_put (f : Fld) (v i : Nat) (h : f.free = true) : (d.put f v i).numbers = d.numbers := by
  simp only [Fld.free, Bool.and_eq_true, decide_eq_true_eq, List.all_eq_true, bne_iff_ne] at h
  obtain ⟨hid, hne⟩ := h
  have hids : ∀ g ∈ numFlds, g.id < 2048 := by decide
  exact numbers_of_get fun g hg => Dev.get_put_ne _ _ _ _ _ _ hid (hids g hg) (.inl (hne g hg).symm)

@[simp] theorem numbers_putInt (f : Fld) (v : Int) (i : Nat) (h : f.free = true) : (d.putInt f v i).numbers = d.numbers := numbers_put _ _ _ h
@[simp] theorem numbers_flag (f : Fld) (b : Bool) (i : Nat) (h : f.free = true) : (d.flag f b i).numbers = d.numbers := numbers_put _ _ _ h
@[simp] theorem numbers_bump (f : Fld) (i n : Nat) (h : f.free = true) : (d.bump f i n).numbers = d.numbers := numbers_put _ _ _ h
@[simp] theorem numbers_wrap (f : Fld) (i n : Nat) (h : f.free = true) : (d.wrap f i n).numbers = d.numbers := numbers_put _ _ _ h
@[simp] theorem numbers_setBitOf (f : Fld) (k : Nat) (b : Bool) (i : Nat) (h : f.free = true) : (d.setBitOf f k b i).numbers = d.numbers :=
  numbers_put _ _ _ h
@[simp] theorem numbers_instBit (f : Fld) (c i : Nat) (b : Bool) (h : f.free = true) : (d.instBit f c i b).numbers = d.numbers :=
  numbers_put _ _ _ h
@[simp] theorem numbers_sumOne (f : Fld) (src : Source) (h : f.free = true) : (d.sumOne f src).numbers = d.numbers := numbers_put _ _ _ h
@[simp] theorem numbers_sumAll (f : Fld) (h : f.free = true) : (d.sumAll f).numbers = d.numbers := by simp [Dev.sumAll, h]

/-- The registers hold the numbers, whatever else the module holds. -/
@[simp] theorem numbers_mk (answer visible hidden implicit cspi ream nvm rain net mirrorIn forwards ret active lvEdges lvNext lvRetry mgt outbox draws) :
    (Dev.mk d.regs answer visible hidden implicit cspi ream nvm rain net mirrorIn forwards ret active lvEdges lvNext lvRetry mgt outbox draws).numbers =
      d.numbers := rfl

@[simp] theorem numbers_ite (p : Prop) [Decidable p] (a b : Dev) : (if p then a else b).numbers = if p then a.numbers else b.numbers :=
  apply_ite Dev.numbers p a b

@[simp] theorem numbers_foldl {α : Type} (g : Dev → α → Dev) (h : ∀ e x, (g e x).numbers = e.numbers) (l : List α) :
    (l.foldl g d).numbers = d.numbers :=
  List.foldlRecOn (motive := fun e => e.numbers = d.numbers) l g rfl fun e he x _ => (h e x).trans he

theorem numbers_foldl_mem {α : Type} (g : Dev → α → Dev) (l : List α) (h : ∀ e, ∀ x ∈ l, (g e x).numbers = e.numbers) :
    (l.foldl g d).numbers = d.numbers :=
  List.foldlRecOn (motive := fun e => e.numbers = d.numbers) l g rfl fun e he x hx => (h e x hx).trans he

@[simp] theorem numbers_forN (n : Nat) (g : Dev → Nat → Dev) (h : ∀ e x, (g e x).numbers = e.numbers) : (d.forN n g).numbers = d.numbers :=
  numbers_foldl g h _

@[simp] theorem numbers_onlyIf (b : Bool) (g : Dev → Dev) (h : ∀ e, (g e).numbers = e.numbers) : (d.onlyIf b g).numbers = d.numbers := by
  unfold Dev.onlyIf
  split
  · exact h d
  · rfl

@[simp] theorem numbers_fill (f : Fld) (v : Nat) (h : f.free = true) : (d.fill f v).numbers = d.numbers := numbers_foldl _ (fun _ _ => numbers_put _ _ _ h) _

end Sys2Proof.Machine
end

section
/-! PROOFS. What a boundary runs keeps FRAME_NO: the faults, the LV port, the links and the modulator (R84). -/
namespace Sys2Proof.Machine
variable {d : Dev}

/-! Operations. -/

@[simp] theorem perf_numbers (b ev : Nat) (inst n : Nat) : (d.perf b ev inst n).numbers = d.numbers :=
  (perf_within b ev inst n).numbers (by decide) (by decide)
@[simp] theorem carry_numbers (p n : Nat) : (d.carry p n).numbers = d.numbers := by simp +decide [Dev.carry]
@[simp] theorem carryRing_numbers (ix n : Nat) : (d.carryRing ix n).numbers = d.numbers := by simp +decide [Dev.carryRing]
@[simp] theorem send_numbers (o : Out) : (d.send o).numbers = d.numbers := by simp +decide [Dev.send]
@[simp] theorem reject_numbers (src : Source) (e : Err) (off : Nat) (implicit : Bool) : (d.reject src e off implicit).numbers = d.numbers := by
  simp +decide [Dev.reject]
@[simp] theorem draw_numbers : d.draw.numbers = d.numbers := by simp +decide [Dev.draw]

/-! The fault collector. -/

@[simp] theorem setActive_numbers (l : List Active) : (d.setActive l).numbers = d.numbers := by simp +decide [Dev.setActive]
@[simp] theorem mapActive_numbers (cls inst : Nat) (g : Active → Active) : (d.mapActive cls inst g).numbers = d.numbers := by
  simp +decide [Dev.mapActive]
@[simp] theorem fltStatus_numbers : d.fltStatus.numbers = d.numbers := fltStatus_within.numbers (by decide) (by decide)
@[simp] theorem sigPulseStart_numbers : d.sigPulseStart.numbers = d.numbers := by simp +decide [Dev.sigPulseStart]
@[simp] theorem tripIssue_numbers (t src : Nat) : (d.tripIssue t src).numbers = d.numbers := (tripIssue_within t src).numbers (by decide) (by decide)
@[simp] theorem reactNow_numbers (t code : Nat) : (d.reactNow t code).numbers = d.numbers := (reactNow_within t code).numbers (by decide) (by decide)
@[simp] theorem logEntry_numbers (t : Nat) (e : Entry) : (d.logEntry t e).1.numbers = d.numbers :=
  (logEntry_within t e).numbers (by decide) (by decide)
@[simp] theorem raise_numbers (t cls : Nat) (inst detail : Nat) (held : Bool) : (d.raise t cls inst detail held).numbers = d.numbers :=
  (raise_within t cls inst detail held).numbers (by decide) (by decide)
@[simp] theorem raiseState_numbers (t cls : Nat) (inst detail : Nat) : (d.raiseState t cls inst detail).numbers = d.numbers :=
  (raiseState_within t cls inst detail).numbers (by decide) (by decide)
@[simp] theorem lower_numbers (cls inst : Nat) : (d.lower cls inst).numbers = d.numbers := by simp +decide [Dev.lower]
@[simp] theorem quietFrom_numbers (t : Nat) (starts : Active → Bool) : (d.quietFrom t starts).numbers = d.numbers := by simp +decide [Dev.quietFrom]
@[simp] theorem startQuiet_numbers (t : Nat) : (d.startQuiet t).numbers = d.numbers := by simp +decide [Dev.startQuiet]
@[simp] theorem endQuiet_numbers (t : Nat) : (d.endQuiet t).numbers = d.numbers := by simp +decide [Dev.endQuiet]
@[simp] theorem openWindow_numbers (t u : Nat) : (d.openWindow t u).numbers = d.numbers := by simp +decide [Dev.openWindow]
@[simp] theorem release_numbers (t : Nat) (a : Active) (hostClr : Bool) : (d.release t a hostClr).numbers = d.numbers := by simp +decide [Dev.release]
@[simp] theorem countRecov_numbers (us : List Nat) : (d.countRecov us).numbers = d.numbers := by simp +decide [Dev.countRecov]
@[simp] theorem lockOut_numbers (t : Nat) (a : Active) (full : List Nat) : (d.lockOut t a full).numbers = d.numbers := by simp +decide [Dev.lockOut]
@[simp] theorem recoverAuto_numbers (t : Nat) (a : Active) : (d.recoverAuto t a).numbers = d.numbers := by simp +decide [Dev.recoverAuto]
@[simp] theorem recoverHost_numbers (t : Nat) (a : Active) : (d.recoverHost t a).numbers = d.numbers := by simp +decide [Dev.recoverHost]
@[simp] theorem sigRecover_numbers : d.sigRecover.numbers = d.numbers := by simp +decide [Dev.sigRecover]
@[simp] theorem tripEnd_numbers : d.tripEnd.numbers = d.numbers := by simp +decide [Dev.tripEnd]
@[simp] theorem recoverDue_numbers (t : Nat) : (d.recoverDue t).numbers = d.numbers := by simp +decide [Dev.recoverDue]
@[simp] theorem unitClrDue_numbers (t : Nat) : (d.unitClrDue t).numbers = d.numbers := by simp +decide [Dev.unitClrDue]
@[simp] theorem windows_numbers (t : Nat) : (d.windows t).numbers = d.numbers := by simp +decide [Dev.windows]

/-! The safety channels. -/

@[simp] theorem safePermits_numbers : d.safePermits.numbers = d.numbers := safePermits_kept.numbers (by decide)

/-! The LV drive port. -/

@[simp] theorem hbStatus_numbers (k : Nat) : (d.hbStatus k).numbers = d.numbers := (hbStatus_within k).numbers (by decide) (by decide)
@[simp] theorem turnOff_numbers (ch : Nat) (soft : Bool) : (d.turnOff ch soft).numbers = d.numbers :=
  (turnOff_within ch soft).numbers (by decide) (by decide)
@[simp] theorem request_numbers (ch : Nat) : (d.request ch).numbers = d.numbers := (request_within ch).numbers (by decide) (by decide)
@[simp] theorem applyLeg_numbers (k st : Nat) : (d.applyLeg k st).numbers = d.numbers := (applyLeg_within k st).numbers (by decide) (by decide)
@[simp] theorem bothOff_numbers (k : Nat) : (d.bothOff k).numbers = d.numbers := (bothOff_within k).numbers (by decide) (by decide)
@[simp] theorem decideSafe_numbers (t g : Nat) : (d.decideSafe t g).numbers = d.numbers := (decideSafe_within t g).numbers (by decide) (by decide)
@[simp] theorem holdHb_numbers (k lev : Nat) : (d.holdHb k lev).numbers = d.numbers := (holdHb_within k lev).numbers (by decide) (by decide)
@[simp] theorem portStatus_numbers : d.portStatus.numbers = d.numbers := portStatus_within.numbers (by decide) (by decide)
@[simp] theorem settle_numbers (t : Nat) : (d.settle t).numbers = d.numbers := (settle_within t).numbers (by decide) (by decide)
@[simp] theorem lvRelease_numbers (t : Nat) : (d.lvRelease t).numbers = d.numbers := by simp +decide [Dev.lvRelease]
@[simp] theorem clearLatches_numbers (k : Nat) : (d.clearLatches k).numbers = d.numbers := by simp +decide [Dev.clearLatches]
@[simp] theorem lvEdge_numbers (e : LvEdge) : (d.lvEdge e).numbers = d.numbers := (lvEdge_within e).numbers (by decide) (by decide)
@[simp] theorem lvFinish_numbers : d.lvFinish.numbers = d.numbers := by simp +decide [Dev.lvFinish]

@[simp] theorem lvStart_numbers : d.lvStart.numbers = d.numbers := by
  unfold Dev.lvStart
  rw [numbers_mk]
  refine numbers_forN _ _ fun e g => ?_
  dsimp only
  split <;> simp +decide

@[simp] theorem lvRetries_numbers (t : Nat) : (d.lvRetries t).numbers = d.numbers := by simp +decide [Dev.lvRetries]
@[simp] theorem lvClears_numbers (t : Nat) : (d.lvClears t).numbers = d.numbers := by simp +decide [Dev.lvClears]

@[simp] theorem lvtBoundary_numbers (t : Nat) : (d.lvtBoundary t).numbers = d.numbers := by
  unfold Dev.lvtBoundary
  dsimp only
  split_ifs
  · simp +decide
  · simp +decide
  · split <;> simp +decide
  · rfl

@[simp] theorem lvtDrive_numbers : d.lvtDrive.numbers = d.numbers := by
  unfold Dev.lvtDrive
  split
  · rfl
  · split
    · refine numbers_forN _ _ fun e k => ?_
      split_ifs <;> simp +decide
    all_goals simp +decide

/-! The links and the cell table. -/

@[simp] theorem ringTo_numbers (r st : Nat) : (d.ringTo r st).numbers = d.numbers := (ringTo_flds r st).numbers (by decide) (by decide)
@[simp] theorem lfTo_numbers (n st : Nat) : (d.lfTo n st).numbers = d.numbers := (lfTo_within n st).numbers (by decide) (by decide)
@[simp] theorem ask_numbers (ix hop : Nat) (op addr : Nat) (data slot why : Nat) : (d.ask ix hop op addr data slot why).numbers = d.numbers := by
  simp +decide [Dev.ask]
@[simp] theorem mgtDrain_numbers : d.mgtDrain.numbers = d.numbers := by simp +decide [Dev.mgtDrain]
@[simp] theorem asymCheck_numbers (t r : Nat) : (d.asymCheck t r).numbers = d.numbers := (asymCheck_within t r).numbers (by decide) (by decide)
@[simp] theorem upCut_numbers (t ix : Nat) : (d.upCut t ix).numbers = d.numbers := by simp +decide [Dev.upCut]
@[simp] theorem asymClear_numbers (r : Nat) : (d.asymClear r).numbers = d.numbers := by simp +decide [Dev.asymClear]
@[simp] theorem ringEnds_numbers (r : Nat) : (d.ringEnds r).numbers = d.numbers := by simp +decide [Dev.ringEnds]
@[simp] theorem lfEnds_numbers (n : Nat) : (d.lfEnds n).numbers = d.numbers := by simp +decide [Dev.lfEnds]
@[simp] theorem cellEnds_numbers (c : Nat) : (d.cellEnds c).numbers = d.numbers := by simp +decide [Dev.cellEnds]
@[simp] theorem cellExecutes_numbers (c : Nat) : (d.cellExecutes c).numbers = d.numbers := by simp +decide [Dev.cellExecutes]
@[simp] theorem feltEnds_numbers (t : Nat) : (d.feltEnds t).numbers = d.numbers := by simp +decide [Dev.feltEnds]
@[simp] theorem feltUp_numbers : d.feltUp.numbers = d.numbers := feltUp_kept.numbers (by decide)

@[simp] theorem tripFrame_numbers : d.tripFrame.numbers = d.numbers := by
  unfold Dev.tripFrame
  repeat' split
  all_goals simp +decide

@[simp] theorem markers_numbers : d.markers.numbers = d.numbers := by simp +decide [Dev.markers]
@[simp] theorem feasCheck_numbers (t len : Nat) : (d.feasCheck t len).numbers = d.numbers := by simp +decide [Dev.feasCheck]

/-! The Calender. -/

@[simp] theorem numbers_spreadAlarm (t s : Nat) : (d.spreadAlarm t s).numbers = d.numbers := by simp +decide [Dev.spreadAlarm]
@[simp] theorem calFresh_numbers : d.calFresh.numbers = d.numbers := by simp +decide [Dev.calFresh]
@[simp] theorem tenureCut_numbers : d.tenureCut.numbers = d.numbers := by simp +decide [Dev.tenureCut]

/-! The modulator. -/

@[simp] theorem setRole_numbers (c r : Nat) : (d.setRole c r).numbers = d.numbers := by simp +decide [Dev.setRole]

@[simp] theorem entryRoles_numbers : d.entryRoles.numbers = d.numbers := by
  refine numbers_forN _ _ fun e c => ?_
  split <;> simp +decide

@[simp] theorem hostRoles_numbers (t : Nat) : (d.hostRoles t).numbers = d.numbers := by simp +decide [Dev.hostRoles]
@[simp] theorem cellRoles_numbers : d.cellRoles.numbers = d.numbers := by simp +decide [Dev.cellRoles]
@[simp] theorem returnCells_numbers : d.returnCells.numbers = d.numbers := by simp +decide [Dev.returnCells]
@[simp] theorem syncRoles_numbers (s : Nat) : (d.syncRoles s).numbers = d.numbers := by simp +decide [Dev.syncRoles]
@[simp] theorem callSpares_numbers (t s : Nat) : (d.callSpares t s).numbers = d.numbers := by simp +decide [Dev.callSpares]
@[simp] theorem phases_numbers (s : Nat) : (d.phases s).numbers = d.numbers := by simp +decide [Dev.phases]
@[simp] theorem strStatus_numbers (s : Nat) : (d.strStatus s).numbers = d.numbers := by simp +decide [Dev.strStatus]
@[simp] theorem stepSix_numbers (t : Nat) (entry : Bool) : (d.stepSix t entry).numbers = d.numbers := by simp +decide [Dev.stepSix]
@[simp] theorem fixPosts_numbers : d.fixPosts.numbers = d.numbers := by simp +decide [Dev.fixPosts]
@[simp] theorem carriers_numbers (len : Nat) : (d.carriers len).numbers = d.numbers := by simp +decide [Dev.carriers]
@[simp] theorem carrierZero_numbers : d.carrierZero.numbers = d.numbers := by simp +decide [Dev.carrierZero]
@[simp] theorem carrierScale_numbers : d.carrierScale.numbers = d.numbers := by simp +decide [Dev.carrierScale]
@[simp] theorem testBoundary_numbers (t : Nat) : (d.testBoundary t).numbers = d.numbers := by simp +decide [Dev.testBoundary]

/-! The analogue front end. -/

@[simp] theorem triggerAll_numbers (t : Nat) (srcs : List Nat) (frame : Bool) : (d.triggerAll t srcs frame).numbers = d.numbers :=
  (triggerAll_within t srcs frame).numbers (by decide) (by decide)
@[simp] theorem wcBoundary_numbers (t : Nat) : (d.wcBoundary t).numbers = d.numbers := by simp +decide [Dev.wcBoundary]
@[simp] theorem wcStart_numbers (w : Nat) : (d.wcStart w).numbers = d.numbers := by simp +decide [Dev.wcStart]
@[simp] theorem afeBoundary_numbers (t : Nat) : (d.afeBoundary t).numbers = d.numbers := by simp +decide [Dev.afeBoundary]

end Sys2Proof.Machine
end

section
/-! PROOFS. What a boundary runs keeps FRAME_NO: the engine, the flash, the network, the partner and the mode (R84). -/
namespace Sys2Proof.Machine
variable {d : Dev}

/-! The engine's front end. -/

@[simp] theorem gridTake_numbers : d.gridTake.numbers = d.numbers := by simp +decide [Dev.gridTake]

/-! The loop slots. -/

@[simp] theorem bankExchange_numbers : d.bankExchange.numbers = d.numbers := by simp +decide [Dev.bankExchange]

@[simp] theorem bankRequest_numbers (req : Nat) : (d.bankRequest req).numbers = d.numbers := by
  unfold Dev.bankRequest
  split <;> simp +decide

@[simp] theorem bankStep_numbers (bankS : Nat → Nat) : (d.bankStep bankS).numbers = d.numbers := by simp +decide [Dev.bankStep]
@[simp] theorem plausFail_numbers (t slot : Nat) : (d.plausFail t slot).numbers = d.numbers := by simp +decide [Dev.plausFail]
@[simp] theorem plausAll_numbers (t : Nat) : (d.plausAll t).numbers = d.numbers := by simp +decide [Dev.plausAll]

/-! The end of an engine's frame. -/

@[simp] theorem ceAbandon_numbers (t : Nat) : (d.ceAbandon t).numbers = d.numbers := by simp +decide [Dev.ceAbandon]

/-! The flash. -/

@[simp] theorem flashNext_numbers (t : Nat) : (d.flashNext t).numbers = d.numbers := (flashNext_within t).numbers (by decide) (by decide)
@[simp] theorem enqueue_numbers (t : Nat) (op : FlashOp) : (d.enqueue t op).numbers = d.numbers :=
  (enqueue_within t op).numbers (by decide) (by decide)
@[simp] theorem recordSlot_numbers (t s : Nat) (sd md : Nat) : (d.recordSlot t s sd md).numbers = d.numbers := by simp +decide [Dev.recordSlot]

/-! Service life. -/

@[simp] theorem teaselStart_numbers : d.teaselStart.numbers = d.numbers := by simp +decide [Dev.teaselStart]
@[simp] theorem teaselIdle_numbers (t : Nat) : (d.teaselIdle t).numbers = d.numbers := (teaselIdle_kept t).numbers (by decide)

@[simp] theorem teaselBoundary_numbers : d.teaselBoundary.numbers = d.numbers := by
  refine numbers_forN _ _ fun e c => ?_
  simp +decide

@[simp] theorem freqRecord_numbers (t : Nat) : (d.freqRecord t).numbers = d.numbers := by simp +decide [Dev.freqRecord]

/-! Network time. -/

@[simp] theorem setLan_numbers (p : Nat) (l : Lan) : (d.setLan p l).numbers = d.numbers := by simp +decide [Dev.setLan]
@[simp] theorem setNet_numbers (n : Net) : (d.setNet n).numbers = d.numbers := by simp +decide [Dev.setNet]
@[simp] theorem suspect_numbers (t : Nat) : (d.suspect t).numbers = d.numbers := (suspect_within t).numbers (by decide) (by decide)
@[simp] theorem setRate_numbers (t ppb : Nat) : (d.setRate t ppb).numbers = d.numbers := by simp +decide [Dev.setRate]
@[simp] theorem servoState_numbers (st : Nat) : (d.servoState st).numbers = d.numbers := by simp +decide [Dev.servoState]
@[simp] theorem setEvals_numbers (l : List Int) : (d.setEvals l).numbers = d.numbers := by simp +decide [Dev.setEvals]
@[simp] theorem holdover_numbers (t : Nat) : (d.holdover t).numbers = d.numbers := by simp +decide [Dev.holdover]
@[simp] theorem netStatus_numbers : d.netStatus.numbers = d.numbers := netStatus_within.numbers (by decide) (by decide)

theorem netDo_numbers (t : Nat) {g : Dev → Dev} (hg : (g d).numbers = d.numbers) : (d.netDo t g).numbers = d.numbers := by
  simp +decide [Dev.netDo, hg]

@[simp] theorem netSent_numbers (p bytes : Nat) : (d.netSent p bytes).numbers = d.numbers := by simp +decide [Dev.netSent]
@[simp] theorem netSend_numbers (o : Out) (bytes : Nat) : (d.netSend o bytes).numbers = d.numbers := by simp +decide [Dev.netSend]
@[simp] theorem ptpSend_numbers (p : Nat) (o : Out) (event : Bool) : (d.ptpSend p o event).numbers = d.numbers := by simp +decide [Dev.ptpSend]
@[simp] theorem readStamps_numbers (p : Nat) : (d.readStamps p).numbers = d.numbers := by simp +decide [Dev.readStamps]
@[simp] theorem timeBoundary_numbers (t : Nat) : (d.timeBoundary t).numbers = d.numbers := by simp +decide [Dev.timeBoundary]

/-! The station network. -/

@[simp] theorem lanDown_numbers (p : Nat) : (d.lanDown p).numbers = d.numbers := by simp +decide [Dev.lanDown]
@[simp] theorem setSv_numbers (n : Nat) (l : List SvSample) : (d.setSv n l).numbers = d.numbers := by simp +decide [Dev.setSv]
@[simp] theorem svCompare_numbers (t q : Nat) : (d.svCompare t q).numbers = d.numbers := by simp +decide [Dev.svCompare]
@[simp] theorem gooseSend_numbers (t g : Nat) (st sq interval : Nat) (mem : List Bool) : (d.gooseSend t g st sq interval mem).numbers = d.numbers := by
  simp +decide [Dev.gooseSend]
@[simp] theorem goosePublish_numbers (t g : Nat) : (d.goosePublish t g).numbers = d.numbers := by simp +decide [Dev.goosePublish]

@[simp] theorem netBoundary_numbers (t : Nat) : (d.netBoundary t).numbers = d.numbers := by
  refine netDo_numbers t ?_
  simp +decide

/-! The partner lane. -/

@[simp] theorem partStatus_numbers (t : Nat) : (d.partStatus t).numbers = d.numbers := (partStatus_within t).numbers (by decide) (by decide)
@[simp] theorem syncClear_numbers (t cause : Nat) : (d.syncClear t cause).numbers = d.numbers :=
  (syncClear_within t cause).numbers (by decide) (by decide)
@[simp] theorem beatOut_numbers : d.beatOut.numbers = d.numbers := by simp +decide [Dev.beatOut]
@[simp] theorem partBoundary_numbers (t : Nat) : (d.partBoundary t).numbers = d.numbers := by simp +decide [Dev.partBoundary]
@[simp] theorem mirrorEnter_numbers : d.mirrorEnter.numbers = d.numbers := by simp +decide [Dev.mirrorEnter]

/-! The Deckle. -/

@[simp] theorem deckleCtl_numbers : d.deckleCtl.numbers = d.numbers := by simp +decide [Dev.deckleCtl]
@[simp] theorem deckleLatch_numbers (c : Clock) : (d.deckleLatch c).numbers = d.numbers := by simp +decide [Dev.deckleLatch]
@[simp] theorem deckleFix_numbers : d.deckleFix.numbers = d.numbers := by simp +decide [Dev.deckleFix]
@[simp] theorem clkStat_numbers : d.clkStat.numbers = d.numbers := clkStat_within.numbers (by decide) (by decide)

/-! The mode controller. -/

@[simp] theorem modeSet_numbers (m : Mode) (cause : Nat) : (d.modeSet m cause).numbers = d.numbers :=
  (modeSet_within m cause).numbers (by decide) (by decide)
@[simp] theorem pairEpoch_numbers : d.pairEpoch.numbers = d.numbers := by simp +decide [Dev.pairEpoch]
@[simp] theorem sigTest_numbers : d.sigTest.numbers = d.numbers := sigTest_kept.numbers (by decide)
@[simp] theorem warmStart_numbers : d.warmStart.numbers = d.numbers := by simp +decide [Dev.warmStart]

@[simp] theorem entryAction_numbers (t : Nat) (old m : Mode) : (d.entryAction t old m).numbers = d.numbers := by
  unfold Dev.entryAction
  split <;> simp +decide

@[simp] theorem enterMode_numbers (t : Nat) (m : Mode) (cause : Nat) : (d.enterMode t m cause).numbers = d.numbers := by simp +decide [Dev.enterMode]

@[simp] theorem reqOutcome_numbers (e : Option Err) : (d.reqOutcome e).numbers = d.numbers := by
  unfold Dev.reqOutcome
  split <;> simp +decide

@[simp] theorem reqTake_numbers (target : Nat) : (d.reqTake target).numbers = d.numbers := by simp +decide [Dev.reqTake]
@[simp] theorem cellPhase_numbers : d.cellPhase.numbers = d.numbers := by simp +decide [Dev.cellPhase]
@[simp] theorem becomePrimary_numbers : d.becomePrimary.numbers = d.numbers := by simp +decide [Dev.becomePrimary]
@[simp] theorem holdMirrored_numbers (t : Nat) : (d.holdMirrored t).numbers = d.numbers := by simp +decide [Dev.holdMirrored]
@[simp] theorem relayTo_numbers (st : Nat) : (d.relayTo st).numbers = d.numbers := by simp +decide [Dev.relayTo]
@[simp] theorem takeover_numbers (t : Nat) : (d.takeover t).numbers = d.numbers := by simp +decide [Dev.takeover]
@[simp] theorem handTake_numbers (t : Nat) : (d.handTake t).numbers = d.numbers := by simp +decide [Dev.handTake]
@[simp] theorem handYield_numbers (t : Nat) : (d.handYield t).numbers = d.numbers := by simp +decide [Dev.handYield]
@[simp] theorem yieldIdle_numbers (t : Nat) : (d.yieldIdle t).numbers = d.numbers := by simp +decide [Dev.yieldIdle]
@[simp] theorem leaveMirror_numbers (t : Nat) : (d.leaveMirror t).numbers = d.numbers := by simp +decide [Dev.leaveMirror]

@[simp] theorem takeMove_numbers (t : Nat) (m : Move) : (d.takeMove t m).numbers = d.numbers := by
  unfold Dev.takeMove
  split <;> simp +decide

@[simp] theorem modeStays_numbers : d.modeStays.numbers = d.numbers := by simp +decide [Dev.modeStays]
@[simp] theorem warmCount_numbers : d.warmCount.numbers = d.numbers := by simp +decide [Dev.warmCount]
@[simp] theorem lvWait_numbers (t : Nat) : (d.lvWait t).numbers = d.numbers := by simp +decide [Dev.lvWait]

@[simp] theorem stepThree_numbers (t : Nat) : (d.stepThree t).numbers = d.numbers := by
  unfold Dev.stepThree
  dsimp only
  repeat' split
  all_goals simp +decide

/-! Keep-alive. -/

@[simp] theorem kaTake_numbers (t : Nat) : (d.kaTake t).numbers = d.numbers := (kaTake_regsKept t).numbers (by decide)

/-! Performance counters. -/

@[simp] theorem windowStart_numbers (t cyc : Nat) : (d.windowStart t cyc).numbers = d.numbers := by simp +decide [Dev.windowStart]

/-- The counters of every block copied into the gathered bank and cleared (R498). -/
def Dev.countersGathered (d : Dev) : Dev :=
  d.forN 11 (fun d b => (d.forN 8 (fun d i =>
    if perfCounters b ≤ i then d
    else
      let k := 8 * b + i
      let d1 := (d.put R.PERF.GATHERED (d.get I.PERF.CNT k) k).put (if i % 2 = 0 then R.PERF.GSEL_EVEN else R.PERF.GSEL_ODD)
        (d.get I.PERF.SEL k) (4 * b + i / 2)
      (((d1.setBitOf R.PERF.OVF i (d.is I.PERF.OVF k) b).put I.PERF.CNT 0 k).put I.PERF.OVF 0 k))))

@[simp] theorem countersGathered_numbers : d.countersGathered.numbers = d.numbers := by
  refine numbers_forN _ _ fun e b => numbers_forN _ _ fun e i => ?_
  have hsel : (if i % 2 = 0 then R.PERF.GSEL_EVEN else R.PERF.GSEL_ODD).free = true := by split <;> decide
  split
  · rfl
  · simp +decide [numbers_put _ _ _ hsel]

@[simp] theorem gather_numbers (t cyc : Nat) : (d.gather t cyc).numbers = d.numbers := by
  simp +decide [Dev.gather]
  exact countersGathered_numbers

@[simp] theorem gatherDue_numbers (t cyc : Nat) : (d.gatherDue t cyc).numbers = d.numbers := by simp +decide [Dev.gatherDue]
@[simp] theorem perfFrame_numbers (abandoned : Bool) : (d.perfFrame abandoned).numbers = d.numbers :=
  (perfFrame_within abandoned).numbers (by decide) (by decide)

/-! An overrun. -/

@[simp] theorem overrun_numbers (t : Nat) : (d.overrun t).numbers = d.numbers := by simp +decide [Dev.overrun]

end Sys2Proof.Machine
end

section
/-! PROOFS. What a boundary runs keeps FRAME_NO: the Ream and the staged sets (R84). -/
namespace Sys2Proof.Machine
variable {d : Dev}

/-! Snapshots and the staging area. -/

@[simp] theorem snapLatch_numbers (otp : Otp) (c : Clock) : (d.snapLatch otp c).numbers = d.numbers := by simp +decide [Dev.snapLatch]
@[simp] theorem stageEnd_numbers (e : Err) (index : Nat) (whole : Bool) : (d.stageEnd e index whole).numbers = d.numbers := by
  simp +decide [Dev.stageEnd]

/-! Registers from sheets. -/

/-- No sheet gives a register that numbers frames. -/
theorem sheetFields_free (typ n : Nat) : ∀ o ∈ (sheetFields typ n).map SheetFld.dst, ∀ r ∈ o, r.free = true := by
  have hmirror : ∀ o ∈ (mirrorSheet 0).map SheetFld.dst, ∀ r ∈ o, r.free = true := by decide
  unfold sheetFields
  split
  case h_9 => exact hmirror
  all_goals decide

@[simp] theorem loadSheet_numbers (sh : Sheet) : (d.loadSheet sh).numbers = d.numbers := by
  refine numbers_foldl_mem _ _ fun e f hf => ?_
  split
  · rfl
  · next r hr =>
    have hfree : r.free = true := sheetFields_free _ _ f.dst (List.mem_map_of_mem hf) r hr
    exact numbers_foldl _ (fun _ _ => numbers_put _ _ _ hfree) _

@[simp] theorem loadLinks_numbers (im : Image) : (d.loadLinks im).numbers = d.numbers := by simp +decide [Dev.loadLinks]
@[simp] theorem loadDerived_numbers (im : Image) : (d.loadDerived im).numbers = d.numbers := by simp +decide [Dev.loadDerived]

theorem loadBank_numbers (im : Image) {f : Fld} (base : Nat) (hf : f.free = true) : (d.loadBank im f base).numbers = d.numbers := by
  unfold Dev.loadBank
  split
  · rfl
  · exact numbers_forN _ _ fun e k => numbers_put _ _ _ hf

@[simp] theorem loadImage_numbers (im : Image) : (d.loadImage im).numbers = d.numbers := by simp +decide [Dev.loadImage]

/-! The Ream at work. -/

@[simp] theorem setChecked_numbers (slot : Nat) (im : Option Image) : (d.setChecked slot im).numbers = d.numbers := by simp +decide [Dev.setChecked]
@[simp] theorem showClass_numbers : d.showClass.numbers = d.numbers := showClass_within.numbers (by decide) (by decide)
@[simp] theorem setSlot_numbers (t slot : Nat) (st sd md : Nat) : (d.setSlot t slot st sd md).numbers = d.numbers := by simp +decide [Dev.setSlot]
@[simp] theorem keepSlot_numbers (t slot st : Nat) : (d.keepSlot t slot st).numbers = d.numbers := by simp +decide [Dev.keepSlot]
@[simp] theorem reamResult_numbers (op slot : Nat) (e : Err) (off : Option Nat) : (d.reamResult op slot e off).numbers = d.numbers :=
  (reamResult_within op slot e off).numbers (by decide) (by decide)
@[simp] theorem swapClear_numbers : d.swapClear.numbers = d.numbers := swapClear_within.numbers (by decide) (by decide)
@[simp] theorem swapUnconfirmed_numbers : d.swapUnconfirmed.numbers = d.numbers := by simp +decide [Dev.swapUnconfirmed]

@[simp] theorem nodeUpdate_numbers (old : Dev) : (d.nodeUpdate old).numbers = d.numbers := by
  refine numbers_forN _ _ fun e c => ?_
  split
  · rfl
  · split <;> simp +decide

@[simp] theorem valueUpdate_numbers (old : Dev) (t : Nat) : (d.valueUpdate old t).numbers = d.numbers := by
  refine (numbers_onlyIf _ _ fun e => tenureCut_numbers).trans (numbers_forN _ _ fun e w => ?_)
  simp +decide

@[simp] theorem follow_numbers (old : Dev) (t : Nat) : (d.follow old t).numbers = d.numbers := by simp +decide [Dev.follow]
@[simp] theorem tfChange_numbers (old : Dev) : (d.tfChange old).numbers = d.numbers := by simp +decide [Dev.tfChange]
@[simp] theorem netFresh_numbers : d.netFresh.numbers = d.numbers := by simp +decide [Dev.netFresh]
@[simp] theorem classTwo_numbers (old : Dev) (t : Nat) : (d.classTwo old t).numbers = d.numbers := by simp +decide [Dev.classTwo]
@[simp] theorem classOne_numbers (old : Dev) (t : Nat) : (d.classOne old t).numbers = d.numbers := by simp +decide [Dev.classOne]
@[simp] theorem declChange_numbers (old : Dev) : (d.declChange old).numbers = d.numbers := by simp +decide [Dev.declChange]
@[simp] theorem showDigests_numbers (im : Image) : (d.showDigests im).numbers = d.numbers := by simp +decide [Dev.showDigests]

@[simp] theorem actBanks_numbers (im : Image) (cls : Nat) : (d.actBanks im cls).numbers = d.numbers := by
  simp +decide [Dev.actBanks, loadBank_numbers]

@[simp] theorem actSlots_numbers (t slot : Nat) (im : Image) : (d.actSlots t slot im).numbers = d.numbers := by simp +decide [Dev.actSlots]
@[simp] theorem actPref_numbers (t slot : Nat) (boot : Bool) : (d.actPref t slot boot).numbers = d.numbers := by simp +decide [Dev.actPref]
@[simp] theorem activate_numbers (t slot : Nat) (im : Image) (cls : Nat) (boot : Bool) : (d.activate t slot im cls boot).numbers = d.numbers := by
  simp +decide [Dev.activate]
@[simp] theorem swapRefuse_numbers (t slot : Nat) (e : Err) : (d.swapRefuse t slot e).numbers = d.numbers := by simp +decide [Dev.swapRefuse]
@[simp] theorem bootActivated_numbers (t slot : Nat) : (d.bootActivated t slot).numbers = d.numbers := by simp +decide [Dev.bootActivated]

@[simp] theorem stepTwo_numbers (t : Nat) : (d.stepTwo t).1.numbers = d.numbers := by
  unfold Dev.stepTwo
  dsimp only
  repeat' split
  all_goals simp +decide

/-! Staged sets. -/

/-- No register that numbers frames is staged. -/
theorem winFields_staged_free : ∀ w < 19, ∀ f ∈ winFields w, f.staged = true → f.free = true := by decide

theorem mem_winFields_of_mem_word {r : Store} {w o i : Nat} {p : Fld × Nat} (h : p ∈ r.word w o i) : p.1 ∈ winFields w := by
  simp only [Store.word, List.mem_filterMap, Option.ite_none_left_eq_some, Option.map_eq_some_iff] at h
  obtain ⟨f, hf, -, k, -, rfl⟩ := h
  exact hf

@[simp] theorem itemPut_numbers (it : Nat × Nat) : (d.itemPut it).numbers = d.numbers := by
  unfold Dev.itemPut
  split
  · rfl
  · next w o hw =>
    refine numbers_foldl_mem _ _ fun e p hp => ?_
    split
    · next hs => exact numbers_put _ _ _ (winFields_staged_free w (winOf_index_lt hw) p.1 (mem_winFields_of_mem_word hp) hs)
    · rfl

@[simp] theorem bankAsk_numbers (v : Nat) : (d.bankAsk v).numbers = d.numbers := by
  unfold Dev.bankAsk
  dsimp only
  split <;> simp +decide

@[simp] theorem setFollow_numbers (old : Dev) (t : Nat) : (d.setFollow old t).numbers = d.numbers := by simp +decide [Dev.setFollow]

@[simp] theorem setRequests_numbers (req : Bool) (items : List (Nat × Nat)) : (d.setRequests req items).numbers = d.numbers := by
  unfold Dev.setRequests
  repeat' split
  all_goals simp +decide

@[simp] theorem setApply_numbers (t : Nat) (req : Bool) (items : List (Nat × Nat)) : (d.setApply t req items).numbers = d.numbers := by
  simp +decide [Dev.setApply]

@[simp] theorem reqFailed_numbers (src : Source) (items : List (Nat × Nat)) (e : Err) (i : Nat) : (d.reqFailed src items e i).numbers = d.numbers := by
  unfold Dev.reqFailed
  split <;> simp +decide

@[simp] theorem forward_numbers (txn : Nat) (items : List (Nat × Nat)) : (d.forward txn items).numbers = d.numbers := by simp +decide [Dev.forward]

@[simp] theorem stageBoundary_numbers (t : Nat) : (d.stageBoundary t).numbers = d.numbers := by
  unfold Dev.stageBoundary
  dsimp only
  repeat' split
  all_goals simp +decide

@[simp] theorem implicitSet_numbers (t : Nat) (s : ImplicitSet) : (d.implicitSet t s).numbers = d.numbers := by
  unfold Dev.implicitSet
  repeat' split
  all_goals simp +decide

@[simp] theorem implicitBoundary_numbers (t : Nat) : (d.implicitBoundary t).numbers = d.numbers := by simp +decide [Dev.implicitBoundary]

@[simp] theorem followSet_numbers (t : Nat) (s : Forwarded) : (d.followSet t s).numbers = d.numbers := by
  unfold Dev.followSet
  split <;> simp +decide

@[simp] theorem followBoundary_numbers (t : Nat) : (d.followBoundary t).numbers = d.numbers := by simp +decide [Dev.followBoundary]
@[simp] theorem yieldSets_numbers : d.yieldSets.numbers = d.numbers := by simp +decide [Dev.yieldSets]
@[simp] theorem stepFour_numbers (t : Nat) : (d.stepFour t).numbers = d.numbers := by simp +decide [Dev.stepFour]

/-! The parts of a boundary. -/

@[simp] theorem frameEnds_numbers (c : Clock) : (d.frameEnds c).numbers = d.numbers := by simp +decide [Dev.frameEnds]
@[simp] theorem confirmDue_numbers : d.confirmDue.numbers = d.numbers := by simp +decide [Dev.confirmDue]
@[simp] theorem statesEnd_numbers : d.statesEnd.numbers = d.numbers := by simp +decide [Dev.statesEnd]
@[simp] theorem recoveries_numbers (t : Nat) : (d.recoveries t).numbers = d.numbers := by simp +decide [Dev.recoveries]
@[simp] theorem stepThreeBoot_numbers (t cyc : Nat) : (d.stepThreeBoot t cyc).numbers = d.numbers := by simp +decide [Dev.stepThreeBoot]
@[simp] theorem laterSteps_numbers (t cyc : Nat) : (d.laterSteps t cyc).numbers = d.numbers := by simp +decide [Dev.laterSteps]
@[simp] theorem frameBegins_numbers (t : Nat) : (d.frameBegins t).numbers = d.numbers := by simp +decide [Dev.frameBegins]

/-! FRAME_NO (R84). -/

/-- What keeps the numbers keeps each of them. -/
theorem get_of_numbers {e : Dev} (h : e.numbers = d.numbers) {f : Fld} (hf : f ∈ numFlds) : e.get f = d.get f := List.map_inj_left.1 h f hf

/-- The number that a frame takes when no other has been set for it: 0 for the first since power-up, and the next one after it. -/
theorem deckleNumber_next (hnone : d.is I.TB.NO_NEXT = false) :
    d.deckleNumber.get R.TB.FRAME_NO_LIVE = if d.is I.TB.STARTED then (d.get R.TB.FRAME_NO_LIVE + 1) % 2 ^ 32 else 0 := by
  have hwidth : R.TB.FRAME_NO_LIVE.width = 32 := rfl
  unfold Dev.deckleNumber
  cases hstart : d.is I.TB.STARTED <;> simp (disch := decide) [hnone, hwidth]

theorem frameNumbers_numbers (len : Nat) : (d.frameNumbers len).numbers = (d.carriers len).deckleNumber.numbers := by
  simp +decide [Dev.frameNumbers]

/-- The module at a boundary with what ends with the frame behind it, and the snapshot latched (R29). -/
def State.ended (s : State) : Dev := ({ s.dev with outbox := [] }.frameEnds s.boundaryClock).snapLatch s.otp s.boundaryClock

/-- The module with the frame that begins numbered. -/
def State.numbered (s : State) : Dev := s.ended.frameNumbers s.dev.lastLen

/-- What a boundary does once the frame is numbered. -/
def State.afterNumber (s : State) (d : Dev) : Dev :=
  (((d.stepTwo s.boundaryClock.ns).1.confirmDue.recoveries s.boundaryClock.ns).laterSteps s.boundaryClock.ns s.boundaryClock.cyc).frameBegins
    s.boundaryClock.ns

theorem exec_frameBoundary {s : State} (h : s.dev.is R.TB.DECKLE_RUN = true) :
    ∃ o, exec .frameBoundary s = .next { s with clk := s.boundaryClock, otp := o, dev := s.afterNumber s.numbered } := by
  show ∃ o, execFrameBoundary s = _
  unfold execFrameBoundary
  simp only [h, Bool.not_true, Bool.false_eq_true, if_false]
  exact ⟨_, rfl⟩

theorem afterNumber_numbers (s : State) : (s.afterNumber d).numbers = d.numbers := by simp [State.afterNumber]

theorem ended_carriers_numbers (s : State) (len : Nat) : (s.ended.carriers len).numbers = s.dev.numbers := by simp [State.ended]

/-- The frame is numbered from what the frame before it left. -/
theorem numbered_frame {s : State} (hnone : s.dev.is I.TB.NO_NEXT = false) : s.numbered.get R.TB.FRAME_NO_LIVE =
    if s.dev.is I.TB.STARTED then (s.dev.get R.TB.FRAME_NO_LIVE + 1) % 2 ^ 32 else 0 := by
  have hkept : ∀ f ∈ numFlds, (s.ended.carriers s.dev.lastLen).get f = s.dev.get f := fun f => get_of_numbers (ended_carriers_numbers s _)
  have hnext : (s.ended.carriers s.dev.lastLen).is I.TB.NO_NEXT = s.dev.is I.TB.NO_NEXT := by rw [Dev.is, hkept _ (by decide), Dev.is]
  have hstart : (s.ended.carriers s.dev.lastLen).is I.TB.STARTED = s.dev.is I.TB.STARTED := by rw [Dev.is, hkept _ (by decide), Dev.is]
  rw [State.numbered, get_of_numbers (frameNumbers_numbers _) (by decide), deckleNumber_next (hnext.trans hnone), hstart, hkept _ (by decide)]

/-- Settles O33: nothing that a boundary runs writes FRAME_NO but the numbering of its frame. -/
theorem frameNumbered : Obligations.FrameNumbered := by
  intro s hrun
  obtain ⟨o, hx⟩ := exec_frameBoundary hrun
  refine ⟨_, hx, fun hnone => ?_⟩
  rw [get_of_numbers (afterNumber_numbers s) (by decide), numbered_frame hnone]

end Sys2Proof.Machine
end
